-- ==== Sys2Proof/Word.lean ====
section
/-! DEFINITION. The word types of the model and their plainest arithmetic. -/

namespace Sys2Proof

/-- A byte. -/
abbrev Byte := BitVec 8

/-- A 32-bit register word of the management space (R5). -/
abbrev Word := BitVec 32

/-- A 64-bit scalar register (R106). -/
abbrev DWord := BitVec 64

end Sys2Proof
end

