-- ==== Sys2Proof/Syntax.lean ====
section
/-! DEFINITION. The commands: one constructor of `Instr` for each row of the opcode table, with the row's operands.
Measured numbers, received bytes and the choices of the outside world are operands; a command that names an elapsed time
or a crossed threshold vouches for it (log entry 3). -/

namespace Sys2Proof

/-- Who makes a register access (R14): the SMBus sideband, an internal process of the active pilot, by its number, or a Bampor
session. -/
inductive Source where
  | smbus
  | internal (process : Nat)
  | session (id : Nat)
  deriving DecidableEq, Repr

/-- The instructions that every device of the boundary-scan chain supports (R61). -/
inductive TapInstr where
  | bypass
  | idcode
  | sample
  | extest
  deriving DecidableEq, Repr

/-- What asks a berth to park: the quiesce hold, a member-lost collective, the cap response, a drain (R328, R159, R461). -/
inductive ParkSrc where
  | hold
  | memberLost
  | cap
  deriving DecidableEq, Repr

/-- A word error met by a read: the store's physical byte address and whether SEC-DED corrected it (R227, R230). -/
structure WordErr where
  addr : Nat
  corrected : Bool
  deriving DecidableEq, Repr

/-- A request that timed out (R252): the oldest descriptor of a tug, a gather of a die, or a segment of a queue pair. -/
inductive TimedReq where
  | tug (quay : Fin 8) (tug : Fin 32)
  | gather (die : Fin 8) (n : Nat)
  | segment (qp : Fin 65536)
  deriving DecidableEq, Repr

/-- What a received Ethernet frame asks (R260): one of the services the module answers, or other traffic. -/
inductive FrameKind where
  | arp            -- ARP request for the address
  | neighbour      -- IPv6 neighbour solicitation
  | echo4
  | echo6
  | fragment       -- an IP fragment
  | extHeader      -- an IPv6 packet with an extension header
  | other          -- a frame for a protocol of the module
  deriving DecidableEq, Repr

/-- A MAC and an IP address, the first byte of each highest; an IPv4 address is a 32-bit number. -/
structure Addr where
  mac : Nat
  v6 : Bool
  ip : Nat
  deriving DecidableEq, Repr

/-- A received frame: its addresses, 802.1Q tag (`none`: untagged), stacked tags, kind and length. -/
structure EthFrame where
  src : Addr
  dst : Addr
  vlan : Option Nat
  stacked : Bool
  kind : FrameKind
  len : Nat
  deriving DecidableEq, Repr

/-- What the link partner of a sub-port gives Clause 73 auto-negotiation (R258): whether it negotiates, the rates that it advertises
with RS(544,514), Mb/s, and whether the link trained. -/
structure LinkPartner where
  negotiates : Bool
  rates : List Nat
  trained : Bool
  deriving DecidableEq, Repr

/-- How a PTP message travels (R276). -/
inductive PtpTransport where
  | ip4
  | ip6
  | ethernet
  deriving DecidableEq, Repr

/-- What a PTP message says (R276): the outcome of the best-master choice for an Announce; origin and receive times in ns, corrected
by the message's correction field. -/
inductive PtpKind where
  | announce (best : Bool)
  | sync (origin : Int) (twoStep : Bool)
  | followUp (origin : Int)
  | delayResp (received : Int)
  | peerDelay
  deriving DecidableEq, Repr

/-- A received PTP message: domain number, identity of the sender's port, sequence number, transport, 802.1Q tag. -/
structure PtpMsg where
  domain : Nat
  sender : Nat
  seq : Nat
  transport : PtpTransport
  vlan : Option Nat
  kind : PtpKind
  deriving DecidableEq, Repr

/-- MAGIC and VERSION of a Bampor message, where it came in and who sent it: the reply goes back there. -/
structure BpVia where
  magic : Nat
  version : Nat
  port : Fin 2
  sub : Fin 8
  peer : Addr
  deriving DecidableEq, Repr

/-- Bampor header fields that a request carries (Table 10-5), and its tag. TYPE and payload are the command's own, but for a TYPE
that Table 10-6 does not define and a payload whose length is wrong for its TYPE (R284). -/
structure BpHdr where
  via : BpVia
  badType : Option (BitVec 8)
  badPayload : Option (List Nat)
  session : Nat
  seq : Nat
  tag : List Nat
  deriving DecidableEq, Repr

/-- Tidemark header fields (Table 10-9), TYPE given by the command, with the tag and CRC that followed and the frame's source. -/
structure TmHdr where
  src : Addr
  magic : Nat
  version : Nat
  domain : Nat
  sender : Nat
  epoch : Nat
  alive : Nat
  length : Nat
  flags : Nat
  tag : List Nat
  crc : Nat
  deriving DecidableEq, Repr

/-- What a phase senses in a switching period (R352): its inductor current as it turns on, 0.1 A, and how fast that rises while the
high-side switch is on, 0.1 A per µs; `onNs` is the on-time that BWC's own control asks, which R352 does not govern. -/
structure PhaseSense where
  valley : Int
  rise : Int
  onNs : Nat
  deriving DecidableEq, Repr

/-- What a loop's sample brings beside its snapshot: its output delay in cycles, its declared primary measured quantity and
primary output as FP32 bits (R422 leaves the choice to each loop's program), and whether an input it reads is stale
(R418). -/
structure LoopSample where
  delay : Nat
  y : BitVec 32
  u : BitVec 32
  stale : Bool
  deriving DecidableEq, Repr

/-- How a customer program's sample ends (R433). -/
inductive CustEnd where
  | output (writes : List (Nat × BitVec 32))    -- OUT_MASK bit numbers and values, FP32 for 0 to 7, integers for 8 to 10
  | outside                                     -- an access outside its areas or an undefined instruction
  deriving DecidableEq, Repr

/-- Why HMA judges a pilot failed, causes 1 to 5 (Table 19-2). -/
inductive PilotFail where
  | noEdge
  | earlyEdge
  | railOut
  | clockBad
  | releaseLine
  deriving DecidableEq, Repr

/-- The commands of the block, in the order of spec/opcode_table.json. -/
inductive Instr where
  | registerWrite (src : Source) (addr data : BitVec 32)
  | counterLoRead (src : Source) (addr : BitVec 32)
  | hotPlugInsertion (slot : Fin 16)                       -- the SLOT_ID straps of the slot
  | presentNRemoval
  | interlockOpen
  | resetInPulse (ns : Nat)
  | pwrEnLow
  | capFastNFall
  | capFastNRelease
  | coolantMeasure (tin tout : Int)
  | coolFlowPulse
  | attnBtnPress
  | smbRegRead (dev : BitVec 7) (addr : BitVec 32)
  | smbRegWrite (dev : BitVec 7) (addr data : BitVec 32) (pec : Option (BitVec 8))
  | smbLastStatus (dev : BitVec 7)
  | smbReadReady (dev : BitVec 7)
  | smbReadFault (dev : BitVec 7)
  | smbRackCap (dev : BitVec 7) (watts : BitVec 16) (pec : Option (BitVec 8))
  | smbInputPower (dev : BitVec 7)
  | smbDrain (dev : BitVec 7) (value : BitVec 8) (pec : Option (BitVec 8))
  | smbAlertResponse
  | smbClockLowTimeout
  | tapInstructionLoad (trstN : Bool) (is : Vector TapInstr 9)
  | ppsInEdge
  | powerOnReset
  | brownOutReset
  | watchdogReset (p : Fin 2)
  | rstReq (src : Source) (key : BitVec 16)
  | rstHoldSet (src : Source) (mask : BitVec 32)
  | rstHoldRelease (src : Source) (mask : BitVec 32)
  | resetWaitEnd (p : Fin 2) (us : Nat)
  | resetHoldEntry (d : Fin 32)
  | clockGood (d : Fin 32)
  | clockDrop (d : Fin 32)
  | domainRelease (d : Fin 32)
  | functionReady (bit : Fin 48) (tablesOk ageOk : Bool)      -- how the stored tables and age state verified, for FWV (R481, R546)
  | startupBoundMissed (bit : Fin 48)
  | hotspotReading (die : Fin 8) (sensor : Fin 24) (raw : BitVec 16)
  | sentinelMeasurement (die : Fin 8) (vals : Vector (BitVec 24) 32)
  | extAccessForced (die : Fin 8) (errs : List WordErr)
  | cdcCntClear (src : Source) (die : Fin 8)
  | cdcFmtCntClear (src : Source) (die : Fin 8)
  | cdcStrCntClear (src : Source) (die : Fin 8)
  | bundleIssue (die : Fin 8) (errs : List WordErr)
  | slotNop (die : Fin 8)
  | matWload (die : Fin 8) (gang : Fin 128) (desc : Fin 4096) (rep : Fin 256)
  | matWpass (die : Fin 8) (gang : Fin 128) (desc : Fin 4096) (rep : Fin 256)
  | matWpassa (die : Fin 8) (gang : Fin 128) (desc : Fin 4096) (rep : Fin 256)
  | matOsacc (die : Fin 8) (gang : Fin 128) (desc : Fin 4096) (rep : Fin 256)
  | matOsacca (die : Fin 8) (gang : Fin 128) (desc : Fin 4096) (rep : Fin 256)
  | matOsdrain (die : Fin 8) (gang : Fin 128) (desc : Fin 4096) (rep : Fin 256)
  | matIdle (die : Fin 8) (gang : Fin 128) (desc : Fin 4096)
  | vecVld (die : Fin 8) (gang : Fin 128) (desc : Fin 4096) (rep : Fin 256)
  | vecVst (die : Fin 8) (gang : Fin 128) (desc : Fin 4096) (rep : Fin 256)
  | vecValu (die : Fin 8) (gang : Fin 128) (desc : Fin 4096) (rep : Fin 256)
  | vecVsfu (die : Fin 8) (gang : Fin 128) (desc : Fin 4096) (rep : Fin 256)
  | vecVcvt (die : Fin 8) (gang : Fin 128) (desc : Fin 4096) (rep : Fin 256)
  | vecVcvtmx (die : Fin 8) (gang : Fin 128) (desc : Fin 4096) (rep : Fin 256)
  | vecVgather (die : Fin 8) (gang : Fin 128) (desc : Fin 4096) (rep : Fin 256)
  | vecVscatter (die : Fin 8) (gang : Fin 128) (desc : Fin 4096) (rep : Fin 256)
  | rteRsend (die : Fin 8) (gang : Fin 128) (desc : Fin 4096) (rep : Fin 256)
  | sclAdd (die : Fin 8) (lane : Fin 4) (rd ra rb : Fin 64)
  | sclSub (die : Fin 8) (lane : Fin 4) (rd ra rb : Fin 64)
  | sclAnd (die : Fin 8) (lane : Fin 4) (rd ra rb : Fin 64)
  | sclOr (die : Fin 8) (lane : Fin 4) (rd ra rb : Fin 64)
  | sclXor (die : Fin 8) (lane : Fin 4) (rd ra rb : Fin 64)
  | sclShl (die : Fin 8) (lane : Fin 4) (rd ra rb : Fin 64)
  | sclShr (die : Fin 8) (lane : Fin 4) (rd ra rb : Fin 64)
  | sclSar (die : Fin 8) (lane : Fin 4) (rd ra rb : Fin 64)
  | sclMul (die : Fin 8) (lane : Fin 4) (rd ra rb : Fin 64)
  | sclAddi (die : Fin 8) (lane : Fin 4) (rd ra imm : Fin 64)
  | sclLdi (die : Fin 8) (lane : Fin 4) (rd ra rb : Fin 64)
  | sclShli12 (die : Fin 8) (lane : Fin 4) (rd ra rb : Fin 64)
  | sclCmpeq (die : Fin 8) (lane : Fin 4) (rd ra rb : Fin 64)
  | sclCmplt (die : Fin 8) (lane : Fin 4) (rd ra rb : Fin 64)
  | sclCmpltu (die : Fin 8) (lane : Fin 4) (rd ra rb : Fin 64)
  | sclPlogic (die : Fin 8) (lane : Fin 4) (rd ra rb : Fin 64)
  | sclFadd (die : Fin 8) (lane : Fin 4) (rd ra rb : Fin 64)
  | sclFmul (die : Fin 8) (lane : Fin 4) (rd ra rb : Fin 64)
  | sclFfma (die : Fin 8) (lane : Fin 4) (rd ra rb : Fin 64)
  | sclFmin (die : Fin 8) (lane : Fin 4) (rd ra rb : Fin 64)
  | sclFmax (die : Fin 8) (lane : Fin 4) (rd ra rb : Fin 64)
  | sclFcmplt (die : Fin 8) (lane : Fin 4) (rd ra rb : Fin 64)
  | sclFtoi (die : Fin 8) (lane : Fin 4) (rd ra : Fin 64)
  | sclItof (die : Fin 8) (lane : Fin 4) (rd ra : Fin 64)
  | sclLdp (die : Fin 8) (lane : Fin 4) (rd ra rb : Fin 64)
  | sclStp (die : Fin 8) (lane : Fin 4) (rd ra rb : Fin 64)
  | sclLdt (die : Fin 8) (lane : Fin 4) (rd ra rb : Fin 64)
  | ldtResult (die : Fin 8) (errs : List WordErr)
  | sclStt (die : Fin 8) (lane : Fin 4) (rd ra rb : Fin 64)
  | sclSetl (die : Fin 8) (lane : Fin 4) (rd ra : Fin 64)
  | sclGetstep (die : Fin 8) (lane : Fin 4) (rd : Fin 64)
  | sclMov (die : Fin 8) (lane : Fin 4) (rd ra : Fin 64)
  | tugIssue (die : Fin 8) (tally chan : Fin 16) (desc : Fin 4096) (rep : Fin 256)
  | tugDefer (die : Fin 8) (tally chan : Fin 16) (desc : Fin 4096) (rep : Fin 256)
  | tugColl (die : Fin 8) (handle : Fin 16) (desc : Fin 4096) (rep : Fin 256)
  | syncpt (die : Fin 8) (fromReg : Bool) (reg : Fin 64)
  | syncTwait (die : Fin 8) (tally : Fin 16) (n : Fin 4096) (pd : Fin 16)
  | syncCwait (die : Fin 8) (handle pd : Fin 16)
  | syncFence (die : Fin 8)
  | syncTset (die : Fin 8) (tally : Fin 16) (value : Fin 4096)
  | hint (die : Fin 8) (lead : Fin 4096) (pclass : Fin 8) (id : Fin 256)
  | flowBr (die : Fin 8) (target : Fin 1048576)
  | flowLoop (die : Fin 8) (counter : Fin 4) (target : Fin 1048576)
  | flowHalt (die : Fin 8)
  | streamHalted (die : Fin 8)
  | cdcStreamStart (src : Source) (die : Fin 8)
  | cdcStreamStop (src : Source) (die : Fin 8)
  | cdcStreamResume (src : Source) (die : Fin 8)
  | frameBoundary (b : Fin 8)
  | frameRestored (b : Fin 8)
  | pacingDutyChange (die : Fin 8)
  | ballastInWait (die : Fin 8) (gang : Fin 128)
  | tugDescriptorStart (quay : Fin 8) (tug : Fin 32)
  | tugCompletion (quay : Fin 8) (tug : Fin 32) (errs : List WordErr)
  | gatherCompletion (die : Fin 8) (n : Nat) (errs : List WordErr)
  | hbmTrainingDone (stack : Fin 16) (rate : Fin 3) (ok : Bool)
  | hbmStackFailed (stack : Fin 16)
  | hbmTempReport (stack : Fin 16) (temp : BitVec 8)
  | hbmCorrectedWriteback (stack : Fin 16)
  | patrolScrub (quay : Fin 8) (errs : List WordErr)
  | qsramPatrol (quay : Fin 8) (errs : List WordErr)
  | qdcCntClear (src : Source) (quay : Fin 8)
  | flitReplay (link : Fin 38) (dir : Fin 2) (sub : Fin 8)
  | sublinkRetire (link : Fin 38) (sub : Fin 8)
  | linkDown (link : Fin 38)
  | requestTimeout (req : TimedReq)
  | saturationWindow
  | fwyCntClear (src : Source)
  | subportLinkUp (port : Fin 2) (sub : Fin 8) (partner : LinkPartner)
  | subportLinkDown (port : Fin 2) (sub : Fin 8)
  | netFrameReceive (port : Fin 2) (sub : Fin 8) (f : EthFrame) (corrected uncorrected : Nat)   -- FEC codewords (R257)
  | pfcXoffSend (port : Fin 2) (sub prio : Fin 8) (useKib : Nat)
  | pfcFrameReceive (port : Fin 2) (sub prio : Fin 8) (xoff : Bool)
  | cePacketReceive (qp : Fin 65536)
  | cnpReceive (qp : Fin 65536)
  | ccRateStep (qp : Fin 65536)
  | rdmaWriteIn (qp : Fin 65536) (rkey : BitVec 32) (va : BitVec 48) (data : List (BitVec 8))
  | rdmaReadIn (qp : Fin 65536) (rkey : BitVec 32) (va : BitVec 48) (len : Nat)
  | sendIn (qp : Fin 65536) (put : Option (BitVec 48)) (data : List (BitVec 8))   -- `put`: a peer's PUT and its DST
  | nakReceive (qp : Fin 65536) (psn : Nat)
  | qpAckTimeout (qp : Fin 65536)
  | qpToInit (src : Source) (qp : Fin 65536)
  | qpToRtr (src : Source) (qp : Fin 65536)
  | qpToRts (src : Source) (qp : Fin 65536)
  | qpToError (src : Source) (qp : Fin 65536)
  | qpToReset (src : Source) (qp : Fin 65536)
  | qpSubportDownTimeout (qp : Fin 65536)
  | collectiveComplete (die : Fin 8) (handle : Fin 16) (peers : List (List Nat)) (memStatus : Nat)
  | collectiveTimeout (die : Fin 8) (handle : Fin 16)
  | ptpMessage (port : Fin 2) (m : PtpMsg) (locked : Bool)   -- `locked`: the servo holds the clock in lock
  | ptpSourceSwitch (port : Fin 2)
  | bpHello (via : BpVia) (role : BitVec 8) (identity : Nat) (nc xc : List Nat)
  | bpProve (via : BpVia) (session : Nat) (sig : List Nat)
  | bpChallengeTimeout (session : Nat)
  | bpSessionIdleTimeout (session : Nat)
  | bpRegRead (h : BpHdr) (addr : BitVec 32) (count : BitVec 8)
  | bpRegWrite (h : BpHdr) (addr : BitVec 32) (data : List (BitVec 32))
  | bpImgFrame (h : BpHdr) (frame : List Nat)
  | bpLogRead (h : BpHdr) (cursor : BitVec 32) (count : BitVec 8)
  | bpAttest (h : BpHdr) (nonce : List Nat)
  | bpClose (h : BpHdr)
  | tmBeaconRx (b : Fin 8) (h : TmHdr) (rate pending : BitVec 8) (effStep : BitVec 32) (timeNs : Nat)
      (manifest : BitVec 64) (periodUs : BitVec 32) (members : BitVec 16)
  | tmRateReqRx (b : Fin 8) (h : TmHdr) (code reason : BitVec 8) (step skew : BitVec 32)
  | tmStatusRx (b : Fin 8) (h : TmHdr) (rate duty : BitVec 8) (step skew : BitVec 32) (memRatio : BitVec 16)
      (manifest : BitVec 64)
  | tmJoinRx (b : Fin 8) (h : TmHdr) (manifest : BitVec 64) (reqIndex : BitVec 16)
  | tmJoinReplyRx (b : Fin 8) (h : TmHdr) (result : BitVec 8) (index : BitVec 16) (fromEpoch : BitVec 32)
  | tmLeaveRx (b : Fin 8) (h : TmHdr) (reason : BitVec 8)
  | tmClaimRx (b : Fin 8) (h : TmHdr) (manifest : BitVec 64)
  | beaconSend (b : Fin 8)
  | beaconMissed (b : Fin 8)
  | statusSend (b : Fin 8)
  | rateReqSend (b : Fin 8)
  | requestHoldExpiry (b : Fin 8) (index : Nat)
  | seekingTimeout (b : Fin 8)
  | joiningTimeout (b : Fin 8)
  | claimSend (b : Fin 8)
  | electionWon (b : Fin 8)
  | memberLost (b : Fin 8) (index : Nat)
  | quorumLost (b : Fin 8)
  | rhdEnable (src : Source) (b : Fin 8)
  | rhdDisable (src : Source) (b : Fin 8)
  | rhdPin (src : Source) (b : Fin 8)
  | rhdCntClear (src : Source)
  | standbyPllLocked (die : Fin 8)
  | vcRampDone (die : Fin 8)
  | pendingTakenStopped (die : Fin 8)
  | rateCeilingLift (b : Fin 8) (reason : Fin 5)
  | bthQuiesce (src : Source) (b : Fin 8)
  | bthRelease (src : Source) (b : Fin 8)
  | bthImgOpen (src : Source)
  | bthImgCommit (src : Source)
  | bthImgAbort (src : Source)
  | imageReceiveTimeout
  | imageVerifyDone
  | imageCopiesStored (storedA storedB : Bool)
  | imageSlotCurrent
  | berthRestore (b : Fin 8)
  | secManSelWrite (src : Source) (value : BitVec 32)
  | helmCommand (helm : Fin 4) (link : Fin 2) (bytes : Vector (BitVec 8) 8)
  | helmTelemetry (rail : Fin 50) (mv : BitVec 16) (amps : List Int) (temps : List Nat)
  | helmAutonomous (helm : Fin 4)
  | bootSequencer
  | prechargeDone
  | prechargeTimeout
  | prechargeRetry
  | hotSwapClose (pwrEn : Bool)                          -- the level of PWR_EN then (R49)
  | hotSwapTrip
  | idealDiodeBlock
  | inputMeasure (j1Mv nodeMv aX100 : BitVec 16)
  | switchingPeriod (rail : Fin 50) (mv : BitVec 16) (phases : List PhaseSense)
  | railRegulationEnter (rail : Fin 50)
  | railRegulationLeave (rail : Fin 50)
  | phaseBalance (rail : Fin 50) (meansX10 : List Int)
  | phaseShed (rail : Fin 50)
  | phaseAdd (rail : Fin 50)
  | loadStep (rail : Fin 50) (mv : BitVec 16)
  | brakeStart (rail : Fin 50) (mv : BitVec 16)
  | brakeEnd (rail : Fin 50) (phase : Fin 16)
  | railStart (rail : Fin 50) (mv : BitVec 16)
  | softStartDone (rail : Fin 50)
  | syncInLost
  | timebaseSlewDone
  | syncInStable (khz : BitVec 16)
  | syncLocked
  | pwrRailCntClear (src : Source) (rail : Fin 50)
  | pwrCntClear (src : Source)
  | classHTrip (rail : Fin 50)
  | hiccupRetry (rail : Fin 50)
  | retryCountClear (rail : Fin 50)
  | softStartLatch (rail : Fin 50) (mv : BitVec 16)
  | stageThermalStop (rail : Fin 50) (phase : Fin 16) (temp : Nat)
  | stageRejoin (rail : Fin 50) (phase : Fin 16) (temp : Nat)
  | overvoltageLatch (rail : Fin 50) (mv : BitVec 16)
  | pwrRailUnlatch (src : Source) (rail : Fin 50) (key : BitVec 16)
  | inputLowStop (rail : Fin 50)
  | inputLowRecover (rail : Fin 50)
  | hsShortCheck (rail : Fin 50) (shorted : Option (Fin 16))
  | inputUvStart
  | inputUvEnd
  | inputOvStart
  | inputOvEnd
  | lossOfInput
  | faultRecordStored (rec : Fin 51) (ok : Bool)
  | pwrRecClear (src : Source) (key : BitVec 16)
  | pwrRec0Read (src : Source) (rec : Fin 51)
  | pwrRailProtCntClear (src : Source) (rail : Fin 50)
  | isolationPrecharge
  | isolationClose (packMv : BitVec 16)
  | isolationPrechargeTimeout
  | bwcOvervoltage (nodeMv packMv : BitVec 16)
  | hintHoldClear (die : Fin 8) (id : Fin 256)
  | tideAnchor (die : Fin 8) (syncStep : BitVec 32)
  | tideAnchorTimeout
  | breakwaterLost
  | bwrCntClear (src : Source)
  | controlCycleBoundary
  | cl00Sample (m : LoopSample)
  | cl01Sample (m : LoopSample)
  | cl03Sample (m : LoopSample)
  | cl04Sample (m : LoopSample)
  | cl05Sample (m : LoopSample)
  | cl06Sample (m : LoopSample)
  | cl07Sample (m : LoopSample)
  | cl12Sample (m : LoopSample)
  | cl13Sample (m : LoopSample)
  | cl14Sample (m : LoopSample)
  | cl15Sample (m : LoopSample)
  | cl16Sample (m : LoopSample)
  | cl17Sample (m : LoopSample)
  | cl20Sample (m : LoopSample)
  | cl31Sample (m : LoopSample) (e : CustEnd)
  | loopDeadline (loop : Fin 32)
  | cteLoopAuto (src : Source)
  | cteLoopHold (src : Source)
  | cteParamCommit (src : Source)
  | cteParamDefault (src : Source)
  | paramStoreDone (ok : Bool)
  | cteCntClear (src : Source)
  | cteCustOpen (src : Source)
  | cteCustData (src : Source) (data : BitVec 32)
  | cteCustVerify (src : Source)
  | cteCustActivate (src : Source)
  | custPackageStored (ok : Bool)
  | cteCustDisable (src : Source)
  | cellScan (cells : Vector (BitVec 16) 16) (stackMv refA refB : BitVec 16)
  | openWireWindow (cells : Vector (BitVec 16) 16) (stackMv : BitVec 16)
  | cellComparatorTrip (cell : Fin 16) (ov : Bool)
  | cellComparatorRelease (cell : Fin 16) (ov : Bool)
  | sleepCheck (cellsMv : Vector (BitVec 16) 12)
  | thermistorConvert (mv : Vector (BitVec 16) 4)
  | packIdDecode (ohms : Nat)
  | interlockClosed
  | cafeSelfTest (ok : Bool)
  | celCntClear (src : Source)
  | localThermalPacing (die : Fin 8)
  | thermalPacingWithdraw (b : Fin 8)
  | bollardTrip (sites : BitVec 8)
  | capBollardClear (src : Source) (key : BitVec 16)
  | coolantTrip
  | coolantTripEnd
  | ageStateStore
  | capCntClear (src : Source)
  | firstGrant
  | heartbeatToggle (p : Fin 2)
  | lockstepMismatch (p : Fin 2)
  | pilotFailureJudged (p : Fin 2) (cause : PilotFail)
  | takeover
  | stateCopySend
  | stateCopyReceive (crcOk : Bool) (magic : BitVec 16) (alive : BitVec 8) (cycle : BitVec 32) (ret : Bool)
  | pilotStandbyEntry (p : Fin 2)
  | autoReturnStart
  | pltSwitch (src : Source) (key : BitVec 16)
  | handoverCopyAccepted
  | handoverAbandon
  | handoverOverlapEnd
  | noPilotBwcZero
  | hmaFault (p : Fin 2)
  | pltCntClear (src : Source)
  | hplDrain (src : Source) (key : BitVec 16)
  | hplCancel (src : Source) (key : BitVec 16)
  | drainQuiesced
  | drainBerthLeave (b : Fin 8)
  | quiesceTimeout
  | dischargeEnd
  | dischargeTimeout
  | drainStopping
  | surpriseHoldOpen
  | eventRaised (code : BitVec 16) (unit : BitVec 8) (arg0 arg1 : BitVec 32)
  | eventHandlingDone
  | latchEnd (chapter unit : BitVec 8)
  | logFlushDone (p : Fin 2)
  | logFlashFail (p : Fin 2)
  | logMount (p : Fin 2)
  | logCtrlFlush (src : Source)
  | logCursorWrite (src : Source) (seq : BitVec 32)
  | logWin7Read (src : Source)
  | logWindowLatched
  | cvuStart (src : Source) (u : Fin 8)
  | cvuData (src : Source) (u : Fin 8) (data : BitVec 32)
  | cvuCntClear (src : Source)
  | pufReconstruct (p : Fin 2) (ok : Bool)
  | firmwareBootVerify (p : Fin 2) (currentOk otherOk : Bool)
  | rollbackRepair (badA badB : BitVec 13)
  | secPkgOpen (src : Source)
  | secPkgData (src : Source) (data : BitVec 32)
  | secPkgVerify (src : Source)
  | secPkgActivate (src : Source)
  | vendorActivationDone (ok : Bool)
  | secOwnerCommit (src : Source) (key : BitVec 16)
  | aoPowerUp
  | hotSwapTripCountClear
  | recordReadLatchExpiry (src : Source) (rec : Fin 51)
  deriving DecidableEq, Repr

end Sys2Proof
end

