-- ==== Sys2Proof/Decode.lean ====
section
/-! DEFINITION. Decoding of table words. The opcode table gives none of its rows any bits: the block's commands are
register accesses, received frames, events and measurements, which no word spells. -/

namespace Sys2Proof

/-- The command that a word spells by the table's bits: none, since no row of the table has bits. -/
def decodeTableWord (_nbits _w : Nat) : Option Instr := none

end Sys2Proof
end

