-- ==== Sys2Proof/Machine/RegMap.lean ====
section
/-! DEFINITION. The register map (R554, R556, R557 and the field tables of every chapter): one constructor of `Fld`
for every register field that the spec lays out, its place, its access code (R8) and its Reset column (R13).
A field of a register array stands once, its array index is the item of the key. A _LO/_HI pair that shows one
64-bit value stands once, with width 64. Reserved fields (RSV) read 0, take no write (R8) and have no constructor. -/

namespace Sys2Proof.Machine

/-- The block ranges of Table 23-1, the sub-blocks that repeat inside a range standing by themselves (R554). -/
inductive Blk where
  | mod | rst | plt | log | cvu | cvuu | sec | rail | pwr | bwr | cte | cel | cap | hpl | bth | bthb | rhd | rhdb | net | port
  | cdc | qdc | fwy
  deriving DecidableEq, Repr

/-- The access codes of Table 0-2 (R8), RSV apart. -/
inductive Acc where
  | ro | rw | rws | rwl | w1c | wo
  deriving DecidableEq, Repr

/-- Every register field, named REGISTER_FIELD. -/
inductive Fld where
  | MOD_READY_SUP
  | MOD_READY_LOG
  | MOD_READY_RG_BOOT
  | MOD_READY_RG_IB
  | MOD_READY_RG_NET
  | MOD_READY_RG_QUAY
  | MOD_READY_RG_CORE
  | MOD_READY_CTE
  | MOD_READY_CEL
  | MOD_READY_BWR
  | MOD_READY_PORT0
  | MOD_READY_PORT1
  | MOD_READY_PTP
  | MOD_READY_FWY
  | MOD_READY_RHD
  | MOD_READY_FWV
  | MOD_READY_CD
  | MOD_READY_QD
  | MOD_READY_HI_HBM
  | RST_CAUSE_POR
  | RST_CAUSE_BOR
  | RST_CAUSE_HOTPLUG
  | RST_CAUSE_RESET_IN
  | RST_CAUSE_WDG_A
  | RST_CAUSE_WDG_B
  | RST_CAUSE_HMA_A
  | RST_CAUSE_HMA_B
  | RST_CAUSE_BAMPOR
  | RST_CAUSE_DELAYED
  | RST_REQ_MAP_MAP
  | RST_REQ_KEY
  | RST_HOLD_HOLD
  | RST_IN_RESET_STATE
  | RST_CLK_GOOD_GOOD
  | RST_STATUS_REL_REFUSED
  | RST_STATUS_REQ_REFUSED
  | RST_STATUS_LOCK_ERR
  | RST_STATUS_FLASH_DELAYED
  | RST_STATUS_REFUSE_CODE
  | RST_STATUS_REFUSE_DOMAIN
  | RST_STATUS_LAST_DELAY_US
  | CDC_ID_DIE
  | CDC_ID_REV
  | CDC_ID_TILES
  | CDC_STATUS_IMAGE_VALID
  | CDC_STATUS_RUNNING
  | CDC_STATUS_LOCK_ERR
  | CDC_STATUS_SENSOR_FAIL
  | CDC_GANGS_COUNT
  | CDC_TILE_SEL_TILE
  | CDC_TILE_INFO_GANG
  | CDC_TILE_INFO_SHAPE
  | CDC_TILE_INFO_GY
  | CDC_TILE_INFO_GX
  | CDC_TILE_INFO_BALLAST_OK
  | CDC_TEMP_MAX_TEMP
  | CDC_TEMP_MAX_SENSOR
  | CDC_TEMP_TEMP
  | CDC_TEMP_FAILED
  | CDC_SENT_SEL_SENTINEL
  | CDC_SENT_VAL_VALUE
  | CDC_SENT_VAL_VALID
  | CDC_SENT_BASE_VALUE
  | CDC_CNT_CTRL_CLEAR
  | CDC_CNT_CTRL_FREEZE
  | CDC_MATRIX_BUSY_COUNT
  | CDC_BALLAST_BUSY_COUNT
  | CDC_VECTOR_BUSY_COUNT
  | CDC_CONFLICT_STALL_COUNT
  | CDC_EXT_WAIT_COUNT
  | CDC_FMT_CNT_CTRL_CLEAR
  | CDC_FMT_CNT_CTRL_FREEZE
  | CDC_SR_SEED_SEED
  | CDC_DEMOTE_REQ
  | CDC_DEMOTE_ACTIVE
  | CDC_CONV_SAT_COUNT
  | CDC_CONV_NAN_COUNT
  | CDC_MX_SPLIT_COUNT
  | CDC_WIDE_SPILL_COUNT
  | CDC_ACC_SPECIAL_COUNT
  | CDC_DEMOTE_STEPS_COUNT
  | CDC_STREAM_CTRL_START
  | CDC_STREAM_CTRL_STOP
  | CDC_STREAM_CTRL_RESUME
  | CDC_STREAM_ENTRY_INDEX
  | CDC_STEP_INIT_STEP
  | CDC_STREAM_STATE_STATE
  | CDC_STREAM_STATE_STALLED
  | CDC_STREAM_STATE_FRAME_WAIT
  | CDC_STREAM_STATE_PARK_REQ
  | CDC_PC_INDEX
  | CDC_STEP_STEP
  | CDC_FAULT_SLOT_CODE
  | CDC_FAULT_SLOT_SLOT
  | CDC_FAULT_SLOT_VALID
  | CDC_FAULT_SLOT_INDEX
  | CDC_ERR_SLOT_STATUS
  | CDC_ERR_SLOT_TALLY
  | CDC_ERR_SLOT_KIND
  | CDC_ERR_SLOT_VALID
  | CDC_ERR_SLOT_MORE
  | CDC_INFLIGHT_REQ
  | CDC_INFLIGHT_PEAK
  | CDC_STR_CNT_CTRL_CLEAR
  | CDC_STR_CNT_CTRL_FREEZE
  | CDC_ENABLED_COUNT
  | CDC_STALL_MEM_COUNT
  | CDC_STALL_COLL_COUNT
  | CDC_STALL_FETCH_COUNT
  | CDC_STALL_BUSY_COUNT
  | CDC_STALL_EVQ_COUNT
  | CDC_FRAME_WAIT_COUNT
  | CDC_FRAME_ABANDON_COUNT
  | CDC_HINT_DROP_COUNT
  | CDC_SYNCPT_COUNT_COUNT
  | CDC_TALLY_T_LO
  | CDC_TALLY_T_HI
  | CDC_PACE_DUTY
  | CDC_PACE_DOMAIN
  | CDC_PACE_THERMAL
  | CDC_PACE_RESERVE
  | CDC_FRAME_PERIOD_US
  | CDC_LOOP_COUNT
  | BTH_IMG_CTRL_OPEN
  | BTH_IMG_CTRL_COMMIT
  | BTH_IMG_CTRL_ABORT
  | BTH_IMG_LOAD_ID_ID
  | BTH_IMG_STATE_STATE
  | BTH_IMG_STATE_KIND
  | BTH_IMG_STATE_BERTH
  | BTH_IMG_STATE_ERR
  | BTH_IMG_STATE_ERR_SECTION
  | BTH_IMG_FRAMES_RECEIVED
  | BTH_IMG_FRAMES_EXPECTED
  | BTH_IMG_FRAME_ERR_CRC
  | BTH_IMG_FRAME_ERR_OTHER
  | BTH_IMG_STATUS_LOCK_ERR
  | BTH_IMG_STATUS_RESTORE_FAIL
  | BTH_COMMITTED_BERTHS
  | BTH_COMMITTED_RESTORED
  | SEC_MAN_SEL_BERTH
  | SEC_MAN_SEL_KIND
  | SEC_MAN_TAG_TAG
  | SEC_MAN_VT_VT_VERSION
  | SEC_MAN_CP_CP_SET
  | SEC_MAN_FW_FW_VERSION
  | SEC_MAN_DIGEST_BYTES
  | SEC_RB_IMG_FULL_COUNT
  | SEC_RB_IMG_B_COUNT
  | QDC_ID_DIE
  | QDC_ID_REV
  | QDC_ID_TUGS
  | QDC_STATUS_LOCK_ERR
  | QDC_STATUS_SCRUB_ACTIVE
  | QDC_STATUS_CACHE_WB
  | QDC_HBM_CFG_RATE_MAX
  | QDC_HBM_STATUS_TRAINED
  | QDC_HBM_STATUS_RATE
  | QDC_HBM_STATUS_SELF_REFRESH
  | QDC_HBM_STATUS_HOT
  | QDC_HBM_STATUS_SLOWED
  | QDC_HBM_STATUS_TEMP
  | QDC_SCRUB_CFG_ENABLE
  | QDC_SCRUB_CFG_PERIOD_H
  | QDC_SCRUB_PASS_COUNT
  | QDC_HBM_ECC_CORR
  | QDC_HBM_ECC_UNCORR
  | QDC_SRAM_ECC_CORR
  | QDC_SRAM_ECC_UNCORR
  | QDC_UE_ADDR_LO_OFFSET
  | QDC_UE_ADDR_HI_OFFSET
  | QDC_UE_ADDR_HI_STACK
  | QDC_UE_ADDR_HI_WHERE
  | QDC_UE_ADDR_HI_SOURCE
  | QDC_UE_ADDR_HI_BERTH
  | QDC_UE_ADDR_HI_REGION
  | QDC_UE_ADDR_HI_VALID
  | QDC_TUG_SEL_TUG
  | QDC_TUG_INFO_QUEUED
  | QDC_TUG_INFO_OUTSTANDING
  | QDC_TUG_INFO_ACTIVE
  | QDC_TUG_INFO_OWNED
  | QDC_TUG_INFO_BERTH
  | QDC_CNT_CTRL_CLEAR
  | QDC_CNT_CTRL_FREEZE
  | QDC_HBM0_RD_COUNT
  | QDC_HBM0_WR_COUNT
  | QDC_HBM1_RD_COUNT
  | QDC_HBM1_WR_COUNT
  | QDC_HBM0_BUSY_COUNT
  | QDC_HBM1_BUSY_COUNT
  | QDC_CACHE_HIT_COUNT
  | QDC_CACHE_MISS_COUNT
  | QDC_TUG_OUT_MAX_PEAK
  | CDC_MEM_ERR_CORR
  | CDC_MEM_ERR_UNCORR
  | CDC_MEM_ERR_LOC_OFFSET
  | CDC_MEM_ERR_LOC_WHERE
  | CDC_MEM_ERR_TILE_TILE
  | CDC_MEM_ERR_TILE_VALID
  | FWY_STATUS_LINKS_UP
  | FWY_STATUS_DOWN
  | FWY_CNT_CTRL_CLEAR
  | FWY_CNT_CTRL_FREEZE
  | FWY_CYCLES_COUNT
  | FWY_TIMEOUT_US
  | FWY_BERTH_WEIGHT_WEIGHT
  | FWY_SAT_LO_LINK
  | FWY_SAT_HI_LINK
  | FWY_LINK_SEL_LINK
  | FWY_LINK_SEL_DIR
  | FWY_LINK_STATUS_UP
  | FWY_LINK_STATUS_FULL
  | FWY_LINK_STATUS_ACTIVE
  | FWY_LINK_STATUS_RETIRED
  | FWY_LINK_FLITS_COUNT
  | FWY_LINK_CREDIT_STALL_COUNT
  | FWY_LINK_WAIT_MAX_CYCLES
  | FWY_LINK_RETRY_COUNT
  | FWY_LINK_TIMEOUT_COUNT
  | FWY_LINK_BERTH_COUNT
  | NET_STATUS_LOCK_ERR
  | NET_STATUS_SESSIONS
  | NET_CNT_CTRL_CLEAR
  | NET_CNT_CTRL_FREEZE
  | NET_UDP_PORTS_BAMPOR
  | NET_UDP_PORTS_TIDEMARK
  | NET_CC_CUT
  | NET_CC_STEP
  | NET_PTP_CFG_SRC
  | NET_PTP_CFG_AUTO
  | NET_PTP_CFG_DOMAIN
  | NET_PTP_STATUS_STATE
  | NET_PTP_STATUS_SRC
  | NET_PTP_OFFSET_NS
  | NET_MGMT_VLAN_VID
  | NET_MGMT_IPV4_ADDR
  | NET_MGMT_IPV6_ADDR
  | NET_BP_DROP_COUNT
  | NET_TM_DROP_COUNT
  | NET_P_CFG_MODE
  | NET_P_CFG_AN
  | NET_P_CFG_POL
  | NET_P_LINK_UP
  | NET_P_LINK_LOCK
  | NET_P_PFC_ENABLE
  | NET_P_PFC_XOFF_KIB
  | NET_P_ETS_LO_W0_to_W3
  | NET_P_ETS_HI_W4_to_W6
  | NET_P_PRIO_MAP
  | NET_P_FEC_CORR_COUNT
  | NET_P_FEC_UNCORR_COUNT
  | NET_P_PFC_TX_COUNT
  | NET_P_PFC_RX_COUNT
  | NET_P_CE_RX_COUNT
  | NET_P_CNP_RX_COUNT
  | NET_P_DROP_COUNT
  | NET_P_TX_COUNT
  | NET_P_RX_COUNT
  | NET_P_SAT_COUNT
  | NET_QP_SEL_QP
  | NET_QP_CTRL_STATE
  | NET_QP_PORT_PORT
  | NET_QP_PORT_SUB
  | NET_QP_PORT_PMTU
  | NET_QP_PORT_PRIO
  | NET_QP_PORT_TIMEOUT
  | NET_QP_PORT_RNR
  | NET_QP_DEST_QPN_QPN
  | NET_QP_DEST_IP_ADDR
  | NET_QP_DMAC_LO_MAC
  | NET_QP_DMAC_HI_MAC
  | NET_QP_RKEY_RKEY
  | NET_QP_SQ_PSN_PSN
  | NET_QP_RQ_PSN_PSN
  | NET_QP_RQ_BASE_LO_ADDR
  | NET_QP_RQ_BASE_HI_ADDR
  | NET_QP_RQ_CFG_RQ_LOG
  | NET_QP_RQ_CFG_CONS
  | NET_GRP_SEL_GROUP
  | NET_GRP_SEL_POS
  | NET_GRP_CFG_SIZE_M1
  | NET_GRP_CFG_BERTH
  | NET_GRP_CFG_TIMEOUT_MS
  | NET_GRP_ENTRY_QP
  | NET_GRP_ENTRY_MEMBER
  | NET_GRP_ENTRY_SELF
  | NET_GRP_ENTRY_VALID
  | RHD_STATUS_LOCK_ERR
  | RHD_CNT_CTRL_CLEAR
  | RHD_CNT_CTRL_FREEZE
  | RHD_MEMBER_SEL_BERTH
  | RHD_MEMBER_SEL_INDEX
  | RHD_MEMBER_INFO_VALID
  | RHD_MEMBER_INFO_TAG_OK
  | RHD_MEMBER_INFO_REQUESTING
  | RHD_MEMBER_INFO_MISSED
  | RHD_MEMBER_INFO_DUTY
  | RHD_MEMBER_INFO_RATE
  | RHD_MEMBER_SKEW_SKEW
  | RHD_CFG_ENABLE
  | RHD_CFG_PORT
  | RHD_CFG_AUTH
  | RHD_CFG_IPV6
  | RHD_CFG_PIN
  | RHD_ID_DOMAIN
  | RHD_ID_REQ_INDEX
  | RHD_ID_ANY
  | RHD_TIMING_PERIOD_US
  | RHD_TIMING_STEP_LEAD
  | RHD_TIMING_HOLD
  | RHD_TARGET_CODE
  | RHD_MCAST_V4_ADDR
  | RHD_MCAST_V6_ADDR
  | RHD_KEY_KEY
  | RHD_STATE_STATE
  | RHD_STATE_KEY_SET
  | RHD_STATE_TAG_MISMATCH
  | RHD_STATE_REQUESTING
  | RHD_STATE_INDEX
  | RHD_MASTER_INDEX
  | RHD_MASTER_PINNED
  | RHD_MASTER_VALID
  | RHD_EPOCH_EPOCH
  | RHD_RATE_RATE
  | RHD_RATE_PENDING
  | RHD_RATE_MAX_CODE
  | RHD_RATE_SWITCH_WAIT
  | RHD_EFF_STEP_STEP
  | RHD_MEMBERS_COUNT
  | RHD_SKEW_SKEW
  | RHD_BEACON_RX_COUNT
  | RHD_BEACON_MISS_COUNT
  | RHD_LATE_SWITCH_COUNT
  | RHD_REQ_TX_COUNT
  | RHD_ELECTIONS_COUNT
  | BTH_FREE_DIES
  | BTH_FREE_QUAYS
  | BTH_B_CTRL_QUIESCE
  | BTH_B_CTRL_RELEASE
  | BTH_B_STATUS_EXISTS
  | BTH_B_STATUS_HOLD
  | BTH_B_STATUS_QUIESCED
  | BTH_B_STATUS_DIES_BUSY
  | BTH_B_STATUS_TUGS_BUSY
  | BTH_B_STATUS_COLL_BUSY
  | BTH_B_STATUS_QP_ACTIVE
  | BTH_B_RES_DIE_MASK
  | BTH_B_RES_QUAY_MASK
  | BTH_B_RES_CAP_WEIGHT
  | BTH_B_QP_BASE_BASE
  | BTH_B_QP_COUNT_COUNT
  | BTH_B_CAP_WATTS
  | BTH_B_FRAME_PERIOD_US
  | BTH_B_BALLAST_MAX_W
  | PWR_RAIL_ID_INDEX
  | PWR_RAIL_ID_PHASES
  | PWR_RAIL_ID_HELM
  | PWR_RAIL_ID_CLASS
  | PWR_RAIL_ID_GROUP
  | PWR_RAIL_CTRL_EN
  | PWR_RAIL_CTRL_SHED_EN
  | PWR_RAIL_CTRL_DE_EN
  | PWR_RAIL_CTRL_BRAKE_EN
  | PWR_RAIL_CTRL_HOLD
  | PWR_RAIL_STATUS_ON
  | PWR_RAIL_STATUS_SOFT_START
  | PWR_RAIL_STATUS_IN_REG
  | PWR_RAIL_STATUS_SHEDDING
  | PWR_RAIL_STATUS_DE
  | PWR_RAIL_STATUS_BRAKING
  | PWR_RAIL_STATUS_RAMP
  | PWR_RAIL_STATUS_LOCK_ERR
  | PWR_RAIL_STATUS_ACTIVE
  | PWR_RAIL_VSET_NOW_MV
  | PWR_RAIL_VSET_TARGET_MV
  | PWR_RAIL_VOUT_MV
  | PWR_RAIL_IOUT_A_X10
  | PWR_RAIL_CFG1_SS_TIME
  | PWR_RAIL_CFG1_SLEW
  | PWR_RAIL_CFG1_SLOPE
  | PWR_RAIL_CFG1_L_NH
  | PWR_RAIL_CFG2_SHED_LO
  | PWR_RAIL_CFG2_ADD_HI
  | PWR_RAIL_CFG2_N_MIN
  | PWR_RAIL_CFG2_STEP
  | PWR_RAIL_CFG2_BRAKE
  | PWR_RAIL_BAL_KT
  | PWR_RAIL_PH_SEL_PHASE
  | PWR_RAIL_PH_INFO_A_X10
  | PWR_RAIL_PH_INFO_TEMP
  | PWR_RAIL_PH_INFO_SHARE
  | PWR_RAIL_PH_INFO_ACTIVE
  | PWR_RAIL_CNT_CTRL_CLEAR
  | PWR_RAIL_CNT_CTRL_FREEZE
  | PWR_RAIL_SHED_COUNT
  | PWR_RAIL_SHED_ABORT_COUNT
  | PWR_RAIL_BRAKE_COUNT
  | PWR_STATUS_HELM_UP
  | PWR_STATUS_LOCK_ERR
  | PWR_STATUS_AUTONOMOUS
  | PWR_CNT_CTRL_CLEAR
  | PWR_CNT_CTRL_FREEZE
  | PWR_SYNC_STATUS_STATE
  | PWR_SYNC_STATUS_PRESENT
  | PWR_SYNC_STATUS_FREQ_KHZ
  | PWR_SYNC_CFG_ENABLE
  | PWR_GROUP_PHASE
  | PWR_GROUP_DIV
  | PWR_GROUP_FSW_KHZ
  | PWR_IN_STATUS_PRECHARGE
  | PWR_IN_STATUS_PRE_DONE
  | PWR_IN_STATUS_HS_ON
  | PWR_IN_STATUS_HS_LIMIT
  | PWR_IN_STATUS_TRIPS
  | PWR_IN_STATUS_ID_BLOCK
  | PWR_IN_STATUS_PWR_EN
  | PWR_IN_STATUS_PRE_RETRY
  | PWR_IN_V_J1_MV
  | PWR_IN_V_NODE_MV
  | PWR_IN_I_A_X100
  | PWR_IN_P_W
  | PWR_IN_ENERGY_J
  | PWR_CMD_ERR_CRC
  | PWR_CMD_ERR_REPEAT
  | PWR_CMD_OVERLAP_COUNT
  | PWR_RAIL_PROT_CFG_N_LIMIT
  | PWR_RAIL_PROT_CFG_OFF_MS
  | PWR_RAIL_PROT_CFG_RETRY_MAX
  | PWR_RAIL_PROT_CFG_HS_CHECK
  | PWR_RAIL_PROT_STATUS_LATCHED
  | PWR_RAIL_PROT_STATUS_HICCUP_OFF
  | PWR_RAIL_PROT_STATUS_FOLDBACK
  | PWR_RAIL_PROT_STATUS_INPUT_LOW
  | PWR_RAIL_PROT_STATUS_OV
  | PWR_RAIL_PROT_STATUS_RETRIES
  | PWR_RAIL_PROT_STATUS_CAUSE
  | PWR_RAIL_PROT_CTRL_UNLATCH
  | PWR_RAIL_PROT_CNT_CTRL_CLEAR
  | PWR_RAIL_PROT_CNT_CTRL_FREEZE
  | PWR_RAIL_LIMITED_COUNT
  | PWR_RAIL_TRIPS_COUNT
  | PWR_RAIL_LATCHES_COUNT
  | PWR_RAIL_THERM_STOP_COUNT
  | PWR_RAIL_REC_BYTES
  | PWR_IN_PROT_RIDE_MS
  | PWR_IN_PROT_STATUS_UV
  | PWR_IN_PROT_STATUS_OV
  | PWR_IN_PROT_STATUS_RIDING
  | PWR_IN_PROT_STATUS_INPUT_LOST
  | PWR_IN_PROT_CNT_UV
  | PWR_IN_PROT_CNT_OV
  | PWR_REC_CTRL_CLEAR
  | PWR_MOD_REC_BYTES
  | BWR_STATUS_ISO
  | BWR_STATUS_REGULATING
  | BWR_STATUS_RECOVERY
  | BWR_STATUS_AT_RESERVE
  | BWR_STATUS_FULL
  | BWR_STATUS_FLOOR_HELD
  | BWR_STATUS_BALLAST
  | BWR_STATUS_RESERVE_PACE
  | BWR_STATUS_RIDING
  | BWR_STATUS_DRAIN
  | BWR_STATUS_LOCK_ERR
  | BWR_PACK_CELLS
  | BWR_PACK_CF_VALID
  | BWR_PACK_CELL_F
  | BWR_SOC_CFG_SOC_TARGET
  | BWR_SOC_CFG_G_SOC
  | BWR_SLEW_W_PER_S
  | BWR_FLOOR_W
  | BWR_FILTER_MS
  | BWR_SOC_PCT_X100
  | BWR_SOC_RES_X100
  | BWR_ENERGY_J
  | BWR_E_USE_J
  | BWR_PIN_SET_W
  | BWR_PIN_CAP_W
  | BWR_DEMAND_W
  | BWR_DEMAND_DF_W
  | BWR_BWC_CMD_W
  | BWR_BWC_MEAS_W
  | BWR_LIMITS_DIS_W
  | BWR_LIMITS_CHG_W
  | BWR_CAP_EST_F
  | BWR_TIDE_CFG_SRC_DIE
  | BWR_TIDE_CFG_STEP_DIV
  | BWR_TIDE_CFG_ENABLE
  | BWR_TIDE_STATUS_PERIOD_US
  | BWR_TIDE_STATUS_LOCKED
  | BWR_TIDE_STATUS_RIPPLE
  | BWR_TIDE_SEL_BIN
  | BWR_TIDE_BIN_W
  | BWR_BALLAST_CFG_ENABLE
  | BWR_BALLAST_STATUS_TILES
  | BWR_BALLAST_STATUS_W
  | BWR_CNT_CTRL_CLEAR
  | BWR_CNT_CTRL_FREEZE
  | BWR_BALLAST_J_J
  | BWR_CHG_J_J
  | BWR_DIS_J_J
  | BWR_FLOOR_BREAK_COUNT
  | BWR_SLEW_BREAK_COUNT
  | BWR_RESERVE_HITS_COUNT
  | CTE_STATUS_PILOT
  | CTE_STATUS_CORE_UP
  | CTE_STATUS_LOCK_ERR
  | CTE_CNT_CTRL_CLEAR
  | CTE_CNT_CTRL_FREEZE
  | CTE_CP_SET_ID
  | CTE_PARAM_CTRL_COMMIT
  | CTE_PARAM_CTRL_DEFAULT
  | CTE_PARAM_STATUS_STORING
  | CTE_PARAM_STATUS_STORE_FAIL
  | CTE_CORE_SEL_CORE
  | CTE_CORE_LOAD_PEAK
  | CTE_CORE_LOAD_MEAN
  | CTE_LOOP_SEL_LOOP
  | CTE_LOOP_CFG_PRESENT
  | CTE_LOOP_CFG_CLASS
  | CTE_LOOP_CFG_CORE
  | CTE_LOOP_CFG_OFFSET
  | CTE_LOOP_CTRL_AUTO
  | CTE_LOOP_CTRL_HOLD
  | CTE_LOOP_STATE_MODE
  | CTE_LOOP_STATE_CAUSE
  | CTE_LOOP_STATE_CONSEC
  | CTE_LOOP_STATE_RAMP
  | CTE_LOOP_RESID_R_F
  | CTE_LOOP_LAT_LAST
  | CTE_LOOP_LAT_MAX
  | CTE_LOOP_OVR_COUNT
  | CTE_LOOP_HOLDS_COUNT
  | CTE_LOOP_RUNS_COUNT
  | CTE_PARAM_SEL_WORD
  | CTE_PARAM_STAGED_VALUE
  | CTE_PARAM_ACTIVE_VALUE
  | CTE_PARAM_MIN_VALUE
  | CTE_PARAM_MAX_VALUE
  | CTE_CUST_CTRL_OPEN
  | CTE_CUST_CTRL_VERIFY
  | CTE_CUST_CTRL_ACTIVATE
  | CTE_CUST_CTRL_DISABLE
  | CTE_CUST_STATUS_STATE
  | CTE_CUST_STATUS_ERR
  | CTE_CUST_ADDR_OFFSET
  | CTE_CUST_DATA_BYTES
  | CTE_CUST_ROLLBACK_COUNT
  | CTE_CUST_OUT_VALUE
  | CEL_STATUS_SCANNING
  | CEL_STATUS_MISMATCH
  | CEL_STATUS_OPEN_WIRE
  | CEL_STATUS_COMP_OV
  | CEL_STATUS_COMP_UV
  | CEL_STATUS_DERATE
  | CEL_STATUS_SELFTEST_FAIL
  | CEL_STATUS_LOCK_ERR
  | CEL_CNT_CTRL_CLEAR
  | CEL_CNT_CTRL_FREEZE
  | CEL_BAL_CFG_ENABLE
  | CEL_BAL_CFG_MAX_CELLS
  | CEL_BAL_CFG_DELTA_MV
  | CEL_BAL_CFG_START_MV
  | CEL_COMP_UV_MV
  | CEL_COMP_OV_MV
  | CEL_STACK_MV
  | CEL_STACK_SUM_MV
  | CEL_STACK_TOL_MV
  | CEL_PACK_ID_OHM_X10
  | CEL_PACK_ID_DECODE
  | CEL_ILK_CLOSED
  | CEL_ILK_MA_X10
  | CEL_CELL_V
  | CEL_CELL_BAL
  | CEL_CELL_SUBST
  | CEL_CELL_OV_TRIP
  | CEL_CELL_UV_TRIP
  | CEL_TEMP_T
  | CEL_TEMP_FAILED
  | CEL_DERATE_DIS_PCT
  | CEL_DERATE_CHG_PCT
  | CEL_OW_TAPS
  | CEL_SLEEP_CFG_LO_MV
  | CEL_SLEEP_CFG_HI_MV
  | CEL_SLEEP_LOG_CELL
  | CEL_SLEEP_LOG_MV
  | CEL_SLEEP_LOG_VALID
  | CEL_SCANS_COUNT
  | CEL_BAD_SCANS_COUNT
  | CEL_OW_TESTS_COUNT
  | CEL_BAL_MS_COUNT
  | CAP_STATUS_LOCK_ERR
  | CAP_STATUS_LIMIT_SRC
  | CAP_STATUS_FAST
  | CAP_STATUS_COOL_TRIP
  | CAP_STATUS_BOLLARD
  | CAP_STATUS_HOT
  | CAP_CNT_CTRL_CLEAR
  | CAP_CNT_CTRL_FREEZE
  | CAP_MOD_LIMIT_W
  | CAP_RACK_W
  | CAP_FAST_LEVEL_W
  | CAP_EFF_W
  | CAP_EFF_COOL_W
  | CAP_TERMS_THERM_W
  | CAP_TERMS_BERTH_W
  | CAP_FLOW_CFG_K_FACTOR
  | CAP_COOL_TIN_X10
  | CAP_COOL_TOUT_X10
  | CAP_FLOW_LPM_X100
  | CAP_FLOW_LOW
  | CAP_MEMB_RATIO
  | CAP_MEMB_ENABLE
  | CAP_BOLLARD_CLEAR
  | CAP_ETA_PERMIL
  | CAP_SHARE_W
  | CAP_SHARE_CODE
  | CAP_SHARE_STAGE
  | CAP_DIE_P_W
  | CAP_DIE_J_J
  | CAP_LEARN_SEL_BERTH
  | CAP_LEARN_SEL_ID
  | CAP_LEARN_P_W
  | CAP_LEARN_DUR_US
  | CAP_AGE_STEP
  | CAP_AGE_MAX_CODE
  | CAP_AGE_LOWERED
  | CAP_AGE_AGE_H
  | CAP_AGE_CFG_PERIOD_H
  | CAP_VT_SEL_DIE
  | CAP_VT_SEL_CODE
  | CAP_VT_VENDOR_MV
  | CAP_VT_APPLIED_MV
  | CAP_VT_VERSION_VERSION
  | CAP_AGE_STATUS_TABLE_OK
  | CAP_AGE_STATUS_FALLBACK
  | CAP_THERM_PACE_COUNT
  | CAP_BOLLARD_TRIPS_COUNT
  | CAP_PARKS_COUNT
  | PLT_STATUS_ACTIVE
  | PLT_STATUS_STANDBY
  | PLT_STATUS_REDUNDANT
  | PLT_STATUS_HANDOVER
  | PLT_STATUS_HMA_OK
  | PLT_STATUS_SW_REFUSED
  | PLT_STATUS_HELD_A
  | PLT_STATUS_HELD_B
  | PLT_CFG_AUTO_RETURN
  | PLT_CTRL_SWITCH
  | PLT_CNT_CTRL_CLEAR
  | PLT_CNT_CTRL_FREEZE
  | PLT_SWITCHOVERS_COUNT
  | PLT_HANDOVERS_COUNT
  | PLT_COPY_ERR_CRC
  | PLT_COPY_ERR_ALIVE
  | PLT_FORCED_A
  | PLT_FORCED_B
  | PLT_LAST_CAUSE_CODE
  | PLT_LAST_CAUSE_PILOT
  | PLT_GAP_LAST
  | PLT_GAP_MAX
  | PLT_OVERLAP_LAST
  | PLT_SYNC_MS_MS
  | HPL_STATE_STATE
  | HPL_STATE_TRIGGER
  | HPL_STATE_DRAIN_SRC
  | HPL_STATE_LOCK_ERR
  | HPL_STATE_REFUSED
  | HPL_CTRL_KEY
  | HPL_CFG_BTN_EN
  | HPL_CFG_LOCATE
  | HPL_CFG_QUIESCE_S
  | HPL_CFG_DISCH_S
  | HPL_ELAPSED_MS
  | HPL_COUNT_DRAINS
  | HPL_COUNT_SURPRISES
  | LOG_STATUS_LOCK_ERR
  | LOG_STATUS_FLUSHING
  | LOG_STATUS_FLASH_FAIL
  | LOG_CTRL_FLUSH
  | LOG_OLDEST_SEQ
  | LOG_NEWEST_SEQ
  | LOG_FLUSHED_SEQ
  | LOG_CURSOR_SEQ
  | LOG_WIN_STATE_VALID
  | LOG_WIN_STATE_BUSY
  | LOG_WIN_STATE_GAP
  | LOG_WIN_STATE_END
  | LOG_WIN_STATE_FLASH
  | LOG_WIN_BYTES
  | LOG_QUEUE_DEPTH
  | LOG_QUEUE_HANDLING
  | LOG_QUEUE_ACTIVE
  | LOG_QUEUE_OVERFLOW
  | LOG_UNREAD_COUNT
  | LOG_LATCHED_COUNT
  | LOG_LOST_COUNT
  | CVU_STATUS_LOCK_ERR
  | CVU_CNT_CTRL_CLEAR
  | CVU_CNT_CTRL_FREEZE
  | CVU_U_CFG_WIDTH_M1
  | CVU_U_CFG_REFIN
  | CVU_U_CFG_REFOUT
  | CVU_U_CFG_XOROUT
  | CVU_U_CFG_ORDER
  | CVU_U_CFG_ALIVE
  | CVU_U_CFG_ALIVE_KEY
  | CVU_U_CFG_ALIVE_SHIFT
  | CVU_U_CFG_ALIVE_OFF
  | CVU_U_CFG_FEED_N
  | CVU_U_BIND_STREAM
  | CVU_U_BIND_MODE
  | CVU_U_POLY_POLY
  | CVU_U_INIT_INIT
  | CVU_U_CTRL_START
  | CVU_U_DATA_BYTES
  | CVU_U_RESULT_VALUE
  | CVU_U_PASS_COUNT
  | CVU_U_FAIL_COUNT
  | CVU_U_REPEAT_COUNT
  | SEC_STATUS_LOCK_ERR
  | SEC_STATUS_OWNED
  | SEC_STATUS_ID_OK
  | SEC_STATUS_RB_OK
  | SEC_SERIAL_SERIAL
  | SEC_RB_SEL_INDEX
  | SEC_RB_VAL_COUNT
  | SEC_PKG_CTRL_OPEN
  | SEC_PKG_CTRL_VERIFY
  | SEC_PKG_CTRL_ACTIVATE
  | SEC_PKG_STATUS_STATE
  | SEC_PKG_STATUS_KIND
  | SEC_PKG_STATUS_ERR
  | SEC_PKG_ADDR_OFFSET
  | SEC_PKG_DATA_BYTES
  | SEC_OWNER_CTRL_KEY
  | SEC_OWNER_STATUS_ERR
  | SEC_OWNER_NEW_BYTES
  | SEC_OWNER_POP_BYTES
  | SEC_CERT_BYTES
  | SEC_OWNER_KEY_BYTES
  | MOD_ID_DEVICE
  | MOD_ID_CARRIER_REV
  | MOD_SLOT_SLOT
  deriving DecidableEq, Repr

/-- Where a field stands and what it is: its block, the byte offset of its register (of item 0), the stride and number
of an array's registers, its lowest bit, its width, its access code, the constant of its Reset column and whether that
column says "flash" (R13). -/
structure FldInfo where
  blk : Blk
  off : Nat
  stride : Nat
  count : Nat
  lo : Nat
  width : Nat
  acc : Acc
  rst : Nat
  flash : Bool
  deriving DecidableEq, Repr

/-- The field tables of the spec, field by field. -/
def Fld.info : Fld → FldInfo
  | .MOD_READY_SUP => ⟨.mod, 0x10, 0, 1, 0, 1, .ro, 0, false⟩
  | .MOD_READY_LOG => ⟨.mod, 0x10, 0, 1, 1, 1, .ro, 0, false⟩
  | .MOD_READY_RG_BOOT => ⟨.mod, 0x10, 0, 1, 2, 1, .ro, 0, false⟩
  | .MOD_READY_RG_IB => ⟨.mod, 0x10, 0, 1, 3, 1, .ro, 0, false⟩
  | .MOD_READY_RG_NET => ⟨.mod, 0x10, 0, 1, 4, 1, .ro, 0, false⟩
  | .MOD_READY_RG_QUAY => ⟨.mod, 0x10, 0, 1, 5, 1, .ro, 0, false⟩
  | .MOD_READY_RG_CORE => ⟨.mod, 0x10, 0, 1, 6, 1, .ro, 0, false⟩
  | .MOD_READY_CTE => ⟨.mod, 0x10, 0, 1, 7, 1, .ro, 0, false⟩
  | .MOD_READY_CEL => ⟨.mod, 0x10, 0, 1, 8, 1, .ro, 0, false⟩
  | .MOD_READY_BWR => ⟨.mod, 0x10, 0, 1, 9, 1, .ro, 0, false⟩
  | .MOD_READY_PORT0 => ⟨.mod, 0x10, 0, 1, 10, 1, .ro, 0, false⟩
  | .MOD_READY_PORT1 => ⟨.mod, 0x10, 0, 1, 11, 1, .ro, 0, false⟩
  | .MOD_READY_PTP => ⟨.mod, 0x10, 0, 1, 12, 1, .ro, 0, false⟩
  | .MOD_READY_FWY => ⟨.mod, 0x10, 0, 1, 13, 1, .ro, 0, false⟩
  | .MOD_READY_RHD => ⟨.mod, 0x10, 0, 1, 14, 1, .ro, 0, false⟩
  | .MOD_READY_FWV => ⟨.mod, 0x10, 0, 1, 15, 1, .ro, 0, false⟩
  | .MOD_READY_CD => ⟨.mod, 0x10, 0, 1, 16, 8, .ro, 0, false⟩
  | .MOD_READY_QD => ⟨.mod, 0x10, 0, 1, 24, 8, .ro, 0, false⟩
  | .MOD_READY_HI_HBM => ⟨.mod, 0x14, 0, 1, 0, 16, .ro, 0, false⟩
  | .RST_CAUSE_POR => ⟨.rst, 0x0, 0, 1, 0, 1, .w1c, 1, false⟩
  | .RST_CAUSE_BOR => ⟨.rst, 0x0, 0, 1, 1, 1, .w1c, 0, false⟩
  | .RST_CAUSE_HOTPLUG => ⟨.rst, 0x0, 0, 1, 2, 1, .w1c, 0, false⟩
  | .RST_CAUSE_RESET_IN => ⟨.rst, 0x0, 0, 1, 3, 1, .w1c, 0, false⟩
  | .RST_CAUSE_WDG_A => ⟨.rst, 0x0, 0, 1, 4, 1, .w1c, 0, false⟩
  | .RST_CAUSE_WDG_B => ⟨.rst, 0x0, 0, 1, 5, 1, .w1c, 0, false⟩
  | .RST_CAUSE_HMA_A => ⟨.rst, 0x0, 0, 1, 6, 1, .w1c, 0, false⟩
  | .RST_CAUSE_HMA_B => ⟨.rst, 0x0, 0, 1, 7, 1, .w1c, 0, false⟩
  | .RST_CAUSE_BAMPOR => ⟨.rst, 0x0, 0, 1, 8, 1, .w1c, 0, false⟩
  | .RST_CAUSE_DELAYED => ⟨.rst, 0x0, 0, 1, 9, 1, .w1c, 0, false⟩
  | .RST_REQ_MAP_MAP => ⟨.rst, 0x4, 0, 1, 0, 32, .rw, 0, false⟩
  | .RST_REQ_KEY => ⟨.rst, 0x8, 0, 1, 0, 16, .wo, 0, false⟩
  | .RST_HOLD_HOLD => ⟨.rst, 0xc, 0, 1, 0, 32, .rw, 0, false⟩
  | .RST_IN_RESET_STATE => ⟨.rst, 0x10, 0, 1, 0, 32, .ro, 4294967160, false⟩
  | .RST_CLK_GOOD_GOOD => ⟨.rst, 0x14, 0, 1, 0, 32, .ro, 0, false⟩
  | .RST_STATUS_REL_REFUSED => ⟨.rst, 0x18, 0, 1, 0, 1, .w1c, 0, false⟩
  | .RST_STATUS_REQ_REFUSED => ⟨.rst, 0x18, 0, 1, 1, 1, .w1c, 0, false⟩
  | .RST_STATUS_LOCK_ERR => ⟨.rst, 0x18, 0, 1, 2, 1, .w1c, 0, false⟩
  | .RST_STATUS_FLASH_DELAYED => ⟨.rst, 0x18, 0, 1, 3, 1, .w1c, 0, false⟩
  | .RST_STATUS_REFUSE_CODE => ⟨.rst, 0x18, 0, 1, 4, 4, .ro, 0, false⟩
  | .RST_STATUS_REFUSE_DOMAIN => ⟨.rst, 0x18, 0, 1, 8, 5, .ro, 0, false⟩
  | .RST_STATUS_LAST_DELAY_US => ⟨.rst, 0x18, 0, 1, 16, 16, .ro, 0, false⟩
  | .CDC_ID_DIE => ⟨.cdc, 0x0, 0, 1, 0, 8, .ro, 0, false⟩
  | .CDC_ID_REV => ⟨.cdc, 0x0, 0, 1, 8, 8, .ro, 0, false⟩
  | .CDC_ID_TILES => ⟨.cdc, 0x0, 0, 1, 16, 8, .ro, 96, false⟩
  | .CDC_STATUS_IMAGE_VALID => ⟨.cdc, 0x4, 0, 1, 0, 1, .ro, 0, false⟩
  | .CDC_STATUS_RUNNING => ⟨.cdc, 0x4, 0, 1, 1, 1, .ro, 0, false⟩
  | .CDC_STATUS_LOCK_ERR => ⟨.cdc, 0x4, 0, 1, 2, 1, .w1c, 0, false⟩
  | .CDC_STATUS_SENSOR_FAIL => ⟨.cdc, 0x4, 0, 1, 3, 1, .ro, 0, false⟩
  | .CDC_GANGS_COUNT => ⟨.cdc, 0x8, 0, 1, 0, 7, .ro, 0, false⟩
  | .CDC_TILE_SEL_TILE => ⟨.cdc, 0xc, 0, 1, 0, 7, .rw, 0, false⟩
  | .CDC_TILE_INFO_GANG => ⟨.cdc, 0x10, 0, 1, 0, 7, .ro, 0, false⟩
  | .CDC_TILE_INFO_SHAPE => ⟨.cdc, 0x10, 0, 1, 7, 3, .ro, 7, false⟩
  | .CDC_TILE_INFO_GY => ⟨.cdc, 0x10, 0, 1, 10, 2, .ro, 0, false⟩
  | .CDC_TILE_INFO_GX => ⟨.cdc, 0x10, 0, 1, 12, 2, .ro, 0, false⟩
  | .CDC_TILE_INFO_BALLAST_OK => ⟨.cdc, 0x10, 0, 1, 14, 1, .ro, 0, false⟩
  | .CDC_TEMP_MAX_TEMP => ⟨.cdc, 0x20, 0, 1, 0, 16, .ro, 32768, false⟩
  | .CDC_TEMP_MAX_SENSOR => ⟨.cdc, 0x20, 0, 1, 16, 5, .ro, 0, false⟩
  | .CDC_TEMP_TEMP => ⟨.cdc, 0x40, 4, 24, 0, 16, .ro, 32768, false⟩
  | .CDC_TEMP_FAILED => ⟨.cdc, 0x40, 4, 24, 16, 1, .ro, 0, false⟩
  | .CDC_SENT_SEL_SENTINEL => ⟨.cdc, 0xa0, 0, 1, 0, 5, .rw, 0, false⟩
  | .CDC_SENT_VAL_VALUE => ⟨.cdc, 0xa4, 0, 1, 0, 24, .ro, 0, false⟩
  | .CDC_SENT_VAL_VALID => ⟨.cdc, 0xa4, 0, 1, 31, 1, .ro, 0, false⟩
  | .CDC_SENT_BASE_VALUE => ⟨.cdc, 0xa8, 0, 1, 0, 24, .ro, 0, true⟩
  | .CDC_CNT_CTRL_CLEAR => ⟨.cdc, 0x100, 0, 1, 0, 1, .wo, 0, false⟩
  | .CDC_CNT_CTRL_FREEZE => ⟨.cdc, 0x100, 0, 1, 1, 1, .rw, 0, false⟩
  | .CDC_MATRIX_BUSY_COUNT => ⟨.cdc, 0x108, 0, 1, 0, 64, .ro, 0, false⟩
  | .CDC_BALLAST_BUSY_COUNT => ⟨.cdc, 0x110, 0, 1, 0, 64, .ro, 0, false⟩
  | .CDC_VECTOR_BUSY_COUNT => ⟨.cdc, 0x118, 0, 1, 0, 64, .ro, 0, false⟩
  | .CDC_CONFLICT_STALL_COUNT => ⟨.cdc, 0x120, 0, 1, 0, 32, .ro, 0, false⟩
  | .CDC_EXT_WAIT_COUNT => ⟨.cdc, 0x124, 0, 1, 0, 32, .ro, 0, false⟩
  | .CDC_FMT_CNT_CTRL_CLEAR => ⟨.cdc, 0x300, 0, 1, 0, 1, .wo, 0, false⟩
  | .CDC_FMT_CNT_CTRL_FREEZE => ⟨.cdc, 0x300, 0, 1, 1, 1, .rw, 0, false⟩
  | .CDC_SR_SEED_SEED => ⟨.cdc, 0x304, 0, 1, 0, 32, .rws, 1, false⟩
  | .CDC_DEMOTE_REQ => ⟨.cdc, 0x308, 0, 1, 0, 2, .ro, 0, false⟩
  | .CDC_DEMOTE_ACTIVE => ⟨.cdc, 0x308, 0, 1, 2, 2, .ro, 0, false⟩
  | .CDC_CONV_SAT_COUNT => ⟨.cdc, 0x310, 0, 1, 0, 32, .ro, 0, false⟩
  | .CDC_CONV_NAN_COUNT => ⟨.cdc, 0x314, 0, 1, 0, 32, .ro, 0, false⟩
  | .CDC_MX_SPLIT_COUNT => ⟨.cdc, 0x318, 0, 1, 0, 32, .ro, 0, false⟩
  | .CDC_WIDE_SPILL_COUNT => ⟨.cdc, 0x31c, 0, 1, 0, 32, .ro, 0, false⟩
  | .CDC_ACC_SPECIAL_COUNT => ⟨.cdc, 0x320, 0, 1, 0, 32, .ro, 0, false⟩
  | .CDC_DEMOTE_STEPS_COUNT => ⟨.cdc, 0x324, 0, 1, 0, 32, .ro, 0, false⟩
  | .CDC_STREAM_CTRL_START => ⟨.cdc, 0x200, 0, 1, 0, 1, .wo, 0, false⟩
  | .CDC_STREAM_CTRL_STOP => ⟨.cdc, 0x200, 0, 1, 1, 1, .wo, 0, false⟩
  | .CDC_STREAM_CTRL_RESUME => ⟨.cdc, 0x200, 0, 1, 2, 1, .wo, 0, false⟩
  | .CDC_STREAM_ENTRY_INDEX => ⟨.cdc, 0x204, 0, 1, 0, 22, .rwl, 0, false⟩
  | .CDC_STEP_INIT_STEP => ⟨.cdc, 0x208, 0, 1, 0, 32, .rwl, 0, false⟩
  | .CDC_STREAM_STATE_STATE => ⟨.cdc, 0x20c, 0, 1, 0, 2, .ro, 0, false⟩
  | .CDC_STREAM_STATE_STALLED => ⟨.cdc, 0x20c, 0, 1, 2, 1, .ro, 0, false⟩
  | .CDC_STREAM_STATE_FRAME_WAIT => ⟨.cdc, 0x20c, 0, 1, 3, 1, .ro, 0, false⟩
  | .CDC_STREAM_STATE_PARK_REQ => ⟨.cdc, 0x20c, 0, 1, 4, 1, .ro, 0, false⟩
  | .CDC_PC_INDEX => ⟨.cdc, 0x210, 0, 1, 0, 22, .ro, 0, false⟩
  | .CDC_STEP_STEP => ⟨.cdc, 0x214, 0, 1, 0, 32, .ro, 0, false⟩
  | .CDC_FAULT_SLOT_CODE => ⟨.cdc, 0x218, 0, 1, 0, 4, .ro, 0, false⟩
  | .CDC_FAULT_SLOT_SLOT => ⟨.cdc, 0x218, 0, 1, 4, 3, .ro, 0, false⟩
  | .CDC_FAULT_SLOT_VALID => ⟨.cdc, 0x218, 0, 1, 7, 1, .w1c, 0, false⟩
  | .CDC_FAULT_SLOT_INDEX => ⟨.cdc, 0x218, 0, 1, 8, 22, .ro, 0, false⟩
  | .CDC_ERR_SLOT_STATUS => ⟨.cdc, 0x21c, 0, 1, 0, 8, .ro, 0, false⟩
  | .CDC_ERR_SLOT_TALLY => ⟨.cdc, 0x21c, 0, 1, 8, 4, .ro, 0, false⟩
  | .CDC_ERR_SLOT_KIND => ⟨.cdc, 0x21c, 0, 1, 12, 2, .ro, 0, false⟩
  | .CDC_ERR_SLOT_VALID => ⟨.cdc, 0x21c, 0, 1, 14, 1, .w1c, 0, false⟩
  | .CDC_ERR_SLOT_MORE => ⟨.cdc, 0x21c, 0, 1, 15, 1, .w1c, 0, false⟩
  | .CDC_INFLIGHT_REQ => ⟨.cdc, 0x220, 0, 1, 0, 14, .ro, 0, false⟩
  | .CDC_INFLIGHT_PEAK => ⟨.cdc, 0x220, 0, 1, 16, 14, .ro, 0, false⟩
  | .CDC_STR_CNT_CTRL_CLEAR => ⟨.cdc, 0x224, 0, 1, 0, 1, .wo, 0, false⟩
  | .CDC_STR_CNT_CTRL_FREEZE => ⟨.cdc, 0x224, 0, 1, 1, 1, .rw, 0, false⟩
  | .CDC_ENABLED_COUNT => ⟨.cdc, 0x228, 0, 1, 0, 64, .ro, 0, false⟩
  | .CDC_STALL_MEM_COUNT => ⟨.cdc, 0x230, 0, 1, 0, 32, .ro, 0, false⟩
  | .CDC_STALL_COLL_COUNT => ⟨.cdc, 0x234, 0, 1, 0, 32, .ro, 0, false⟩
  | .CDC_STALL_FETCH_COUNT => ⟨.cdc, 0x238, 0, 1, 0, 32, .ro, 0, false⟩
  | .CDC_STALL_BUSY_COUNT => ⟨.cdc, 0x23c, 0, 1, 0, 32, .ro, 0, false⟩
  | .CDC_STALL_EVQ_COUNT => ⟨.cdc, 0x240, 0, 1, 0, 32, .ro, 0, false⟩
  | .CDC_FRAME_WAIT_COUNT => ⟨.cdc, 0x244, 0, 1, 0, 32, .ro, 0, false⟩
  | .CDC_FRAME_ABANDON_COUNT => ⟨.cdc, 0x248, 0, 1, 0, 32, .ro, 0, false⟩
  | .CDC_HINT_DROP_COUNT => ⟨.cdc, 0x24c, 0, 1, 0, 32, .ro, 0, false⟩
  | .CDC_SYNCPT_COUNT_COUNT => ⟨.cdc, 0x250, 0, 1, 0, 32, .ro, 0, false⟩
  | .CDC_TALLY_T_LO => ⟨.cdc, 0x260, 4, 8, 0, 16, .ro, 0, false⟩
  | .CDC_TALLY_T_HI => ⟨.cdc, 0x260, 4, 8, 16, 16, .ro, 0, false⟩
  | .CDC_PACE_DUTY => ⟨.cdc, 0x280, 0, 1, 0, 3, .ro, 0, false⟩
  | .CDC_PACE_DOMAIN => ⟨.cdc, 0x280, 0, 1, 3, 1, .ro, 0, false⟩
  | .CDC_PACE_THERMAL => ⟨.cdc, 0x280, 0, 1, 4, 1, .ro, 0, false⟩
  | .CDC_PACE_RESERVE => ⟨.cdc, 0x280, 0, 1, 5, 1, .ro, 0, false⟩
  | .CDC_FRAME_PERIOD_US => ⟨.cdc, 0x284, 0, 1, 0, 20, .ro, 0, false⟩
  | .CDC_LOOP_COUNT => ⟨.cdc, 0x288, 4, 4, 0, 32, .ro, 0, false⟩
  | .BTH_IMG_CTRL_OPEN => ⟨.bth, 0x0, 0, 1, 0, 1, .wo, 0, false⟩
  | .BTH_IMG_CTRL_COMMIT => ⟨.bth, 0x0, 0, 1, 1, 1, .wo, 0, false⟩
  | .BTH_IMG_CTRL_ABORT => ⟨.bth, 0x0, 0, 1, 2, 1, .wo, 0, false⟩
  | .BTH_IMG_LOAD_ID_ID => ⟨.bth, 0x4, 0, 1, 0, 32, .ro, 0, false⟩
  | .BTH_IMG_STATE_STATE => ⟨.bth, 0x8, 0, 1, 0, 4, .ro, 0, false⟩
  | .BTH_IMG_STATE_KIND => ⟨.bth, 0x8, 0, 1, 4, 1, .ro, 0, false⟩
  | .BTH_IMG_STATE_BERTH => ⟨.bth, 0x8, 0, 1, 5, 3, .ro, 0, false⟩
  | .BTH_IMG_STATE_ERR => ⟨.bth, 0x8, 0, 1, 8, 8, .ro, 0, false⟩
  | .BTH_IMG_STATE_ERR_SECTION => ⟨.bth, 0x8, 0, 1, 16, 8, .ro, 255, false⟩
  | .BTH_IMG_FRAMES_RECEIVED => ⟨.bth, 0xc, 0, 1, 0, 9, .ro, 0, false⟩
  | .BTH_IMG_FRAMES_EXPECTED => ⟨.bth, 0xc, 0, 1, 16, 9, .ro, 0, false⟩
  | .BTH_IMG_FRAME_ERR_CRC => ⟨.bth, 0x10, 0, 1, 0, 16, .ro, 0, false⟩
  | .BTH_IMG_FRAME_ERR_OTHER => ⟨.bth, 0x10, 0, 1, 16, 16, .ro, 0, false⟩
  | .BTH_IMG_STATUS_LOCK_ERR => ⟨.bth, 0x14, 0, 1, 0, 1, .w1c, 0, false⟩
  | .BTH_IMG_STATUS_RESTORE_FAIL => ⟨.bth, 0x14, 0, 1, 1, 1, .w1c, 0, false⟩
  | .BTH_COMMITTED_BERTHS => ⟨.bth, 0x18, 0, 1, 0, 8, .ro, 0, false⟩
  | .BTH_COMMITTED_RESTORED => ⟨.bth, 0x18, 0, 1, 8, 8, .ro, 0, false⟩
  | .SEC_MAN_SEL_BERTH => ⟨.sec, 0x100, 0, 1, 0, 3, .rw, 0, false⟩
  | .SEC_MAN_SEL_KIND => ⟨.sec, 0x100, 0, 1, 8, 1, .rw, 0, false⟩
  | .SEC_MAN_TAG_TAG => ⟨.sec, 0x104, 0, 1, 0, 64, .ro, 0, false⟩
  | .SEC_MAN_VT_VT_VERSION => ⟨.sec, 0x10c, 0, 1, 0, 32, .ro, 0, false⟩
  | .SEC_MAN_CP_CP_SET => ⟨.sec, 0x110, 0, 1, 0, 32, .ro, 0, false⟩
  | .SEC_MAN_FW_FW_VERSION => ⟨.sec, 0x114, 0, 1, 0, 32, .ro, 0, false⟩
  | .SEC_MAN_DIGEST_BYTES => ⟨.sec, 0x120, 4, 16, 0, 32, .ro, 0, false⟩
  | .SEC_RB_IMG_FULL_COUNT => ⟨.sec, 0x160, 0, 1, 0, 32, .ro, 0, true⟩
  | .SEC_RB_IMG_B_COUNT => ⟨.sec, 0x164, 4, 8, 0, 32, .ro, 0, true⟩
  | .QDC_ID_DIE => ⟨.qdc, 0x0, 0, 1, 0, 8, .ro, 0, false⟩
  | .QDC_ID_REV => ⟨.qdc, 0x0, 0, 1, 8, 8, .ro, 0, false⟩
  | .QDC_ID_TUGS => ⟨.qdc, 0x0, 0, 1, 16, 8, .ro, 32, false⟩
  | .QDC_STATUS_LOCK_ERR => ⟨.qdc, 0x4, 0, 1, 0, 1, .w1c, 0, false⟩
  | .QDC_STATUS_SCRUB_ACTIVE => ⟨.qdc, 0x4, 0, 1, 1, 1, .ro, 0, false⟩
  | .QDC_STATUS_CACHE_WB => ⟨.qdc, 0x4, 0, 1, 2, 1, .ro, 0, false⟩
  | .QDC_HBM_CFG_RATE_MAX => ⟨.qdc, 0x8, 0, 1, 0, 2, .rwl, 0, false⟩
  | .QDC_HBM_STATUS_TRAINED => ⟨.qdc, 0x10, 4, 2, 0, 1, .ro, 0, false⟩
  | .QDC_HBM_STATUS_RATE => ⟨.qdc, 0x10, 4, 2, 1, 2, .ro, 0, false⟩
  | .QDC_HBM_STATUS_SELF_REFRESH => ⟨.qdc, 0x10, 4, 2, 3, 1, .ro, 0, false⟩
  | .QDC_HBM_STATUS_HOT => ⟨.qdc, 0x10, 4, 2, 4, 1, .ro, 0, false⟩
  | .QDC_HBM_STATUS_SLOWED => ⟨.qdc, 0x10, 4, 2, 5, 1, .ro, 0, false⟩
  | .QDC_HBM_STATUS_TEMP => ⟨.qdc, 0x10, 4, 2, 8, 8, .ro, 0, false⟩
  | .QDC_SCRUB_CFG_ENABLE => ⟨.qdc, 0x20, 0, 1, 0, 1, .rw, 1, false⟩
  | .QDC_SCRUB_CFG_PERIOD_H => ⟨.qdc, 0x20, 0, 1, 1, 7, .rw, 24, false⟩
  | .QDC_SCRUB_PASS_COUNT => ⟨.qdc, 0x24, 0, 1, 0, 32, .ro, 0, false⟩
  | .QDC_HBM_ECC_CORR => ⟨.qdc, 0x30, 4, 2, 0, 16, .ro, 0, false⟩
  | .QDC_HBM_ECC_UNCORR => ⟨.qdc, 0x30, 4, 2, 16, 16, .ro, 0, false⟩
  | .QDC_SRAM_ECC_CORR => ⟨.qdc, 0x38, 0, 1, 0, 16, .ro, 0, false⟩
  | .QDC_SRAM_ECC_UNCORR => ⟨.qdc, 0x38, 0, 1, 16, 16, .ro, 0, false⟩
  | .QDC_UE_ADDR_LO_OFFSET => ⟨.qdc, 0x40, 0, 1, 0, 32, .ro, 0, false⟩
  | .QDC_UE_ADDR_HI_OFFSET => ⟨.qdc, 0x44, 0, 1, 0, 3, .ro, 0, false⟩
  | .QDC_UE_ADDR_HI_STACK => ⟨.qdc, 0x44, 0, 1, 3, 1, .ro, 0, false⟩
  | .QDC_UE_ADDR_HI_WHERE => ⟨.qdc, 0x44, 0, 1, 4, 1, .ro, 0, false⟩
  | .QDC_UE_ADDR_HI_SOURCE => ⟨.qdc, 0x44, 0, 1, 5, 1, .ro, 0, false⟩
  | .QDC_UE_ADDR_HI_BERTH => ⟨.qdc, 0x44, 0, 1, 6, 3, .ro, 0, false⟩
  | .QDC_UE_ADDR_HI_REGION => ⟨.qdc, 0x44, 0, 1, 9, 1, .ro, 0, false⟩
  | .QDC_UE_ADDR_HI_VALID => ⟨.qdc, 0x44, 0, 1, 31, 1, .w1c, 0, false⟩
  | .QDC_TUG_SEL_TUG => ⟨.qdc, 0x50, 0, 1, 0, 5, .rw, 0, false⟩
  | .QDC_TUG_INFO_QUEUED => ⟨.qdc, 0x54, 0, 1, 4, 12, .ro, 0, false⟩
  | .QDC_TUG_INFO_OUTSTANDING => ⟨.qdc, 0x54, 0, 1, 16, 9, .ro, 0, false⟩
  | .QDC_TUG_INFO_ACTIVE => ⟨.qdc, 0x54, 0, 1, 25, 1, .ro, 0, false⟩
  | .QDC_TUG_INFO_OWNED => ⟨.qdc, 0x54, 0, 1, 26, 1, .ro, 0, false⟩
  | .QDC_TUG_INFO_BERTH => ⟨.qdc, 0x54, 0, 1, 27, 3, .ro, 0, false⟩
  | .QDC_CNT_CTRL_CLEAR => ⟨.qdc, 0x80, 0, 1, 0, 1, .wo, 0, false⟩
  | .QDC_CNT_CTRL_FREEZE => ⟨.qdc, 0x80, 0, 1, 1, 1, .rw, 0, false⟩
  | .QDC_HBM0_RD_COUNT => ⟨.qdc, 0x88, 0, 1, 0, 64, .ro, 0, false⟩
  | .QDC_HBM0_WR_COUNT => ⟨.qdc, 0x90, 0, 1, 0, 64, .ro, 0, false⟩
  | .QDC_HBM1_RD_COUNT => ⟨.qdc, 0x98, 0, 1, 0, 64, .ro, 0, false⟩
  | .QDC_HBM1_WR_COUNT => ⟨.qdc, 0xa0, 0, 1, 0, 64, .ro, 0, false⟩
  | .QDC_HBM0_BUSY_COUNT => ⟨.qdc, 0xa8, 0, 1, 0, 64, .ro, 0, false⟩
  | .QDC_HBM1_BUSY_COUNT => ⟨.qdc, 0xb0, 0, 1, 0, 64, .ro, 0, false⟩
  | .QDC_CACHE_HIT_COUNT => ⟨.qdc, 0xb8, 0, 1, 0, 64, .ro, 0, false⟩
  | .QDC_CACHE_MISS_COUNT => ⟨.qdc, 0xc0, 0, 1, 0, 64, .ro, 0, false⟩
  | .QDC_TUG_OUT_MAX_PEAK => ⟨.qdc, 0xc8, 0, 1, 0, 9, .ro, 0, false⟩
  | .CDC_MEM_ERR_CORR => ⟨.cdc, 0x340, 0, 1, 0, 16, .ro, 0, false⟩
  | .CDC_MEM_ERR_UNCORR => ⟨.cdc, 0x340, 0, 1, 16, 16, .ro, 0, false⟩
  | .CDC_MEM_ERR_LOC_OFFSET => ⟨.cdc, 0x344, 0, 1, 0, 27, .ro, 0, false⟩
  | .CDC_MEM_ERR_LOC_WHERE => ⟨.cdc, 0x344, 0, 1, 27, 1, .ro, 0, false⟩
  | .CDC_MEM_ERR_TILE_TILE => ⟨.cdc, 0x348, 0, 1, 0, 7, .ro, 0, false⟩
  | .CDC_MEM_ERR_TILE_VALID => ⟨.cdc, 0x348, 0, 1, 31, 1, .w1c, 0, false⟩
  | .FWY_STATUS_LINKS_UP => ⟨.fwy, 0x0, 0, 1, 0, 6, .ro, 0, false⟩
  | .FWY_STATUS_DOWN => ⟨.fwy, 0x0, 0, 1, 6, 1, .ro, 0, false⟩
  | .FWY_CNT_CTRL_CLEAR => ⟨.fwy, 0x4, 0, 1, 0, 1, .wo, 0, false⟩
  | .FWY_CNT_CTRL_FREEZE => ⟨.fwy, 0x4, 0, 1, 1, 1, .rw, 0, false⟩
  | .FWY_CYCLES_COUNT => ⟨.fwy, 0x8, 0, 1, 0, 64, .ro, 0, false⟩
  | .FWY_TIMEOUT_US => ⟨.fwy, 0x10, 0, 1, 0, 16, .rw, 1000, false⟩
  | .FWY_BERTH_WEIGHT_WEIGHT => ⟨.fwy, 0x20, 4, 8, 0, 5, .rw, 4, false⟩
  | .FWY_SAT_LO_LINK => ⟨.fwy, 0x40, 0, 1, 0, 32, .ro, 0, false⟩
  | .FWY_SAT_HI_LINK => ⟨.fwy, 0x44, 0, 1, 0, 6, .ro, 0, false⟩
  | .FWY_LINK_SEL_LINK => ⟨.fwy, 0x50, 0, 1, 0, 6, .rw, 0, false⟩
  | .FWY_LINK_SEL_DIR => ⟨.fwy, 0x50, 0, 1, 6, 1, .rw, 0, false⟩
  | .FWY_LINK_STATUS_UP => ⟨.fwy, 0x54, 0, 1, 0, 1, .ro, 0, false⟩
  | .FWY_LINK_STATUS_FULL => ⟨.fwy, 0x54, 0, 1, 1, 1, .ro, 0, false⟩
  | .FWY_LINK_STATUS_ACTIVE => ⟨.fwy, 0x54, 0, 1, 2, 4, .ro, 0, false⟩
  | .FWY_LINK_STATUS_RETIRED => ⟨.fwy, 0x54, 0, 1, 6, 8, .ro, 0, false⟩
  | .FWY_LINK_FLITS_COUNT => ⟨.fwy, 0x58, 0, 1, 0, 64, .ro, 0, false⟩
  | .FWY_LINK_CREDIT_STALL_COUNT => ⟨.fwy, 0x60, 0, 1, 0, 32, .ro, 0, false⟩
  | .FWY_LINK_WAIT_MAX_CYCLES => ⟨.fwy, 0x64, 0, 1, 0, 16, .ro, 0, false⟩
  | .FWY_LINK_RETRY_COUNT => ⟨.fwy, 0x68, 0, 1, 0, 32, .ro, 0, false⟩
  | .FWY_LINK_TIMEOUT_COUNT => ⟨.fwy, 0x6c, 0, 1, 0, 32, .ro, 0, false⟩
  | .FWY_LINK_BERTH_COUNT => ⟨.fwy, 0x80, 8, 8, 0, 64, .ro, 0, false⟩
  | .NET_STATUS_LOCK_ERR => ⟨.net, 0x0, 0, 1, 0, 1, .w1c, 0, false⟩
  | .NET_STATUS_SESSIONS => ⟨.net, 0x0, 0, 1, 1, 5, .ro, 0, false⟩
  | .NET_CNT_CTRL_CLEAR => ⟨.net, 0x4, 0, 1, 0, 1, .wo, 0, false⟩
  | .NET_CNT_CTRL_FREEZE => ⟨.net, 0x4, 0, 1, 1, 1, .rw, 0, false⟩
  | .NET_UDP_PORTS_BAMPOR => ⟨.net, 0x8, 0, 1, 0, 16, .rwl, 0, true⟩
  | .NET_UDP_PORTS_TIDEMARK => ⟨.net, 0x8, 0, 1, 16, 16, .rwl, 0, true⟩
  | .NET_CC_CUT => ⟨.net, 0xc, 0, 1, 0, 8, .rw, 64, false⟩
  | .NET_CC_STEP => ⟨.net, 0xc, 0, 1, 8, 8, .rw, 10, false⟩
  | .NET_PTP_CFG_SRC => ⟨.net, 0x10, 0, 1, 0, 2, .rw, 0, false⟩
  | .NET_PTP_CFG_AUTO => ⟨.net, 0x10, 0, 1, 2, 1, .rw, 1, false⟩
  | .NET_PTP_CFG_DOMAIN => ⟨.net, 0x10, 0, 1, 8, 8, .rw, 0, false⟩
  | .NET_PTP_STATUS_STATE => ⟨.net, 0x14, 0, 1, 0, 2, .ro, 0, false⟩
  | .NET_PTP_STATUS_SRC => ⟨.net, 0x14, 0, 1, 2, 2, .ro, 0, false⟩
  | .NET_PTP_OFFSET_NS => ⟨.net, 0x18, 0, 1, 0, 32, .ro, 0, false⟩
  | .NET_MGMT_VLAN_VID => ⟨.net, 0x20, 0, 1, 0, 12, .rw, 0, true⟩
  | .NET_MGMT_IPV4_ADDR => ⟨.net, 0x24, 0, 1, 0, 32, .rw, 0, true⟩
  | .NET_MGMT_IPV6_ADDR => ⟨.net, 0x28, 4, 4, 0, 32, .rw, 0, true⟩
  | .NET_BP_DROP_COUNT => ⟨.net, 0x40, 0, 1, 0, 32, .ro, 0, false⟩
  | .NET_TM_DROP_COUNT => ⟨.net, 0x44, 0, 1, 0, 32, .ro, 0, false⟩
  | .NET_P_CFG_MODE => ⟨.port, 0x0, 0, 1, 0, 2, .rwl, 0, true⟩
  | .NET_P_CFG_AN => ⟨.port, 0x0, 0, 1, 2, 1, .rwl, 0, true⟩
  | .NET_P_CFG_POL => ⟨.port, 0x0, 0, 1, 8, 8, .rwl, 0, true⟩
  | .NET_P_LINK_UP => ⟨.port, 0x4, 0, 1, 0, 8, .ro, 0, false⟩
  | .NET_P_LINK_LOCK => ⟨.port, 0x4, 0, 1, 8, 8, .ro, 0, false⟩
  | .NET_P_PFC_ENABLE => ⟨.port, 0x8, 0, 1, 0, 8, .rw, 0, false⟩
  | .NET_P_PFC_XOFF_KIB => ⟨.port, 0x8, 0, 1, 8, 16, .rw, 512, false⟩
  | .NET_P_ETS_LO_W0_to_W3 => ⟨.port, 0xc, 0, 1, 0, 32, .rw, 0, false⟩
  | .NET_P_ETS_HI_W4_to_W6 => ⟨.port, 0x10, 0, 1, 0, 24, .rw, 0, false⟩
  | .NET_P_PRIO_MAP => ⟨.port, 0x14, 0, 1, 0, 24, .rw, 16434824, false⟩
  | .NET_P_FEC_CORR_COUNT => ⟨.port, 0x20, 0, 1, 0, 64, .ro, 0, false⟩
  | .NET_P_FEC_UNCORR_COUNT => ⟨.port, 0x28, 0, 1, 0, 32, .ro, 0, false⟩
  | .NET_P_PFC_TX_COUNT => ⟨.port, 0x2c, 0, 1, 0, 32, .ro, 0, false⟩
  | .NET_P_PFC_RX_COUNT => ⟨.port, 0x30, 0, 1, 0, 32, .ro, 0, false⟩
  | .NET_P_CE_RX_COUNT => ⟨.port, 0x34, 0, 1, 0, 32, .ro, 0, false⟩
  | .NET_P_CNP_RX_COUNT => ⟨.port, 0x38, 0, 1, 0, 32, .ro, 0, false⟩
  | .NET_P_DROP_COUNT => ⟨.port, 0x3c, 0, 1, 0, 32, .ro, 0, false⟩
  | .NET_P_TX_COUNT => ⟨.port, 0x40, 0, 1, 0, 64, .ro, 0, false⟩
  | .NET_P_RX_COUNT => ⟨.port, 0x48, 0, 1, 0, 64, .ro, 0, false⟩
  | .NET_P_SAT_COUNT => ⟨.port, 0x50, 0, 1, 0, 32, .ro, 0, false⟩
  | .NET_QP_SEL_QP => ⟨.net, 0x300, 0, 1, 0, 16, .rw, 0, false⟩
  | .NET_QP_CTRL_STATE => ⟨.net, 0x304, 0, 1, 0, 3, .rw, 0, false⟩
  | .NET_QP_PORT_PORT => ⟨.net, 0x308, 0, 1, 0, 1, .rwl, 0, false⟩
  | .NET_QP_PORT_SUB => ⟨.net, 0x308, 0, 1, 1, 3, .rwl, 0, false⟩
  | .NET_QP_PORT_PMTU => ⟨.net, 0x308, 0, 1, 4, 2, .rwl, 2, false⟩
  | .NET_QP_PORT_PRIO => ⟨.net, 0x308, 0, 1, 6, 3, .rwl, 0, false⟩
  | .NET_QP_PORT_TIMEOUT => ⟨.net, 0x308, 0, 1, 9, 7, .rwl, 8, false⟩
  | .NET_QP_PORT_RNR => ⟨.net, 0x308, 0, 1, 16, 5, .rwl, 0, false⟩
  | .NET_QP_DEST_QPN_QPN => ⟨.net, 0x30c, 0, 1, 0, 24, .rwl, 0, false⟩
  | .NET_QP_DEST_IP_ADDR => ⟨.net, 0x310, 4, 4, 0, 32, .rwl, 0, false⟩
  | .NET_QP_DMAC_LO_MAC => ⟨.net, 0x320, 0, 1, 0, 32, .rwl, 0, false⟩
  | .NET_QP_DMAC_HI_MAC => ⟨.net, 0x324, 0, 1, 0, 16, .rwl, 0, false⟩
  | .NET_QP_RKEY_RKEY => ⟨.net, 0x328, 0, 1, 0, 32, .rwl, 0, false⟩
  | .NET_QP_SQ_PSN_PSN => ⟨.net, 0x32c, 0, 1, 0, 24, .rwl, 0, false⟩
  | .NET_QP_RQ_PSN_PSN => ⟨.net, 0x330, 0, 1, 0, 24, .rwl, 0, false⟩
  | .NET_QP_RQ_BASE_LO_ADDR => ⟨.net, 0x334, 0, 1, 0, 32, .rwl, 0, false⟩
  | .NET_QP_RQ_BASE_HI_ADDR => ⟨.net, 0x338, 0, 1, 0, 16, .rwl, 0, false⟩
  | .NET_QP_RQ_CFG_RQ_LOG => ⟨.net, 0x33c, 0, 1, 0, 4, .rwl, 0, false⟩
  | .NET_QP_RQ_CFG_CONS => ⟨.net, 0x33c, 0, 1, 16, 12, .ro, 0, false⟩
  | .NET_GRP_SEL_GROUP => ⟨.net, 0x380, 0, 1, 0, 8, .rw, 0, false⟩
  | .NET_GRP_SEL_POS => ⟨.net, 0x380, 0, 1, 16, 14, .rw, 0, false⟩
  | .NET_GRP_CFG_SIZE_M1 => ⟨.net, 0x384, 0, 1, 0, 14, .rwl, 0, false⟩
  | .NET_GRP_CFG_BERTH => ⟨.net, 0x384, 0, 1, 14, 3, .rwl, 0, false⟩
  | .NET_GRP_CFG_TIMEOUT_MS => ⟨.net, 0x384, 0, 1, 17, 15, .rwl, 1000, false⟩
  | .NET_GRP_ENTRY_QP => ⟨.net, 0x388, 0, 1, 0, 16, .rwl, 0, false⟩
  | .NET_GRP_ENTRY_MEMBER => ⟨.net, 0x388, 0, 1, 16, 14, .rwl, 0, false⟩
  | .NET_GRP_ENTRY_SELF => ⟨.net, 0x388, 0, 1, 30, 1, .rwl, 0, false⟩
  | .NET_GRP_ENTRY_VALID => ⟨.net, 0x388, 0, 1, 31, 1, .rwl, 0, false⟩
  | .RHD_STATUS_LOCK_ERR => ⟨.rhd, 0x0, 0, 1, 0, 1, .w1c, 0, false⟩
  | .RHD_CNT_CTRL_CLEAR => ⟨.rhd, 0x4, 0, 1, 0, 1, .wo, 0, false⟩
  | .RHD_CNT_CTRL_FREEZE => ⟨.rhd, 0x4, 0, 1, 1, 1, .rw, 0, false⟩
  | .RHD_MEMBER_SEL_BERTH => ⟨.rhd, 0x10, 0, 1, 0, 3, .rw, 0, false⟩
  | .RHD_MEMBER_SEL_INDEX => ⟨.rhd, 0x10, 0, 1, 16, 14, .rw, 0, false⟩
  | .RHD_MEMBER_INFO_VALID => ⟨.rhd, 0x14, 0, 1, 0, 1, .ro, 0, false⟩
  | .RHD_MEMBER_INFO_TAG_OK => ⟨.rhd, 0x14, 0, 1, 1, 1, .ro, 0, false⟩
  | .RHD_MEMBER_INFO_REQUESTING => ⟨.rhd, 0x14, 0, 1, 2, 1, .ro, 0, false⟩
  | .RHD_MEMBER_INFO_MISSED => ⟨.rhd, 0x14, 0, 1, 3, 2, .ro, 0, false⟩
  | .RHD_MEMBER_INFO_DUTY => ⟨.rhd, 0x14, 0, 1, 5, 3, .ro, 0, false⟩
  | .RHD_MEMBER_INFO_RATE => ⟨.rhd, 0x14, 0, 1, 8, 8, .ro, 0, false⟩
  | .RHD_MEMBER_SKEW_SKEW => ⟨.rhd, 0x18, 0, 1, 0, 32, .ro, 0, false⟩
  | .RHD_CFG_ENABLE => ⟨.rhdb, 0x0, 0, 1, 0, 1, .rw, 0, false⟩
  | .RHD_CFG_PORT => ⟨.rhdb, 0x0, 0, 1, 1, 1, .rwl, 0, false⟩
  | .RHD_CFG_AUTH => ⟨.rhdb, 0x0, 0, 1, 2, 1, .rwl, 0, false⟩
  | .RHD_CFG_IPV6 => ⟨.rhdb, 0x0, 0, 1, 3, 1, .rwl, 0, false⟩
  | .RHD_CFG_PIN => ⟨.rhdb, 0x0, 0, 1, 4, 1, .rw, 0, false⟩
  | .RHD_ID_DOMAIN => ⟨.rhdb, 0x4, 0, 1, 0, 16, .rwl, 0, false⟩
  | .RHD_ID_REQ_INDEX => ⟨.rhdb, 0x4, 0, 1, 16, 14, .rwl, 0, false⟩
  | .RHD_ID_ANY => ⟨.rhdb, 0x4, 0, 1, 30, 1, .rwl, 0, false⟩
  | .RHD_TIMING_PERIOD_US => ⟨.rhdb, 0x8, 0, 1, 0, 14, .rwl, 1000, false⟩
  | .RHD_TIMING_STEP_LEAD => ⟨.rhdb, 0x8, 0, 1, 16, 8, .rw, 4, false⟩
  | .RHD_TIMING_HOLD => ⟨.rhdb, 0x8, 0, 1, 24, 8, .rw, 10, false⟩
  | .RHD_TARGET_CODE => ⟨.rhdb, 0xc, 0, 1, 0, 8, .rws, 40, false⟩
  | .RHD_MCAST_V4_ADDR => ⟨.rhdb, 0x10, 0, 1, 0, 32, .rwl, 0, false⟩
  | .RHD_MCAST_V6_ADDR => ⟨.rhdb, 0x14, 4, 4, 0, 32, .rwl, 0, false⟩
  | .RHD_KEY_KEY => ⟨.rhdb, 0x24, 4, 8, 0, 32, .wo, 0, false⟩
  | .RHD_STATE_STATE => ⟨.rhdb, 0x44, 0, 1, 0, 3, .ro, 0, false⟩
  | .RHD_STATE_KEY_SET => ⟨.rhdb, 0x44, 0, 1, 3, 1, .ro, 0, false⟩
  | .RHD_STATE_TAG_MISMATCH => ⟨.rhdb, 0x44, 0, 1, 4, 1, .ro, 0, false⟩
  | .RHD_STATE_REQUESTING => ⟨.rhdb, 0x44, 0, 1, 5, 1, .ro, 0, false⟩
  | .RHD_STATE_INDEX => ⟨.rhdb, 0x44, 0, 1, 8, 14, .ro, 0, false⟩
  | .RHD_MASTER_INDEX => ⟨.rhdb, 0x48, 0, 1, 0, 14, .ro, 0, false⟩
  | .RHD_MASTER_PINNED => ⟨.rhdb, 0x48, 0, 1, 14, 1, .ro, 0, false⟩
  | .RHD_MASTER_VALID => ⟨.rhdb, 0x48, 0, 1, 15, 1, .ro, 0, false⟩
  | .RHD_EPOCH_EPOCH => ⟨.rhdb, 0x4c, 0, 1, 0, 32, .ro, 0, false⟩
  | .RHD_RATE_RATE => ⟨.rhdb, 0x50, 0, 1, 0, 8, .ro, 0, false⟩
  | .RHD_RATE_PENDING => ⟨.rhdb, 0x50, 0, 1, 8, 8, .ro, 0, false⟩
  | .RHD_RATE_MAX_CODE => ⟨.rhdb, 0x50, 0, 1, 16, 8, .ro, 0, true⟩
  | .RHD_RATE_SWITCH_WAIT => ⟨.rhdb, 0x50, 0, 1, 24, 1, .ro, 0, false⟩
  | .RHD_EFF_STEP_STEP => ⟨.rhdb, 0x54, 0, 1, 0, 32, .ro, 0, false⟩
  | .RHD_MEMBERS_COUNT => ⟨.rhdb, 0x58, 0, 1, 0, 15, .ro, 0, false⟩
  | .RHD_SKEW_SKEW => ⟨.rhdb, 0x5c, 0, 1, 0, 32, .ro, 0, false⟩
  | .RHD_BEACON_RX_COUNT => ⟨.rhdb, 0x60, 0, 1, 0, 32, .ro, 0, false⟩
  | .RHD_BEACON_MISS_COUNT => ⟨.rhdb, 0x64, 0, 1, 0, 32, .ro, 0, false⟩
  | .RHD_LATE_SWITCH_COUNT => ⟨.rhdb, 0x68, 0, 1, 0, 32, .ro, 0, false⟩
  | .RHD_REQ_TX_COUNT => ⟨.rhdb, 0x6c, 0, 1, 0, 32, .ro, 0, false⟩
  | .RHD_ELECTIONS_COUNT => ⟨.rhdb, 0x70, 0, 1, 0, 32, .ro, 0, false⟩
  | .BTH_FREE_DIES => ⟨.bth, 0x20, 0, 1, 0, 8, .ro, 255, false⟩
  | .BTH_FREE_QUAYS => ⟨.bth, 0x20, 0, 1, 8, 8, .ro, 255, false⟩
  | .BTH_B_CTRL_QUIESCE => ⟨.bthb, 0x0, 0, 1, 0, 1, .wo, 0, false⟩
  | .BTH_B_CTRL_RELEASE => ⟨.bthb, 0x0, 0, 1, 1, 1, .wo, 0, false⟩
  | .BTH_B_STATUS_EXISTS => ⟨.bthb, 0x4, 0, 1, 0, 1, .ro, 0, false⟩
  | .BTH_B_STATUS_HOLD => ⟨.bthb, 0x4, 0, 1, 1, 1, .ro, 0, false⟩
  | .BTH_B_STATUS_QUIESCED => ⟨.bthb, 0x4, 0, 1, 2, 1, .ro, 0, false⟩
  | .BTH_B_STATUS_DIES_BUSY => ⟨.bthb, 0x4, 0, 1, 3, 1, .ro, 0, false⟩
  | .BTH_B_STATUS_TUGS_BUSY => ⟨.bthb, 0x4, 0, 1, 4, 1, .ro, 0, false⟩
  | .BTH_B_STATUS_COLL_BUSY => ⟨.bthb, 0x4, 0, 1, 5, 1, .ro, 0, false⟩
  | .BTH_B_STATUS_QP_ACTIVE => ⟨.bthb, 0x4, 0, 1, 6, 1, .ro, 0, false⟩
  | .BTH_B_RES_DIE_MASK => ⟨.bthb, 0x8, 0, 1, 0, 8, .ro, 0, false⟩
  | .BTH_B_RES_QUAY_MASK => ⟨.bthb, 0x8, 0, 1, 8, 8, .ro, 0, false⟩
  | .BTH_B_RES_CAP_WEIGHT => ⟨.bthb, 0x8, 0, 1, 16, 8, .ro, 0, false⟩
  | .BTH_B_QP_BASE_BASE => ⟨.bthb, 0xc, 0, 1, 0, 16, .ro, 0, false⟩
  | .BTH_B_QP_COUNT_COUNT => ⟨.bthb, 0x10, 0, 1, 0, 17, .ro, 0, false⟩
  | .BTH_B_CAP_WATTS => ⟨.bthb, 0x14, 0, 1, 0, 13, .rw, 0, false⟩
  | .BTH_B_FRAME_PERIOD_US => ⟨.bthb, 0x18, 0, 1, 0, 20, .rwl, 0, false⟩
  | .BTH_B_BALLAST_MAX_W => ⟨.bthb, 0x1c, 0, 1, 0, 13, .ro, 0, false⟩
  | .PWR_RAIL_ID_INDEX => ⟨.rail, 0x0, 0, 1, 0, 6, .ro, 0, false⟩
  | .PWR_RAIL_ID_PHASES => ⟨.rail, 0x0, 0, 1, 6, 5, .ro, 0, false⟩
  | .PWR_RAIL_ID_HELM => ⟨.rail, 0x0, 0, 1, 11, 2, .ro, 0, false⟩
  | .PWR_RAIL_ID_CLASS => ⟨.rail, 0x0, 0, 1, 13, 1, .ro, 0, false⟩
  | .PWR_RAIL_ID_GROUP => ⟨.rail, 0x0, 0, 1, 14, 3, .ro, 0, false⟩
  | .PWR_RAIL_CTRL_EN => ⟨.rail, 0x4, 0, 1, 0, 1, .ro, 0, false⟩
  | .PWR_RAIL_CTRL_SHED_EN => ⟨.rail, 0x4, 0, 1, 1, 1, .rw, 0, false⟩
  | .PWR_RAIL_CTRL_DE_EN => ⟨.rail, 0x4, 0, 1, 2, 1, .rw, 0, false⟩
  | .PWR_RAIL_CTRL_BRAKE_EN => ⟨.rail, 0x4, 0, 1, 3, 1, .rw, 0, false⟩
  | .PWR_RAIL_CTRL_HOLD => ⟨.rail, 0x4, 0, 1, 4, 1, .ro, 0, false⟩
  | .PWR_RAIL_STATUS_ON => ⟨.rail, 0x8, 0, 1, 0, 1, .ro, 0, false⟩
  | .PWR_RAIL_STATUS_SOFT_START => ⟨.rail, 0x8, 0, 1, 1, 1, .ro, 0, false⟩
  | .PWR_RAIL_STATUS_IN_REG => ⟨.rail, 0x8, 0, 1, 2, 1, .ro, 0, false⟩
  | .PWR_RAIL_STATUS_SHEDDING => ⟨.rail, 0x8, 0, 1, 3, 1, .ro, 0, false⟩
  | .PWR_RAIL_STATUS_DE => ⟨.rail, 0x8, 0, 1, 4, 1, .ro, 0, false⟩
  | .PWR_RAIL_STATUS_BRAKING => ⟨.rail, 0x8, 0, 1, 5, 1, .ro, 0, false⟩
  | .PWR_RAIL_STATUS_RAMP => ⟨.rail, 0x8, 0, 1, 6, 1, .ro, 0, false⟩
  | .PWR_RAIL_STATUS_LOCK_ERR => ⟨.rail, 0x8, 0, 1, 7, 1, .w1c, 0, false⟩
  | .PWR_RAIL_STATUS_ACTIVE => ⟨.rail, 0x8, 0, 1, 8, 5, .ro, 0, false⟩
  | .PWR_RAIL_VSET_NOW_MV => ⟨.rail, 0xc, 0, 1, 0, 16, .ro, 0, false⟩
  | .PWR_RAIL_VSET_TARGET_MV => ⟨.rail, 0xc, 0, 1, 16, 16, .ro, 0, false⟩
  | .PWR_RAIL_VOUT_MV => ⟨.rail, 0x10, 0, 1, 0, 16, .ro, 0, false⟩
  | .PWR_RAIL_IOUT_A_X10 => ⟨.rail, 0x14, 0, 1, 0, 16, .ro, 0, false⟩
  | .PWR_RAIL_CFG1_SS_TIME => ⟨.rail, 0x18, 0, 1, 0, 8, .rwl, 0, false⟩
  | .PWR_RAIL_CFG1_SLEW => ⟨.rail, 0x18, 0, 1, 8, 8, .rwl, 0, false⟩
  | .PWR_RAIL_CFG1_SLOPE => ⟨.rail, 0x18, 0, 1, 16, 6, .rwl, 0, false⟩
  | .PWR_RAIL_CFG1_L_NH => ⟨.rail, 0x18, 0, 1, 22, 10, .ro, 0, true⟩
  | .PWR_RAIL_CFG2_SHED_LO => ⟨.rail, 0x1c, 0, 1, 0, 8, .rwl, 0, false⟩
  | .PWR_RAIL_CFG2_ADD_HI => ⟨.rail, 0x1c, 0, 1, 8, 8, .rwl, 0, false⟩
  | .PWR_RAIL_CFG2_N_MIN => ⟨.rail, 0x1c, 0, 1, 16, 4, .ro, 0, false⟩
  | .PWR_RAIL_CFG2_STEP => ⟨.rail, 0x1c, 0, 1, 20, 4, .rwl, 0, false⟩
  | .PWR_RAIL_CFG2_BRAKE => ⟨.rail, 0x1c, 0, 1, 24, 4, .rwl, 0, false⟩
  | .PWR_RAIL_BAL_KT => ⟨.rail, 0x20, 0, 1, 0, 8, .rwl, 10, false⟩
  | .PWR_RAIL_PH_SEL_PHASE => ⟨.rail, 0x30, 0, 1, 0, 4, .rw, 0, false⟩
  | .PWR_RAIL_PH_INFO_A_X10 => ⟨.rail, 0x34, 0, 1, 0, 12, .ro, 0, false⟩
  | .PWR_RAIL_PH_INFO_TEMP => ⟨.rail, 0x34, 0, 1, 12, 8, .ro, 0, false⟩
  | .PWR_RAIL_PH_INFO_SHARE => ⟨.rail, 0x34, 0, 1, 20, 9, .ro, 0, false⟩
  | .PWR_RAIL_PH_INFO_ACTIVE => ⟨.rail, 0x34, 0, 1, 29, 1, .ro, 0, false⟩
  | .PWR_RAIL_CNT_CTRL_CLEAR => ⟨.rail, 0x3c, 0, 1, 0, 1, .wo, 0, false⟩
  | .PWR_RAIL_CNT_CTRL_FREEZE => ⟨.rail, 0x3c, 0, 1, 1, 1, .rw, 0, false⟩
  | .PWR_RAIL_SHED_COUNT => ⟨.rail, 0x40, 0, 1, 0, 32, .ro, 0, false⟩
  | .PWR_RAIL_SHED_ABORT_COUNT => ⟨.rail, 0x44, 0, 1, 0, 32, .ro, 0, false⟩
  | .PWR_RAIL_BRAKE_COUNT => ⟨.rail, 0x48, 0, 1, 0, 32, .ro, 0, false⟩
  | .PWR_STATUS_HELM_UP => ⟨.pwr, 0x0, 0, 1, 0, 4, .ro, 0, false⟩
  | .PWR_STATUS_LOCK_ERR => ⟨.pwr, 0x0, 0, 1, 4, 1, .w1c, 0, false⟩
  | .PWR_STATUS_AUTONOMOUS => ⟨.pwr, 0x0, 0, 1, 5, 1, .ro, 0, false⟩
  | .PWR_CNT_CTRL_CLEAR => ⟨.pwr, 0x4, 0, 1, 0, 1, .wo, 0, false⟩
  | .PWR_CNT_CTRL_FREEZE => ⟨.pwr, 0x4, 0, 1, 1, 1, .rw, 0, false⟩
  | .PWR_SYNC_STATUS_STATE => ⟨.pwr, 0x8, 0, 1, 0, 2, .ro, 0, false⟩
  | .PWR_SYNC_STATUS_PRESENT => ⟨.pwr, 0x8, 0, 1, 2, 1, .ro, 0, false⟩
  | .PWR_SYNC_STATUS_FREQ_KHZ => ⟨.pwr, 0x8, 0, 1, 16, 16, .ro, 0, false⟩
  | .PWR_SYNC_CFG_ENABLE => ⟨.pwr, 0xc, 0, 1, 0, 1, .rw, 1, false⟩
  | .PWR_GROUP_PHASE => ⟨.pwr, 0x10, 4, 6, 0, 6, .rw, 0, false⟩
  | .PWR_GROUP_DIV => ⟨.pwr, 0x10, 4, 6, 6, 6, .ro, 0, false⟩
  | .PWR_GROUP_FSW_KHZ => ⟨.pwr, 0x10, 4, 6, 12, 12, .ro, 0, false⟩
  | .PWR_IN_STATUS_PRECHARGE => ⟨.pwr, 0x30, 0, 1, 0, 1, .ro, 0, false⟩
  | .PWR_IN_STATUS_PRE_DONE => ⟨.pwr, 0x30, 0, 1, 1, 1, .ro, 0, false⟩
  | .PWR_IN_STATUS_HS_ON => ⟨.pwr, 0x30, 0, 1, 2, 1, .ro, 0, false⟩
  | .PWR_IN_STATUS_HS_LIMIT => ⟨.pwr, 0x30, 0, 1, 3, 1, .ro, 0, false⟩
  | .PWR_IN_STATUS_TRIPS => ⟨.pwr, 0x30, 0, 1, 4, 2, .ro, 0, false⟩
  | .PWR_IN_STATUS_ID_BLOCK => ⟨.pwr, 0x30, 0, 1, 6, 1, .ro, 0, false⟩
  | .PWR_IN_STATUS_PWR_EN => ⟨.pwr, 0x30, 0, 1, 7, 1, .ro, 0, false⟩
  | .PWR_IN_STATUS_PRE_RETRY => ⟨.pwr, 0x30, 0, 1, 8, 8, .ro, 0, false⟩
  | .PWR_IN_V_J1_MV => ⟨.pwr, 0x34, 0, 1, 0, 16, .ro, 0, false⟩
  | .PWR_IN_V_NODE_MV => ⟨.pwr, 0x34, 0, 1, 16, 16, .ro, 0, false⟩
  | .PWR_IN_I_A_X100 => ⟨.pwr, 0x38, 0, 1, 0, 16, .ro, 0, false⟩
  | .PWR_IN_P_W => ⟨.pwr, 0x3c, 0, 1, 0, 16, .ro, 0, false⟩
  | .PWR_IN_ENERGY_J => ⟨.pwr, 0x40, 0, 1, 0, 64, .ro, 0, false⟩
  | .PWR_CMD_ERR_CRC => ⟨.pwr, 0x50, 0, 1, 0, 16, .ro, 0, false⟩
  | .PWR_CMD_ERR_REPEAT => ⟨.pwr, 0x50, 0, 1, 16, 16, .ro, 0, false⟩
  | .PWR_CMD_OVERLAP_COUNT => ⟨.pwr, 0x54, 0, 1, 0, 32, .ro, 0, false⟩
  | .PWR_RAIL_PROT_CFG_N_LIMIT => ⟨.rail, 0x100, 0, 1, 0, 8, .rwl, 32, false⟩
  | .PWR_RAIL_PROT_CFG_OFF_MS => ⟨.rail, 0x100, 0, 1, 8, 8, .rwl, 20, false⟩
  | .PWR_RAIL_PROT_CFG_RETRY_MAX => ⟨.rail, 0x100, 0, 1, 16, 4, .rwl, 5, false⟩
  | .PWR_RAIL_PROT_CFG_HS_CHECK => ⟨.rail, 0x100, 0, 1, 20, 1, .rwl, 0, false⟩
  | .PWR_RAIL_PROT_STATUS_LATCHED => ⟨.rail, 0x104, 0, 1, 0, 1, .ro, 0, false⟩
  | .PWR_RAIL_PROT_STATUS_HICCUP_OFF => ⟨.rail, 0x104, 0, 1, 1, 1, .ro, 0, false⟩
  | .PWR_RAIL_PROT_STATUS_FOLDBACK => ⟨.rail, 0x104, 0, 1, 2, 1, .ro, 0, false⟩
  | .PWR_RAIL_PROT_STATUS_INPUT_LOW => ⟨.rail, 0x104, 0, 1, 3, 1, .ro, 0, false⟩
  | .PWR_RAIL_PROT_STATUS_OV => ⟨.rail, 0x104, 0, 1, 4, 1, .ro, 0, false⟩
  | .PWR_RAIL_PROT_STATUS_RETRIES => ⟨.rail, 0x104, 0, 1, 8, 4, .ro, 0, false⟩
  | .PWR_RAIL_PROT_STATUS_CAUSE => ⟨.rail, 0x104, 0, 1, 12, 8, .ro, 0, false⟩
  | .PWR_RAIL_PROT_CTRL_UNLATCH => ⟨.rail, 0x108, 0, 1, 0, 16, .wo, 0, false⟩
  | .PWR_RAIL_PROT_CNT_CTRL_CLEAR => ⟨.rail, 0x10c, 0, 1, 0, 1, .wo, 0, false⟩
  | .PWR_RAIL_PROT_CNT_CTRL_FREEZE => ⟨.rail, 0x10c, 0, 1, 1, 1, .rw, 0, false⟩
  | .PWR_RAIL_LIMITED_COUNT => ⟨.rail, 0x110, 0, 1, 0, 32, .ro, 0, false⟩
  | .PWR_RAIL_TRIPS_COUNT => ⟨.rail, 0x114, 0, 1, 0, 32, .ro, 0, false⟩
  | .PWR_RAIL_LATCHES_COUNT => ⟨.rail, 0x118, 0, 1, 0, 32, .ro, 0, false⟩
  | .PWR_RAIL_THERM_STOP_COUNT => ⟨.rail, 0x11c, 0, 1, 0, 32, .ro, 0, false⟩
  | .PWR_RAIL_REC_BYTES => ⟨.rail, 0x200, 4, 16, 0, 32, .ro, 0, true⟩
  | .PWR_IN_PROT_RIDE_MS => ⟨.pwr, 0x100, 0, 1, 0, 13, .rw, 500, false⟩
  | .PWR_IN_PROT_STATUS_UV => ⟨.pwr, 0x104, 0, 1, 0, 1, .ro, 0, false⟩
  | .PWR_IN_PROT_STATUS_OV => ⟨.pwr, 0x104, 0, 1, 1, 1, .ro, 0, false⟩
  | .PWR_IN_PROT_STATUS_RIDING => ⟨.pwr, 0x104, 0, 1, 2, 1, .ro, 0, false⟩
  | .PWR_IN_PROT_STATUS_INPUT_LOST => ⟨.pwr, 0x104, 0, 1, 3, 1, .ro, 0, false⟩
  | .PWR_IN_PROT_CNT_UV => ⟨.pwr, 0x108, 0, 1, 0, 16, .ro, 0, false⟩
  | .PWR_IN_PROT_CNT_OV => ⟨.pwr, 0x108, 0, 1, 16, 16, .ro, 0, false⟩
  | .PWR_REC_CTRL_CLEAR => ⟨.pwr, 0x110, 0, 1, 0, 16, .wo, 0, false⟩
  | .PWR_MOD_REC_BYTES => ⟨.pwr, 0x200, 4, 16, 0, 32, .ro, 0, true⟩
  | .BWR_STATUS_ISO => ⟨.bwr, 0x0, 0, 1, 0, 2, .ro, 0, false⟩
  | .BWR_STATUS_REGULATING => ⟨.bwr, 0x0, 0, 1, 2, 1, .ro, 0, false⟩
  | .BWR_STATUS_RECOVERY => ⟨.bwr, 0x0, 0, 1, 3, 1, .ro, 0, false⟩
  | .BWR_STATUS_AT_RESERVE => ⟨.bwr, 0x0, 0, 1, 4, 1, .ro, 0, false⟩
  | .BWR_STATUS_FULL => ⟨.bwr, 0x0, 0, 1, 5, 1, .ro, 0, false⟩
  | .BWR_STATUS_FLOOR_HELD => ⟨.bwr, 0x0, 0, 1, 6, 1, .ro, 0, false⟩
  | .BWR_STATUS_BALLAST => ⟨.bwr, 0x0, 0, 1, 7, 1, .ro, 0, false⟩
  | .BWR_STATUS_RESERVE_PACE => ⟨.bwr, 0x0, 0, 1, 8, 1, .ro, 0, false⟩
  | .BWR_STATUS_RIDING => ⟨.bwr, 0x0, 0, 1, 9, 1, .ro, 0, false⟩
  | .BWR_STATUS_DRAIN => ⟨.bwr, 0x0, 0, 1, 10, 1, .ro, 0, false⟩
  | .BWR_STATUS_LOCK_ERR => ⟨.bwr, 0x0, 0, 1, 11, 1, .w1c, 0, false⟩
  | .BWR_PACK_CELLS => ⟨.bwr, 0x4, 0, 1, 0, 5, .ro, 0, false⟩
  | .BWR_PACK_CF_VALID => ⟨.bwr, 0x4, 0, 1, 5, 1, .ro, 0, false⟩
  | .BWR_PACK_CELL_F => ⟨.bwr, 0x4, 0, 1, 8, 13, .rwl, 0, true⟩
  | .BWR_SOC_CFG_SOC_TARGET => ⟨.bwr, 0x8, 0, 1, 0, 7, .rw, 60, false⟩
  | .BWR_SOC_CFG_G_SOC => ⟨.bwr, 0x8, 0, 1, 8, 8, .rw, 20, false⟩
  | .BWR_SLEW_W_PER_S => ⟨.bwr, 0xc, 0, 1, 0, 16, .rw, 250, false⟩
  | .BWR_FLOOR_W => ⟨.bwr, 0x10, 0, 1, 0, 13, .rw, 0, false⟩
  | .BWR_FILTER_MS => ⟨.bwr, 0x14, 0, 1, 0, 16, .rw, 1000, false⟩
  | .BWR_SOC_PCT_X100 => ⟨.bwr, 0x20, 0, 1, 0, 14, .ro, 0, false⟩
  | .BWR_SOC_RES_X100 => ⟨.bwr, 0x20, 0, 1, 16, 14, .ro, 0, false⟩
  | .BWR_ENERGY_J => ⟨.bwr, 0x24, 0, 1, 0, 32, .ro, 0, false⟩
  | .BWR_E_USE_J => ⟨.bwr, 0x28, 0, 1, 0, 32, .ro, 0, false⟩
  | .BWR_PIN_SET_W => ⟨.bwr, 0x2c, 0, 1, 0, 16, .ro, 0, false⟩
  | .BWR_PIN_CAP_W => ⟨.bwr, 0x2c, 0, 1, 16, 16, .ro, 0, false⟩
  | .BWR_DEMAND_W => ⟨.bwr, 0x30, 0, 1, 0, 16, .ro, 0, false⟩
  | .BWR_DEMAND_DF_W => ⟨.bwr, 0x30, 0, 1, 16, 16, .ro, 0, false⟩
  | .BWR_BWC_CMD_W => ⟨.bwr, 0x34, 0, 1, 0, 16, .ro, 0, false⟩
  | .BWR_BWC_MEAS_W => ⟨.bwr, 0x34, 0, 1, 16, 16, .ro, 0, false⟩
  | .BWR_LIMITS_DIS_W => ⟨.bwr, 0x38, 0, 1, 0, 16, .ro, 0, false⟩
  | .BWR_LIMITS_CHG_W => ⟨.bwr, 0x38, 0, 1, 16, 16, .ro, 0, false⟩
  | .BWR_CAP_EST_F => ⟨.bwr, 0x3c, 0, 1, 0, 13, .ro, 0, false⟩
  | .BWR_TIDE_CFG_SRC_DIE => ⟨.bwr, 0x40, 0, 1, 0, 3, .rw, 0, false⟩
  | .BWR_TIDE_CFG_STEP_DIV => ⟨.bwr, 0x40, 0, 1, 4, 20, .rw, 1, false⟩
  | .BWR_TIDE_CFG_ENABLE => ⟨.bwr, 0x40, 0, 1, 31, 1, .rw, 1, false⟩
  | .BWR_TIDE_STATUS_PERIOD_US => ⟨.bwr, 0x44, 0, 1, 0, 24, .ro, 0, false⟩
  | .BWR_TIDE_STATUS_LOCKED => ⟨.bwr, 0x44, 0, 1, 24, 1, .ro, 0, false⟩
  | .BWR_TIDE_STATUS_RIPPLE => ⟨.bwr, 0x44, 0, 1, 25, 7, .ro, 0, false⟩
  | .BWR_TIDE_SEL_BIN => ⟨.bwr, 0x48, 0, 1, 0, 10, .rw, 0, false⟩
  | .BWR_TIDE_BIN_W => ⟨.bwr, 0x4c, 0, 1, 0, 16, .ro, 0, false⟩
  | .BWR_BALLAST_CFG_ENABLE => ⟨.bwr, 0x50, 0, 1, 0, 1, .rw, 1, false⟩
  | .BWR_BALLAST_STATUS_TILES => ⟨.bwr, 0x54, 0, 1, 0, 10, .ro, 0, false⟩
  | .BWR_BALLAST_STATUS_W => ⟨.bwr, 0x54, 0, 1, 16, 13, .ro, 0, false⟩
  | .BWR_CNT_CTRL_CLEAR => ⟨.bwr, 0x60, 0, 1, 0, 1, .wo, 0, false⟩
  | .BWR_CNT_CTRL_FREEZE => ⟨.bwr, 0x60, 0, 1, 1, 1, .rw, 0, false⟩
  | .BWR_BALLAST_J_J => ⟨.bwr, 0x64, 0, 1, 0, 64, .ro, 0, false⟩
  | .BWR_CHG_J_J => ⟨.bwr, 0x6c, 0, 1, 0, 32, .ro, 0, false⟩
  | .BWR_DIS_J_J => ⟨.bwr, 0x70, 0, 1, 0, 32, .ro, 0, false⟩
  | .BWR_FLOOR_BREAK_COUNT => ⟨.bwr, 0x74, 0, 1, 0, 32, .ro, 0, false⟩
  | .BWR_SLEW_BREAK_COUNT => ⟨.bwr, 0x78, 0, 1, 0, 32, .ro, 0, false⟩
  | .BWR_RESERVE_HITS_COUNT => ⟨.bwr, 0x7c, 0, 1, 0, 32, .ro, 0, false⟩
  | .CTE_STATUS_PILOT => ⟨.cte, 0x0, 0, 1, 0, 1, .ro, 0, false⟩
  | .CTE_STATUS_CORE_UP => ⟨.cte, 0x0, 0, 1, 1, 4, .ro, 0, false⟩
  | .CTE_STATUS_LOCK_ERR => ⟨.cte, 0x0, 0, 1, 5, 1, .w1c, 0, false⟩
  | .CTE_CNT_CTRL_CLEAR => ⟨.cte, 0x4, 0, 1, 0, 1, .wo, 0, false⟩
  | .CTE_CNT_CTRL_FREEZE => ⟨.cte, 0x4, 0, 1, 1, 1, .rw, 0, false⟩
  | .CTE_CP_SET_ID => ⟨.cte, 0x8, 0, 1, 0, 32, .ro, 0, true⟩
  | .CTE_PARAM_CTRL_COMMIT => ⟨.cte, 0xc, 0, 1, 0, 1, .wo, 0, false⟩
  | .CTE_PARAM_CTRL_DEFAULT => ⟨.cte, 0xc, 0, 1, 1, 1, .wo, 0, false⟩
  | .CTE_PARAM_STATUS_STORING => ⟨.cte, 0x10, 0, 1, 0, 1, .ro, 0, false⟩
  | .CTE_PARAM_STATUS_STORE_FAIL => ⟨.cte, 0x10, 0, 1, 1, 1, .w1c, 0, false⟩
  | .CTE_CORE_SEL_CORE => ⟨.cte, 0x20, 0, 1, 0, 2, .rw, 0, false⟩
  | .CTE_CORE_LOAD_PEAK => ⟨.cte, 0x24, 0, 1, 0, 8, .ro, 0, false⟩
  | .CTE_CORE_LOAD_MEAN => ⟨.cte, 0x24, 0, 1, 8, 8, .ro, 0, false⟩
  | .CTE_LOOP_SEL_LOOP => ⟨.cte, 0x40, 0, 1, 0, 5, .rw, 0, false⟩
  | .CTE_LOOP_CFG_PRESENT => ⟨.cte, 0x44, 0, 1, 0, 1, .ro, 0, false⟩
  | .CTE_LOOP_CFG_CLASS => ⟨.cte, 0x44, 0, 1, 1, 2, .ro, 0, false⟩
  | .CTE_LOOP_CFG_CORE => ⟨.cte, 0x44, 0, 1, 3, 2, .ro, 0, false⟩
  | .CTE_LOOP_CFG_OFFSET => ⟨.cte, 0x44, 0, 1, 5, 10, .ro, 0, false⟩
  | .CTE_LOOP_CTRL_AUTO => ⟨.cte, 0x48, 0, 1, 0, 1, .wo, 0, false⟩
  | .CTE_LOOP_CTRL_HOLD => ⟨.cte, 0x48, 0, 1, 1, 1, .wo, 0, false⟩
  | .CTE_LOOP_STATE_MODE => ⟨.cte, 0x4c, 0, 1, 0, 2, .ro, 0, false⟩
  | .CTE_LOOP_STATE_CAUSE => ⟨.cte, 0x4c, 0, 1, 2, 3, .ro, 0, false⟩
  | .CTE_LOOP_STATE_CONSEC => ⟨.cte, 0x4c, 0, 1, 5, 2, .ro, 0, false⟩
  | .CTE_LOOP_STATE_RAMP => ⟨.cte, 0x4c, 0, 1, 7, 1, .ro, 0, false⟩
  | .CTE_LOOP_RESID_R_F => ⟨.cte, 0x50, 0, 1, 0, 32, .ro, 0, false⟩
  | .CTE_LOOP_LAT_LAST => ⟨.cte, 0x54, 0, 1, 0, 16, .ro, 0, false⟩
  | .CTE_LOOP_LAT_MAX => ⟨.cte, 0x54, 0, 1, 16, 16, .ro, 0, false⟩
  | .CTE_LOOP_OVR_COUNT => ⟨.cte, 0x58, 0, 1, 0, 32, .ro, 0, false⟩
  | .CTE_LOOP_HOLDS_COUNT => ⟨.cte, 0x5c, 0, 1, 0, 32, .ro, 0, false⟩
  | .CTE_LOOP_RUNS_COUNT => ⟨.cte, 0x60, 0, 1, 0, 64, .ro, 0, false⟩
  | .CTE_PARAM_SEL_WORD => ⟨.cte, 0x100, 0, 1, 0, 10, .rw, 0, false⟩
  | .CTE_PARAM_STAGED_VALUE => ⟨.cte, 0x104, 0, 1, 0, 32, .rws, 0, true⟩
  | .CTE_PARAM_ACTIVE_VALUE => ⟨.cte, 0x108, 0, 1, 0, 32, .ro, 0, true⟩
  | .CTE_PARAM_MIN_VALUE => ⟨.cte, 0x10c, 0, 1, 0, 32, .ro, 0, false⟩
  | .CTE_PARAM_MAX_VALUE => ⟨.cte, 0x110, 0, 1, 0, 32, .ro, 0, false⟩
  | .CTE_CUST_CTRL_OPEN => ⟨.cte, 0x200, 0, 1, 0, 1, .wo, 0, false⟩
  | .CTE_CUST_CTRL_VERIFY => ⟨.cte, 0x200, 0, 1, 1, 1, .wo, 0, false⟩
  | .CTE_CUST_CTRL_ACTIVATE => ⟨.cte, 0x200, 0, 1, 2, 1, .wo, 0, false⟩
  | .CTE_CUST_CTRL_DISABLE => ⟨.cte, 0x200, 0, 1, 3, 1, .wo, 0, false⟩
  | .CTE_CUST_STATUS_STATE => ⟨.cte, 0x204, 0, 1, 0, 3, .ro, 0, false⟩
  | .CTE_CUST_STATUS_ERR => ⟨.cte, 0x204, 0, 1, 8, 8, .ro, 0, false⟩
  | .CTE_CUST_ADDR_OFFSET => ⟨.cte, 0x208, 0, 1, 0, 17, .rw, 0, false⟩
  | .CTE_CUST_DATA_BYTES => ⟨.cte, 0x20c, 0, 1, 0, 32, .wo, 0, false⟩
  | .CTE_CUST_ROLLBACK_COUNT => ⟨.cte, 0x210, 0, 1, 0, 32, .ro, 0, true⟩
  | .CTE_CUST_OUT_VALUE => ⟨.cte, 0x220, 4, 8, 0, 32, .ro, 0, false⟩
  | .CEL_STATUS_SCANNING => ⟨.cel, 0x0, 0, 1, 0, 1, .ro, 0, false⟩
  | .CEL_STATUS_MISMATCH => ⟨.cel, 0x0, 0, 1, 1, 1, .ro, 0, false⟩
  | .CEL_STATUS_OPEN_WIRE => ⟨.cel, 0x0, 0, 1, 2, 1, .ro, 0, false⟩
  | .CEL_STATUS_COMP_OV => ⟨.cel, 0x0, 0, 1, 3, 1, .ro, 0, false⟩
  | .CEL_STATUS_COMP_UV => ⟨.cel, 0x0, 0, 1, 4, 1, .ro, 0, false⟩
  | .CEL_STATUS_DERATE => ⟨.cel, 0x0, 0, 1, 5, 1, .ro, 0, false⟩
  | .CEL_STATUS_SELFTEST_FAIL => ⟨.cel, 0x0, 0, 1, 6, 1, .ro, 0, false⟩
  | .CEL_STATUS_LOCK_ERR => ⟨.cel, 0x0, 0, 1, 7, 1, .w1c, 0, false⟩
  | .CEL_CNT_CTRL_CLEAR => ⟨.cel, 0x4, 0, 1, 0, 1, .wo, 0, false⟩
  | .CEL_CNT_CTRL_FREEZE => ⟨.cel, 0x4, 0, 1, 1, 1, .rw, 0, false⟩
  | .CEL_BAL_CFG_ENABLE => ⟨.cel, 0x8, 0, 1, 0, 1, .rw, 1, false⟩
  | .CEL_BAL_CFG_MAX_CELLS => ⟨.cel, 0x8, 0, 1, 1, 4, .rw, 8, false⟩
  | .CEL_BAL_CFG_DELTA_MV => ⟨.cel, 0x8, 0, 1, 5, 7, .rw, 10, false⟩
  | .CEL_BAL_CFG_START_MV => ⟨.cel, 0x8, 0, 1, 16, 12, .rwl, 3500, false⟩
  | .CEL_COMP_UV_MV => ⟨.cel, 0xc, 0, 1, 0, 12, .rwl, 2050, false⟩
  | .CEL_COMP_OV_MV => ⟨.cel, 0xc, 0, 1, 16, 12, .rwl, 3950, false⟩
  | .CEL_STACK_MV => ⟨.cel, 0x10, 0, 1, 0, 16, .ro, 0, false⟩
  | .CEL_STACK_SUM_MV => ⟨.cel, 0x10, 0, 1, 16, 16, .ro, 0, false⟩
  | .CEL_STACK_TOL_MV => ⟨.cel, 0x14, 0, 1, 0, 8, .rw, 60, false⟩
  | .CEL_PACK_ID_OHM_X10 => ⟨.cel, 0x18, 0, 1, 0, 16, .ro, 0, false⟩
  | .CEL_PACK_ID_DECODE => ⟨.cel, 0x18, 0, 1, 16, 3, .ro, 0, false⟩
  | .CEL_ILK_CLOSED => ⟨.cel, 0x1c, 0, 1, 0, 1, .ro, 0, false⟩
  | .CEL_ILK_MA_X10 => ⟨.cel, 0x1c, 0, 1, 1, 8, .ro, 0, false⟩
  | .CEL_CELL_V => ⟨.cel, 0x40, 4, 16, 0, 16, .ro, 0, false⟩
  | .CEL_CELL_BAL => ⟨.cel, 0x40, 4, 16, 16, 1, .ro, 0, false⟩
  | .CEL_CELL_SUBST => ⟨.cel, 0x40, 4, 16, 17, 1, .ro, 0, false⟩
  | .CEL_CELL_OV_TRIP => ⟨.cel, 0x40, 4, 16, 18, 1, .ro, 0, false⟩
  | .CEL_CELL_UV_TRIP => ⟨.cel, 0x40, 4, 16, 19, 1, .ro, 0, false⟩
  | .CEL_TEMP_T => ⟨.cel, 0x80, 4, 4, 0, 16, .ro, 0, false⟩
  | .CEL_TEMP_FAILED => ⟨.cel, 0x80, 4, 4, 16, 1, .ro, 0, false⟩
  | .CEL_DERATE_DIS_PCT => ⟨.cel, 0x90, 0, 1, 0, 8, .ro, 0, false⟩
  | .CEL_DERATE_CHG_PCT => ⟨.cel, 0x90, 0, 1, 8, 8, .ro, 0, false⟩
  | .CEL_OW_TAPS => ⟨.cel, 0x94, 0, 1, 0, 17, .ro, 0, false⟩
  | .CEL_SLEEP_CFG_LO_MV => ⟨.cel, 0xa0, 0, 1, 0, 12, .rwl, 2100, false⟩
  | .CEL_SLEEP_CFG_HI_MV => ⟨.cel, 0xa0, 0, 1, 16, 12, .rwl, 3850, false⟩
  | .CEL_SLEEP_LOG_CELL => ⟨.cel, 0xa4, 0, 1, 0, 4, .ro, 0, false⟩
  | .CEL_SLEEP_LOG_MV => ⟨.cel, 0xa4, 0, 1, 4, 12, .ro, 0, false⟩
  | .CEL_SLEEP_LOG_VALID => ⟨.cel, 0xa4, 0, 1, 31, 1, .w1c, 0, false⟩
  | .CEL_SCANS_COUNT => ⟨.cel, 0xc0, 0, 1, 0, 32, .ro, 0, false⟩
  | .CEL_BAD_SCANS_COUNT => ⟨.cel, 0xc4, 0, 1, 0, 32, .ro, 0, false⟩
  | .CEL_OW_TESTS_COUNT => ⟨.cel, 0xc8, 0, 1, 0, 32, .ro, 0, false⟩
  | .CEL_BAL_MS_COUNT => ⟨.cel, 0xcc, 0, 1, 0, 32, .ro, 0, false⟩
  | .CAP_STATUS_LOCK_ERR => ⟨.cap, 0x0, 0, 1, 0, 1, .w1c, 0, false⟩
  | .CAP_STATUS_LIMIT_SRC => ⟨.cap, 0x0, 0, 1, 1, 3, .ro, 0, false⟩
  | .CAP_STATUS_FAST => ⟨.cap, 0x0, 0, 1, 4, 1, .ro, 0, false⟩
  | .CAP_STATUS_COOL_TRIP => ⟨.cap, 0x0, 0, 1, 5, 1, .ro, 0, false⟩
  | .CAP_STATUS_BOLLARD => ⟨.cap, 0x0, 0, 1, 6, 8, .ro, 0, false⟩
  | .CAP_STATUS_HOT => ⟨.cap, 0x0, 0, 1, 14, 8, .ro, 0, false⟩
  | .CAP_CNT_CTRL_CLEAR => ⟨.cap, 0x4, 0, 1, 0, 1, .wo, 0, false⟩
  | .CAP_CNT_CTRL_FREEZE => ⟨.cap, 0x4, 0, 1, 1, 1, .rw, 0, false⟩
  | .CAP_MOD_LIMIT_W => ⟨.cap, 0x8, 0, 1, 0, 13, .rw, 3600, false⟩
  | .CAP_RACK_W => ⟨.cap, 0xc, 0, 1, 0, 13, .rw, 0, false⟩
  | .CAP_FAST_LEVEL_W => ⟨.cap, 0x10, 0, 1, 0, 13, .rw, 2400, false⟩
  | .CAP_EFF_W => ⟨.cap, 0x14, 0, 1, 0, 13, .ro, 0, false⟩
  | .CAP_EFF_COOL_W => ⟨.cap, 0x14, 0, 1, 16, 13, .ro, 0, false⟩
  | .CAP_TERMS_THERM_W => ⟨.cap, 0x18, 0, 1, 0, 13, .ro, 0, false⟩
  | .CAP_TERMS_BERTH_W => ⟨.cap, 0x18, 0, 1, 16, 13, .ro, 0, false⟩
  | .CAP_FLOW_CFG_K_FACTOR => ⟨.cap, 0x1c, 0, 1, 0, 10, .rw, 100, false⟩
  | .CAP_COOL_TIN_X10 => ⟨.cap, 0x20, 0, 1, 0, 16, .ro, 0, false⟩
  | .CAP_COOL_TOUT_X10 => ⟨.cap, 0x20, 0, 1, 16, 16, .ro, 0, false⟩
  | .CAP_FLOW_LPM_X100 => ⟨.cap, 0x24, 0, 1, 0, 16, .ro, 0, false⟩
  | .CAP_FLOW_LOW => ⟨.cap, 0x24, 0, 1, 16, 1, .ro, 0, false⟩
  | .CAP_MEMB_RATIO => ⟨.cap, 0x28, 0, 1, 0, 16, .rw, 26214, false⟩
  | .CAP_MEMB_ENABLE => ⟨.cap, 0x28, 0, 1, 16, 1, .rw, 0, false⟩
  | .CAP_BOLLARD_CLEAR => ⟨.cap, 0x2c, 0, 1, 0, 16, .wo, 0, false⟩
  | .CAP_ETA_PERMIL => ⟨.cap, 0x30, 0, 1, 0, 10, .ro, 0, false⟩
  | .CAP_SHARE_W => ⟨.cap, 0x40, 4, 8, 0, 13, .ro, 0, false⟩
  | .CAP_SHARE_CODE => ⟨.cap, 0x40, 4, 8, 16, 8, .ro, 0, false⟩
  | .CAP_SHARE_STAGE => ⟨.cap, 0x40, 4, 8, 24, 3, .ro, 0, false⟩
  | .CAP_DIE_P_W => ⟨.cap, 0x60, 4, 8, 0, 13, .ro, 0, false⟩
  | .CAP_DIE_J_J => ⟨.cap, 0x80, 8, 8, 0, 64, .ro, 0, false⟩
  | .CAP_LEARN_SEL_BERTH => ⟨.cap, 0xc0, 0, 1, 0, 3, .rw, 0, false⟩
  | .CAP_LEARN_SEL_ID => ⟨.cap, 0xc0, 0, 1, 8, 8, .rw, 0, false⟩
  | .CAP_LEARN_P_W => ⟨.cap, 0xc4, 0, 1, 0, 13, .ro, 0, false⟩
  | .CAP_LEARN_DUR_US => ⟨.cap, 0xc4, 0, 1, 16, 16, .ro, 0, false⟩
  | .CAP_AGE_STEP => ⟨.cap, 0x100, 4, 8, 0, 4, .ro, 0, true⟩
  | .CAP_AGE_MAX_CODE => ⟨.cap, 0x100, 4, 8, 8, 6, .ro, 0, true⟩
  | .CAP_AGE_LOWERED => ⟨.cap, 0x100, 4, 8, 14, 1, .ro, 0, true⟩
  | .CAP_AGE_AGE_H => ⟨.cap, 0x100, 4, 8, 16, 16, .ro, 0, false⟩
  | .CAP_AGE_CFG_PERIOD_H => ⟨.cap, 0x120, 0, 1, 0, 8, .rw, 1, false⟩
  | .CAP_VT_SEL_DIE => ⟨.cap, 0x124, 0, 1, 0, 3, .rw, 0, false⟩
  | .CAP_VT_SEL_CODE => ⟨.cap, 0x124, 0, 1, 8, 6, .rw, 0, false⟩
  | .CAP_VT_VENDOR_MV => ⟨.cap, 0x128, 0, 1, 0, 10, .ro, 0, true⟩
  | .CAP_VT_APPLIED_MV => ⟨.cap, 0x128, 0, 1, 16, 10, .ro, 0, true⟩
  | .CAP_VT_VERSION_VERSION => ⟨.cap, 0x12c, 0, 1, 0, 32, .ro, 0, true⟩
  | .CAP_AGE_STATUS_TABLE_OK => ⟨.cap, 0x130, 0, 1, 0, 1, .ro, 0, false⟩
  | .CAP_AGE_STATUS_FALLBACK => ⟨.cap, 0x130, 0, 1, 1, 1, .ro, 0, false⟩
  | .CAP_THERM_PACE_COUNT => ⟨.cap, 0x140, 0, 1, 0, 32, .ro, 0, false⟩
  | .CAP_BOLLARD_TRIPS_COUNT => ⟨.cap, 0x144, 0, 1, 0, 32, .ro, 0, false⟩
  | .CAP_PARKS_COUNT => ⟨.cap, 0x148, 0, 1, 0, 32, .ro, 0, false⟩
  | .PLT_STATUS_ACTIVE => ⟨.plt, 0x0, 0, 1, 0, 1, .ro, 0, false⟩
  | .PLT_STATUS_STANDBY => ⟨.plt, 0x0, 0, 1, 1, 2, .ro, 0, false⟩
  | .PLT_STATUS_REDUNDANT => ⟨.plt, 0x0, 0, 1, 3, 1, .ro, 0, false⟩
  | .PLT_STATUS_HANDOVER => ⟨.plt, 0x0, 0, 1, 4, 1, .ro, 0, false⟩
  | .PLT_STATUS_HMA_OK => ⟨.plt, 0x0, 0, 1, 5, 1, .ro, 1, false⟩
  | .PLT_STATUS_SW_REFUSED => ⟨.plt, 0x0, 0, 1, 6, 1, .w1c, 0, false⟩
  | .PLT_STATUS_HELD_A => ⟨.plt, 0x0, 0, 1, 7, 1, .ro, 0, false⟩
  | .PLT_STATUS_HELD_B => ⟨.plt, 0x0, 0, 1, 8, 1, .ro, 0, false⟩
  | .PLT_CFG_AUTO_RETURN => ⟨.plt, 0x4, 0, 1, 0, 1, .rw, 1, false⟩
  | .PLT_CTRL_SWITCH => ⟨.plt, 0x8, 0, 1, 0, 16, .wo, 0, false⟩
  | .PLT_CNT_CTRL_CLEAR => ⟨.plt, 0xc, 0, 1, 0, 1, .wo, 0, false⟩
  | .PLT_CNT_CTRL_FREEZE => ⟨.plt, 0xc, 0, 1, 1, 1, .rw, 0, false⟩
  | .PLT_SWITCHOVERS_COUNT => ⟨.plt, 0x10, 0, 1, 0, 32, .ro, 0, false⟩
  | .PLT_HANDOVERS_COUNT => ⟨.plt, 0x14, 0, 1, 0, 32, .ro, 0, false⟩
  | .PLT_COPY_ERR_CRC => ⟨.plt, 0x18, 0, 1, 0, 16, .ro, 0, false⟩
  | .PLT_COPY_ERR_ALIVE => ⟨.plt, 0x18, 0, 1, 16, 16, .ro, 0, false⟩
  | .PLT_FORCED_A => ⟨.plt, 0x1c, 0, 1, 0, 16, .ro, 0, false⟩
  | .PLT_FORCED_B => ⟨.plt, 0x1c, 0, 1, 16, 16, .ro, 0, false⟩
  | .PLT_LAST_CAUSE_CODE => ⟨.plt, 0x20, 0, 1, 0, 3, .ro, 0, false⟩
  | .PLT_LAST_CAUSE_PILOT => ⟨.plt, 0x20, 0, 1, 3, 1, .ro, 0, false⟩
  | .PLT_GAP_LAST => ⟨.plt, 0x24, 0, 1, 0, 16, .ro, 0, false⟩
  | .PLT_GAP_MAX => ⟨.plt, 0x24, 0, 1, 16, 16, .ro, 0, false⟩
  | .PLT_OVERLAP_LAST => ⟨.plt, 0x28, 0, 1, 0, 16, .ro, 0, false⟩
  | .PLT_SYNC_MS_MS => ⟨.plt, 0x2c, 0, 1, 0, 16, .ro, 0, false⟩
  | .HPL_STATE_STATE => ⟨.hpl, 0x0, 0, 1, 0, 3, .ro, 0, false⟩
  | .HPL_STATE_TRIGGER => ⟨.hpl, 0x0, 0, 1, 3, 2, .ro, 0, false⟩
  | .HPL_STATE_DRAIN_SRC => ⟨.hpl, 0x0, 0, 1, 5, 2, .ro, 0, false⟩
  | .HPL_STATE_LOCK_ERR => ⟨.hpl, 0x0, 0, 1, 7, 1, .w1c, 0, false⟩
  | .HPL_STATE_REFUSED => ⟨.hpl, 0x0, 0, 1, 8, 1, .w1c, 0, false⟩
  | .HPL_CTRL_KEY => ⟨.hpl, 0x4, 0, 1, 0, 16, .wo, 0, false⟩
  | .HPL_CFG_BTN_EN => ⟨.hpl, 0x8, 0, 1, 0, 1, .rw, 1, false⟩
  | .HPL_CFG_LOCATE => ⟨.hpl, 0x8, 0, 1, 1, 1, .rw, 0, false⟩
  | .HPL_CFG_QUIESCE_S => ⟨.hpl, 0x8, 0, 1, 2, 10, .rw, 30, false⟩
  | .HPL_CFG_DISCH_S => ⟨.hpl, 0x8, 0, 1, 12, 12, .rw, 300, false⟩
  | .HPL_ELAPSED_MS => ⟨.hpl, 0xc, 0, 1, 0, 16, .ro, 0, false⟩
  | .HPL_COUNT_DRAINS => ⟨.hpl, 0x10, 0, 1, 0, 16, .ro, 0, false⟩
  | .HPL_COUNT_SURPRISES => ⟨.hpl, 0x10, 0, 1, 16, 16, .ro, 0, false⟩
  | .LOG_STATUS_LOCK_ERR => ⟨.log, 0x0, 0, 1, 0, 1, .w1c, 0, false⟩
  | .LOG_STATUS_FLUSHING => ⟨.log, 0x0, 0, 1, 1, 1, .ro, 0, false⟩
  | .LOG_STATUS_FLASH_FAIL => ⟨.log, 0x0, 0, 1, 2, 1, .w1c, 0, false⟩
  | .LOG_CTRL_FLUSH => ⟨.log, 0x4, 0, 1, 0, 1, .wo, 0, false⟩
  | .LOG_OLDEST_SEQ => ⟨.log, 0x8, 0, 1, 0, 32, .ro, 0, false⟩
  | .LOG_NEWEST_SEQ => ⟨.log, 0xc, 0, 1, 0, 32, .ro, 0, false⟩
  | .LOG_FLUSHED_SEQ => ⟨.log, 0x10, 0, 1, 0, 32, .ro, 0, false⟩
  | .LOG_CURSOR_SEQ => ⟨.log, 0x14, 0, 1, 0, 32, .rw, 0, false⟩
  | .LOG_WIN_STATE_VALID => ⟨.log, 0x18, 0, 1, 0, 1, .ro, 0, false⟩
  | .LOG_WIN_STATE_BUSY => ⟨.log, 0x18, 0, 1, 1, 1, .ro, 0, false⟩
  | .LOG_WIN_STATE_GAP => ⟨.log, 0x18, 0, 1, 2, 1, .ro, 0, false⟩
  | .LOG_WIN_STATE_END => ⟨.log, 0x18, 0, 1, 3, 1, .ro, 0, false⟩
  | .LOG_WIN_STATE_FLASH => ⟨.log, 0x18, 0, 1, 4, 1, .ro, 0, false⟩
  | .LOG_WIN_BYTES => ⟨.log, 0x20, 4, 8, 0, 32, .ro, 0, false⟩
  | .LOG_QUEUE_DEPTH => ⟨.log, 0x40, 0, 1, 0, 7, .ro, 0, false⟩
  | .LOG_QUEUE_HANDLING => ⟨.log, 0x40, 0, 1, 8, 3, .ro, 0, false⟩
  | .LOG_QUEUE_ACTIVE => ⟨.log, 0x40, 0, 1, 11, 1, .ro, 0, false⟩
  | .LOG_QUEUE_OVERFLOW => ⟨.log, 0x40, 0, 1, 16, 16, .ro, 0, false⟩
  | .LOG_UNREAD_COUNT => ⟨.log, 0x44, 0, 1, 0, 12, .ro, 0, false⟩
  | .LOG_LATCHED_COUNT => ⟨.log, 0x48, 0, 1, 0, 8, .ro, 0, false⟩
  | .LOG_LOST_COUNT => ⟨.log, 0x4c, 0, 1, 0, 32, .ro, 0, false⟩
  | .CVU_STATUS_LOCK_ERR => ⟨.cvu, 0x0, 0, 1, 0, 1, .w1c, 0, false⟩
  | .CVU_CNT_CTRL_CLEAR => ⟨.cvu, 0x4, 0, 1, 0, 1, .wo, 0, false⟩
  | .CVU_CNT_CTRL_FREEZE => ⟨.cvu, 0x4, 0, 1, 1, 1, .rw, 0, false⟩
  | .CVU_U_CFG_WIDTH_M1 => ⟨.cvuu, 0x0, 0, 1, 0, 6, .rwl, 0, false⟩
  | .CVU_U_CFG_REFIN => ⟨.cvuu, 0x0, 0, 1, 6, 1, .rwl, 0, false⟩
  | .CVU_U_CFG_REFOUT => ⟨.cvuu, 0x0, 0, 1, 7, 1, .rwl, 0, false⟩
  | .CVU_U_CFG_XOROUT => ⟨.cvuu, 0x0, 0, 1, 8, 1, .rwl, 0, false⟩
  | .CVU_U_CFG_ORDER => ⟨.cvuu, 0x0, 0, 1, 9, 1, .rwl, 0, false⟩
  | .CVU_U_CFG_ALIVE => ⟨.cvuu, 0x0, 0, 1, 10, 2, .rwl, 0, false⟩
  | .CVU_U_CFG_ALIVE_KEY => ⟨.cvuu, 0x0, 0, 1, 12, 1, .rwl, 0, false⟩
  | .CVU_U_CFG_ALIVE_SHIFT => ⟨.cvuu, 0x0, 0, 1, 13, 3, .rwl, 0, false⟩
  | .CVU_U_CFG_ALIVE_OFF => ⟨.cvuu, 0x0, 0, 1, 16, 8, .rwl, 0, false⟩
  | .CVU_U_CFG_FEED_N => ⟨.cvuu, 0x0, 0, 1, 24, 3, .rw, 4, false⟩
  | .CVU_U_BIND_STREAM => ⟨.cvuu, 0x4, 0, 1, 0, 3, .rwl, 0, false⟩
  | .CVU_U_BIND_MODE => ⟨.cvuu, 0x4, 0, 1, 3, 2, .rwl, 0, false⟩
  | .CVU_U_POLY_POLY => ⟨.cvuu, 0x8, 0, 1, 0, 64, .rwl, 0, false⟩
  | .CVU_U_INIT_INIT => ⟨.cvuu, 0x10, 0, 1, 0, 64, .rwl, 0, false⟩
  | .CVU_U_CTRL_START => ⟨.cvuu, 0x18, 0, 1, 0, 1, .wo, 0, false⟩
  | .CVU_U_DATA_BYTES => ⟨.cvuu, 0x1c, 0, 1, 0, 32, .wo, 0, false⟩
  | .CVU_U_RESULT_VALUE => ⟨.cvuu, 0x20, 0, 1, 0, 64, .ro, 0, false⟩
  | .CVU_U_PASS_COUNT => ⟨.cvuu, 0x28, 0, 1, 0, 32, .ro, 0, false⟩
  | .CVU_U_FAIL_COUNT => ⟨.cvuu, 0x2c, 0, 1, 0, 32, .ro, 0, false⟩
  | .CVU_U_REPEAT_COUNT => ⟨.cvuu, 0x30, 0, 1, 0, 32, .ro, 0, false⟩
  | .SEC_STATUS_LOCK_ERR => ⟨.sec, 0x0, 0, 1, 0, 1, .w1c, 0, false⟩
  | .SEC_STATUS_OWNED => ⟨.sec, 0x0, 0, 1, 1, 1, .ro, 0, true⟩
  | .SEC_STATUS_ID_OK => ⟨.sec, 0x0, 0, 1, 2, 1, .ro, 0, false⟩
  | .SEC_STATUS_RB_OK => ⟨.sec, 0x0, 0, 1, 3, 1, .ro, 0, false⟩
  | .SEC_SERIAL_SERIAL => ⟨.sec, 0x4, 0, 1, 0, 64, .ro, 0, true⟩
  | .SEC_RB_SEL_INDEX => ⟨.sec, 0x10, 0, 1, 0, 4, .rw, 0, false⟩
  | .SEC_RB_VAL_COUNT => ⟨.sec, 0x14, 0, 1, 0, 32, .ro, 0, true⟩
  | .SEC_PKG_CTRL_OPEN => ⟨.sec, 0x20, 0, 1, 0, 1, .wo, 0, false⟩
  | .SEC_PKG_CTRL_VERIFY => ⟨.sec, 0x20, 0, 1, 1, 1, .wo, 0, false⟩
  | .SEC_PKG_CTRL_ACTIVATE => ⟨.sec, 0x20, 0, 1, 2, 1, .wo, 0, false⟩
  | .SEC_PKG_STATUS_STATE => ⟨.sec, 0x24, 0, 1, 0, 3, .ro, 0, false⟩
  | .SEC_PKG_STATUS_KIND => ⟨.sec, 0x24, 0, 1, 3, 2, .ro, 0, false⟩
  | .SEC_PKG_STATUS_ERR => ⟨.sec, 0x24, 0, 1, 8, 8, .ro, 0, false⟩
  | .SEC_PKG_ADDR_OFFSET => ⟨.sec, 0x28, 0, 1, 0, 23, .rw, 0, false⟩
  | .SEC_PKG_DATA_BYTES => ⟨.sec, 0x2c, 0, 1, 0, 32, .wo, 0, false⟩
  | .SEC_OWNER_CTRL_KEY => ⟨.sec, 0x40, 0, 1, 0, 16, .wo, 0, false⟩
  | .SEC_OWNER_STATUS_ERR => ⟨.sec, 0x44, 0, 1, 0, 8, .ro, 0, false⟩
  | .SEC_OWNER_NEW_BYTES => ⟨.sec, 0x48, 4, 15, 0, 32, .wo, 0, false⟩
  | .SEC_OWNER_POP_BYTES => ⟨.sec, 0x88, 4, 29, 0, 32, .wo, 0, false⟩
  | .SEC_CERT_BYTES => ⟨.sec, 0x200, 4, 68, 0, 32, .ro, 0, true⟩
  | .SEC_OWNER_KEY_BYTES => ⟨.sec, 0x310, 4, 15, 0, 32, .ro, 0, true⟩
  | .MOD_ID_DEVICE => ⟨.mod, 0x0, 0, 1, 0, 16, .ro, 35329, false⟩
  | .MOD_ID_CARRIER_REV => ⟨.mod, 0x0, 0, 1, 16, 8, .ro, 0, true⟩
  | .MOD_SLOT_SLOT => ⟨.mod, 0x4, 0, 1, 0, 4, .ro, 0, false⟩

/-- Fields of block mod, part 0. -/
def fields_mod_0 : List Fld :=
  [.MOD_READY_SUP, .MOD_READY_LOG, .MOD_READY_RG_BOOT, .MOD_READY_RG_IB, .MOD_READY_RG_NET, .MOD_READY_RG_QUAY, .MOD_READY_RG_CORE, .MOD_READY_CTE, .MOD_READY_CEL, .MOD_READY_BWR, .MOD_READY_PORT0, .MOD_READY_PORT1, .MOD_READY_PTP, .MOD_READY_FWY, .MOD_READY_RHD, .MOD_READY_FWV, .MOD_READY_CD, .MOD_READY_QD, .MOD_READY_HI_HBM, .MOD_ID_DEVICE, .MOD_ID_CARRIER_REV, .MOD_SLOT_SLOT]

/-- Fields of block rst, part 0. -/
def fields_rst_0 : List Fld :=
  [.RST_CAUSE_POR, .RST_CAUSE_BOR, .RST_CAUSE_HOTPLUG, .RST_CAUSE_RESET_IN, .RST_CAUSE_WDG_A, .RST_CAUSE_WDG_B, .RST_CAUSE_HMA_A, .RST_CAUSE_HMA_B, .RST_CAUSE_BAMPOR, .RST_CAUSE_DELAYED, .RST_REQ_MAP_MAP, .RST_REQ_KEY, .RST_HOLD_HOLD, .RST_IN_RESET_STATE, .RST_CLK_GOOD_GOOD, .RST_STATUS_REL_REFUSED, .RST_STATUS_REQ_REFUSED, .RST_STATUS_LOCK_ERR, .RST_STATUS_FLASH_DELAYED, .RST_STATUS_REFUSE_CODE, .RST_STATUS_REFUSE_DOMAIN, .RST_STATUS_LAST_DELAY_US]

/-- Fields of block cdc, part 0. -/
def fields_cdc_0 : List Fld :=
  [.CDC_ID_DIE, .CDC_ID_REV, .CDC_ID_TILES, .CDC_STATUS_IMAGE_VALID, .CDC_STATUS_RUNNING, .CDC_STATUS_LOCK_ERR, .CDC_STATUS_SENSOR_FAIL, .CDC_GANGS_COUNT, .CDC_TILE_SEL_TILE, .CDC_TILE_INFO_GANG, .CDC_TILE_INFO_SHAPE, .CDC_TILE_INFO_GY, .CDC_TILE_INFO_GX, .CDC_TILE_INFO_BALLAST_OK, .CDC_TEMP_MAX_TEMP, .CDC_TEMP_MAX_SENSOR, .CDC_TEMP_TEMP, .CDC_TEMP_FAILED, .CDC_SENT_SEL_SENTINEL, .CDC_SENT_VAL_VALUE, .CDC_SENT_VAL_VALID, .CDC_SENT_BASE_VALUE, .CDC_CNT_CTRL_CLEAR, .CDC_CNT_CTRL_FREEZE, .CDC_MATRIX_BUSY_COUNT, .CDC_BALLAST_BUSY_COUNT, .CDC_VECTOR_BUSY_COUNT, .CDC_CONFLICT_STALL_COUNT, .CDC_EXT_WAIT_COUNT, .CDC_FMT_CNT_CTRL_CLEAR, .CDC_FMT_CNT_CTRL_FREEZE, .CDC_SR_SEED_SEED, .CDC_DEMOTE_REQ, .CDC_DEMOTE_ACTIVE, .CDC_CONV_SAT_COUNT, .CDC_CONV_NAN_COUNT, .CDC_MX_SPLIT_COUNT, .CDC_WIDE_SPILL_COUNT, .CDC_ACC_SPECIAL_COUNT, .CDC_DEMOTE_STEPS_COUNT, .CDC_STREAM_CTRL_START, .CDC_STREAM_CTRL_STOP, .CDC_STREAM_CTRL_RESUME, .CDC_STREAM_ENTRY_INDEX, .CDC_STEP_INIT_STEP, .CDC_STREAM_STATE_STATE, .CDC_STREAM_STATE_STALLED, .CDC_STREAM_STATE_FRAME_WAIT, .CDC_STREAM_STATE_PARK_REQ, .CDC_PC_INDEX, .CDC_STEP_STEP, .CDC_FAULT_SLOT_CODE, .CDC_FAULT_SLOT_SLOT, .CDC_FAULT_SLOT_VALID, .CDC_FAULT_SLOT_INDEX, .CDC_ERR_SLOT_STATUS, .CDC_ERR_SLOT_TALLY, .CDC_ERR_SLOT_KIND, .CDC_ERR_SLOT_VALID, .CDC_ERR_SLOT_MORE]

/-- Fields of block cdc, part 1. -/
def fields_cdc_1 : List Fld :=
  [.CDC_INFLIGHT_REQ, .CDC_INFLIGHT_PEAK, .CDC_STR_CNT_CTRL_CLEAR, .CDC_STR_CNT_CTRL_FREEZE, .CDC_ENABLED_COUNT, .CDC_STALL_MEM_COUNT, .CDC_STALL_COLL_COUNT, .CDC_STALL_FETCH_COUNT, .CDC_STALL_BUSY_COUNT, .CDC_STALL_EVQ_COUNT, .CDC_FRAME_WAIT_COUNT, .CDC_FRAME_ABANDON_COUNT, .CDC_HINT_DROP_COUNT, .CDC_SYNCPT_COUNT_COUNT, .CDC_TALLY_T_LO, .CDC_TALLY_T_HI, .CDC_PACE_DUTY, .CDC_PACE_DOMAIN, .CDC_PACE_THERMAL, .CDC_PACE_RESERVE, .CDC_FRAME_PERIOD_US, .CDC_LOOP_COUNT, .CDC_MEM_ERR_CORR, .CDC_MEM_ERR_UNCORR, .CDC_MEM_ERR_LOC_OFFSET, .CDC_MEM_ERR_LOC_WHERE, .CDC_MEM_ERR_TILE_TILE, .CDC_MEM_ERR_TILE_VALID]

/-- Fields of block bth, part 0. -/
def fields_bth_0 : List Fld :=
  [.BTH_IMG_CTRL_OPEN, .BTH_IMG_CTRL_COMMIT, .BTH_IMG_CTRL_ABORT, .BTH_IMG_LOAD_ID_ID, .BTH_IMG_STATE_STATE, .BTH_IMG_STATE_KIND, .BTH_IMG_STATE_BERTH, .BTH_IMG_STATE_ERR, .BTH_IMG_STATE_ERR_SECTION, .BTH_IMG_FRAMES_RECEIVED, .BTH_IMG_FRAMES_EXPECTED, .BTH_IMG_FRAME_ERR_CRC, .BTH_IMG_FRAME_ERR_OTHER, .BTH_IMG_STATUS_LOCK_ERR, .BTH_IMG_STATUS_RESTORE_FAIL, .BTH_COMMITTED_BERTHS, .BTH_COMMITTED_RESTORED, .BTH_FREE_DIES, .BTH_FREE_QUAYS]

/-- Fields of block sec, part 0. -/
def fields_sec_0 : List Fld :=
  [.SEC_MAN_SEL_BERTH, .SEC_MAN_SEL_KIND, .SEC_MAN_TAG_TAG, .SEC_MAN_VT_VT_VERSION, .SEC_MAN_CP_CP_SET, .SEC_MAN_FW_FW_VERSION, .SEC_MAN_DIGEST_BYTES, .SEC_RB_IMG_FULL_COUNT, .SEC_RB_IMG_B_COUNT, .SEC_STATUS_LOCK_ERR, .SEC_STATUS_OWNED, .SEC_STATUS_ID_OK, .SEC_STATUS_RB_OK, .SEC_SERIAL_SERIAL, .SEC_RB_SEL_INDEX, .SEC_RB_VAL_COUNT, .SEC_PKG_CTRL_OPEN, .SEC_PKG_CTRL_VERIFY, .SEC_PKG_CTRL_ACTIVATE, .SEC_PKG_STATUS_STATE, .SEC_PKG_STATUS_KIND, .SEC_PKG_STATUS_ERR, .SEC_PKG_ADDR_OFFSET, .SEC_PKG_DATA_BYTES, .SEC_OWNER_CTRL_KEY, .SEC_OWNER_STATUS_ERR, .SEC_OWNER_NEW_BYTES, .SEC_OWNER_POP_BYTES, .SEC_CERT_BYTES, .SEC_OWNER_KEY_BYTES]

/-- Fields of block qdc, part 0. -/
def fields_qdc_0 : List Fld :=
  [.QDC_ID_DIE, .QDC_ID_REV, .QDC_ID_TUGS, .QDC_STATUS_LOCK_ERR, .QDC_STATUS_SCRUB_ACTIVE, .QDC_STATUS_CACHE_WB, .QDC_HBM_CFG_RATE_MAX, .QDC_HBM_STATUS_TRAINED, .QDC_HBM_STATUS_RATE, .QDC_HBM_STATUS_SELF_REFRESH, .QDC_HBM_STATUS_HOT, .QDC_HBM_STATUS_SLOWED, .QDC_HBM_STATUS_TEMP, .QDC_SCRUB_CFG_ENABLE, .QDC_SCRUB_CFG_PERIOD_H, .QDC_SCRUB_PASS_COUNT, .QDC_HBM_ECC_CORR, .QDC_HBM_ECC_UNCORR, .QDC_SRAM_ECC_CORR, .QDC_SRAM_ECC_UNCORR, .QDC_UE_ADDR_LO_OFFSET, .QDC_UE_ADDR_HI_OFFSET, .QDC_UE_ADDR_HI_STACK, .QDC_UE_ADDR_HI_WHERE, .QDC_UE_ADDR_HI_SOURCE, .QDC_UE_ADDR_HI_BERTH, .QDC_UE_ADDR_HI_REGION, .QDC_UE_ADDR_HI_VALID, .QDC_TUG_SEL_TUG, .QDC_TUG_INFO_QUEUED, .QDC_TUG_INFO_OUTSTANDING, .QDC_TUG_INFO_ACTIVE, .QDC_TUG_INFO_OWNED, .QDC_TUG_INFO_BERTH, .QDC_CNT_CTRL_CLEAR, .QDC_CNT_CTRL_FREEZE, .QDC_HBM0_RD_COUNT, .QDC_HBM0_WR_COUNT, .QDC_HBM1_RD_COUNT, .QDC_HBM1_WR_COUNT, .QDC_HBM0_BUSY_COUNT, .QDC_HBM1_BUSY_COUNT, .QDC_CACHE_HIT_COUNT, .QDC_CACHE_MISS_COUNT, .QDC_TUG_OUT_MAX_PEAK]

/-- Fields of block fwy, part 0. -/
def fields_fwy_0 : List Fld :=
  [.FWY_STATUS_LINKS_UP, .FWY_STATUS_DOWN, .FWY_CNT_CTRL_CLEAR, .FWY_CNT_CTRL_FREEZE, .FWY_CYCLES_COUNT, .FWY_TIMEOUT_US, .FWY_BERTH_WEIGHT_WEIGHT, .FWY_SAT_LO_LINK, .FWY_SAT_HI_LINK, .FWY_LINK_SEL_LINK, .FWY_LINK_SEL_DIR, .FWY_LINK_STATUS_UP, .FWY_LINK_STATUS_FULL, .FWY_LINK_STATUS_ACTIVE, .FWY_LINK_STATUS_RETIRED, .FWY_LINK_FLITS_COUNT, .FWY_LINK_CREDIT_STALL_COUNT, .FWY_LINK_WAIT_MAX_CYCLES, .FWY_LINK_RETRY_COUNT, .FWY_LINK_TIMEOUT_COUNT, .FWY_LINK_BERTH_COUNT]

/-- Fields of block net, part 0. -/
def fields_net_0 : List Fld :=
  [.NET_STATUS_LOCK_ERR, .NET_STATUS_SESSIONS, .NET_CNT_CTRL_CLEAR, .NET_CNT_CTRL_FREEZE, .NET_UDP_PORTS_BAMPOR, .NET_UDP_PORTS_TIDEMARK, .NET_CC_CUT, .NET_CC_STEP, .NET_PTP_CFG_SRC, .NET_PTP_CFG_AUTO, .NET_PTP_CFG_DOMAIN, .NET_PTP_STATUS_STATE, .NET_PTP_STATUS_SRC, .NET_PTP_OFFSET_NS, .NET_MGMT_VLAN_VID, .NET_MGMT_IPV4_ADDR, .NET_MGMT_IPV6_ADDR, .NET_BP_DROP_COUNT, .NET_TM_DROP_COUNT, .NET_QP_SEL_QP, .NET_QP_CTRL_STATE, .NET_QP_PORT_PORT, .NET_QP_PORT_SUB, .NET_QP_PORT_PMTU, .NET_QP_PORT_PRIO, .NET_QP_PORT_TIMEOUT, .NET_QP_PORT_RNR, .NET_QP_DEST_QPN_QPN, .NET_QP_DEST_IP_ADDR, .NET_QP_DMAC_LO_MAC, .NET_QP_DMAC_HI_MAC, .NET_QP_RKEY_RKEY, .NET_QP_SQ_PSN_PSN, .NET_QP_RQ_PSN_PSN, .NET_QP_RQ_BASE_LO_ADDR, .NET_QP_RQ_BASE_HI_ADDR, .NET_QP_RQ_CFG_RQ_LOG, .NET_QP_RQ_CFG_CONS, .NET_GRP_SEL_GROUP, .NET_GRP_SEL_POS, .NET_GRP_CFG_SIZE_M1, .NET_GRP_CFG_BERTH, .NET_GRP_CFG_TIMEOUT_MS, .NET_GRP_ENTRY_QP, .NET_GRP_ENTRY_MEMBER, .NET_GRP_ENTRY_SELF, .NET_GRP_ENTRY_VALID]

/-- Fields of block port, part 0. -/
def fields_port_0 : List Fld :=
  [.NET_P_CFG_MODE, .NET_P_CFG_AN, .NET_P_CFG_POL, .NET_P_LINK_UP, .NET_P_LINK_LOCK, .NET_P_PFC_ENABLE, .NET_P_PFC_XOFF_KIB, .NET_P_ETS_LO_W0_to_W3, .NET_P_ETS_HI_W4_to_W6, .NET_P_PRIO_MAP, .NET_P_FEC_CORR_COUNT, .NET_P_FEC_UNCORR_COUNT, .NET_P_PFC_TX_COUNT, .NET_P_PFC_RX_COUNT, .NET_P_CE_RX_COUNT, .NET_P_CNP_RX_COUNT, .NET_P_DROP_COUNT, .NET_P_TX_COUNT, .NET_P_RX_COUNT, .NET_P_SAT_COUNT]

/-- Fields of block rhd, part 0. -/
def fields_rhd_0 : List Fld :=
  [.RHD_STATUS_LOCK_ERR, .RHD_CNT_CTRL_CLEAR, .RHD_CNT_CTRL_FREEZE, .RHD_MEMBER_SEL_BERTH, .RHD_MEMBER_SEL_INDEX, .RHD_MEMBER_INFO_VALID, .RHD_MEMBER_INFO_TAG_OK, .RHD_MEMBER_INFO_REQUESTING, .RHD_MEMBER_INFO_MISSED, .RHD_MEMBER_INFO_DUTY, .RHD_MEMBER_INFO_RATE, .RHD_MEMBER_SKEW_SKEW]

/-- Fields of block rhdb, part 0. -/
def fields_rhdb_0 : List Fld :=
  [.RHD_CFG_ENABLE, .RHD_CFG_PORT, .RHD_CFG_AUTH, .RHD_CFG_IPV6, .RHD_CFG_PIN, .RHD_ID_DOMAIN, .RHD_ID_REQ_INDEX, .RHD_ID_ANY, .RHD_TIMING_PERIOD_US, .RHD_TIMING_STEP_LEAD, .RHD_TIMING_HOLD, .RHD_TARGET_CODE, .RHD_MCAST_V4_ADDR, .RHD_MCAST_V6_ADDR, .RHD_KEY_KEY, .RHD_STATE_STATE, .RHD_STATE_KEY_SET, .RHD_STATE_TAG_MISMATCH, .RHD_STATE_REQUESTING, .RHD_STATE_INDEX, .RHD_MASTER_INDEX, .RHD_MASTER_PINNED, .RHD_MASTER_VALID, .RHD_EPOCH_EPOCH, .RHD_RATE_RATE, .RHD_RATE_PENDING, .RHD_RATE_MAX_CODE, .RHD_RATE_SWITCH_WAIT, .RHD_EFF_STEP_STEP, .RHD_MEMBERS_COUNT, .RHD_SKEW_SKEW, .RHD_BEACON_RX_COUNT, .RHD_BEACON_MISS_COUNT, .RHD_LATE_SWITCH_COUNT, .RHD_REQ_TX_COUNT, .RHD_ELECTIONS_COUNT]

/-- Fields of block bthb, part 0. -/
def fields_bthb_0 : List Fld :=
  [.BTH_B_CTRL_QUIESCE, .BTH_B_CTRL_RELEASE, .BTH_B_STATUS_EXISTS, .BTH_B_STATUS_HOLD, .BTH_B_STATUS_QUIESCED, .BTH_B_STATUS_DIES_BUSY, .BTH_B_STATUS_TUGS_BUSY, .BTH_B_STATUS_COLL_BUSY, .BTH_B_STATUS_QP_ACTIVE, .BTH_B_RES_DIE_MASK, .BTH_B_RES_QUAY_MASK, .BTH_B_RES_CAP_WEIGHT, .BTH_B_QP_BASE_BASE, .BTH_B_QP_COUNT_COUNT, .BTH_B_CAP_WATTS, .BTH_B_FRAME_PERIOD_US, .BTH_B_BALLAST_MAX_W]

/-- Fields of block rail, part 0. -/
def fields_rail_0 : List Fld :=
  [.PWR_RAIL_ID_INDEX, .PWR_RAIL_ID_PHASES, .PWR_RAIL_ID_HELM, .PWR_RAIL_ID_CLASS, .PWR_RAIL_ID_GROUP, .PWR_RAIL_CTRL_EN, .PWR_RAIL_CTRL_SHED_EN, .PWR_RAIL_CTRL_DE_EN, .PWR_RAIL_CTRL_BRAKE_EN, .PWR_RAIL_CTRL_HOLD, .PWR_RAIL_STATUS_ON, .PWR_RAIL_STATUS_SOFT_START, .PWR_RAIL_STATUS_IN_REG, .PWR_RAIL_STATUS_SHEDDING, .PWR_RAIL_STATUS_DE, .PWR_RAIL_STATUS_BRAKING, .PWR_RAIL_STATUS_RAMP, .PWR_RAIL_STATUS_LOCK_ERR, .PWR_RAIL_STATUS_ACTIVE, .PWR_RAIL_VSET_NOW_MV, .PWR_RAIL_VSET_TARGET_MV, .PWR_RAIL_VOUT_MV, .PWR_RAIL_IOUT_A_X10, .PWR_RAIL_CFG1_SS_TIME, .PWR_RAIL_CFG1_SLEW, .PWR_RAIL_CFG1_SLOPE, .PWR_RAIL_CFG1_L_NH, .PWR_RAIL_CFG2_SHED_LO, .PWR_RAIL_CFG2_ADD_HI, .PWR_RAIL_CFG2_N_MIN, .PWR_RAIL_CFG2_STEP, .PWR_RAIL_CFG2_BRAKE, .PWR_RAIL_BAL_KT, .PWR_RAIL_PH_SEL_PHASE, .PWR_RAIL_PH_INFO_A_X10, .PWR_RAIL_PH_INFO_TEMP, .PWR_RAIL_PH_INFO_SHARE, .PWR_RAIL_PH_INFO_ACTIVE, .PWR_RAIL_CNT_CTRL_CLEAR, .PWR_RAIL_CNT_CTRL_FREEZE, .PWR_RAIL_SHED_COUNT, .PWR_RAIL_SHED_ABORT_COUNT, .PWR_RAIL_BRAKE_COUNT, .PWR_RAIL_PROT_CFG_N_LIMIT, .PWR_RAIL_PROT_CFG_OFF_MS, .PWR_RAIL_PROT_CFG_RETRY_MAX, .PWR_RAIL_PROT_CFG_HS_CHECK, .PWR_RAIL_PROT_STATUS_LATCHED, .PWR_RAIL_PROT_STATUS_HICCUP_OFF, .PWR_RAIL_PROT_STATUS_FOLDBACK, .PWR_RAIL_PROT_STATUS_INPUT_LOW, .PWR_RAIL_PROT_STATUS_OV, .PWR_RAIL_PROT_STATUS_RETRIES, .PWR_RAIL_PROT_STATUS_CAUSE, .PWR_RAIL_PROT_CTRL_UNLATCH, .PWR_RAIL_PROT_CNT_CTRL_CLEAR, .PWR_RAIL_PROT_CNT_CTRL_FREEZE, .PWR_RAIL_LIMITED_COUNT, .PWR_RAIL_TRIPS_COUNT, .PWR_RAIL_LATCHES_COUNT]

/-- Fields of block rail, part 1. -/
def fields_rail_1 : List Fld :=
  [.PWR_RAIL_THERM_STOP_COUNT, .PWR_RAIL_REC_BYTES]

/-- Fields of block pwr, part 0. -/
def fields_pwr_0 : List Fld :=
  [.PWR_STATUS_HELM_UP, .PWR_STATUS_LOCK_ERR, .PWR_STATUS_AUTONOMOUS, .PWR_CNT_CTRL_CLEAR, .PWR_CNT_CTRL_FREEZE, .PWR_SYNC_STATUS_STATE, .PWR_SYNC_STATUS_PRESENT, .PWR_SYNC_STATUS_FREQ_KHZ, .PWR_SYNC_CFG_ENABLE, .PWR_GROUP_PHASE, .PWR_GROUP_DIV, .PWR_GROUP_FSW_KHZ, .PWR_IN_STATUS_PRECHARGE, .PWR_IN_STATUS_PRE_DONE, .PWR_IN_STATUS_HS_ON, .PWR_IN_STATUS_HS_LIMIT, .PWR_IN_STATUS_TRIPS, .PWR_IN_STATUS_ID_BLOCK, .PWR_IN_STATUS_PWR_EN, .PWR_IN_STATUS_PRE_RETRY, .PWR_IN_V_J1_MV, .PWR_IN_V_NODE_MV, .PWR_IN_I_A_X100, .PWR_IN_P_W, .PWR_IN_ENERGY_J, .PWR_CMD_ERR_CRC, .PWR_CMD_ERR_REPEAT, .PWR_CMD_OVERLAP_COUNT, .PWR_IN_PROT_RIDE_MS, .PWR_IN_PROT_STATUS_UV, .PWR_IN_PROT_STATUS_OV, .PWR_IN_PROT_STATUS_RIDING, .PWR_IN_PROT_STATUS_INPUT_LOST, .PWR_IN_PROT_CNT_UV, .PWR_IN_PROT_CNT_OV, .PWR_REC_CTRL_CLEAR, .PWR_MOD_REC_BYTES]

/-- Fields of block bwr, part 0. -/
def fields_bwr_0 : List Fld :=
  [.BWR_STATUS_ISO, .BWR_STATUS_REGULATING, .BWR_STATUS_RECOVERY, .BWR_STATUS_AT_RESERVE, .BWR_STATUS_FULL, .BWR_STATUS_FLOOR_HELD, .BWR_STATUS_BALLAST, .BWR_STATUS_RESERVE_PACE, .BWR_STATUS_RIDING, .BWR_STATUS_DRAIN, .BWR_STATUS_LOCK_ERR, .BWR_PACK_CELLS, .BWR_PACK_CF_VALID, .BWR_PACK_CELL_F, .BWR_SOC_CFG_SOC_TARGET, .BWR_SOC_CFG_G_SOC, .BWR_SLEW_W_PER_S, .BWR_FLOOR_W, .BWR_FILTER_MS, .BWR_SOC_PCT_X100, .BWR_SOC_RES_X100, .BWR_ENERGY_J, .BWR_E_USE_J, .BWR_PIN_SET_W, .BWR_PIN_CAP_W, .BWR_DEMAND_W, .BWR_DEMAND_DF_W, .BWR_BWC_CMD_W, .BWR_BWC_MEAS_W, .BWR_LIMITS_DIS_W, .BWR_LIMITS_CHG_W, .BWR_CAP_EST_F, .BWR_TIDE_CFG_SRC_DIE, .BWR_TIDE_CFG_STEP_DIV, .BWR_TIDE_CFG_ENABLE, .BWR_TIDE_STATUS_PERIOD_US, .BWR_TIDE_STATUS_LOCKED, .BWR_TIDE_STATUS_RIPPLE, .BWR_TIDE_SEL_BIN, .BWR_TIDE_BIN_W, .BWR_BALLAST_CFG_ENABLE, .BWR_BALLAST_STATUS_TILES, .BWR_BALLAST_STATUS_W, .BWR_CNT_CTRL_CLEAR, .BWR_CNT_CTRL_FREEZE, .BWR_BALLAST_J_J, .BWR_CHG_J_J, .BWR_DIS_J_J, .BWR_FLOOR_BREAK_COUNT, .BWR_SLEW_BREAK_COUNT, .BWR_RESERVE_HITS_COUNT]

/-- Fields of block cte, part 0. -/
def fields_cte_0 : List Fld :=
  [.CTE_STATUS_PILOT, .CTE_STATUS_CORE_UP, .CTE_STATUS_LOCK_ERR, .CTE_CNT_CTRL_CLEAR, .CTE_CNT_CTRL_FREEZE, .CTE_CP_SET_ID, .CTE_PARAM_CTRL_COMMIT, .CTE_PARAM_CTRL_DEFAULT, .CTE_PARAM_STATUS_STORING, .CTE_PARAM_STATUS_STORE_FAIL, .CTE_CORE_SEL_CORE, .CTE_CORE_LOAD_PEAK, .CTE_CORE_LOAD_MEAN, .CTE_LOOP_SEL_LOOP, .CTE_LOOP_CFG_PRESENT, .CTE_LOOP_CFG_CLASS, .CTE_LOOP_CFG_CORE, .CTE_LOOP_CFG_OFFSET, .CTE_LOOP_CTRL_AUTO, .CTE_LOOP_CTRL_HOLD, .CTE_LOOP_STATE_MODE, .CTE_LOOP_STATE_CAUSE, .CTE_LOOP_STATE_CONSEC, .CTE_LOOP_STATE_RAMP, .CTE_LOOP_RESID_R_F, .CTE_LOOP_LAT_LAST, .CTE_LOOP_LAT_MAX, .CTE_LOOP_OVR_COUNT, .CTE_LOOP_HOLDS_COUNT, .CTE_LOOP_RUNS_COUNT, .CTE_PARAM_SEL_WORD, .CTE_PARAM_STAGED_VALUE, .CTE_PARAM_ACTIVE_VALUE, .CTE_PARAM_MIN_VALUE, .CTE_PARAM_MAX_VALUE, .CTE_CUST_CTRL_OPEN, .CTE_CUST_CTRL_VERIFY, .CTE_CUST_CTRL_ACTIVATE, .CTE_CUST_CTRL_DISABLE, .CTE_CUST_STATUS_STATE, .CTE_CUST_STATUS_ERR, .CTE_CUST_ADDR_OFFSET, .CTE_CUST_DATA_BYTES, .CTE_CUST_ROLLBACK_COUNT, .CTE_CUST_OUT_VALUE]

/-- Fields of block cel, part 0. -/
def fields_cel_0 : List Fld :=
  [.CEL_STATUS_SCANNING, .CEL_STATUS_MISMATCH, .CEL_STATUS_OPEN_WIRE, .CEL_STATUS_COMP_OV, .CEL_STATUS_COMP_UV, .CEL_STATUS_DERATE, .CEL_STATUS_SELFTEST_FAIL, .CEL_STATUS_LOCK_ERR, .CEL_CNT_CTRL_CLEAR, .CEL_CNT_CTRL_FREEZE, .CEL_BAL_CFG_ENABLE, .CEL_BAL_CFG_MAX_CELLS, .CEL_BAL_CFG_DELTA_MV, .CEL_BAL_CFG_START_MV, .CEL_COMP_UV_MV, .CEL_COMP_OV_MV, .CEL_STACK_MV, .CEL_STACK_SUM_MV, .CEL_STACK_TOL_MV, .CEL_PACK_ID_OHM_X10, .CEL_PACK_ID_DECODE, .CEL_ILK_CLOSED, .CEL_ILK_MA_X10, .CEL_CELL_V, .CEL_CELL_BAL, .CEL_CELL_SUBST, .CEL_CELL_OV_TRIP, .CEL_CELL_UV_TRIP, .CEL_TEMP_T, .CEL_TEMP_FAILED, .CEL_DERATE_DIS_PCT, .CEL_DERATE_CHG_PCT, .CEL_OW_TAPS, .CEL_SLEEP_CFG_LO_MV, .CEL_SLEEP_CFG_HI_MV, .CEL_SLEEP_LOG_CELL, .CEL_SLEEP_LOG_MV, .CEL_SLEEP_LOG_VALID, .CEL_SCANS_COUNT, .CEL_BAD_SCANS_COUNT, .CEL_OW_TESTS_COUNT, .CEL_BAL_MS_COUNT]

/-- Fields of block cap, part 0. -/
def fields_cap_0 : List Fld :=
  [.CAP_STATUS_LOCK_ERR, .CAP_STATUS_LIMIT_SRC, .CAP_STATUS_FAST, .CAP_STATUS_COOL_TRIP, .CAP_STATUS_BOLLARD, .CAP_STATUS_HOT, .CAP_CNT_CTRL_CLEAR, .CAP_CNT_CTRL_FREEZE, .CAP_MOD_LIMIT_W, .CAP_RACK_W, .CAP_FAST_LEVEL_W, .CAP_EFF_W, .CAP_EFF_COOL_W, .CAP_TERMS_THERM_W, .CAP_TERMS_BERTH_W, .CAP_FLOW_CFG_K_FACTOR, .CAP_COOL_TIN_X10, .CAP_COOL_TOUT_X10, .CAP_FLOW_LPM_X100, .CAP_FLOW_LOW, .CAP_MEMB_RATIO, .CAP_MEMB_ENABLE, .CAP_BOLLARD_CLEAR, .CAP_ETA_PERMIL, .CAP_SHARE_W, .CAP_SHARE_CODE, .CAP_SHARE_STAGE, .CAP_DIE_P_W, .CAP_DIE_J_J, .CAP_LEARN_SEL_BERTH, .CAP_LEARN_SEL_ID, .CAP_LEARN_P_W, .CAP_LEARN_DUR_US, .CAP_AGE_STEP, .CAP_AGE_MAX_CODE, .CAP_AGE_LOWERED, .CAP_AGE_AGE_H, .CAP_AGE_CFG_PERIOD_H, .CAP_VT_SEL_DIE, .CAP_VT_SEL_CODE, .CAP_VT_VENDOR_MV, .CAP_VT_APPLIED_MV, .CAP_VT_VERSION_VERSION, .CAP_AGE_STATUS_TABLE_OK, .CAP_AGE_STATUS_FALLBACK, .CAP_THERM_PACE_COUNT, .CAP_BOLLARD_TRIPS_COUNT, .CAP_PARKS_COUNT]

/-- Fields of block plt, part 0. -/
def fields_plt_0 : List Fld :=
  [.PLT_STATUS_ACTIVE, .PLT_STATUS_STANDBY, .PLT_STATUS_REDUNDANT, .PLT_STATUS_HANDOVER, .PLT_STATUS_HMA_OK, .PLT_STATUS_SW_REFUSED, .PLT_STATUS_HELD_A, .PLT_STATUS_HELD_B, .PLT_CFG_AUTO_RETURN, .PLT_CTRL_SWITCH, .PLT_CNT_CTRL_CLEAR, .PLT_CNT_CTRL_FREEZE, .PLT_SWITCHOVERS_COUNT, .PLT_HANDOVERS_COUNT, .PLT_COPY_ERR_CRC, .PLT_COPY_ERR_ALIVE, .PLT_FORCED_A, .PLT_FORCED_B, .PLT_LAST_CAUSE_CODE, .PLT_LAST_CAUSE_PILOT, .PLT_GAP_LAST, .PLT_GAP_MAX, .PLT_OVERLAP_LAST, .PLT_SYNC_MS_MS]

/-- Fields of block hpl, part 0. -/
def fields_hpl_0 : List Fld :=
  [.HPL_STATE_STATE, .HPL_STATE_TRIGGER, .HPL_STATE_DRAIN_SRC, .HPL_STATE_LOCK_ERR, .HPL_STATE_REFUSED, .HPL_CTRL_KEY, .HPL_CFG_BTN_EN, .HPL_CFG_LOCATE, .HPL_CFG_QUIESCE_S, .HPL_CFG_DISCH_S, .HPL_ELAPSED_MS, .HPL_COUNT_DRAINS, .HPL_COUNT_SURPRISES]

/-- Fields of block log, part 0. -/
def fields_log_0 : List Fld :=
  [.LOG_STATUS_LOCK_ERR, .LOG_STATUS_FLUSHING, .LOG_STATUS_FLASH_FAIL, .LOG_CTRL_FLUSH, .LOG_OLDEST_SEQ, .LOG_NEWEST_SEQ, .LOG_FLUSHED_SEQ, .LOG_CURSOR_SEQ, .LOG_WIN_STATE_VALID, .LOG_WIN_STATE_BUSY, .LOG_WIN_STATE_GAP, .LOG_WIN_STATE_END, .LOG_WIN_STATE_FLASH, .LOG_WIN_BYTES, .LOG_QUEUE_DEPTH, .LOG_QUEUE_HANDLING, .LOG_QUEUE_ACTIVE, .LOG_QUEUE_OVERFLOW, .LOG_UNREAD_COUNT, .LOG_LATCHED_COUNT, .LOG_LOST_COUNT]

/-- Fields of block cvu, part 0. -/
def fields_cvu_0 : List Fld :=
  [.CVU_STATUS_LOCK_ERR, .CVU_CNT_CTRL_CLEAR, .CVU_CNT_CTRL_FREEZE]

/-- Fields of block cvuu, part 0. -/
def fields_cvuu_0 : List Fld :=
  [.CVU_U_CFG_WIDTH_M1, .CVU_U_CFG_REFIN, .CVU_U_CFG_REFOUT, .CVU_U_CFG_XOROUT, .CVU_U_CFG_ORDER, .CVU_U_CFG_ALIVE, .CVU_U_CFG_ALIVE_KEY, .CVU_U_CFG_ALIVE_SHIFT, .CVU_U_CFG_ALIVE_OFF, .CVU_U_CFG_FEED_N, .CVU_U_BIND_STREAM, .CVU_U_BIND_MODE, .CVU_U_POLY_POLY, .CVU_U_INIT_INIT, .CVU_U_CTRL_START, .CVU_U_DATA_BYTES, .CVU_U_RESULT_VALUE, .CVU_U_PASS_COUNT, .CVU_U_FAIL_COUNT, .CVU_U_REPEAT_COUNT]

/-- The fields of a block. -/
def Blk.fields : Blk → List Fld
  | .mod => fields_mod_0
  | .rst => fields_rst_0
  | .cdc => fields_cdc_0 ++ fields_cdc_1
  | .bth => fields_bth_0
  | .sec => fields_sec_0
  | .qdc => fields_qdc_0
  | .fwy => fields_fwy_0
  | .net => fields_net_0
  | .port => fields_port_0
  | .rhd => fields_rhd_0
  | .rhdb => fields_rhdb_0
  | .bthb => fields_bthb_0
  | .rail => fields_rail_0 ++ fields_rail_1
  | .pwr => fields_pwr_0
  | .bwr => fields_bwr_0
  | .cte => fields_cte_0
  | .cel => fields_cel_0
  | .cap => fields_cap_0
  | .plt => fields_plt_0
  | .hpl => fields_hpl_0
  | .log => fields_log_0
  | .cvu => fields_cvu_0
  | .cvuu => fields_cvuu_0

end Sys2Proof.Machine
end

