-- ==== Sys2Proof/Config.lean ====
section
/-! DEFINITION. What the spec leaves open: the free values (opaque constants, no body), what an implementation, its
flash, its firmware or its vendor fixes, and the cryptographic functions that the spec takes from other standards. -/

namespace Sys2Proof.Config

open Sys2Proof.Machine

/-- A free natural number: `tag` says which open value, `n` is the fresh counter of the state (log entry 2). -/
opaque free : (tag n : Nat) → Nat

/-- The undefined contents of a vector register lane (Table 3-3): die, tile, register, lane, reset count of the die. -/
opaque freeLane : (die tile reg lane gen : Nat) → BitVec 32

/-- The undefined contents of a weight buffer or of an accumulator (Table 3-3), as FP32 bits of the value it gives. -/
opaque freeAcc : (die tile set idx gen : Nat) → BitVec 32

/-- The undefined contents of a weight buffer byte (Table 3-3). -/
opaque freeWeight : (die tile buf byte gen : Nat) → Nat

/-- The special functions of Table 4-3 on inputs other than its special inputs: function, input bits. A result outside the table's
error bound is not taken (R91, `sfuLane`). -/
opaque sfu : (func : Nat) → BitVec 32 → BitVec 32

/-- Which operand an FP32 minimum or maximum gives for a NaN and a number, or for zeros of unlike sign (R156 does not say): the
first if true. -/
opaque fminmax : (isMax : Bool) → BitVec 32 → BitVec 32 → Bool

/-- Where MX scale byte `blk` of row `row` of operand `opnd` (0 A, 1 B) lies for a tile, given ADDR_S: the spec names one
address for both operands and lays no rows out (Table 6-4, Table 6-13). -/
opaque mxScaleAddr : (addrS opnd row blk : Nat) → Nat

/-- A value held in signed flash (R13): field, instance, item. -/
opaque flash : Fld → Nat → Nat → Nat

/-- The set of a quay cache with `sets` sets that holds line `line` of stack `stack` (R213 gives no mapping). -/
opaque cacheSet : (sets stack line : Nat) → Nat

/-- The HBM row of a stack byte, as R231 counts corrected errors of one row: the spec gives no row layout. -/
opaque hbmRow : (off : Nat) → Nat

/-- The vendor base MAC of a port, held in flash, as a number with its first byte highest (R260). -/
opaque baseMac : (port : Nat) → Nat

/-- The length of the Ethernet frame that carries `n` payload bytes of a message kind: its headers are other standards'. -/
opaque frameLen : (kind n : Nat) → Nat

/-- The position at which the ring sum of element `e` starts, in a group of `n` (R274 fixes the order round the ring only). -/
opaque ringStart : (n count e : Nat) → Nat

/-- The silicon revision of compute and quay die `n` (Tables 4-5, 8-7). -/
opaque siliconRev : (quay : Bool) → Nat → Nat

/-- Firmware bounds of parameter word `w` (Table 16-6): minimum, maximum and default. -/
opaque paramMin : Nat → BitVec 32
opaque paramMax : Nat → BitVec 32
opaque paramDefault : Nat → BitVec 32

/-- The word of the active parameter set that holds a named loop parameter (R427 does not lay the words out). -/
opaque paramWord : (loop name : Nat) → Nat

/-- The vendor package in force as the module was delivered: flash, KIND of Table 22-3, and 0 the current slot or 1 the other. -/
opaque pkgDelivered : (flash kind slot : Nat) → List Nat

/-- What a voltage-table package holds (R476 lays it out nowhere): V_vend in mV, the vendor highest code, and the coefficient
k_s(c) in mV of each sentinel at each code. -/
opaque vtVolt : (pkg : List Nat) → (die code : Nat) → Nat
opaque vtMax : (pkg : List Nat) → (die : Nat) → Nat
opaque vtCoeff : (pkg : List Nat) → (die sentinel code : Nat) → Rat

/-- The ageing reduction of a die's highest code as the module was delivered (R480, R481). -/
opaque ageReduction : (die : Nat) → Nat

/-- The busy share of an engine core, %, which depends on run times the spec does not give: core, 0 peak or 1 mean, time. -/
opaque coreLoad : (core which now : Nat) → Nat

/-- The payload bytes of the `n`-th item of the private link (Table 19-1 names its contents and lays none out). -/
opaque copyPayload : (n : Nat) → List Nat

/-- The vendor's Ed448 keys of Table 22-1: 0 vendor root, 1 vendor enrollment. -/
opaque vendorKey : Nat → List Nat

/-- Cryptographic functions of other standards, over byte lists; output lengths in bytes. -/
opaque shake256 : (input : List Nat) → (outLen : Nat) → List Nat
opaque ed448Verify : (key context msg sig : List Nat) → Bool
opaque ed448Sign : (pilot : Nat) → (context msg : List Nat) → List Nat
opaque kmac256 : (key msg custom : List Nat) → (outLen : Nat) → List Nat
opaque x448 : (secret pub : List Nat) → List Nat

end Sys2Proof.Config
end

