-- ==== Sys2Proof/Machine/Fp.lean ====
section
/-! DEFINITION. The number formats of chapter 5 and their arithmetic, by exact dyadic numbers: decoding a format's bits,
rounding to a format (R132 to R138), LG8, the group sums of the matrix engine (R123 to R130) and FP32 arithmetic. -/

namespace Sys2Proof.Machine

/-- A value of any format: NaN, an infinity, or (−1)^neg × mant × 2^exp. -/
inductive FV where
  | nan
  | inf (neg : Bool)
  | num (neg : Bool) (mant : Nat) (exp : Int)
  deriving DecidableEq, Repr

/-- 2^e × n as a whole number times 2^base, for base ≤ e. -/
def scaleTo (base : Int) (n : Nat) (e : Int) : Nat := n * 2 ^ (e - base).toNat

/-- A positive zero. -/
def FV.zero : FV := .num false 0 0

/-- Fraction bits, bias and kind of specials of a floating-point format code (Table 5-1); `none` for the other codes.
The kind: 0 IEEE, 1 one NaN code and no infinity (E4M3), 2 no specials. -/
def fmtInfo : Nat → Option (Nat × Nat × Nat × Nat)
  | 0 => some (8, 23, 127, 0)
  | 1 => some (8, 7, 127, 0)
  | 2 => some (5, 10, 15, 0)
  | 3 => some (4, 3, 7, 1)
  | 4 => some (5, 2, 15, 0)
  | 5 => some (3, 2, 3, 2)
  | 6 => some (2, 3, 1, 2)
  | 7 => some (2, 1, 1, 2)
  | _ => none

/-- A format code that Table 5-1 defines (R114). -/
def fmtDefined (f : Nat) : Bool := decide (f < 12)

/-- The width in bits of an element of a format. -/
def fmtBits : Nat → Nat
  | 0 => 32
  | 1 => 16
  | 2 => 16
  | 5 => 6
  | 6 => 6
  | 7 => 4
  | 9 => 4
  | _ => 8

/-- T[k] × 2^23 (R119). -/
def lgT : Nat → Nat
  | 0 => 8388608
  | 1 => 9147842
  | 2 => 9975792
  | 3 => 10878679
  | 4 => 11863283
  | 5 => 12937002
  | 6 => 14107901
  | _ => 15384775

/-- The magnitude T[s mod 8] × 2^floor(s/8) as mantissa and exponent (R119). -/
def lgMag (s : Int) : Nat × Int := (lgT (s % 8).toNat, s / 8 - 23)

/-- The value that a format's bits encode (R115, R118, R119). INT8 and INT4 give their integer. -/
def decodeFmt (f bits : Nat) : FV :=
  match fmtInfo f with
  | some (eb, mb, bias, kind) =>
    let neg := bits / 2 ^ (eb + mb) % 2 == 1
    let e := bits / 2 ^ mb % 2 ^ eb
    let m := bits % 2 ^ mb
    let top := 2 ^ eb - 1
    if kind = 0 ∧ e = top then (if m = 0 then .inf neg else .nan)
    else if kind = 1 ∧ e = top ∧ m = 2 ^ mb - 1 then .nan
    else if e = 0 then .num neg m (1 - (bias : Int) - mb)
    else .num neg (2 ^ mb + m) ((e : Int) - bias - mb)
  | none =>
    if f = 8 then
      let b := bits % 256
      if b < 128 then .num false b 0 else .num true (256 - b) 0
    else if f = 9 then
      let b := bits % 16
      if b < 8 then .num false b 0 else .num true (16 - b) 0
    else if f = 10 then
      let neg := bits / 128 % 2 == 1
      let e := bits % 128
      if e = 0 then .num neg 0 0
      else let (m, x) := lgMag ((e : Int) - 64); .num neg m x
    else
      if bits % 256 = 255 then .nan else .num false 1 ((bits % 256 : Nat) - 127 : Int)

/-- Rounding modes (R132), SR with its drawn number r. -/
inductive Rnd where
  | rne
  | rtz
  | sr (r : Nat)
  deriving DecidableEq, Repr

/-- Round the magnitude n × 2^e to a multiple of 2^q in a mode (R132, R135): the multiple. -/
def roundQ (mode : Rnd) (n : Nat) (e q : Int) : Nat :=
  if q ≤ e then n * 2 ^ (e - q).toNat
  else
    let d := 2 ^ (q - e).toNat
    let lo := n / d
    let rem := n % d
    match mode with
    | .rtz => lo
    | .rne => if 2 * rem < d then lo else if d < 2 * rem then lo + 1 else lo + lo % 2
    | .sr r => if r < rem * 65536 / d then lo + 1 else lo

/-- The exponent of the leading bit of n × 2^e, for n ≠ 0. -/
def leadExp (n : Nat) (e : Int) : Int := (Nat.log2 n : Int) + e

/-- Round a magnitude to `p` significant bits with least quantum 2^qmin: mantissa and exponent of the result. -/
def roundP (mode : Rnd) (p : Nat) (qmin : Int) (n : Nat) (e : Int) : Nat × Int :=
  if n = 0 then (0, qmin)
  else
    let q := max (leadExp n e - (p - 1)) qmin
    let r := roundQ mode n e q
    if r = 2 ^ p then (2 ^ (p - 1), q + 1) else (r, q)

/-- Is n × 2^e above m × 2^x. -/
def magGt (n : Nat) (e : Int) (m : Nat) (x : Int) : Bool :=
  let b := min e x
  decide (scaleTo b m x < scaleTo b n e)

/-- The largest finite magnitude of a floating-point format (Table 5-1). -/
def fmtMax : Nat → Nat × Int
  | 0 => (2 ^ 24 - 1, 104)
  | 1 => (255, 120)
  | 2 => (2047, 5)
  | 3 => (14, 5)
  | 4 => (7, 13)
  | 5 => (7, 2)
  | 6 => (15, -1)
  | _ => (3, 1)

/-- The bits of a sign and a magnitude that the format represents exactly, mantissa below 2^(mb+1). -/
def packMag (eb mb bias : Nat) (neg : Bool) (m : Nat) (q : Int) : Nat :=
  let body := if m < 2 ^ mb then m else ((q + mb + bias).toNat * 2 ^ mb + (m - 2 ^ mb))
  (if neg then 2 ^ (eb + mb) else 0) + body

/-- The bits of an infinity. -/
def packInf (eb mb : Nat) (neg : Bool) : Nat := (if neg then 2 ^ (eb + mb) else 0) + (2 ^ eb - 1) * 2 ^ mb

/-- The NaN that the module writes (Table 5-2). -/
def fmtNaN : Nat → Nat
  | 0 => 0x7FC00000
  | 1 => 0x7FC0
  | 2 => 0x7E00
  | 3 => 0x7F
  | 4 => 0x7E
  | _ => 0xFF

/-- A conversion's result: the bits, whether it was saturated, whether a NaN met a format without NaN (R133). -/
structure Conv where
  bits : Nat
  sat : Bool
  nan : Bool
  deriving DecidableEq, Repr

/-- Down-conversion to a floating-point format (R132, R133, Table 5-4). -/
def convFloat (f eb mb bias kind : Nat) (mode : Rnd) (sat : Bool) (x : FV) : Conv :=
  let (mm, mq) := fmtMax f
  let big (neg : Bool) : Nat := packMag eb mb bias neg mm mq
  let tooBig (neg : Bool) (fromInf : Bool) : Conv :=
    if kind = 2 then ⟨big neg, true, false⟩
    else if sat ∨ (fromInf = false ∧ mode = .rtz) then ⟨big neg, true, false⟩
    else if kind = 1 then ⟨fmtNaN f, false, false⟩
    else ⟨packInf eb mb neg, false, false⟩
  match x with
  | .nan => if kind = 2 then ⟨0, false, true⟩ else ⟨fmtNaN f, false, false⟩
  | .inf neg => tooBig neg true
  | .num neg n e =>
    let (r, q) := roundP mode (mb + 1) (1 - (bias : Int) - mb) n e
    if magGt r q mm mq then tooBig neg false else ⟨packMag eb mb bias neg r q, false, false⟩

/-- Conversion to INT8 or INT4 (R134): the integer's two's complement in `w` bits. -/
def convInt (w : Nat) (mode : Rnd) (x : FV) : Conv :=
  let top := 2 ^ (w - 1)
  match x with
  | .nan => ⟨0, false, true⟩
  | .inf neg => ⟨if neg then top else top - 1, true, false⟩
  | .num neg n e =>
    let r := roundQ mode n e 0
    if neg then (if top < r then ⟨top, true, false⟩ else ⟨(2 ^ w - r) % 2 ^ w, false, false⟩)
    else (if top - 1 < r then ⟨top - 1, true, false⟩ else ⟨r, false, false⟩)

/-- floor(k × log2(n × 2^e)) for n ≠ 0. -/
def floorLog (k n : Nat) (e : Int) : Int := (Nat.log2 (n ^ k) : Int) + k * e

/-- Conversion to LG8 (R134): u = 8 × log2|x|; SR uses the 16 top bits of the fraction of u. The spec leaves open what becomes of a
value T[k] × 2^i that lies just below 2^(k/8 + i): R132 lets an exactly representable value convert unchanged in every mode, R134's
floor(u) is one code lower. The model's choice is R134's words: RTZ, and SR on such a draw, give the lower code (log entry 58). -/
def convLg (mode : Rnd) (x : FV) : Conv :=
  match x with
  | .nan => ⟨0, false, true⟩
  | .inf neg => ⟨(if neg then 128 else 0) + 127, true, false⟩
  | .num neg n e =>
    let s := if neg then 128 else 0
    if n = 0 then ⟨s, false, false⟩
    else
      let fl := floorLog 8 n e
      let c : Int := 64 + (match mode with
        | .rtz => fl
        | .rne => (floorLog 16 n e + 1) / 2
        | .sr r => if (r : Int) < floorLog (8 * 65536) n e - 65536 * fl then fl + 1 else fl)
      if 127 < c then ⟨s + 127, true, false⟩ else if c ≤ 0 then ⟨s, false, false⟩ else ⟨s + c.toNat, false, false⟩

/-- Conversion to UE8M0 (R134). -/
def convUe (mode : Rnd) (sat : Bool) (x : FV) : Conv :=
  match x with
  | .nan => ⟨0xFF, false, false⟩
  | .inf _ => if sat then ⟨0xFE, true, false⟩ else ⟨0xFF, false, false⟩
  | .num _ n e =>
    if n = 0 then ⟨0, true, false⟩
    else
      let lo := leadExp n e
      -- the fraction f of R134 as rem / 2^log2 n
      let d := 2 ^ Nat.log2 n
      let rem := n - d
      let up : Bool := match mode with
        | .rtz => false
        | .rne => decide (d < 2 * rem) || (decide (2 * rem = d) && decide ((lo + 127) % 2 ≠ 0))
        | .sr r => decide (r < rem * 65536 / d)
      let x' := if up then lo + 1 else lo
      if x' < -127 then ⟨0, true, false⟩
      else if 127 < x' then (if sat ∨ mode = .rtz then ⟨0xFE, true, false⟩ else ⟨0xFF, false, false⟩)
      else ⟨(x' + 127).toNat, false, false⟩

/-- Conversion to any format (R131 to R134). One to FP32 is exact, or rounds once; SAT has no place in it (R131). -/
def convFmt (f : Nat) (mode : Rnd) (sat : Bool) (x : FV) : Conv :=
  match fmtInfo f with
  | some (eb, mb, bias, kind) => convFloat f eb mb bias kind mode (sat && f != 0) x
  | none => if f = 8 then convInt 8 mode x else if f = 9 then convInt 4 mode x
            else if f = 10 then convLg mode x else convUe mode sat x

/-- FP32 bits of a value, one round-to-nearest-even. -/
def toF32 (x : FV) : BitVec 32 := BitVec.ofNat 32 (convFmt 0 .rne false x).bits

/-- The value of FP32 bits. -/
def ofF32 (b : BitVec 32) : FV := decodeFmt 0 b.toNat

/-- Signed mantissa of a finite value. -/
def smant (neg : Bool) (m : Nat) : Int := if neg then -(m : Int) else m

/-- Exact sum of two values (IEEE 754: unlike infinities give NaN; an exact zero of unlike signs is +0). -/
def FV.add : FV → FV → FV
  | .nan, _ => .nan
  | _, .nan => .nan
  | .inf a, .inf b => if a = b then .inf a else .nan
  | .inf a, _ => .inf a
  | _, .inf b => .inf b
  | .num a m x, .num b n y =>
    let q := min x y
    let t := smant a (scaleTo q m x) + smant b (scaleTo q n y)
    if t = 0 then .num (a && b) 0 q else .num (decide (t < 0)) t.natAbs q

/-- Exact product of two values. -/
def FV.mul : FV → FV → FV
  | .nan, _ => .nan
  | _, .nan => .nan
  | .inf a, .inf b => .inf (a != b)
  | .inf a, .num b n _ => if n = 0 then .nan else .inf (a != b)
  | .num a m _, .inf b => if m = 0 then .nan else .inf (a != b)
  | .num a m x, .num b n y => .num (a != b) (m * n) (x + y)

/-- FP32 addition, multiplication and fused multiply-add a × b + c, round to nearest even (R156, R91). -/
def f32Add (a b : BitVec 32) : BitVec 32 := toF32 ((ofF32 a).add (ofF32 b))
def f32Mul (a b : BitVec 32) : BitVec 32 := toF32 ((ofF32 a).mul (ofF32 b))
def f32Fma (a b c : BitVec 32) : BitVec 32 := toF32 (((ofF32 a).mul (ofF32 b)).add (ofF32 c))

/-- FP32 less-than: an unordered pair compares false (IEEE 754). -/
def FV.lt : FV → FV → Bool
  | .nan, _ => false
  | _, .nan => false
  | .inf a, .inf b => a && !b
  | .inf a, _ => a
  | _, .inf b => !b
  | .num a m x, .num b n y =>
    let q := min x y
    decide (smant a (scaleTo q m x) < smant b (scaleTo q n y))

def f32Lt (a b : BitVec 32) : Bool := (ofF32 a).lt (ofF32 b)

/-- FP32 minimum or maximum: the lesser or greater of an ordered pair. Which operand a NaN with a number and zeros of unlike sign
give is open: `Config.fminmax` says (log entry 7). A NaN result is the module's (R116). -/
def f32MinMax (isMax : Bool) (a b : BitVec 32) : BitVec 32 :=
  toF32 (ofF32 (
    if f32Lt a b then (if isMax then b else a)
    else if f32Lt b a then (if isMax then a else b)
    else if a = b ∨ Config.fminmax isMax a b then a else b))

/-- FP32 to a 64-bit integer, round to nearest even, saturating; NaN gives 0 (FTOI, Table 6-7). It is a conversion of a scalar lane,
counted like every other (R133). -/
def f32ToIntC (a : BitVec 32) : Conv := convInt 64 .rne (ofF32 a)

/-- A signed 64-bit integer to FP32, round to nearest even (ITOF, Table 6-7). -/
def intToF32 (a : BitVec 64) : BitVec 32 :=
  let i := a.toInt
  toF32 (.num (decide (i < 0)) i.natAbs 0)

/-! ## Special functions of the vector unit (Table 4-3) -/

/-- The result of a special function on its special inputs; `none` on every other input. -/
def sfuSpecial (func : Nat) (x : FV) : Option FV :=
  match func, x with
  | _, .nan => some .nan
  | 0, .inf neg => some (if neg then .zero else .inf false)
  | 0, .num neg n e =>
    if !neg && magGt n e 128 0 then some (.inf false)
    else if neg && magGt n e 150 0 then some .zero else none
  | 1, .inf neg => some (if neg then .nan else .inf false)
  | 1, .num neg n _ => if n = 0 then some (.inf true) else if neg then some .nan else none
  | 2, .inf neg => some (.num neg 0 0)
  | 2, .num neg n _ => if n = 0 then some (.inf neg) else none
  | 3, .inf neg => some (if neg then .nan else .zero)
  | 3, .num neg n _ => if n = 0 then some (.inf neg) else if neg then some .nan else none
  | 4, .inf neg => some (.num neg 1 0)
  | 5, .inf neg => some (if neg then .zero else .num false 1 0)
  | _, _ => none

/-- The whole number whose square is the largest not above `n`, below 2^(b + r): the bits of `r` are found from bit `b` - 1 down. -/
def isqrtFrom (n : Nat) : (b r : Nat) → Nat
  | 0, r => r
  | b + 1, r => isqrtFrom n b (if (r + 2 ^ b) * (r + 2 ^ b) ≤ n then r + 2 ^ b else r)

/-- 2^(f ÷ 2^64) × 2^64 for f < 2^64: the product of the roots 2^(2^-k) whose bits `f` has, `k` bits of them. -/
def exp2Frac (f : Nat) : (k root acc : Nat) → Nat
  | 0, _, acc => acc
  | k + 1, root, acc =>
    let root := isqrtFrom (root * 2 ^ 64) 66 0
    exp2Frac f k root (if f / 2 ^ (k + 20) % 2 = 1 then acc * root / 2 ^ 64 else acc)

/-- 2^(x ÷ 2^64), within a relative 2^-40. -/
def exp2Fix (x : Int) : FV := .num false (exp2Frac (x % 2 ^ 64).toNat 44 (2 ^ 65) (2 ^ 64)) (x / 2 ^ 64 - 64)

/-- The fraction of log2(y ÷ 2^64), y from 2^64 to 2^65, `k` bits of it, each found by squaring. -/
def log2Frac : (k y acc : Nat) → Nat
  | 0, _, acc => acc
  | k + 1, y, acc =>
    let z := y * y / 2 ^ 64
    if 2 ^ 65 ≤ z then log2Frac k (z / 2) (2 * acc + 1) else log2Frac k z (2 * acc)

/-- A finite value × 2^64, cut to a whole number. -/
def fix64 (neg : Bool) (n : Nat) (e : Int) : Int :=
  let m := if -64 ≤ e then n * 2 ^ (e + 64).toNat else n / 2 ^ (-64 - e).toNat
  if neg then -(m : Int) else m

/-- e^(2^k × |x|) × 2^64 for a magnitude below 32; log2 e × 2^64 stands in decimal. -/
def expFix (k n : Nat) (e : Int) : Nat :=
  match exp2Fix (2 ^ k * fix64 false n e * 26613026195688644983 / 2 ^ 64) with
  | .num _ m q => if -64 ≤ q then m * 2 ^ (q + 64).toNat else m
  | _ => 0

/-- The exact value of a special function on a finite input that is none of Table 4-3's special inputs, within a relative 2^-40
(exp2, log2, the reciprocals) or an absolute 2^-40 (log2 in [0.5, 2], tanh, sigmoid). -/
def sfuValue (func : Nat) (neg : Bool) (n : Nat) (e : Int) : FV :=
  match func with
  | 0 => exp2Fix (fix64 neg n e)
  | 1 =>
    let t : Int := leadExp n e * 2 ^ 44 + log2Frac 44 (n * 2 ^ 64 / 2 ^ Nat.log2 n) 0
    .num (decide (t < 0)) t.natAbs (-44)
  | 2 => let k := Nat.log2 n + 64; .num neg (2 ^ k / n) (-e - k)
  | 3 =>
    let (n, e) := if e % 2 = 0 then (n, e) else (2 * n, e - 1)
    let k := Nat.log2 n / 2 + 64
    .num false (isqrtFrom (2 ^ (2 * k) / n) 80 0) (-(k : Int) - e / 2)
  | 4 =>
    if n = 0 then .num neg 0 0
    else if 4 ≤ leadExp n e then .num neg 1 0
    else let x := expFix 1 n e; .num neg ((x - 2 ^ 64) * 2 ^ 64 / (x + 2 ^ 64)) (-64)
  | _ =>
    if n ≠ 0 ∧ 5 ≤ leadExp n e then (if neg then .zero else .num false 1 0)
    else let x := expFix 0 n e; .num false ((if neg then 2 ^ 64 else x) * 2 ^ 64 / (x + 2 ^ 64)) (-64)

/-- A finite value as a rational number. -/
def ratOf (neg : Bool) (n : Nat) (e : Int) : Rat :=
  let q : Rat := if 0 ≤ e then (n * 2 ^ e.toNat : Nat) else (n : Rat) / (2 ^ (-e).toNat : Nat)
  if neg then -q else q

/-- Does `r` keep the error bound of Table 4-3 about the value `v` of a function at `x`; beside it 2^-40 for the way `v` is
computed. A result below the normal range has the spacing of subnormals. -/
def sfuWithin (func : Nat) (x v r : Rat) : Bool :=
  let d := max (r - v) (v - r)
  let bound := fun (b : Nat) => (1 : Rat) / (2 ^ b : Nat) + 1 / (2 ^ 40 : Nat)
  let tiny := decide (d < 1 / (2 ^ 149 : Nat))
  match func with
  | 0 => decide (d ≤ bound 22 * max v (-v)) || tiny
  | 1 => decide (d ≤ bound 22 * (if 1 / 2 ≤ x ∧ x ≤ 2 then 1 else max v (-v)))
  | 2 => decide (d ≤ bound 23 * max v (-v)) || tiny
  | 3 => decide (d ≤ bound 23 * max v (-v))
  | _ => decide (d ≤ bound 12)

/-- One lane of a special function: Table 4-3's special inputs exactly; every other input the free value of `Config.sfu` where that
keeps the error bound, else the value rounded once (log entry 6). -/
def sfuLane (func : Nat) (a : BitVec 32) : BitVec 32 :=
  match sfuSpecial func (ofF32 a), ofF32 a with
  | some v, _ => toF32 v
  | none, .num neg n e =>
    let v := sfuValue func neg n e
    match v, ofF32 (Config.sfu func a) with
    | .num vs vn ve, .num rs rn re =>
      if sfuWithin func (ratOf neg n e) (ratOf vs vn ve) (ratOf rs rn re) then Config.sfu func a else toF32 v
    | _, _ => toF32 v
  | none, _ => toF32 .nan

/-! ## Group accumulation of the matrix engine -/

/-- An exact sum in units of 2^base, as a list of signed terms. -/
def sumTerms (base : Int) : List (Bool × Nat × Int) → Int
  | [] => 0
  | (neg, n, e) :: ts => smant neg (scaleTo base n e) + sumTerms base ts

/-- The least exponent of a list of terms, from a start. -/
def minExp (b : Int) : List (Bool × Nat × Int) → Int
  | [] => b
  | (_, _, e) :: ts => minExp (min b e) ts

/-- The exact sum of finite terms as a value; a zero sum is +0. -/
def exactSum (ts : List (Bool × Nat × Int)) : FV :=
  let b := minExp 0 ts
  let t := sumTerms b ts
  .num (decide (t < 0)) t.natAbs b

/-- What a group's special values make of it (R128): `none` when every product is finite. -/
def groupSpecial (ps : List FV) : Option FV :=
  if ps.any (· == .nan) then some .nan
  else
    let p := ps.any (· == .inf false)
    let n := ps.any (· == .inf true)
    if p && n then some .nan else if p then some (.inf false) else if n then some (.inf true) else none

/-- The finite terms of a list of products. -/
def finTerms : List FV → List (Bool × Nat × Int)
  | [] => []
  | .num s n e :: ps => (s, n, e) :: finTerms ps
  | _ :: ps => finTerms ps

/-- Round a running sum into the accumulator: FP32, or 48 bits with the FP32 exponent range in wide mode (R124, R129). -/
def accRound (wide : Bool) (x : FV) : FV :=
  match x with
  | .nan => .nan
  | .inf s => .inf s
  | .num s n e =>
    let p := if wide then 48 else 24
    let (r, q) := roundP .rne p (-126 - ((p : Int) - 1)) n e
    if 127 < leadExp r q ∧ r ≠ 0 then .inf s else .num s r q

/-- The accumulator and the counts of R125, R128 and R130 that its group sums make. -/
structure AccSt where
  acc : FV
  terms : Nat
  split : Nat
  special : Nat
  spill : Nat
  deriving DecidableEq, Repr

/-- Is a value infinite or NaN. -/
def FV.isSpecial : FV → Bool
  | .num _ _ _ => false
  | _ => true

/-- Round the accumulator anew, counting it when it becomes special (R128). Does one that goes from an infinity to NaN become
special again? The spec does not say; the model's choice is no (log entry 58). -/
def AccSt.take (wide : Bool) (a : AccSt) (v : FV) : AccSt :=
  let r := accRound wide v
  { a with acc := r, special := a.special + (if r.isSpecial && !a.acc.isSpecial then 1 else 0) }

/-- Add one exact value into the accumulator with one rounding (R124). -/
def AccSt.enter (wide : Bool) (a : AccSt) (v : FV) : AccSt := a.take wide (a.acc.add v)

/-- How the products of a row of Table 5-3 are summed. -/
inductive SumKind where
  | exact   -- 8 bits and smaller, LG8 (R124, R126)
  | trunc   -- BF16 and FP16 (R127)
  | fma     -- FP32 (R127)
  deriving DecidableEq, Repr

/-- Truncate each product toward zero at 2^(E − 50), E the exponent of the largest-magnitude product (R127). -/
def truncTerms (ts : List (Bool × Nat × Int)) : List (Bool × Nat × Int) :=
  let nz := ts.filter (fun t => t.2.1 ≠ 0)
  match nz.map (fun t => leadExp t.2.1 t.2.2) with
  | [] => []
  | e :: es =>
    let q := es.foldl max e - 50
    nz.map (fun t => if t.2.2 < q then (t.1, t.2.1 / 2 ^ (q - t.2.2).toNat, q) else t)

/-- Add one group of products (64 of them, or fewer at the end): R123 to R128. `halves` gives the combined MX scale
exponents of the two 32-term halves, when the operation scales and the group has a second half. A set's terms count toward the limit
of R130 from its last start, whether a wide operation added them or not: R130 does not say which; the model's choice (log entry
58). -/
def AccSt.group (wide : Bool) (kind : SumKind) (a : AccSt) (ps : List FV) (halves : Option (Int × Int)) : AccSt :=
  let a : AccSt := { a with terms := a.terms + ps.length }
  let a : AccSt := match kind, groupSpecial ps with
    | .fma, _ => ps.foldl (fun a p => a.enter false p) a
    | _, some v => a.enter wide v
    | _, none =>
      match kind with
      | .trunc => a.enter wide (exactSum (truncTerms (finTerms ps)))
      | _ =>
        match halves with
        | some (c0, c1) =>
          if (c0 - c1).natAbs ≤ 17 then a.enter wide (exactSum (finTerms ps))
          else
            let h0 := exactSum (finTerms (ps.take 32))
            let h1 := exactSum (finTerms (ps.drop 32))
            let a := { a with split := a.split + 1 }
            if c0 < c1 then (a.enter wide h0).enter wide h1 else (a.enter wide h1).enter wide h0
        | none => a.enter wide (exactSum (finTerms ps))
  if wide ∧ 4096 ≤ a.terms then { a.take false a.acc with terms := 0, spill := a.spill + 1 } else a

/-- Is a pair of operand formats permitted (Table 5-3, R122): rate class 0 float ≤ 8 bits, 1 integer, 2 LG8, 3 16-bit,
4 FP32. -/
def pairKind (a b : Nat) : Option Nat :=
  let f8 := fun x => decide (3 ≤ x ∧ x ≤ 7)
  let i8 := fun x => decide (x = 8 ∨ x = 9)
  if f8 a && f8 b then some 0
  else if i8 a && i8 b then some 1
  else if a = 10 ∧ b = 10 then some 2
  else if (a = 1 ∧ b = 1) ∨ (a = 2 ∧ b = 2) then some 3
  else if a = 0 ∧ b = 0 then some 4
  else none

/-- Is an MX flag permitted on an operand of format `f` in a pair of kind `k` (R120, R122). -/
def mxOk (k f : Nat) : Bool := decide (k = 0) || (decide (k = 1) && decide (f = 8))

/-- The product of two LG8 codes (R119). -/
def lgProduct (a b : Nat) : FV :=
  let neg := (a / 128 + b / 128) % 2 == 1
  let ea := a % 128
  let eb := b % 128
  if ea = 0 ∨ eb = 0 then .num neg 0 0
  else let (m, x) := lgMag (((ea : Int) - 64) + ((eb : Int) - 64)); .num neg m x

/-- Truncate a float code's fraction to its top `keep` bits (R140). -/
def truncFrac (mb keep bits : Nat) : Nat := bits / 2 ^ (mb - keep) * 2 ^ (mb - keep)

/-- The operand bits read under a demotion level (Table 5-5). The spec does not say whether a NaN stays one when its fraction is cut;
the model's choice is the cut bits' own value, which may be another (log entry 58). -/
def demoteBits (level f bits : Nat) : Nat :=
  if level = 0 then bits
  else if f = 1 then truncFrac 7 3 bits
  else if f = 2 then truncFrac 10 3 bits
  else if f = 0 then truncFrac 23 10 bits
  else if level = 2 ∧ f = 3 then truncFrac 3 1 bits
  else if level = 2 ∧ f = 8 then bits / 4 * 4
  else bits

/-- A BF16 subnormal reads as a zero of its sign under FLUSH_BF16 (R139). -/
def flushIn (flush : Bool) (f bits : Nat) : Nat :=
  if flush ∧ f = 1 ∧ bits / 128 % 256 = 0 then bits / 32768 % 2 * 32768 else bits

/-- One element's value: demotion, flush, the MX scale code (R120, R121, R139, R140). -/
def elemVal (level : Nat) (flush mx : Bool) (f bits scale : Nat) : FV :=
  let b := flushIn flush f (demoteBits level f bits)
  if mx then
    if scale = 255 then .nan
    else match decodeFmt f b with
      | .num s n e => .num s n (e + (scale : Int) - 127 + (if f = 8 then -6 else 0))
      | v => v
  else decodeFmt f b

/-! ## Stochastic generators (R136, R137) -/

/-- One step of a 32-bit Galois LFSR with mask 0x8020_0003. -/
def lfsrStep (x : BitVec 32) : BitVec 32 :=
  if x.getLsbD 0 then (x >>> 1) ^^^ 0x80200003#32 else x >>> 1

/-- `n` steps. -/
def lfsrSteps : Nat → BitVec 32 → BitVec 32
  | 0, x => x
  | n + 1, x => lfsrSteps n (lfsrStep x)

/-- An SR draw: sixteen steps, then the low 16 bits. -/
def lfsrDraw (x : BitVec 32) : Nat × BitVec 32 :=
  let y := lfsrSteps 16 x
  (y.toNat % 65536, y)

/-- The start value of a generator: lane number `i` of tile `t`, 0x7F for the scalar lanes (R137). -/
def lfsrSeed (seed t i : Nat) : BitVec 32 :=
  let x := BitVec.ofNat 32 seed ^^^ BitVec.ofNat 32 (t * 2 ^ 24) ^^^ BitVec.ofNat 32 (i * 2 ^ 16)
  if x = 0#32 then 1#32 else x

end Sys2Proof.Machine
end

