-- ==== Sys2Proof/Machine/State.lean ====
section
/-! DEFINITION. The state of the module as plain data, and its value at reset. A visible piece of state has one home: its
register field, in the store `regs`, where a field with no entry holds its Reset value (R13); what the spec gives the
machine beside its registers stands in one structure for each subsystem. -/

namespace Sys2Proof.Machine

/-! ### Keys of the register store -/

/-- One register field of one block instance (die, quay, rail, berth, port, unit; 0 else) and one item (an array's index
or the item that a selector register names; for a selector's own field, the access source of R14). -/
structure RKey where
  f : Fld
  inst : Nat
  item : Nat
  deriving DecidableEq, Repr

/-! ### Outputs -/

/-- What a frame that the module sends carries. -/
inductive Frame where
  | bampor (session : Nat) (type status seq : Nat) (body : List Nat)   -- a Bampor reply (R278)
  | challenge (session : Nat) (body : List Nat)         -- CHALLENGE (R280)
  | tidemark (berth : Nat) (type : Nat) (body : List Nat)              -- a Tidemark frame (R287)
  | roce (qp : Nat) (kind : Nat) (psn : Nat) (body : List Nat)         -- a RoCEv2 packet: kinds in `Machine/Net.lean`
  | pfc (prio : Nat) (xoff : Bool)                      -- a PFC frame (R264)
  | ctrl (kind len : Nat)                               -- ARP, neighbour discovery or echo answer (R260)
  | delayReq (seq : Nat)                                -- a PTP Delay_Req (R276)
  deriving DecidableEq, Repr

/-- What stands around it: port and sub-port, source and destination addresses, 802.1Q VLAN (0 untagged), UDP port (0: no UDP),
priority and the traffic class that it maps to, and whether its ECN codepoint is ECT(0) (R260 to R265, R278, R288). -/
structure Wire where
  port : Nat
  sub : Nat
  src : Addr
  dst : Addr
  vlan : Nat
  udp : Nat
  prio : Nat
  tc : Nat
  ect : Bool
  deriving DecidableEq, Repr

/-- What the module puts out: a model's trace of its answers and frames, oldest first (log entry 4). -/
inductive Tx where
  | access (src : Source) (status data : Nat)          -- the outcome of a register access (R7, R59, R285)
  | smbus (bytes : List Nat)                            -- the bytes that an SMBus command returns, PEC last (Table 2-7)
  | nack                                                -- an SMBus transaction that is not acknowledged (R56)
  | frame (w : Wire) (f : Frame)                        -- an Ethernet frame
  | helm (pilot rail : Nat) (bytes : List Nat)          -- a helm command (R343)
  | copy (pilot : Nat) (alive cycle : Nat) (ret : Bool) -- a state copy (R488)
  deriving DecidableEq, Repr

/-! ### Pins and sideband (chapter 2) -/

/-- Input levels and what the module keeps of them. -/
structure Pins where
  presentN : Bool := false       -- PRESENT_N as filtered (R34)
  pwrEn : Bool := false          -- PWR_EN (R49)
  capFastN : Bool := true        -- CAP_FAST_N (R50)
  ilkClosed : Bool := false      -- the interlock loop carries at least 4 mA (R39)
  ilkDrive : Bool := true        -- PACK_ILK_A driven from AO (R39)
  slotStraps : Nat := 15         -- SLOT_ID[3:0] as tied in the slot (R55)
  alert : Bool := false          -- ALERT_N asserted (R46)
  wake : Bool := false           -- WAKE_N asserted (R47)
  limiter : Bool := true         -- inrush limiter on (Table 3-5)
  ppsSeen : Nat := 0             -- time of the last PPS_IN edge that was taken, ps (R43)
  syncOut : Bool := false        -- SYNC_OUT driver on (R51)
  ppsOut : Bool := false         -- PPS_OUT driver on (R43)
  flowPulses : List Nat := []    -- times of COOL_FLOW edges within the last 500 ms, ps, newest first (R53)
  tinFailed : Bool := false      -- COOL_TIN open or shorted (R52)
  toutFailed : Bool := false      -- COOL_TOUT open or shorted (R52, R475)
  smbStatus : Nat := 0           -- LAST_STATUS (R57)
  trstN : Bool := false          -- TRST_N as the tester drives it; low: the port stays in Test-Logic-Reset (R62)
  tap : Vector TapInstr 9 := Vector.replicate 9 .idcode      -- the chain's instruction registers, in the order of `TapDev` (R61)
  ppsHeld : Option Bool := none  -- the level that PPS_OUT holds since a warm reset of NET, until PTP is ready again (R77)
  deriving DecidableEq, Repr

/-! ### Resets (chapter 3) -/

/-- Reset control beside the RST registers. -/
structure ResetSt where
  requested : Nat := 0           -- domains with a reset request not yet acted on, one bit each (R70)
  waiting : Nat := 0             -- domains whose request waits for a flash program pulse (R71)
  cold : Bool := true            -- the pending or running reset is a cold one (R67)
  coldTime : Nat := 0            -- time of the last cold reset, ps (R527)
  waitCold : Option (List Nat) := none   -- a cold reset waits, by its causes of Table 3-2 (R71)
  genCount : Vector Nat 8 := Vector.replicate 8 0   -- resets of each compute die (undefined contents, Table 3-3)
  seen : Nat := 0                -- readiness bits that have set since the last cold reset (R43, R516)
  released : Nat := 6            -- domains that have left reset since the last cold reset, one bit each (R73)
  deriving DecidableEq, Repr

/-! ### Logbook and check-value units (chapter 21) -/

/-- A logbook record (Table 21-3), its CRC apart, which R527 computes. -/
structure LogRecord where
  seq : Nat
  time : Nat
  code : Nat
  level : Nat
  ptp : Bool
  onPB : Bool
  secondary : Bool := false
  latching : Bool := false
  unhandled : Bool := false
  unit : Nat
  arg0 : Nat
  arg1 : Nat
  secCode : Nat := 0
  secCount : Nat := 0
  eflags : Nat := 0
  deriving DecidableEq, Repr

/-- A latched function (R521): the chapter byte of the code, the unit, and the SEQ of the record that opened it. -/
structure Latch where
  chapter : Nat
  unit : Nat
  seq : Nat
  deriving DecidableEq, Repr

/-- An event in handling or in the handling queue (R522). -/
structure Handling where
  seq : Nat
  code : Nat
  unit : Nat
  level : Nat
  deriving DecidableEq, Repr

/-- The logbooks of both pilots and the handling of events. -/
structure LogSt where
  ring : Vector (List LogRecord) 2 := Vector.replicate 2 []      -- each pilot's ring, oldest first (R526)
  flash : Vector (List LogRecord) 2 := Vector.replicate 2 []     -- each pilot's flash log, oldest first (R530)
  mounted : Vector Bool 2 := Vector.replicate 2 false            -- the mount of R531 is complete
  held : Vector (List LogRecord) 2 := Vector.replicate 2 []      -- events held before the mount (R570)
  nextSeq : Nat := 0
  latches : List Latch := []
  handling : Option Handling := none
  preempted : List Handling := []                                -- pre-empted handlings, innermost first (R522)
  queue : List Handling := []                                    -- waiting events in arrival order (R522)
  unread : List Nat := []                                        -- SEQs of unread records, oldest first (R534)
  flushTo : Nat := 0                                             -- SEQ bound of the running flush (R529)
  secPending : List Nat := []                                    -- flushed latching records with news (R524)
  overflowAt : Option Nat := none                                -- time of the last 0x2101 (R523)
  lostAt : Option Nat := none                                    -- time of the last first-loss (R530)
  lostPending : Option (Nat × Nat) := none                       -- records lost, time of the first (R530)
  wantSeq : Option Nat := none                                   -- the record that the window latches (R532)
  flashBroken : Bool := false                                    -- the flash log cannot be written (R530)
  deriving DecidableEq, Repr

/-- What a check-value unit holds beside its registers (R536, R538). -/
structure CvuUnit where
  crc : Nat := 0                      -- the running register of a software computation
  alive : List (Nat × Nat) := []      -- alive counters by key (R536)
  running : Bool := false             -- START has been written
  deriving DecidableEq, Repr

/-! ### Pilots and harbourmaster (chapter 19) -/

/-- The roles of R485; a pilot whose SUP half is released is in self-test until it is standby or granted. -/
inductive Role where
  | active
  | standby
  | out
  | selfTest
  deriving DecidableEq, Repr

/-- One pilot as HMA sees it. -/
structure PilotSt where
  role : Role := .selfTest
  linkEn : Bool := false             -- LINK_EN (R486)
  linkOut : Bool := true             -- link outputs not gated off by a lockstep mismatch (R490)
  hbRunning : Bool := false          -- the heartbeat runs
  hbLast : Nat := 0                  -- time of its last edge, ps
  hbGap : Nat := 10000000            -- time between its last two edges, ps (Table 19-2)
  hbSince : Nat := 0                 -- time since which it has run, ps (R498)
  lockstepOk : Bool := true
  identityOk : Bool := false         -- the PUF gave the identity key (R543)
  firmwareOk : Bool := false         -- a firmware slot verified (R546)
  accepted : Nat := 0                -- copies accepted since STANDBY was entered (R489)
  lastAlive : Option Nat := none
  lastCycle : Option Nat := none
  sinceCopy : Nat := 4               -- control cycles of the active pilot since the last accepted copy, at most 4 (R489)
  syncedSince : Option Nat := none   -- since when it has been synchronised without a break (R495)
  copyErrAt : Option Nat := none     -- time of the last 0x1904 (R489)
  forced : List Nat := []            -- times of its forced resets in the last 10 min (R493)
  held : Bool := false               -- held OUT (R493)
  aliveTx : Nat := 0                 -- ALIVE of the next copy sent
  cycleTx : Nat := 0                 -- control cycles since its grant (Table 19-1)
  deriving DecidableEq, Repr

/-- A handover in progress (R496). -/
structure Handover where
  cause : Nat                        -- 6 host switch, 7 return
  old : Fin 2
  sent : Bool := false               -- the copy with RETURN set has been sent
  accepted : Bool := false           -- that copy has been accepted
  granted : Option Nat := none       -- time at which the new pilot was granted, ps: the overlap runs
  deriving DecidableEq, Repr

/-- HMA. -/
structure HmaSt where
  grant : Option (Fin 2) := none
  handover : Option Handover := none
  lastReturn : Option Nat := none    -- time of the last return to PA (R495)
  takeover : Option Bool := none     -- a takeover waits for the new engine's next boundary; warm or cold (R492)
  gapFrom : Option Nat := none       -- last heartbeat edge of the pilot that lost control, ps, until CL00 has put out (R491)
  bwcZero : Bool := false            -- the line to HC3 that holds the BWC command at 0 (R498)
  noGrant : Option Nat := none       -- since when control has been lost by both pilots, ps (R498)
  deriving DecidableEq, Repr

/-! ### Slipway (chapter 20) -/

/-- The slipway beside its registers. -/
structure HplSt where
  since : Nat := 0                   -- time at which the present state was entered, ps
  noHoldup : Bool := false           -- the surprise sequence runs without hold-up (R513)
  recorded : Bool := false           -- its module fault record is written (Table 20-3)
  limiterOff : Bool := false         -- AO keeps the limiter off until the cold reset (R511)
  deriving DecidableEq, Repr

/-! ### Compute dies (chapters 4 to 6) -/

/-- One gang of the committed gang map and format map (R97, R139, R140). -/
structure Gang where
  nw : Nat                          -- north-west tile
  shape : Nat                       -- 0: 1 × 1, 1: 1 × 2, 2: 2 × 2, 3: 2 × 4, 4: 4 × 4
  demoteMax : Nat := 0
  flushBf16 : Bool := false
  ballast : Bool := false
  deriving DecidableEq, Repr

/-- What the committed image gives a compute die: its own sections (chapter 7). -/
structure DieImage where
  gangs : List Gang := []
  links : List Nat := []                   -- LINK[t]: bit 0 links tile t with t + 1, bit 1 with t + 12 (R180)
  use : List (Nat × Nat) := []             -- USE[g], both bytes (R180)
  overflowMib : Nat := 0
  deriving DecidableEq, Repr

/-- An operation-table entry: eight words (Table 6-4). -/
abbrev OpEntry := List Nat

/-- A gang operation in flight: its class (1 MAT, 2 VEC, 3 RTE) and OP, its gang and the array it works on (north-west tile,
height and width in tiles, the whole chained array under R99), crossings, its entry with every tile address advanced for its
repeat (R152), its buffer or set, the stream cycle of its issue, its slot position, the gangs of its array, each with its tiles, the
demotion level it issued with (R141) and its BF16 flush, the stream cycles after which it has ended, its gather's number, and the
rows it has read and not yet used, by row and tile. -/
structure Flight where
  cls : Nat
  op : Nat
  gang : Nat
  nw : Nat
  h : Nat
  w : Nat
  cross : Nat := 0
  entry : OpEntry
  buf : Nat := 0
  start : Nat
  slot : Nat
  modes : List (List Nat × Nat × Bool) := []
  span : Nat                         -- the flight ends when this many cycles have passed since its issue
  gather : Nat := 0
  rows : List ((Nat × Nat) × List Nat) := []
  deriving DecidableEq, Repr

/-- A gang resource taken until a stream cycle (Table 6-5): kind 0 matrix input, 1 weight buffer, 2 weight load port,
3 accumulator set, 4 vector unit, 5 route port; the index is the buffer, set or port. -/
structure Taken where
  gang : Nat
  kind : Nat
  idx : Nat
  until_ : Nat
  deriving DecidableEq, Repr

/-- A weight buffer as loaded: row bytes, metadata bytes, and scale bytes by output element and block. -/
structure WBuf where
  rows : List (List Nat)
  meta_ : List Nat
  scales : List (List Nat)
  deriving DecidableEq, Repr

/-- Who made a request over fairway: descriptor number `run` of a tug, a row of a gather or scatter, a RoCEv2 segment of a net die. -/
inductive Requester where
  | tug (quay tug run : Nat)
  | row (die gather row : Nat)
  | segment (n : Nat)
  deriving DecidableEq, Repr

/-- What an external access does: an LDT into a lane's register, an STT of 8 bytes, or a line of a tug's request `k`, a write or a
read (R94, R106, R107). -/
inductive ExtWork where
  | ldt (lane rd : Nat)
  | stt (data : Nat)
  | tug (req : Requester) (k : Nat) (wr : Bool)
  deriving DecidableEq, Repr

/-- An external access that waits for its bank of tile SRAM, or for its die pool quadrant if `tile` is 96 (R94, R107). -/
structure ExtAcc where
  tile : Nat
  addr : Nat
  work : ExtWork
  waited : Nat := 0                  -- enabled cycles waited
  deriving DecidableEq, Repr

/-- An LDT whose access was served: the value is written after `left` enabled cycles (R156). -/
structure LdtDone where
  lane : Nat
  rd : Nat
  value : Nat
  left : Nat
  deriving DecidableEq, Repr

/-- A tug descriptor issued or deferred (R157, R216): channel, tally, the eight words, repeat index, frame number. -/
structure TugIssue where
  chan : Nat
  tally : Nat
  entry : OpEntry
  rep : Nat
  frame : Nat
  seq : Nat := 0           -- its place in the die's order of tug issues (R216)
  deriving DecidableEq, Repr

/-- Where a row of a gather or scatter stands: its request not yet made, made, under way in fairway, or completed with a status
(R166, R223). -/
inductive RowState where
  | waiting
  | asked
  | outstanding
  | done (status : Nat)
  deriving DecidableEq, Repr

/-- One row of a gather or scatter: its number within its tile, tile, tile address, berth address, and the bytes a scatter has read
(R155). -/
structure GRow where
  idx : Nat
  tile : Nat
  sram : Nat
  addr : Nat
  data : Option (List Nat) := none
  st : RowState := .waiting
  deriving DecidableEq, Repr

/-- A gather or scatter in flight (R155, R223). -/
structure Gather where
  id : Nat
  scatter : Bool
  tally : Nat
  rows : List GRow
  frame : Nat
  deriving DecidableEq, Repr

/-- A collective handle: posted, or completed with a status that no CWAIT has consumed (R159). -/
structure Handle where
  id : Nat
  entry : OpEntry
  rep : Nat
  status : Option Nat
  deriving DecidableEq, Repr

/-- An event of the die's event queue (R161). -/
inductive DieEvent where
  | syncpt (step : Nat) (time : Nat)
  | hint (lead pclass id : Nat) (time : Nat)
  deriving DecidableEq, Repr

/-- A frame-start snapshot (R170). -/
structure Snapshot where
  pc : Nat
  step : Nat
  scalars : List ((Nat × Nat) × BitVec 64)
  preds : Nat
  loops : Vector (BitVec 32) 4
  tallies : Vector Nat 16
  deriving DecidableEq, Repr

/-- A rate change that a die prepares (R306, R307): the code, EFFECTIVE_STEP and the origin (BEACON_TIME or the moment of
a departure), ps; `noStep`: no effective step binds (a departure, R297). -/
structure RatePending where
  code : Nat
  step : Nat
  origin : Nat
  noStep : Bool
  deriving DecidableEq, Repr

/-- What a compute die holds beside its registers. -/
structure DieSt where
  image : Option DieImage := none
  berth : Option (Fin 8) := none                     -- the berth that holds the die
  scalars : List ((Nat × Nat) × BitVec 64) := []     -- (lane, register); unlisted registers hold 0
  preds : Nat := 1                                   -- P0 to P15, one bit each; P0 reads 1 (R105)
  predNext : List (Nat × Bool) := []                 -- predicates written by TWAIT and CWAIT, to govern from the next bundle (R159)
  loops : Vector (BitVec 32) 4 := Vector.replicate 4 0#32
  vregs : List ((Nat × Nat) × List (BitVec 32)) := []     -- (tile, register) as written; others undefined
  wbufs : List ((Nat × Nat) × WBuf) := []            -- (tile, buffer) as loaded; others undefined
  accs : List ((Nat × Nat) × List FV) := []          -- (tile, set) as accumulated, row by row; others undefined
  accTerms : List ((Nat × Nat) × Nat) := []          -- wide terms since the last drain (R130)
  flights : List Flight := []
  taken : List Taken := []
  scoreboard : List (Nat × Nat × Nat) := []          -- (lane or 4 for predicates, register, pending until)
  ext : List ExtAcc := []                            -- oldest first
  extDone : List (Requester × Nat × Bool) := []      -- lines of tug requests served and not yet answered: request, write
  ldts : List LdtDone := []
  cycle : Nat := 0                                   -- stream cycles since the release of the die's domain
  rep : Nat := 0                                     -- the next repeat of the bundle in issue
  inIssue : Bool := false                            -- a bundle is in issue (R171)
  slotFrom : Nat := 0                                -- slots below have acted in the issue in progress, others still wait (R153, R157)
  fetchStall : Nat := 0                              -- stall cycles of the fetch still to come (R164)
  stopAfter : Bool := false                          -- STOP was written while a bundle was in issue (R171)
  seedPend : Bool := false                           -- CDC_SR_SEED has been written and not committed (R137)
  nextGather : Nat := 0                              -- number of the next gather or scatter
  ended : Bool := false                              -- HALT has acted; stopped once every occupancy ends (R163)
  parkAfter : Bool := false                          -- a SYNCPT of the bundle in issue has issued: a park acts after its last repeat
  rateAfter : Bool := false                          -- a rate change acts after the last repeat (R160, R168)
  tallies : Vector Nat 16 := Vector.replicate 16 0
  tallyErr : List (Nat × Nat) := []                  -- (tally, completions ahead of it) of each error not consumed (R159)
  chans : List TugIssue := []                        -- issued descriptors not completed, oldest first (R157)
  deferred : List TugIssue := []
  nextTug : Nat := 0                                 -- number of the next tug issue
  gathers : List Gather := []
  handles : List Handle := []
  events : List DieEvent := []
  frameDone : Bool := false                          -- the die issued its SYNCPT for the present frame (R170)
  frameNo : Nat := 0
  snapshot : Option Snapshot := none
  restoring : Bool := false                          -- an abandoned frame's snapshot is being restored (R170)
  idleWin : List (Nat × Nat × Nat) := []             -- (gang, until, length): declared IDLE windows, in stream cycles (R169)
  waitStall : Nat := 0                               -- consecutive stall cycles of the present wait (R169)
  ballast : List Nat := []                           -- gangs on which ballast runs
  duDomain : Nat := 0                                -- duty asked, k of 8, 0 none: domain code, thermal, reserve (R25)
  duThermal : Nat := 0
  duReserve : Nat := 0
  hotFailed : List Nat := []                         -- sensors marked failed (R110)
  lanes : List (Nat × BitVec 32) := []               -- generators: tile × 256 + lane, 24576 + lane for scalar lanes; others at their seed (R137)
  seedNow : Nat := 1                                 -- the committed SR seed (R137)
  parkSrc : List ParkSrc := []                       -- who asked the pending park (R160)
  target : Nat := 0x28                               -- the committed RHD_TARGET.CODE of the die (R293)
  ratePend : Option RatePending := none
  code : Nat := 0                                    -- rate code in force (R104)
  standbyLocked : Option Nat := none                 -- the code the standby PLL is locked to (R306)
  rampedTo : Option Nat := none                      -- the code whose voltage the VC rail has reached (R306)
  deriving DecidableEq, Repr


/-! ### Structure images and berths (chapters 7 and 12) -/

/-- One port's identities of a berth (R184). -/
structure PortNet where
  mac : Nat
  vlan : Nat
  ipv4 : Nat
  ipv6 : Nat
  deriving DecidableEq, Repr

/-- One entry of the hint table (R185). -/
structure HintEntry where
  valid : Bool
  learn : Bool
  durUs : Nat
  seedW : Nat
  deriving DecidableEq, Repr

/-- A berth's committed sections BERTH_DESC, BERTH_NET and HINT_TABLE (R183 to R185). -/
structure BerthDesc where
  dieMask : Nat
  quayMask : Nat
  capWeight : Nat
  qpCount : Nat
  ballastMaxW : Nat
  hbm : List (Nat × Nat)          -- BASE_GIB, SIZE_GIB of stacks 0 to 15
  qsram : List (Nat × Nat)        -- CACHE_MIB, SCRATCH_MIB of quays 0 to 7
  chan : List (Nat × Nat)         -- quay (0xFF unmapped), tug of channel 16 n + c
  bamporKey : List Nat
  imgKey : List Nat
  qpBase : Nat
  ports : List PortNet
  classW : List Nat
  hints : List HintEntry
  deriving DecidableEq, Repr

/-- One directory section of an image (Table 7-2): type, scope, offset, length. -/
structure Section where
  type : Nat
  scope : Nat
  off : Nat
  len : Nat
  deriving DecidableEq, Repr

/-- A berth beside its registers. -/
structure BerthSt where
  desc : Option BerthDesc := none       -- committed structure; none: the berth does not exist (R326)
  digestS : List Nat := []              -- S_b (R201)
  digestD : List Nat := []              -- D of the image that last committed it (R187)
  tag : Nat := 0                        -- manifest tag (R202)
  hold : Bool := false                  -- quiesce hold (R328)
  parkedDies : List Nat := []           -- dies that the hold parked (R330)
  loopWait : Bool := false              -- the next frame waits for every die to restore its snapshot (R170)
  deriving DecidableEq, Repr

/-- The image loader (Table 7-6) and the image slots of both flashes (R196, R199). -/
structure ImgSt where
  frames : List (Nat × List Nat) := []        -- stored frames: index, payload bytes
  length : Option Nat := none                 -- LENGTH once frame 0 is stored
  lastFrame : Nat := 0                        -- time of OPEN or of the last accepted frame, ps
  stored : Bool := false                      -- both copies are stored and the structure applied (R196)
  copies : Vector Bool 2 := Vector.replicate 2 false   -- flashes that hold the stored copy (R196)
  openedBy : Option Nat := none               -- the berth whose session opened the load (R283)
  tried : Nat := 0                            -- berths whose restore has been decided at this start-up, one bit each (R199)
  full : Vector (Option (List Nat)) 2 := Vector.replicate 2 none            -- current full image of each flash
  partials : Vector (List (Nat × List Nat)) 2 := Vector.replicate 2 []      -- current partial images, by berth
  deriving DecidableEq, Repr

/-! ### Quay dies (chapter 8) -/

/-- An outstanding request of a descriptor (R220): its number, row, offset in the row, and bytes. -/
structure TugReq where
  k : Nat
  row : Nat
  off : Nat
  size : Nat
  deriving DecidableEq, Repr

/-- A descriptor that a tug has taken (R219 to R222): its die, its issue, the causes of Table 8-4 met so far, its number at the tug, the
requests issued, the row and offset of the next one, and the outstanding requests, oldest first. -/
structure TugRun where
  die : Fin 8
  issue : TugIssue
  codes : List Nat := []
  num : Nat := 0
  issued : Nat := 0
  row : Nat := 0
  off : Nat := 0
  out : List TugReq := []
  deriving DecidableEq, Repr

/-- A tug: its running descriptors, oldest first, the channel served last (16 n + c), and the number of its next descriptor. -/
structure TugSt where
  runs : List TugRun := []
  lastChan : Nat := 127
  nextRun : Nat := 0
  deriving DecidableEq, Repr

/-- A line of a berth's quay cache (R213): stack 0 or 1 of the quay, line address ÷ 256, and its four sectors as
(valid, dirty, 64 bytes). -/
structure CacheLine where
  berth : Nat
  stack : Nat
  line : Nat
  sectors : List (Bool × Bool × List Nat)
  deriving DecidableEq, Repr

/-- Bytes `lo` up to `hi` of a berth's scratch on a quay that hold undefined data since a commit moved them and that nothing has written
(R198); `gen` tells one commit's from another's. -/
structure OpenSram where
  berth : Nat
  lo : Nat
  hi : Nat
  gen : Nat
  deriving DecidableEq, Repr

/-- A quay die beside its registers. -/
structure QuaySt where
  tugs : Vector TugSt 32 := Vector.replicate 32 {}
  cache : List CacheLine := []                       -- most recently used first
  opened : List OpenSram := []                       -- scratch that holds undefined data (R198)
  openGen : Nat := 0                                 -- commits that moved quay SRAM
  corrAt : Vector Nat 2 := Vector.replicate 2 0      -- corrected errors since the last 0x0801, per stack
  rowCorr : List (Nat × Nat × Nat) := []             -- (stack, row, time ps) of corrected errors in the last 24 h
  busyRest : Vector Nat 2 := Vector.replicate 2 0    -- bytes moved since the last whole CK cycle of BUSY, per stack (R233)
  tryRate : Vector Nat 2 := Vector.replicate 2 0     -- the rate at which a stack trains or trained last, coded as RATE_MAX (R225)
  failed : Vector Bool 2 := Vector.replicate 2 false -- stack failed in operation or training (R572, R225)
  doubled : Vector Bool 2 := Vector.replicate 2 false -- refresh rate doubled (R226)
  writebacks : List (Nat × Nat) := []                -- corrected words to be written back: stack, byte offset (R227)
  deriving DecidableEq, Repr

/-! ### Fairway (chapter 9) -/

/-- A packet of fairway (R237 to R245): a request or a response, of a read or a write, of request `k` of its requester; its berth, its
age stamp (the fabric cycle of its injection), its flits, the second virtual channel of the quay ring (R239), the hops (link,
direction) it has still to take, the link direction whose far-end buffer holds it (none: its source port), the fabric cycle from
which it may leave, the failure that a response reports, and whether a request waits at its store. -/
structure Packet where
  req : Requester
  k : Nat
  resp : Bool
  wr : Bool
  berth : Nat
  stamp : Nat
  flits : Nat
  ring2 : Bool := false
  hops : List (Nat × Nat)
  buf : Option Nat := none
  ready : Nat
  code : Nat := 0
  atStore : Bool := false
  deriving DecidableEq, Repr

/-- A piece of a RoCEv2 segment, at most 256 bytes inside a 256-byte block, that a net die has asked of fairway: its number, the net die,
queue pair, berth, berth address, bytes, and whether it is a write (R210, R248). -/
structure Seg where
  n : Nat
  net : Nat
  qp : Nat
  berth : Nat
  addr : Nat
  size : Nat
  wr : Bool
  op : Nat               -- the operation that it is part of
  deriving DecidableEq, Repr

/-- The arbiter of a link direction (R243, R247): the berth served last, the berth being visited with the slots it has used, the
berths visited in the present round, the weights that round started with, slots that the last packet took beyond its cycle, and by
berth the cycles that its oldest eligible packet has waited. -/
structure Arbiter where
  dir : Nat                                          -- link × 2 + direction
  last : Nat := 7
  visit : Option (Nat × Nat) := none
  visited : List Nat := []
  weights : List Nat := []
  debt : Nat := 0
  waits : List (Nat × Nat) := []
  deriving DecidableEq, Repr

/-- The fairway beside its registers. -/
structure FwySt where
  cycle : Nat := 0                                   -- fabric cycles
  packets : List Packet := []                        -- oldest injected first
  arbs : List Arbiter := []                          -- arbiters that have served a packet
  segs : List Seg := []                              -- pieces of RoCEv2 segments not completed, in the net dies' packet buffers
  nextSeg : Nat := 0                                 -- number of the next one
  winAt : Nat := 0                                   -- start of the present 1 ms window, ps (R254)
  winActive : List (Nat × Nat × Nat) := []           -- (link, time ps, active sub-links until then): changes within it
  trained : List Nat := []                           -- dies whose fabric port has trained: CDn n, QDn 8 + n, NDn 16 + n
  down : List Nat := []                              -- links taken down since they last trained (R251)
  replays : List (Nat × Nat × Nat × Nat) := []       -- (link, sub-link, direction, time ps) of replays in the last 1 ms
  consec : List (Nat × Nat × Nat × Nat) := []        -- (link, sub-link, direction, consecutive replays of one flit)
  retryRec : List (Nat × Nat) := []                  -- (link, replays since the last 0x0901)
  winFlits : List (Nat × Nat) := []                  -- (link × 2 + direction, flits sent in the present window)
  timeoutAt : Option Nat := none                     -- time of the last 0x0904
  deriving DecidableEq, Repr

/-! ### Net dies, queue pairs, collectives, Bampor (chapter 10) -/

/-- A queue pair beside its registers. -/
structure QpSt where
  qp : Nat
  rateMbps : Nat                     -- send rate (R265)
  cnpSent : Option Nat := none       -- time of the last CNP sent for it, ps
  cnpRecv : Option Nat := none       -- time of the last CNP received or rate step, ps
  unacked : List (Nat × List Nat) := []    -- packets sent and not acknowledged: PSN and data, oldest first (R270)
  sent : Nat := 0                    -- packets sent since it moved to RTS
  retries : Nat := 0                 -- retransmissions of the oldest of them
  downSince : Option Nat := none     -- its sub-port has been down since (Table 10-2)
  deriving DecidableEq, Repr

/-- A collective in flight (R275). -/
structure Coll where
  die : Fin 8
  handle : Nat
  berth : Nat
  group : Nat
  entry : OpEntry
  rep : Nat
  posted : Nat
  own : Option (Nat × List Nat) := none    -- once its engine has taken it: status and bytes of what it read at SRC (R274)
  deriving DecidableEq, Repr

/-- A PTP clock as a slave of the default profile: its parent, the last Sync (origin and receive time, ns), the two-step Sync that
waits for its Follow_Up, and its Delay_Req (sequence number and send time) while no answer has come (R276). -/
structure PtpSt where
  parent : Option Nat := none
  sync : Option (Int × Int) := none
  waits : Option (Nat × Int) := none
  req : Option (Nat × Int) := none
  nextReq : Nat := 0
  deriving DecidableEq, Repr

/-- A Bampor session in CHALLENGED or OPEN (Table 10-7). -/
structure Session where
  id : Nat
  role : Nat                         -- 0xFF owner, 0 to 7 berth
  isOpen : Bool
  provisioning : Bool := false       -- an owner session of a module with no owner (R549)
  kc : List Nat
  km : List Nat
  setup : List Nat                   -- HELLO payload and CHALLENGE payload, as signed
  highSeq : Option Nat := none
  lastReq : List Nat := []           -- bytes of the request with the highest accepted SEQ
  reply : Option (Nat × Nat × List Nat) := none     -- its stored reply: type, status, body
  since : Nat                        -- time of the CHALLENGE or of the last accepted request, ps
  deriving DecidableEq, Repr

/-- The net dies beside the NET registers. -/
structure NetSt where
  qps : List QpSt := []
  colls : List Coll := []
  sessions : List Session := []
  nextSession : Nat := 1
  winBytes : List (Nat × Nat × Nat) := []      -- (port, sub-port, bytes sent in the present 1 ms window) (R289)
  xoffSent : List (Nat × Nat × Nat) := []      -- (port, sub-port, priority) with XOFF outstanding (R264)
  paused : List (Nat × Nat × Nat) := []        -- (port, sub-port, priority) paused by the peer
  held : List (Wire × Frame) := []             -- frames that wait for a paused priority, oldest first (R264)
  ptpBase : Int := 0                           -- module time less run time, ns (R277)
  ptpValid : Bool := false
  ptp : PtpSt := {}                            -- the clock that disciplines the module time
  modeNow : Vector Nat 2 := Vector.replicate 2 0       -- port mode in force since the last release (Table 10-1)
  anNow : Vector Bool 2 := Vector.replicate 2 false
  polNow : Vector Nat 2 := Vector.replicate 2 0        -- lane polarities in force, one bit a lane (R42)
  udpNow : Nat × Nat := (60736, 60737)                 -- UDP ports in force (R278)
  deriving DecidableEq, Repr

/-! ### Rate hold (chapter 11) -/

/-- A member in the master's table (R300, R303, R318). -/
structure Member where
  index : Nat
  tagOk : Bool := true
  rate : Nat := 0
  duty : Nat := 0
  step : Nat := 0
  skew : Nat := 0
  missed : Nat := 0
  heard : Bool := false              -- STATUS received in the present period
  quiet : Nat := 3                   -- periods closed since its last STATUS, at most 3 (R313)
  pending : Bool := false            -- admitted, in the table from the epoch that the next beacon opens (R315)
  req : Option (Nat × Nat) := none   -- held request: code, expiry time ps
  deriving DecidableEq, Repr

/-- A berth's rate-hold logic beside its registers. -/
structure RhdSt where
  periodUs : Nat := 1000             -- P (R296)
  domainTag : Nat := 0
  masterAddr : Option Addr := none   -- where the master's frames come from: what goes to it is sent there (R288)
  heardFrom : List (Nat × Nat × Nat) := []   -- per sender: ALIVE and BEACON_TIME, ns, of the last beacon accepted from it (R299)
  sentTime : Option Nat := none      -- BEACON_TIME of its own last beacon as master, ns (R298)
  ownReq : Option (Nat × Nat) := none   -- the master's own berth's request: code, expiry time ps (R303)
  heardAt : Nat := 0                 -- time it was accepted, ps
  highEpoch : Nat := 0
  missed : Nat := 0                  -- consecutive periods missed
  fromEpoch : Option Nat := none     -- admitted: MEMBER from the first beacon of this epoch
  stateSince : Nat := 0              -- time the present state was entered, ps
  claimAt : Option Nat := none       -- time of its own CLAIM
  outranked : Bool := false          -- a CLAIM or BEACON of higher precedence has arrived since ELECTING
  mute : Bool := false               -- a master told to stop beaconing (R311)
  members : List Member := []
  newEpoch : Bool := false           -- the next beacon opens an epoch (R315)
  lossEpoch : Bool := false          -- and it is a loss epoch
  joins : List (Nat × Nat × Addr) := []    -- JOIN_REPLYs due after the next beacon: result, index, candidate's address
  windows : List Nat := []           -- MEMBERS at the start of the last periods, newest first (R313)
  periods : Nat := 0                 -- periods since it became master (R312)
  domRate : Nat := 0                 -- the domain's RATE, as the last beacon gave it
  memRatio : Nat := 0                -- MEM_RATIO of the last STATUS (R300)
  ratioBase : List (Nat × Nat × Nat) := []   -- per die: CDC_STALL_MEM and CDC_ENABLED when it was taken
  quorumBase : Nat := 0
  lastPending : Nat := 0             -- last PENDING accepted from a previous master (R312)
  everHeard : Bool := false          -- a beacon has been accepted (R314)
  expiredAt : Option Nat := none     -- when a held request last expired (R303)
  lastRank : Bool × Nat := (false, 0)  -- PINNED and SENDER of the master followed
  key : Vector Nat 8 := Vector.replicate 8 0
  aliveTx : Nat := 0                 -- Tidemark frames sent, modulo 65,536
  ceilings : List (Nat × Nat) := []  -- (reason, code): ceilings and requests in force, by Table 11-3 reason
  lifted : List (Nat × Nat) := []    -- (reason, since when its condition has not held, ps) (R465)
  deriving DecidableEq, Repr

/-! ### Power train, rail protection and fault records (chapters 13 and 14) -/

/-- A helm command accepted and waiting for the rail's next switching-period boundary (R344). -/
structure HelmCmd where
  en : Bool
  hold : Bool
  set : Nat
  deriving DecidableEq, Repr

/-- A rail as its helm controller runs it, beside its registers. Voltages in mV, currents in A, both exact. -/
structure RailSt where
  alive : Vector (Option Nat) 2 := Vector.replicate 2 none   -- ALIVE of the last command accepted on each link (R343)
  waiting : Option HelmCmd := none                    -- accepted, not yet at a boundary
  links : Nat := 0                                    -- links that delivered an accepted command in this period (R344)
  en : Bool := false                                  -- EN, HOLD and set-point in force
  hold : Bool := false
  target : Int := 0
  vset : Rat := 0                                     -- set-point in force (R354)
  vsetPast : List (Nat × Rat) := []                   -- set-points in force in the last 20 µs: time ps, newest first (R378)
  ic : Rat := 0                                       -- per-phase command of the voltage loop (R353)
  ePrev : Rat := 0
  ssRef : Rat := 0                                    -- soft-start reference (R361)
  ssRate : Rat := 0                                   -- its rise, mV/µs: set-point ÷ SS_TIME as the soft start found it (R361)
  half : Bool := true                                 -- the output has reached 50% of the set-point since the start (R376)
  ssStart : Nat := 0                                  -- start of the soft start, ps (R376)
  first : Option Nat := none                          -- V_0, mV, while its soft start's first period is to come (R361)
  decaying : Bool := false                            -- on, not yet switching: output above the set-point (R361)
  shed : List Nat := []                               -- shed phases, most recently shed first (R356)
  rampOff : Option (Nat × Nat) := none                -- phase being shed and periods left (R356)
  thermal : List Nat := []                            -- phases stopped by their stages (R377)
  trim : List (Nat × Rat) := []                       -- d_k of each phase, others 0 (R355)
  onTime : List (Nat × Rat) := []                     -- on-times of the phases in the last period, µs (R352)
  phaseNow : Nat := 0                                 -- PHASE of its group as its slots have it, 1/64 of a period (R364)
  stepped : Bool := false                             -- a load step is declared (R357)
  braking : List Nat := []                            -- phases that brake (R359)
  limited : Nat := 0                                  -- consecutive limited periods (R375)
  limitedAgo : Nat := 16                              -- periods since the last limited one, at most 16 (R373)
  latch : Option Nat := none                          -- a latch and its cause (Table 14-4)
  bollard : Bool := false                             -- the bollard latch of a VC rail (R471)
  thermalOff : Bool := false                          -- stopped because fewer than N_MIN phases can run (R377)
  checked : Bool := false                             -- the high-side check before this start is done (R381)
  regSince : Option Nat := none                       -- in regulation since, ps (R375)
  deriving DecidableEq, Repr

/-- A fault record's writer (R384 to R386): item 0 to 49 a rail, 50 the module. Each flash holds two slots. -/
structure RecSt where
  seq : Nat := 0                                      -- SEQ of the last write, both slots together
  slots : Vector (List (List Nat)) 2 := Vector.replicate 2 []     -- per flash, the slots written, newest first, at most two
  writing : Option (List Nat) := none                 -- bytes of the record being written
  next : Option (List Nat) := none                    -- the one further record that waits (R384)
  secondary : Bool := false                           -- the latch record has taken its SECONDARY (R384)
  deriving DecidableEq, Repr

/-- The power train beside the PWR registers. -/
structure PwrSt where
  rails : Vector RailSt 50 := Vector.replicate 50 {}
  recs : Vector RecSt 51 := Vector.replicate 51 {}
  recLatch : List (Source × Nat × Nat × List Nat) := []    -- record read latches: source, record, time ps, words 1 to 15 (R389)
  lastCmd : Vector Nat 4 := Vector.replicate 4 0      -- time of each helm controller's last accepted command, ps (R345)
  errTimes : List Nat := []                           -- times of discarded commands within the last 1 ms (R368)
  errEventAt : Option Nat := none                     -- time of the last 0x1305
  retriesHeld : Nat := 0                              -- precharge retries not yet recorded, until SUP is ready (R368)
  pSum : Nat := 0                                     -- input power samples since the last average, in 10 µW (R351)
  pCount : Nat := 0
  jRest : Nat := 0                                    -- input energy not yet a whole J, in 20 pJ (R351)
  refreshed : Vector Nat 4 := Vector.replicate 4 0    -- per helm controller, the rail resent last (R345)
  cmdAlive : Vector Nat 50 := Vector.replicate 50 0   -- ALIVE of the next command sent to each rail (Table 13-2)
  cmdSent : List (Nat × HelmCmd) := []                -- last command sent to each rail by the active pilot
  want : List (Nat × HelmCmd) := []                   -- commands that the active pilot means to send (CL01)
  uvSince : Option Nat := none                        -- start of the condition being ridden, ps (R383)
  slewFrom : Vector Rat 6 := #v[500, 800, 800, 800, 800, 500]   -- group frequencies, kHz: at the start of the last slew, at its
  slewTo : Vector Rat 6 := #v[500, 800, 800, 800, 800, 500]     -- end, and its start, ps (R365, R366)
  slewAt : Nat := 0
  pAcc : Vector (Int × Nat) 50 := Vector.replicate 50 (0, 0)   -- output power of each rail since the last 1 ms: sum of mV × 0.1 A, samples
  pMean : Vector Rat 50 := Vector.replicate 50 0                -- its mean over the last 1 ms, W (R460)
  deriving DecidableEq, Repr


/-! ### Breakwater and control engine (chapters 15 and 16) -/

/-- A pending announcement of a HINT (R405): die, identifier, announced start ps, duration µs, expected power W. -/
structure HintPlan where
  die : Nat
  id : Nat
  start : Nat
  durUs : Nat
  power : Nat
  held : Bool                                         -- its HOLDs are set
  deriving DecidableEq, Repr

/-- Outputs of the loops: what loops hand to one another through the snapshot (R418, R419). Powers in W, exact. -/
structure LawOut where
  pset : Rat := 0
  df : Rat := 0
  rebase : Bool := false
  ffTide : Rat := 0
  ffHint : Rat := 0
  pDis : Rat := 0
  pChg : Rat := 0
  cmd : Rat := 0
  capEff : Rat := 0
  disFactor : Rat := 1
  chgFactor : Rat := 1
  coolTerm : Rat := 4000
  energy : Rat := 0
  deriving DecidableEq, Repr

/-- The breakwater beside its registers and its loop outputs. -/
structure BwrSt where
  acc : Rat := 0                                      -- integrator of R401
  ref : Rat := 0                                      -- CL00's set-point in force (R425)
  atLimit : Bool := false                             -- the previous command stood at a limit of R397
  precharge : Nat := 0                                -- start of isolation precharge, ps (R392)
  retryAt : Nat := 0                                  -- OPEN until this time after a failed precharge, ps
  recovered : Bool := false                           -- every cell has read 2.20 V since closing (R393)
  beyond : Nat := 0                                   -- cells beyond a hard limit in the last scan, one bit each (R399)
  taperBand : Bool := false                           -- 0x1506 recorded for this occurrence
  reserveBand : Bool := false                         -- 0x1503 recorded for this occurrence
  floorMissed : Bool := false                         -- 0x1504 recorded for this occurrence
  refusedPack : Bool := false                         -- 0x1509 recorded for this occurrence
  pinPrev : Rat := 0                                  -- measured input power 100 µs ago, W (R402)
  tide : List (Nat × Rat) := []                       -- tide bins that are not 0
  lastBin : Nat := 0
  anchors : List Nat := []                            -- the last anchor intervals, ps, newest first
  lastAnchor : Option Nat := none
  lockedT : Option Nat := none                        -- last locked T, ps
  ripple : Option (Rat × Rat × Rat × Nat) := none     -- lowest, highest, summed input and samples since the last anchor (R407)
  hints : List HintPlan := []
  stopBallast : Bool := true                          -- ballast may start only at SOC 95% (R408)
  rotate : Nat := 0                                   -- die that ballast allocation starts at (R409)
  vcBase : Vector Rat 8 := Vector.replicate 8 0       -- power of each VC rail without ballast, W (R409)
  ballastW : Vector Rat 8 := Vector.replicate 8 0     -- its measured rise with it, W (R409)
  duty : Nat := 8                                     -- reserve pacing asked, k of 8 (R402)
  dutyAt : Nat := 0                                   -- time of its last change
  jRest : Rat := 0                                    -- ballast, charge and discharge energy not yet a whole J
  chgRest : Rat := 0
  disRest : Rat := 0
  deriving DecidableEq, Repr

/-- A loop's persistent part beside its registers (R430). -/
structure LoopSt where
  yPrev : BitVec 32 := 0#32
  uPrev : BitVec 32 := 0#32
  above : Nat := 0                                     -- consecutive samples with r_f above R_TH (R422)
  fresh : Nat := 0                                    -- consecutive fresh samples in hold STALE (R423)
  autoAsked : Bool := false                           -- AUTO written (R423)
  first : Bool := true                                -- the next automatic sample is the first (R425)
  deriving DecidableEq, Repr

/-- A snapshot as one loop's sample sees it (R418): the registers, the pins, the loops' outputs and the time at its start. -/
structure Snap where
  loop : Nat
  regs : List (RKey × Nat)
  outs : LawOut
  pins : Pins
  time : Nat
  deriving DecidableEq, Repr

/-- The control engine beside its registers. -/
structure CteSt where
  cycle : Nat := 0                                    -- control cycles since the release of the engine's domain (R416)
  loops : Vector LoopSt 32 := Vector.replicate 32 {}
  ready : List Nat := []                              -- loops whose sample has started and not ended
  snaps : List Snap := []
  commit : Option (List (RKey × Nat)) := none   -- the staged set as a COMMIT found it, active from the next boundary (R11, R428)
  paramFlash : Vector (List (Nat × Nat)) 2 := Vector.replicate 2 []   -- per flash, words of the stored set other than as delivered (R428)
  staging : List (Nat × Nat) := []                    -- customer staging area, words by byte offset (R434)
  custVerified : Option (List Nat) := none            -- bytes of the verified package
  custActive : Option (List Nat) := none              -- bytes of the active package
  custFlash : Vector (Option (List Nat)) 2 := Vector.replicate 2 none  -- the package stored in each flash (R434)
  deriving DecidableEq, Repr


/-! ### Cell monitor, capping, security (chapters 17, 18 and 22) -/

/-- CAFE beside the CEL registers. Cell voltages in 100 µV. -/
structure CelSt where
  raw : Vector Nat 16 := Vector.replicate 16 0        -- measured cells of the last scan outside a test window
  mismatch : Nat := 0                                 -- consecutive scans with a stack difference (R439)
  matched : Nat := 0                                  -- consecutive scans within tolerance (R439)
  badScans : Nat := 0                                 -- consecutive invalid scans (R440)
  eligible : Nat := 0                                 -- cells eligible for balancing, one bit each (R441)
  candidates : Nat := 0                               -- taps that were candidates in the last test scan (R445)
  clear : List (Nat × Nat) := []                      -- open taps: consecutive test scans without being a candidate (R446)
  hot : Nat := 0                                      -- thermistors above 75 °C in the last conversion, one bit each (R452)
  packOver : Bool := false                            -- hard pack limit reached (R452)
  derated : Bool := false                             -- 0x170B recorded for this occurrence (R451)
  idDecoded : Bool := false                           -- PACK_ID has been decoded since the front end started (Table 3-7)
  deriving DecidableEq, Repr

/-- The phase learner's start of an announcement (R462): when it began and the mean die powers before it. -/
structure LearnRun where
  berth : Nat
  id : Nat
  start : Nat
  dies : List (Fin 8)                                 -- dies that issued it
  pre : Rat                                           -- their mean power before the start, W, once learned
  done : Bool                                         -- the added power has been learned, the duration runs
  deriving DecidableEq, Repr

/-- The capping process beside the CAP registers. -/
structure CapSt where
  floorTerm : Bool := false                           -- occurrences already recorded: 0x180D, 0x1805, 0x1807
  coolDerate : Bool := false
  inletHot : Bool := false
  stageMove : Vector Nat 8 := Vector.replicate 8 0    -- per berth: time of the last stage move (R468)
  demote : Vector Nat 8 := Vector.replicate 8 0       -- per berth: CDC_DEMOTE.REQ asked (Table 18-2)
  overSince : Vector (Option Nat) 8 := Vector.replicate 8 none   -- L_b above the share since
  exitSince : Vector (Option Nat) 8 := Vector.replicate 8 none   -- the stage's exit condition has held since
  capReq : Vector Bool 8 := Vector.replicate 8 false  -- a REASON 1 request is asked (0x1801)
  hotReq : Vector (Option (Nat × Option Nat)) 8 := Vector.replicate 8 none   -- REASON 0 request: code, since when the berth runs it (R469)
  memSince : Vector (Option Nat) 8 := Vector.replicate 8 none    -- MEM_RATIO above the threshold since (R466)
  memReq : Vector Bool 8 := Vector.replicate 8 false
  runs : List LearnRun := []
  learned : List ((Nat × Nat) × (Rat × Rat)) := []    -- (berth, id): added power W, duration µs (R462)
  hist : Vector (List (Nat × Rat)) 8 := Vector.replicate 8 []        -- per die: power samples of the last 1.5 ms, time ps, W, newest first
  stepAcc : Vector (Rat × Nat) 8 := Vector.replicate 8 (0, 0)        -- per die: sum and count of power samples in the present step
  stepSums : Vector (List (Rat × Nat)) 8 := Vector.replicate 8 []    -- and in each of the last 8 steps, newest first (R462)
  tenMs : Vector (List Rat) 8 := Vector.replicate 8 []               -- per die: the last ten 1 ms means, newest first
  lastSync : Vector (Option Nat) 8 := Vector.replicate 8 none        -- per die: time of its last SYNCPT
  jRest : Vector Rat 8 := Vector.replicate 8 0        -- per die: energy not yet a whole J
  etaRails : Rat := 0                                 -- rail output and demand summed over the present second (R460)
  etaDemand : Rat := 0
  etaN : Nat := 0
  measuring : Nat := 0                                -- dies with a sentinel measurement requested, one bit each (R478)
  measured : Nat := 0                                 -- dies measured and not planned since, one bit each (R479)
  measureReq : Vector Nat 8 := Vector.replicate 8 0   -- time of each die's last request for one, ps
  overdue : Nat := 0                                  -- dies whose request found no moment in 24 h, one bit each (R478)
  measureAt : Vector Nat 8 := Vector.replicate 8 0    -- time of each die's last measurement, ps
  sitesHot : Vector Nat 8 := Vector.replicate 8 0     -- per die: sensor sites at 100 °C or more, one bit each (R472)
  reduction : Vector Nat 8 := Vector.replicate 8 0    -- codes by which ageing lowered the die's highest code (R480)
  ageDirty : Bool := false                            -- a changed age state is not stored yet (R481)
  ageStored : List (Nat × Nat × Nat) := []            -- stored age state: die, step, reduction
  deriving DecidableEq, Repr

/-- The security engine beside the SEC registers. A vendor package that no command has replaced is the one delivered. -/
structure SecSt where
  rb : Vector (List (Nat × Nat)) 2 := Vector.replicate 2 []     -- per flash: counters with a value other than as delivered (R547)
  staging : List (Nat × Nat) := []                    -- vendor package staging: words by byte offset (R545)
  verified : Option (List Nat) := none                -- bytes of the verified package
  stored : Bool := false                              -- the package being activated is stored and current (R546)
  fwRun : Vector (Option (List Nat)) 2 := Vector.replicate 2 none      -- firmware package that each pilot runs
  fwCurrent : Vector (Option (List Nat)) 2 := Vector.replicate 2 none  -- per flash, the current and the other firmware slot
  fwOther : Vector (Option (List Nat)) 2 := Vector.replicate 2 none
  vt : Option (List Nat) := none                      -- voltage tables in force
  deriving DecidableEq, Repr

/-- What a state copy's payload carries from the active pilot to the standby (Table 19-1). -/
structure CopyLoad where
  regs : List (RKey × Nat)
  latches : List (Source × Nat × Nat × List Nat)      -- record latches of the sessions (R14)
  loops : Vector LoopSt 32
  outs : LawOut
  bwr : BwrSt
  sessions : List Session
  nextSession : Nat
  rhd : Vector RhdSt 8
  recs : Vector RecSt 51
  deriving DecidableEq, Repr


/-! ### The whole module -/

/-- The state of the module. `now`, `fresh`, `tx` and `pending` are the model's own: run time in ps, the counter of free
values, the trace of outputs and the queue of commands. -/
structure State where
  now : Nat := 0
  fresh : Nat := 0
  tx : List Tx := []
  pending : List Instr := []
  regs : List (RKey × Nat) := []                     -- register fields with a value other than by reset
  hiLatch : List (RKey × Nat) := []                  -- _HI halves latched by a _LO read (R113)
  mem : List Host.Cell := []                         -- every memory store (R206), see `Machine/Ops.lean`
  pins : Pins := {}
  rst : ResetSt := {}
  dies : Vector DieSt 8 := Vector.replicate 8 {}
  quays : Vector QuaySt 8 := Vector.replicate 8 {}
  fwy : FwySt := {}
  net : NetSt := {}
  rhd : Vector RhdSt 8 := Vector.replicate 8 {}
  berths : Vector BerthSt 8 := Vector.replicate 8 {}
  img : ImgSt := {}
  pilots : Vector PilotSt 2 := Vector.replicate 2 {}
  hma : HmaSt := {}
  hpl : HplSt := {}
  log : LogSt := {}
  cvu : Vector CvuUnit 8 := Vector.replicate 8 {}
  pwr : PwrSt := {}
  bwr : BwrSt := {}
  outs : LawOut := {}
  cte : CteSt := {}
  cel : CelSt := {}
  cap : CapSt := {}
  sec : SecSt := {}
  flashLoaded : Bool := false                        -- the values held in flash have been loaded (R13)
  flashRegs : List (RKey × Nat) := []                -- values of "flash" fields that flash holds in place of those as delivered (R13)
  copySent : Option CopyLoad := none                 -- payload of the last state copy sent (R488)
  copyHeld : Option CopyLoad := none                 -- payload of the last copy accepted (R489)
  deriving DecidableEq, Repr

/-- Why the machine stops with a fault. -/
inductive Fault where
  /-- Raised by no command: the spec gives every command of the table an effect (safe: it stops nothing). -/
  | none
  deriving DecidableEq, Repr

/-- Why a command is refused. -/
inductive Refusal where
  /-- Raised by an arm of `exec` whose command has no meaning yet (safe: the machine stops where the hardware goes on). -/
  | notModelled (mnemonic : String)
  deriving DecidableEq, Repr

/-- The module at the release of SUP from a cold start: every register field at its Reset value, no memory listed, every
queue empty (R13, R80, R82). -/
def State.reset : State := {}

end Sys2Proof.Machine
end

