-- ==== Sys2Proof/Machine/Tables.lean ====
section
/-! DEFINITION. Tables of the spec that many chapters use: the Reset values that are not constants (Tables 4-5, 8-7, 13-1,
13-3, 16-1, 21-4) and the levels of the events (Table 21-2 and each chapter's event table). -/

namespace Sys2Proof.Machine

/-- The rows of Table 21-4 as `CVU_Uu_CFG`, `CVU_Uu_BIND`, POLY and INIT of units 0 to 5: (WIDTH_M1, REFIN, REFOUT,
XOROUT, ORDER, ALIVE, ALIVE_KEY, ALIVE_SHIFT, ALIVE_OFF, STREAM, MODE, POLY, INIT). Units 6 and 7 are free and read 0. -/
def cvuRow (u : Nat) : List Nat :=
  match u with
  | 0 => [31, 1, 1, 1, 0, 0, 0, 0, 0, 1, 1, 0x1EDC6F41, 0xFFFFFFFF]
  | 1 => [31, 1, 1, 1, 0, 2, 0, 0, 2, 2, 0, 0x1EDC6F41, 0xFFFFFFFF]
  | 2 => [31, 1, 1, 1, 1, 0, 0, 0, 0, 3, 0, 0x1EDC6F41, 0xFFFFFFFF]
  | 3 => [31, 1, 1, 1, 1, 0, 0, 0, 0, 4, 1, 0x1EDC6F41, 0xFFFFFFFF]
  | 4 => [15, 0, 0, 0, 0, 1, 1, 0, 4, 5, 0, 0x1021, 0xFFFF]
  | 5 => [31, 1, 1, 1, 0, 0, 0, 0, 0, 6, 0, 0x1EDC6F41, 0xFFFFFFFF]
  | _ => [0, 0, 0, 0, 0, 0, 0, 0, 0, 0, 0, 0, 0]

/-- Element `i` of a list of numbers, 0 beyond its end. -/
def nth (l : List Nat) (i : Nat) : Nat := (l[i]?).getD 0

/-- The family of rail `r` (Table 13-1): 0 IB, 1 VC, 2 VQ, 3 VH, 4 VHQ, 5 VHP, 6 VN, 7 VNA, 8 VAUX, 9 VPLA and VPLB,
10 BWC. -/
def railFam (r : Nat) : Nat :=
  if r < 2 then 0 else if r < 10 then 1 else if r < 18 then 2 else if r < 26 then 3 else if r < 34 then 4
  else if r < 42 then 5 else if r < 44 then 6 else if r < 46 then 7 else if r = 46 then 8 else if r < 49 then 9 else 10

/-- What Tables 13-1 and 13-3 give a rail family: phases, N_MIN, group, continuous rating A, phase peak limit A, class
(1: H), SS_TIME in 100 µs, SLEW, SLOPE, SHED_EN, SHED_LO, ADD_HI, STEP, BRAKE, DE_EN and BRAKE_EN. A dash reads 0; BWC's
SS_TIME, which no chapter gives, reads 0 (log entry 8). -/
def railRow (fam : Nat) : List Nat :=
  match fam with
  | 0 => [12, 3, 0, 300, 40, 0, 100, 1, 24, 1, 25, 50, 4, 6, 1, 1]
  | 1 => [16, 4, 1, 560, 55, 0, 10, 5, 24, 1, 25, 50, 4, 6, 1, 1]
  | 2 => [3, 1, 2, 75, 40, 1, 10, 1, 24, 1, 25, 50, 4, 6, 1, 1]
  | 3 => [2, 1, 2, 50, 40, 1, 10, 1, 24, 1, 25, 50, 4, 6, 1, 1]
  | 4 => [1, 1, 2, 30, 45, 1, 10, 1, 24, 0, 0, 0, 4, 6, 0, 0]
  | 5 => [1, 1, 2, 10, 15, 1, 10, 1, 24, 0, 0, 0, 4, 6, 0, 0]
  | 6 => [4, 1, 3, 120, 45, 1, 10, 1, 24, 1, 25, 50, 4, 6, 1, 1]
  | 7 => [1, 1, 3, 20, 30, 1, 10, 1, 24, 0, 0, 0, 4, 6, 0, 0]
  | 8 => [2, 1, 4, 20, 15, 1, 20, 1, 24, 0, 25, 50, 4, 6, 0, 0]
  | 9 => [1, 1, 4, 15, 22, 1, 10, 1, 24, 0, 0, 0, 4, 6, 0, 0]
  | _ => [6, 1, 5, 180, 45, 1, 0, 0, 0, 1, 25, 50, 0, 0, 0, 0]

/-- A figure of rail `r`, by its place in `railRow`. -/
def railFig (r i : Nat) : Nat := nth (railRow (railFam r)) i

/-- The helm controller of rail `r` (Table 13-1). -/
def railHelm (r : Nat) : Nat :=
  if r = 0 then 0 else if r = 1 then 2
  else if r < 42 then (r - 2) % 8 / 2
  else if r = 42 || r = 44 then 0 else if r = 43 || r = 45 then 2 else if r = 46 || r = 47 then 1 else 3

/-- The loops of Table 16-1: present, class (0 10 µs, 1 100 µs, 2 1 ms, 3 10 ms), core, offset. -/
def loopRow (i : Nat) : List Nat :=
  match i with
  | 0 => [1, 0, 0, 0]
  | 1 => [1, 0, 0, 0]
  | 3 => [1, 1, 1, 0]
  | 4 => [1, 1, 1, 0]
  | 5 => [1, 1, 1, 0]
  | 6 => [1, 1, 1, 1]
  | 7 => [1, 1, 1, 1]
  | 12 => [1, 2, 2, 0]
  | 13 => [1, 2, 2, 3]
  | 14 => [1, 2, 2, 5]
  | 15 => [1, 2, 2, 7]
  | 16 => [1, 3, 2, 20]
  | 17 => [1, 3, 2, 40]
  | 20 => [1, 3, 3, 60]
  | _ => [0, 0, 0, 0]

/-- Words of a parameter set that hold nothing: words 30 and 31 of each block, and the blocks of absent loops, all 0 (R427); block 31 is
the customer loop's. -/
def paramNone (w : Nat) : Bool := decide (30 ≤ w % 32) || (w / 32 != 31 && nth (loopRow (w / 32)) 0 == 0)

/-- The range of a parameter word (R427). -/
def paramLow (w : Nat) : BitVec 32 := if paramNone w then 0 else Config.paramMin w
def paramHigh (w : Nat) : BitVec 32 := if paramNone w then 0 else Config.paramMax w


/-- The Reset value of a register field that is not loaded from flash (R13). -/
def Fld.resetVal (f : Fld) (inst item : Nat) : Nat :=
  match f with
  | .CDC_ID_DIE => inst
  | .MOD_SLOT_SLOT => 15
  | .CDC_ID_REV => Config.siliconRev false inst % 256
  | .QDC_ID_DIE => inst
  | .QDC_ID_REV => Config.siliconRev true inst % 256
  | .CVU_U_CFG_WIDTH_M1 => nth (cvuRow inst) 0
  | .CVU_U_CFG_REFIN => nth (cvuRow inst) 1
  | .CVU_U_CFG_REFOUT => nth (cvuRow inst) 2
  | .CVU_U_CFG_XOROUT => nth (cvuRow inst) 3
  | .CVU_U_CFG_ORDER => nth (cvuRow inst) 4
  | .CVU_U_CFG_ALIVE => nth (cvuRow inst) 5
  | .CVU_U_CFG_ALIVE_KEY => nth (cvuRow inst) 6
  | .CVU_U_CFG_ALIVE_SHIFT => nth (cvuRow inst) 7
  | .CVU_U_CFG_ALIVE_OFF => nth (cvuRow inst) 8
  | .CVU_U_BIND_STREAM => nth (cvuRow inst) 9
  | .CVU_U_BIND_MODE => nth (cvuRow inst) 10
  | .CVU_U_POLY_POLY => nth (cvuRow inst) 11
  | .CVU_U_INIT_INIT => nth (cvuRow inst) 12
  | .PWR_RAIL_ID_INDEX => inst
  | .PWR_RAIL_ID_PHASES => railFig inst 0
  | .PWR_RAIL_ID_HELM => railHelm inst
  | .PWR_RAIL_ID_CLASS => railFig inst 5
  | .PWR_RAIL_ID_GROUP => railFig inst 2
  | .PWR_RAIL_CTRL_SHED_EN => railFig inst 9
  | .PWR_RAIL_CTRL_DE_EN => railFig inst 14
  | .PWR_RAIL_CTRL_BRAKE_EN => railFig inst 15
  | .PWR_RAIL_CFG1_SS_TIME => railFig inst 6
  | .PWR_RAIL_CFG1_SLEW => railFig inst 7
  | .PWR_RAIL_CFG1_SLOPE => railFig inst 8
  | .PWR_RAIL_CFG2_SHED_LO => railFig inst 10
  | .PWR_RAIL_CFG2_ADD_HI => railFig inst 11
  | .PWR_RAIL_CFG2_N_MIN => railFig inst 1
  | .PWR_RAIL_CFG2_STEP => railFig inst 12
  | .PWR_RAIL_CFG2_BRAKE => railFig inst 13
  | .CTE_LOOP_CFG_PRESENT => nth (loopRow item) 0
  | .CTE_LOOP_CFG_CLASS => nth (loopRow item) 1
  | .CTE_LOOP_CFG_CORE => nth (loopRow item) 2
  | .CTE_LOOP_CFG_OFFSET => nth (loopRow item) 3
  | .CTE_PARAM_MIN_VALUE => (paramLow item).toNat
  | .CTE_PARAM_MAX_VALUE => (paramHigh item).toNat
  | f => f.info.rst

/-- The level of an event code (Table 21-2 and the event tables of chapters 8 to 22). -/
def eventLevel (code : Nat) : Nat :=
  if [0x0801, 0x0901, 0x1101, 0x1102, 0x1302, 0x1403, 0x1501, 0x1505, 0x1607, 0x1608, 0x1801, 0x180A, 0x1902, 0x2001, 0x2002,
      0x2006, 0x2103, 0x2104, 0x2105, 0x2203, 0x2207].contains code then 0
  else if [0x0201, 0x0602, 0x0701, 0x0804, 0x0809, 0x1107, 0x1108, 0x1301, 0x1305, 0x1408, 0x1502, 0x1504, 0x1506, 0x1601,
      0x1706, 0x170B, 0x1802, 0x1805, 0x180D, 0x180E, 0x1904, 0x1907, 0x2004, 0x2101, 0x2106].contains code then 1
  else if [0x0301, 0x0601, 0x0806, 0x0903, 0x1106, 0x1303, 0x1404, 0x1407, 0x1409, 0x1507, 0x1509, 0x1704, 0x1708, 0x1709,
      0x170A, 0x1806, 0x1809, 0x1906, 0x2005, 0x2201, 0x2206].contains code then 3
  else if [0x140A, 0x1508, 0x1804].contains code then 4
  else 2

/-- The rank of a rate code (Table 11-1): pacing codes 0x81 to 0x87 have ranks 1 to 7, 0x00 to 0x30 ranks 8 to 56. -/
def rankOf (code : Nat) : Nat := if code < 0x80 then code + 8 else code - 0x80

/-- The code of a rank. -/
def codeOfRank (r : Nat) : Nat := if r < 8 then 0x80 + r else r - 8

end Sys2Proof.Machine
end

