-- ==== Sys2Proof/Machine/Ops.lean ====
section
/-! DEFINITION. The named operations on the state: register fields, counters, selectors, readiness bits, memory bytes,
outputs and free values. Every meaning reads and writes the state through them. -/

namespace Sys2Proof.Machine

/-! ### Time, in ps -/

def us : Nat := 1000000
def ms : Nat := 1000 * us
def second : Nat := 1000 * ms

/-! ### Register fields -/

/-- What flash holds of a field: the UDP ports' defaults are R278's, everything else its implementation's. -/
def flashValue (k : RKey) : Nat :=
  match k.f with
  | .NET_UDP_PORTS_BAMPOR => 60736
  | .NET_UDP_PORTS_TIDEMARK => 60737
  | .CTE_PARAM_ACTIVE_VALUE => if paramNone k.item then 0 else Config.flash .CTE_PARAM_ACTIVE_VALUE k.inst k.item % 2 ^ 32
  | .CTE_PARAM_STAGED_VALUE => if paramNone k.item then 0 else Config.flash .CTE_PARAM_ACTIVE_VALUE k.inst k.item % 2 ^ 32
  | _ => Config.flash (k.f) k.inst k.item % 2 ^ k.f.info.width

/-- The value of a register field with no entry: its Reset value; "flash" fields read 0 until they are loaded (R13). -/
def State.unlisted (s : State) (k : RKey) : Nat :=
  if k.f.info.flash then (if s.flashLoaded then flashValue k else 0)
  else k.f.resetVal k.inst k.item

/-- Look a key up in the store. -/
def lookupKey (k : RKey) : List (RKey × Nat) → Option Nat
  | [] => none
  | (k', v) :: l => if k' = k then some v else lookupKey k l

/-- The value of a register field. -/
def State.get (s : State) (f : Fld) (inst : Nat := 0) (item : Nat := 0) : Nat :=
  (lookupKey ⟨f, inst, item⟩ s.regs).getD (s.unlisted ⟨f, inst, item⟩)

/-- Give a register field a value, cut to the field's width. -/
def State.set (s : State) (f : Fld) (v : Nat) (inst : Nat := 0) (item : Nat := 0) : State :=
  { s with regs := (⟨f, inst, item⟩, v % 2 ^ f.info.width) :: s.regs.filter (fun e => !decide (e.1 = ⟨f, inst, item⟩)) }

/-- A one-bit field as a Boolean. -/
def State.bit (s : State) (f : Fld) (inst : Nat := 0) (item : Nat := 0) : Bool := s.get f inst item != 0

/-- Give a one-bit field a Boolean. -/
def State.setBit (s : State) (f : Fld) (v : Bool) (inst : Nat := 0) (item : Nat := 0) : State := s.set f v.toNat inst item

/-- Drop every entry of the fields `fs` of one instance: they read their Reset values again. -/
def State.clearFlds (s : State) (fs : List Fld) (inst : Nat) : State :=
  { s with regs := s.regs.filter (fun e => !(decide (e.1.inst = inst) && fs.contains e.1.f)) }

/-- Drop every entry of the fields `fs`, of every instance. -/
def State.clearAll (s : State) (fs : List Fld) : State :=
  { s with regs := s.regs.filter (fun e => !fs.contains e.1.f) }

/-- Two's complement of an integer in `w` bits, and back. -/
def enc (w : Nat) (i : Int) : Nat := (i % (2 ^ w : Nat)).toNat
def dec (w n : Nat) : Int := if n % 2 ^ w < 2 ^ (w - 1) then (n % 2 ^ w : Nat) else ((n % 2 ^ w : Nat) : Int) - (2 ^ w : Nat)

/-- Bit `i` of a natural number, and the number with that bit given. -/
def bitAt (n i : Nat) : Bool := n / 2 ^ i % 2 == 1
def putBit (n i : Nat) (b : Bool) : Nat := if bitAt n i = b then n else if b then n + 2 ^ i else n - 2 ^ i

/-- A number from its bits, bit 0 first. -/
def ofBits : List Bool → Nat
  | [] => 0
  | b :: bs => b.toNat + 2 * ofBits bs

/-- Raise a counter by `n`, saturating at its field's width (R113), unless its FREEZE field holds it. -/
def State.count (s : State) (freeze : Fld) (f : Fld) (n : Nat) (inst : Nat := 0) (item : Nat := 0) : State :=
  if s.bit freeze inst then s
  else s.set f (min (s.get f inst item + n) (2 ^ f.info.width - 1)) inst item

/-- Raise a counter that no FREEZE field holds, saturating. -/
def State.tally (s : State) (f : Fld) (n : Nat := 1) (inst : Nat := 0) (item : Nat := 0) : State :=
  s.set f (min (s.get f inst item + n) (2 ^ f.info.width - 1)) inst item

/-! ### Vectors of the state -/

def State.die (s : State) (d : Fin 8) : DieSt := s.dies[d]
def State.setDie (s : State) (d : Fin 8) (x : DieSt) : State := { s with dies := s.dies.set d x }
def State.modDie (s : State) (d : Fin 8) (f : DieSt → DieSt) : State := s.setDie d (f (s.die d))
def State.quay (s : State) (q : Fin 8) : QuaySt := s.quays[q]
def State.setQuay (s : State) (q : Fin 8) (x : QuaySt) : State := { s with quays := s.quays.set q x }
def State.modQuay (s : State) (q : Fin 8) (f : QuaySt → QuaySt) : State := s.setQuay q (f (s.quay q))
def State.rhdOf (s : State) (b : Fin 8) : RhdSt := s.rhd[b]
def State.setRhd (s : State) (b : Fin 8) (x : RhdSt) : State := { s with rhd := s.rhd.set b x }
def State.modRhd (s : State) (b : Fin 8) (f : RhdSt → RhdSt) : State := s.setRhd b (f (s.rhdOf b))
def State.berth (s : State) (b : Fin 8) : BerthSt := s.berths[b]
def State.setBerth (s : State) (b : Fin 8) (x : BerthSt) : State := { s with berths := s.berths.set b x }
def State.modBerth (s : State) (b : Fin 8) (f : BerthSt → BerthSt) : State := s.setBerth b (f (s.berth b))
def State.pilot (s : State) (p : Fin 2) : PilotSt := s.pilots[p]
def State.setPilot (s : State) (p : Fin 2) (x : PilotSt) : State := { s with pilots := s.pilots.set p x }
def State.modPilot (s : State) (p : Fin 2) (f : PilotSt → PilotSt) : State := s.setPilot p (f (s.pilot p))

/-- All indices below `n`. -/
def allFin (n : Nat) : List (Fin n) := List.ofFn id

/-- Do something for every index below `n`, in ascending order. -/
def forFin (n : Nat) (s : State) (f : State → Fin n → State) : State := (allFin n).foldl f s

/-! ### Outputs and free values -/

/-- Put something out. -/
def State.out (s : State) (t : Tx) : State := { s with tx := s.tx ++ [t] }

/-- The next free value under a tag, and the state with the counter moved on (log entry 2). -/
def State.freeNat (s : State) (tag : Nat) : Nat × State := (Config.free tag s.fresh, { s with fresh := s.fresh + 1 })

/-! ### The active pilot -/

/-- The pilot that is ACTIVE: it holds HMA's grant and is not in reset (R485). -/
def State.activePilot (s : State) : Option (Fin 2) :=
  match s.hma.grant with
  | some p => if (s.pilot p).role = .active then some p else none
  | none => none

/-- The active pilot's link to the net dies carries management traffic and Tidemark frames: its enable is high and a lockstep mismatch
has not gated it off (R486, R490). -/
def State.pilotTalks (s : State) : Bool :=
  match s.activePilot with
  | some p => (s.pilot p).linkEn && (s.pilot p).linkOut
  | none => false

/-- The index of the pilot that holds the grant; while none does, of PA, or of PB while PA is out. -/
def State.act (s : State) : Fin 2 :=
  match s.hma.grant with
  | some p => p
  | none => if (s.pilot 0).role = .out then 1 else 0

/-- The other pilot. -/
def otherPilot (p : Fin 2) : Fin 2 := if p = 0 then 1 else 0

/-! ### Readiness bits (R80) -/

/-- Where each readiness bit stands: bits 0 to 31 of `MOD_READY`, then bits 0 to 15 of `MOD_READY_HI`. -/
def readyFld (bit : Nat) : Fld × Nat :=
  match bit with
  | 0 => (.MOD_READY_SUP, 0) | 1 => (.MOD_READY_LOG, 0) | 2 => (.MOD_READY_RG_BOOT, 0) | 3 => (.MOD_READY_RG_IB, 0)
  | 4 => (.MOD_READY_RG_NET, 0) | 5 => (.MOD_READY_RG_QUAY, 0) | 6 => (.MOD_READY_RG_CORE, 0)
  | 7 => (.MOD_READY_CTE, 0) | 8 => (.MOD_READY_CEL, 0) | 9 => (.MOD_READY_BWR, 0) | 10 => (.MOD_READY_PORT0, 0)
  | 11 => (.MOD_READY_PORT1, 0) | 12 => (.MOD_READY_PTP, 0) | 13 => (.MOD_READY_FWY, 0) | 14 => (.MOD_READY_RHD, 0)
  | 15 => (.MOD_READY_FWV, 0)
  | n => if n < 24 then (.MOD_READY_CD, n - 16) else if n < 32 then (.MOD_READY_QD, n - 24) else (.MOD_READY_HI_HBM, n - 32)

/-- Is a function ready. -/
def State.ready (s : State) (bit : Nat) : Bool := bitAt (s.get (readyFld bit).1) (readyFld bit).2

/-- Give a readiness bit a value; a change asserts ALERT_N (R46, R79). -/
def State.setReady (s : State) (bit : Nat) (v : Bool) : State :=
  if s.ready bit = v then s
  else
    let s := s.set (readyFld bit).1 (putBit (s.get (readyFld bit).1) (readyFld bit).2 v)
    { s with pins := { s.pins with alert := true }, rst := { s.rst with seen := if v then putBit s.rst.seen bit true else s.rst.seen } }

/-- A function stays down after a start-up bound that it missed, until that latch has ended (R84). -/
def State.boundMissed (s : State) (bit : Nat) : Bool := s.log.latches.any (fun l => l.chapter == 0x03 && l.unit == bit)

/-- A reset of a pilot's SUP half waits: the pilot starts no new program pulse (R71). -/
def State.flashHalted (s : State) (p : Fin 2) : Bool := bitAt s.rst.waiting (1 + p.val) || s.rst.waitCold.isSome

/-- The names of the readiness bits used below. -/
def rSUP : Nat := 0
def rLOG : Nat := 1
def rBOOT : Nat := 2
def rIB : Nat := 3
def rNETR : Nat := 4
def rQUAYR : Nat := 5
def rCORE : Nat := 6
def rCTE : Nat := 7
def rCEL : Nat := 8
def rBWR : Nat := 9
def rPORT (p : Nat) : Nat := 10 + p
def rPTP : Nat := 12
def rFWY : Nat := 13
def rRHD : Nat := 14
def rFWV : Nat := 15
def rCD (d : Nat) : Nat := 16 + d
def rQD (q : Nat) : Nat := 24 + q
def rHBM (k : Nat) : Nat := 32 + k

/-- The word of `MOD_READY` and of `MOD_READY_HI` (Tables 3-7, 3-8). -/
def State.modReady (s : State) : Nat :=
  (List.range 32).foldl (fun a i => if s.ready i then a + 2 ^ i else a) 0
def State.modReadyHi (s : State) : Nat := s.get .MOD_READY_HI_HBM

/-- Is a reset domain in reset hold (`RST_IN_RESET`). -/
def State.inReset (s : State) (d : Nat) : Bool := bitAt (s.get .RST_IN_RESET_STATE) d
/-- Is a domain's clock good (`RST_CLK_GOOD`); a berth's is while the clocks of all its dies are (Table 3-1). -/
def State.clkGood (s : State) (d : Nat) : Bool :=
  let own := bitAt (s.get .RST_CLK_GOOD_GOOD)
  if d < 24 then own d
  else match (s.berth (Fin.ofNat 8 (d - 24))).desc with
    | some y => (List.range 8).all (fun n => !bitAt y.dieMask n || own (8 + n))
    | none => false

/-! ### Memory (R206)

One sparse store of bytes; an unlisted byte reads 0 (log entry 5). A byte's key is its store's number × 2^48 + its offset. -/

def tileBase (die tile : Nat) : Nat := (0x1000 + die * 128 + tile) * 2 ^ 48
def poolBase (die : Nat) : Nat := (0x2000 + die) * 2 ^ 48
def bstoreBase (die : Nat) : Nat := (0x3000 + die) * 2 ^ 48
def scratchBase (quay berth : Nat) : Nat := (0x4000 + quay * 8 + berth) * 2 ^ 48
def hbmBase (stack : Nat) : Nat := (0x5000 + stack) * 2 ^ 48

/-- One byte of a cell list. -/
def memGet (a : Nat) : List Host.Cell → BitVec 8
  | [] => 0#8
  | (a', v) :: l => if a' = a then v else memGet a l

/-- One byte written into a cell list, keeping it sorted and without bytes of 0. -/
def memPut (a : Nat) (v : BitVec 8) : List Host.Cell → List Host.Cell
  | [] => if v = 0#8 then [] else [(a, v)]
  | (a', v') :: l =>
    if a < a' then (if v = 0#8 then (a', v') :: l else (a, v) :: (a', v') :: l)
    else if a = a' then (if v = 0#8 then l else (a, v) :: l)
    else (a', v') :: memPut a v l

/-- The canonical form: addresses strictly rising, no byte equal to what an unlisted one reads as. -/
def Memory.wf : List Host.Cell → Bool
  | [] => true
  | [(_, v)] => decide (v ≠ 0#8)
  | (a, v) :: (b, w) :: l => decide (v ≠ 0#8) && decide (a < b) && Memory.wf ((b, w) :: l)

def State.byte (s : State) (a : Nat) : BitVec 8 := memGet a s.mem
def State.setByte (s : State) (a : Nat) (v : BitVec 8) : State := { s with mem := memPut a v s.mem }

/-- `n` bytes from an address, as numbers. -/
def State.bytes (s : State) (a n : Nat) : List Nat := (List.range n).map (fun i => (s.byte (a + i)).toNat)

/-- Write a list of bytes at an address. -/
def State.setBytes (s : State) (a : Nat) : List Nat → State
  | [] => s
  | b :: bs => (s.setByte a (BitVec.ofNat 8 b)).setBytes (a + 1) bs

/-- A little-endian number from bytes, and its bytes (R15). -/
def ofLe : List Nat → Nat
  | [] => 0
  | b :: bs => b + 256 * ofLe bs
def toLe (n : Nat) : Nat → List Nat
  | 0 => []
  | k + 1 => n % 256 :: toLe (n / 256) k
/-- A big-endian number from bytes, and its bytes (R278). -/
def toBe (n k : Nat) : List Nat := (toLe n k).reverse
def ofBe (bs : List Nat) : Nat := ofLe bs.reverse

/-- The bits [hi:lo] of a number. -/
def bits (n hi lo : Nat) : Nat := n / 2 ^ lo % 2 ^ (hi - lo + 1)

end Sys2Proof.Machine
end

