-- ==== Sys2Proof/Machine/Operands.lean ====
section
/-! DEFINITION. Check values and byte layouts of what commands carry: the CRC procedure of R535, and numbers laid out in
bytes. -/

namespace Sys2Proof.Machine

/-- The low `w` bits of a number, reversed. -/
def revBits (w n : Nat) : Nat := (List.range w).foldl (fun a i => if bitAt n i then a + 2 ^ (w - 1 - i) else a) 0

/-- Parameters of a check value (Table 21-7). -/
structure CrcCfg where
  width : Nat
  poly : Nat
  init : Nat
  refIn : Bool
  refOut : Bool
  xorOut : Bool
  deriving DecidableEq, Repr

/-- One bit through the CRC register (R535). -/
def crcBit (c : CrcCfg) (crc : Nat) (x : Bool) : Nat :=
  let top := bitAt crc (c.width - 1) != x
  let shifted := crc * 2 % 2 ^ c.width
  if top then Nat.xor shifted (c.poly % 2 ^ c.width) else shifted

/-- One byte through the CRC register, most significant bit first after REFIN (R535). -/
def crcByte (c : CrcCfg) (crc b : Nat) : Nat :=
  let b := if c.refIn then revBits 8 b else b % 256
  [7, 6, 5, 4, 3, 2, 1, 0].foldl (fun r i => crcBit c r (bitAt b i)) crc

/-- What REFOUT and XOROUT make of the register (R535). -/
def crcFinish (c : CrcCfg) (crc : Nat) : Nat :=
  let crc := if c.refOut then revBits c.width crc else crc
  if c.xorOut then Nat.xor crc (2 ^ c.width - 1) else crc

/-- The check value of some bytes. -/
def crcOf (c : CrcCfg) (bs : List Nat) : Nat := crcFinish c (bs.foldl (crcByte c) (c.init % 2 ^ c.width))

/-- CRC-32C with the parameters of R190. -/
def crc32c : List Nat → Nat := crcOf ⟨32, 0x1EDC6F41, 0xFFFFFFFF, true, true, true⟩

/-- The CRC-16 of helm commands (R343). -/
def crc16 : List Nat → Nat := crcOf ⟨16, 0x1021, 0xFFFF, false, false, false⟩

/-- The packet error code of SMBus: CRC-8 with polynomial x^8 + x^2 + x + 1, as SMBus 3.1 gives it (R56). -/
def crc8 : List Nat → Nat := crcOf ⟨8, 0x07, 0, false, false, false⟩

/-- Bytes written over a byte list from an offset. -/
def putAt (bs : List Nat) (off : Nat) (vs : List Nat) : List Nat :=
  bs.take off ++ vs ++ bs.drop (off + vs.length)

/-- `n` bytes of a list from an offset, missing ones reading 0. -/
def sliceAt (bs : List Nat) (off n : Nat) : List Nat := (List.range n).map (fun i => nth bs (off + i))

/-- A little-endian field of a byte list. -/
def leAt (bs : List Nat) (off n : Nat) : Nat := ofLe (sliceAt bs off n)

end Sys2Proof.Machine
end

