-- ==== Sys2Proof/Machine/Check.lean ====
section
/-! DEFINITION. The check-value units as they snoop their streams (R536 to R538). -/

namespace Sys2Proof.Machine

/-- The parameters of a unit, as its registers hold them. -/
def State.cvuCfg (s : State) (u : Nat) : CrcCfg :=
  ⟨s.get .CVU_U_CFG_WIDTH_M1 u + 1, s.get .CVU_U_POLY_POLY u, s.get .CVU_U_INIT_INIT u, s.bit .CVU_U_CFG_REFIN u,
   s.bit .CVU_U_CFG_REFOUT u, s.bit .CVU_U_CFG_XOROUT u⟩

/-- The bytes that a unit's value takes, and the value placed in them (R536). -/
def State.cvuLen (s : State) (u : Nat) : Nat := (s.get .CVU_U_CFG_WIDTH_M1 u + 8) / 8
def State.cvuPlaced (s : State) (u : Nat) (bs : List Nat) : Nat :=
  if s.bit .CVU_U_CFG_ORDER u then ofBe bs else ofLe bs

/-- Does unit `u` append to an item (`write`: the item goes out, or is written to flash), by its mode in force: unit 1's follows
the pilot's role, the flash stream's the direction (R537). -/
def State.cvuAppends (s : State) (u : Nat) (write : Bool) : Bool :=
  if u = 1 then write else s.get .CVU_U_BIND_MODE u == 0 && write

/-- A unit's counter, which `CVU_CNT_CTRL.FREEZE` holds (R541). -/
def State.cvuCount (s : State) (u : Nat) (f : Fld) : State := if s.bit .CVU_CNT_CTRL_FREEZE then s else s.tally f 1 u

/-- The alive counter in an item, if the unit has one: its key and its value (R536). -/
def State.cvuAlive (s : State) (u : Nat) (item : List Nat) : Option (Nat × Nat) :=
  match s.get .CVU_U_CFG_ALIVE u with
  | 0 => none
  | m =>
    let key := if s.bit .CVU_U_CFG_ALIVE_KEY u then nth item 0 % 64 else 0
    some (key, nth item (s.get .CVU_U_CFG_ALIVE_OFF u) / 2 ^ s.get .CVU_U_CFG_ALIVE_SHIFT u % (if m = 1 then 16 else 256))

/-- One unit acts on one complete item, check value with it. -/
def State.cvuUnit (s : State) (u : Fin 8) (item : List Nat) (write : Bool) : State :=
  let n := item.length - s.cvuLen u
  let value := crcOf (s.cvuCfg u) (item.take n)
  let s := s.set .CVU_U_RESULT_VALUE value u
  if s.cvuAppends u write then s.cvuCount u .CVU_U_PASS_COUNT
  else if s.cvuPlaced u (item.drop n) ≠ value then s.cvuCount u .CVU_U_FAIL_COUNT
  else match s.cvuAlive u item with
    | none => s.cvuCount u .CVU_U_PASS_COUNT
    | some (k, a) =>
      if (s.cvu[u]).alive.contains (k, a) then s.cvuCount u .CVU_U_REPEAT_COUNT
      else
        let c := s.cvu[u]
        let s := { s with cvu := s.cvu.set u { c with alive := (k, a) :: c.alive.filter (fun e => e.1 != k) } }
        s.cvuCount u .CVU_U_PASS_COUNT

/-- Every unit bound to a stream acts on one of its items (Table 21-4, R538). -/
def State.snoop (s : State) (stream : Nat) (item : List Nat) (write : Bool) : State :=
  forFin 8 s (fun s u => if s.get .CVU_U_BIND_STREAM u = stream ∧ s.get .CVU_U_BIND_MODE u ≠ 3 then s.cvuUnit u item write else s)

end Sys2Proof.Machine
end

