-- ==== Sys2Proof/Machine/Wire.lean ====
section
/-! DEFINITION. Frames as the module sends them: the identities of a port, priorities and traffic classes, PFC, and the byte
counters of the NET block (R260 to R265, R278, R288, R289). -/

namespace Sys2Proof.Machine

/-! ### Counters (R289) -/

/-- A NET counter, held by `NET_CNT_CTRL.FREEZE` (R289). -/
def State.netCount (s : State) (f : Fld) (n : Nat) (inst : Nat := 0) : State :=
  if s.bit .NET_CNT_CTRL_FREEZE then s else s.tally f n inst

/-- The kind of a frame and the bytes of its payload, from which its length on the wire follows. -/
def Frame.size : Frame → Nat × Nat
  | .ctrl _ n => (0, n)
  | .roce _ _ _ body => (1, body.length)
  | .pfc _ _ => (2, 0)
  | .delayReq _ => (3, 0)
  | .tidemark _ _ body => (4, body.length)
  | .bampor _ _ _ _ body => (5, body.length)
  | .challenge _ body => (5, body.length)

/-- A frame of the module leaves a port over a sub-port: its bytes are counted (R289). -/
def State.sent (s : State) (p kind n : Nat) (sub : Nat := 0) : State :=
  let len := Config.frameLen kind n
  let w := ((s.net.winBytes.find? (fun e => e.1 == p && e.2.1 == sub)).map (·.2.2)).getD 0
  let s := s.netCount .NET_P_TX_COUNT len p
  { s with net := { s.net with winBytes := (p, sub, w + len) :: s.net.winBytes.filter (fun e => !(e.1 == p && e.2.1 == sub)) } }

/-- The bytes of a received frame of a kind are counted (R289). -/
def State.received (s : State) (p kind n : Nat) : State := s.netCount .NET_P_RX_COUNT (Config.frameLen kind n) p

/-! ### Priorities and traffic classes (R263) -/

/-- The traffic class that a port maps a priority to. -/
def State.tcOf (s : State) (p prio : Nat) : Nat := s.get .NET_P_PRIO_MAP p / 8 ^ prio % 8

/-- The ETS weights of TC0 to TC6. -/
def State.etsWeight (s : State) (p tc : Nat) : Nat :=
  if tc < 4 then s.get .NET_P_ETS_LO_W0_to_W3 p / 256 ^ tc % 256 else s.get .NET_P_ETS_HI_W4_to_W6 p / 256 ^ (tc - 4) % 256

/-- The share of TC0 to TC6 in the bandwidth that strict TC7 leaves: by weight, in equal parts if all weights are 0 (R263). -/
def State.etsShare (s : State) (p tc : Nat) : Rat :=
  let sum := (List.range 7).foldl (fun a i => a + s.etsWeight p i) 0
  if 7 ≤ tc then 0 else if sum = 0 then 1 / 7 else (s.etsWeight p tc : Rat) / sum

/-! ### Identities (R184, R260) -/

/-- The IPv6 link-local address that EUI-64 forms from a MAC. -/
def linkLocal (mac : Nat) : Nat :=
  0xFE80 * 2 ^ 112 + (Nat.xor (mac / 2 ^ 24) 0x020000) * 2 ^ 40 + 0xFFFE * 2 ^ 24 + mac % 2 ^ 24

/-- The management identity's MAC on a port and its addresses, 0 for none. -/
def mgmtMac (p : Nat) : Nat := Config.baseMac p % 2 ^ 48
def State.mgmtIp4 (s : State) : Nat := ofBe (toLe (s.get .NET_MGMT_IPV4_ADDR) 4)
def State.mgmtIp6 (s : State) : Nat := ofBe ((List.range 4).flatMap (fun i => toLe (s.get .NET_MGMT_IPV6_ADDR 0 i) 4))

/-- A berth's identity on a port, as its BERTH_NET entry gives it. -/
def State.berthNet (s : State) (b : Fin 8) (p : Nat) : PortNet :=
  ((s.berth b).desc.bind (fun y => y.ports[p]?)).getD ⟨0, 0, 0, 0⟩

/-- The Ethernet address of an IP multicast group, as RFC 1112 and RFC 2464 map it (PRESUMED, log entry 64). -/
def groupMac (v6 : Bool) (ip : Nat) : Nat :=
  if v6 then 0x3333 * 2 ^ 32 + ip % 2 ^ 32 else 0x01005E * 2 ^ 24 + ip % 2 ^ 23
def groupAddr (v6 : Bool) (ip : Nat) : Addr := ⟨groupMac v6 ip, v6, ip⟩

/-- Has a sub-port link, and the lowest sub-port of a port that has: frames whose sub-port the spec does not name leave over it
(DESIGN CHOICE, log entry 64). -/
def State.subLink (s : State) (p sub : Nat) : Bool := bitAt (s.get .NET_P_LINK_UP p) sub
def State.anySub (s : State) (p : Nat) : Nat := ((List.range 8).find? (fun i => s.subLink p i)).getD 0

/-- What stands around a frame of a berth's identity, and around one of the management identity, which answers an IPv6 link-local peer
from its own link-local address. -/
def State.berthWire (s : State) (b : Fin 8) (p sub : Nat) (dst : Addr) (udp prio tc : Nat) (ect : Bool := false) : Wire :=
  let n := s.berthNet b p
  ⟨p, sub, ⟨n.mac, dst.v6, if dst.v6 then n.ipv6 else n.ipv4⟩, dst, n.vlan, udp, prio, tc, ect⟩
def State.mgmtWire (s : State) (p sub : Nat) (dst : Addr) (udp prio tc : Nat) : Wire :=
  let near := dst.ip / 2 ^ 118 == 0xFE80 / 2 ^ 6 || s.mgmtIp6 == 0
  let ip := if !dst.v6 then s.mgmtIp4 else if near then linkLocal (mgmtMac p) else s.mgmtIp6
  ⟨p, sub, ⟨mgmtMac p, dst.v6, ip⟩, dst, s.get .NET_MGMT_VLAN_VID, udp, prio, tc, false⟩

/-! ### Sending (R264) -/

/-- A frame leaves. -/
def State.emit (s : State) (w : Wire) (f : Frame) : State :=
  (s.out (.frame w f)).sent w.port f.size.1 f.size.2 w.sub

/-- A frame is sent: it waits while the peer has paused its priority on its sub-port (R264), and is lost on a sub-port without link
(DEDUCED, log entry 64). -/
def State.put (s : State) (w : Wire) (f : Frame) : State :=
  if !s.subLink w.port w.sub then s
  else if s.net.paused.contains (w.port, w.sub, w.prio) then { s with net := { s.net with held := s.net.held ++ [(w, f)] } }
  else s.emit w f

/-- A priority of a sub-port is not paused any more: the frames that waited for it leave in order. -/
def State.resume (s : State) (key : Nat × Nat × Nat) : State :=
  let mine := fun (e : Wire × Frame) => (e.1.port, e.1.sub, e.1.prio) == key
  let go := s.net.held.filter mine
  let s : State := { s with net := { s.net with
    paused := s.net.paused.filter (· != key), held := s.net.held.filter (fun e => !mine e) } }
  go.foldl (fun s e => s.emit e.1 e.2) s

/-- Every priority that PFC no longer has enabled on a port is resumed, and none of them has XOFF outstanding (R264). -/
def State.pfcOff (s : State) (p : Nat) : State :=
  let off := fun (k : Nat × Nat × Nat) => k.1 == p && !bitAt (s.get .NET_P_PFC_ENABLE p) k.2.2
  let s' := (s.net.paused.filter off).foldl State.resume s
  { s' with net := { s'.net with xoffSent := s'.net.xoffSent.filter (fun k => !off k) } }

/-- The packet buffer that a port keeps as PFC headroom, KiB: 256 for each enabled priority of each sub-port (R264). -/
def State.pfcHeadroom (s : State) (p : Fin 2) : Nat :=
  256 * 2 ^ s.net.modeNow[p] * ((List.range 8).filter (fun i => bitAt (s.get .NET_P_PFC_ENABLE p) i)).length

end Sys2Proof.Machine
end

