-- ==== Sys2Proof/Machine/Tidemark.lean ====
section
/-! DEFINITION. Tidemark frames as they are built and sent (Tables 10-9, 10-10), rate codes and the voltage of a die
(R291 to R294), the preparation of a rate change (R306), and a berth's departure from its domain (R297). -/

namespace Sys2Proof.Machine

/-! ### Codes and voltages -/

/-- A rate code that Table 11-1 defines (R291). -/
def codeValid (c : Nat) : Bool := decide (c ≤ 0x30) || (decide (0x81 ≤ c) && decide (c ≤ 0x87))

/-- The code whose frequency and voltage a code uses: a pacing code runs at 0.80 GHz with the voltage of 0x00 (R291, R292). -/
def baseCode (c : Nat) : Nat := if c < 0x80 then c else 0

/-- The duty of a code, k of 8; 0 for full duty (Table 11-1). -/
def dutyOf (c : Nat) : Nat := if c < 0x80 then 0 else c - 0x80

/-- The lower of two codes (R292). -/
def lowerCode (a b : Nat) : Nat := if rankOf a ≤ rankOf b then a else b

/-- The vendor voltage and the applied voltage of a die at a code, mV (R476, R477, R292). -/
def State.vtVendor (s : State) (d c : Nat) : Nat := s.get .CAP_VT_VENDOR_MV 0 (d * 64 + baseCode c)
def State.vtApplied (s : State) (d c : Nat) : Nat := s.vtVendor d c + 5 * s.get .CAP_AGE_STEP 0 d

/-- The highest code of a die (R477, R480). -/
def State.dieMax (s : State) (d : Nat) : Nat := s.get .CAP_AGE_MAX_CODE 0 d

/-- The code that a die runs when its berth asks for `c` (R294). -/
def State.limitCode (s : State) (d c : Nat) : Nat := lowerCode c (s.dieMax d)

/-- The command that CL01 means to send to a rail: what it last meant, else the rail's registers. -/
def State.wanted (s : State) (r : Nat) : HelmCmd :=
  ((s.pwr.want.find? (fun e => e.1 == r)).map (·.2)).getD
    ⟨s.bit .PWR_RAIL_CTRL_EN r, s.bit .PWR_RAIL_CTRL_HOLD r, s.get .PWR_RAIL_VSET_TARGET_MV r⟩
def State.setWanted (s : State) (r : Nat) (c : HelmCmd) : State :=
  { s with pwr := { s.pwr with want := (r, c) :: s.pwr.want.filter (fun e => !(e.1 == r)) } }

/-- Move the VC rail of a die toward its table voltage at a code (R306, R307). -/
def State.wantVc (s : State) (d : Fin 8) (c : Nat) : State :=
  s.setWanted (2 + d.val) { s.wanted (2 + d.val) with set := s.vtApplied d c }

/-! ### Preparing a change of code (R306, R307) -/

/-- The dies of a berth. -/
def State.berthDies (s : State) (b : Fin 8) : List (Fin 8) := (allFin 8).filter (fun d => (s.die d).berth == some b)

/-- Begin to prepare a change: the standby PLL locks when the frequency differs, VC rises for a higher code. -/
def State.ratePrepare (s : State) (d : Fin 8) (code step origin : Nat) (noStep : Bool) : State :=
  let x := s.die d
  let c := s.limitCode d code
  let s := s.setDie d
    { x with
      ratePend := some ⟨c, step, origin, noStep⟩
      standbyLocked := if baseCode c = baseCode x.code then some (baseCode c) else none
      rampedTo := if s.vtApplied d c ≤ s.vtApplied d x.code then some (baseCode c) else none }
  if rankOf x.code < rankOf c then s.wantVc d c else s

/-- Raise a counter of a berth's rate-hold registers by 1 (R325). -/
def State.rhdCount (s : State) (b : Fin 8) (f : Fld) : State := if s.bit .RHD_CNT_CTRL_FREEZE then s else s.tally f 1 b

/-- The code of a berth in no domain: `RHD_TARGET.CODE` as the die committed it, under the berth's ceilings (R293, R465). -/
def State.freeCode (s : State) (d b : Fin 8) : Nat :=
  (s.rhdOf b).ceilings.foldl (fun c e => lowerCode c e.2) (s.die d).target

/-- Is a berth in no domain (R293). -/
def State.noDomain (s : State) (b : Fin 8) : Bool := s.get .RHD_STATE_STATE b == 0 || s.get .RHD_STATE_STATE b == 6

/-- A die of a berth in no domain begins to move to the berth's own code, if it differs (R293, R465). -/
def State.rateFollow (s : State) (d : Fin 8) : State :=
  match (s.die d).berth with
  | none => s
  | some b =>
    let c := s.limitCode d (s.freeCode d b)
    if !s.noDomain b then s
    else match (s.die d).ratePend with
      | some p => if p.code = c then s else s.ratePrepare d c 0 s.now true
      | none => if c = (s.die d).code then s else s.ratePrepare d c 0 s.now true

/-! ### Tidemark frames (R286 to R288) -/

/-- Bytes of an ASCII string. -/
def ascii (t : String) : List Nat := t.toList.map Char.toNat

/-- A Tidemark header (Table 10-9). -/
def tmHeader (type domain sender epoch alive len flags : Nat) : List Nat :=
  toBe 0x7D3C 2 ++ [0x01, type] ++ toBe domain 2 ++ toBe sender 2 ++ toBe epoch 4 ++ toBe alive 2 ++ toBe len 2 ++
    [flags, 0, 0, 0]

/-- A berth's domain key as bytes, and whether one is set. -/
def State.tmKey (s : State) (b : Fin 8) : List Nat := (allFin 8).flatMap (fun i => toBe (s.rhdOf b).key[i] 4)
def State.tmKeySet (s : State) (b : Fin 8) : Bool := (allFin 8).any (fun i => (s.rhdOf b).key[i] != 0)

/-- The tag over header and payload (R287). -/
def State.tmTag (s : State) (b : Fin 8) (body : List Nat) : List Nat := Config.kmac256 (s.tmKey b) body (ascii "tidemark") 16

/-- The index that a berth sends as: its own once it is admitted or elects, else 0xFFFF (Table 10-9). -/
def State.tmSender (s : State) (b : Fin 8) : Nat :=
  let st := s.get .RHD_STATE_STATE b
  if st = 3 ∨ st = 4 ∨ st = 5 then s.get .RHD_STATE_INDEX b else 0xFFFF

/-- A berth's domain group, to which BEACON and CLAIM go, and the master's address, to which all else goes but a JOIN_REPLY (R288). -/
def State.tmGroup (s : State) (b : Fin 8) : Addr :=
  if s.bit .RHD_CFG_IPV6 b then groupAddr true (ofBe ((List.range 4).flatMap (fun i => toLe (s.get .RHD_MCAST_V6_ADDR b i) 4)))
  else groupAddr false (ofBe (toLe (s.get .RHD_MCAST_V4_ADDR b) 4))
def State.tmMaster (s : State) (b : Fin 8) : Addr := (s.rhdOf b).masterAddr.getD ⟨0, s.bit .RHD_CFG_IPV6 b, 0⟩

/-- Send a Tidemark frame of a berth with its own identity, on the port that `RHD_CFG` selects and on TC7: counted in ALIVE, its tag
with AUTH, its CRC appended by the bound unit (R278, R286 to R288). Without a pilot whose link works no frame leaves (R486). -/
def State.tmSend (s : State) (b : Fin 8) (dst : Addr) (type : Nat) (payload : List Nat) (pinned : Bool := false) : State :=
  let r := s.rhdOf b
  let auth := s.bit .RHD_CFG_AUTH b
  let hdr := tmHeader type (s.get .RHD_ID_DOMAIN b) (s.tmSender b) (s.get .RHD_EPOCH_EPOCH b) r.aliveTx payload.length
    (auth.toNat + 2 * pinned.toNat)
  let body := hdr ++ payload
  let frame := body ++ (if auth then s.tmTag b body else [])
  let frame := frame ++ toBe (crc32c frame) 4
  let s := s.setRhd b { r with aliveTx := (r.aliveTx + 1) % 65536 }
  let p := s.get .RHD_CFG_PORT b
  if !s.pilotTalks then s
  else (s.snoop 3 frame true).put (s.berthWire b p (s.anySub p) dst s.net.udpNow.2 7 7) (.tidemark b type frame)

/-! ### Departure (R296, R297, R321) -/

def State.rhdState (s : State) (b : Fin 8) : Nat := s.get .RHD_STATE_STATE b

/-- Enter a membership state. -/
def State.rhdEnter (s : State) (b : Fin 8) (st : Nat) : State :=
  (s.set .RHD_STATE_STATE st b).modRhd b (fun r => { r with stateSince := s.now })

/-- A berth forgets its domain: it follows no master and has no member, and no rate is pending on its dies. -/
def State.rhdForget (s : State) (b : Fin 8) (st : Nat) : State :=
  let s := (s.rhdEnter b st).modRhd b (fun r =>
    { r with
      members := [], joins := [], windows := [], periods := 0, newEpoch := false, lossEpoch := false
      heardFrom := [], sentTime := none, ownReq := none, fromEpoch := none, claimAt := none, outranked := false, mute := false, missed := 0
      expiredAt := none, everHeard := false, highEpoch := 0 })
  let s := (s.setBit .RHD_MASTER_VALID false b).setBit .RHD_STATE_REQUESTING false b
  (s.berthDies b).foldl (fun s d => s.modDie d (fun x => { x with ratePend := none })) s

/-- A berth is in no domain any more, and each of its dies moves to the code of R293 from this moment. -/
def State.rhdLeft (s : State) (b : Fin 8) (st : Nat) : State :=
  (s.berthDies b).foldl (fun s d => s.rateFollow d) (s.rhdForget b st)

/-- A berth enters OFF after a LEAVE to its master, from every state in which it knows one other than itself (R296, R321). -/
def State.rhdOff (s : State) (b : Fin 8) (reason : Nat) : State :=
  if s.rhdState b = 0 then s
  else
    let s := if s.rhdState b = 5 ∨ (s.rhdOf b).masterAddr.isNone then s else s.tmSend b (s.tmMaster b) 0x06 [reason, 0, 0, 0]
    let s := (s.rhdLeft b 0).modRhd b (fun r => { r with masterAddr := none })
    let s := s.setBit .RHD_STATE_TAG_MISMATCH false b
    ((s.set .RHD_EPOCH_EPOCH 0 b).set .RHD_MEMBERS_COUNT 0 b).set .RHD_STATE_INDEX 0 b

/-- Is a function of chapter byte `ch` and UNIT `unit` a fault on a berth: a stream fault of one of its dies, its own rate-hold
or capping fault, or the bollard (R296, R471). -/
def State.faultOn (s : State) (b : Fin 8) (ch unit : Nat) : Bool :=
  (ch == 0x06 && (s.berthDies b).any (fun d => d.val == unit)) || (ch == 0x11 && unit == b.val) ||
    (ch == 0x18 && (unit == b.val || (unit == 0xFF && !(s.berthDies b).isEmpty)))

/-- A level-3 fault latches on a berth: the berth leaves its domain for OFF (R296). An exclusion is no such fault (log entry 15). -/
def State.faultLeaves (s : State) (ch unit : Nat) : State :=
  if ch = 0x11 then s else forFin 8 s (fun s b => if s.faultOn b ch unit then s.rhdOff b 2 else s)

end Sys2Proof.Machine
end

