-- ==== Sys2Proof/Machine/FaultRec.lean ====
section
/-! DEFINITION. Time stamps, and the fault records of chapter 14: their layout (Tables 14-2, 14-3) and their writer's queue
(R384 to R387). -/

namespace Sys2Proof.Machine

/-- Time since the last cold reset, ps. -/
def State.uptime (s : State) : Nat := s.now - s.rst.coldTime

/-- Module time in ns while it is valid (R277), else ns since the last cold reset (Table 21-3). -/
def State.timeNs (s : State) : Nat :=
  if s.net.ptpValid then (s.net.ptpBase + (s.now / 1000 : Nat)).toNat else s.uptime / 1000

/-- The highest rate code in force on the compute dies. -/
def State.topCode (s : State) : Nat := codeOfRank ((allFin 8).foldl (fun a d => max a (rankOf (s.die d).code)) 0)

/-- Common fields of a record (Table 14-2) over its kind-specific bytes 0x13 to 0x37; SEQ and CRC come with `sealRec`. -/
def State.recBytes (s : State) (rail kind : Nat) (latched secondary : Bool) (body : List Nat) : List Nat :=
  let flags := (if s.net.ptpValid then 1 else 0) + (if latched then 2 else 0) + (if secondary then 4 else 0) +
    (if s.act = 1 then 8 else 0)
  toLe 0x1F4A 2 ++ [rail, kind] ++ toLe 0 4 ++ toLe (s.timeNs / 1000000000) 6 ++ toLe (s.timeNs % 1000000000) 4 ++ [flags] ++
    sliceAt body 0 37 ++ toLe (s.uptime / ms) 4 ++ toLe 0 4

/-- A record with its SEQ and CRC-32C over bytes 0x00 to 0x3B (R387). -/
def sealRec (bs : List Nat) (seq : Nat) : List Nat :=
  let bs := putAt bs 4 (toLe seq 4)
  putAt bs 0x3C (toLe (crc32c (bs.take 0x3C)) 4)

/-- The module record's bytes 0x13 to 0x37 (Table 14-3). -/
def State.moduleBody (s : State) (level code source : Nat) : List Nat :=
  [level] ++ toLe code 2 ++ [source, 0] ++ toLe (s.get .PWR_IN_V_J1_MV) 2 ++ toLe (s.get .PWR_IN_V_NODE_MV) 2 ++
    toLe (s.get .PWR_IN_I_A_X100) 2 ++ [s.get .BWR_SOC_PCT_X100 / 100, s.topCode] ++ toLe s.modReady 4 ++
    toLe s.modReadyHi 2 ++ toLe 0 2

/-- Hand a record to its writer: it is written now, or waits, replacing one that waits already (R384). -/
def State.queueRec (s : State) (rec : Fin 51) (bs : List Nat) : State :=
  let r := s.pwr.recs[rec]
  let r := match r.writing with
    | none => if s.flashHalted s.act then { r with next := some bs } else { r with writing := some bs }
    | some _ => { r with next := some bs }
  { s with pwr := { s.pwr with recs := s.pwr.recs.set rec r } }

/-- The module fault record of an event of level 3 or 4 (R385). SOURCE is the rail's index for events of the power train,
else 0xFF. -/
def State.moduleRec (s : State) (level code unit : Nat) : State :=
  let source := if (code / 256 = 0x13 || code / 256 = 0x14) && decide (unit < 50) then unit else 0xFF
  s.queueRec 50 (s.recBytes 0xFF 1 true false (s.moduleBody level code source))

end Sys2Proof.Machine
end

