-- ==== Sys2Proof/Machine/Logbook.lean ====
section
/-! DEFINITION. Events, latches, handling and the logbook (chapter 21, R520 to R534). -/

namespace Sys2Proof.Machine

/-- SEQ of an event held before the mount, which has no SEQ yet: its place in `held`, above every SEQ (R570). -/
def heldBase : Nat := 2 ^ 32

/-- The first 28 bytes of a record (Table 21-3). -/
def LogRecord.body (r : LogRecord) : List Nat :=
  let flags := r.level % 8 + (if r.ptp then 8 else 0) + (if r.onPB then 16 else 0) + (if r.secondary then 32 else 0) +
    (if r.latching then 64 else 0) + (if r.unhandled then 128 else 0)
  toLe r.seq 4 ++ toLe r.time 8 ++ toLe r.code 2 ++ [flags, r.unit] ++ toLe r.arg0 4 ++ toLe r.arg1 4 ++
    toLe r.secCode 2 ++ [r.secCount, r.eflags]

/-- The 32 bytes of a record, the CRC with them (R527). -/
def LogRecord.bytes (r : LogRecord) : List Nat := r.body ++ toLe (crc32c r.body) 4

/-- Is SEQ `a` older than SEQ `b` (R528). -/
def seqOlder (a b : Nat) : Bool :=
  let d := (b + 2 ^ 32 - a % 2 ^ 32) % 2 ^ 32
  decide (1 ≤ d) && decide (d ≤ 2 ^ 31 - 1)

/-- Is a record in the flash log of pilot `p`. -/
def LogSt.inFlash (l : LogSt) (p : Fin 2) (seq : Nat) : Bool := (l.flash[p]).any (fun r => r.seq == seq)

/-- Every held record of pilot `p`, oldest first: those of flash that the ring no longer holds, then the ring. -/
def LogSt.all (l : LogSt) (p : Fin 2) : List LogRecord :=
  (l.flash[p]).filter (fun r => !(l.ring[p]).any (fun r' => r'.seq == r.seq)) ++ l.ring[p]

/-- The oldest record of pilot `p`'s ring is not in its flash. -/
def LogSt.oldestUnflushed (l : LogSt) (p : Fin 2) : Bool :=
  match l.ring[p] with
  | [] => false
  | r :: _ => !l.inFlash p r.seq

/-- Records of the ring that are not in flash. -/
def LogSt.unflushed (l : LogSt) (p : Fin 2) : List LogRecord := (l.ring[p]).filter (fun r => !l.inFlash p r.seq)

/-- Start a flush, or extend a running one (R529). -/
def State.startFlush (s : State) : State :=
  if s.flashHalted s.act then s else { s.set .LOG_STATUS_FLUSHING 1 with log := { s.log with flushTo := s.log.nextSeq } }

/-- Change the record with SEQ `seq`, in both rings or among the held events. -/
def State.editRecord (s : State) (seq : Nat) (f : LogRecord → LogRecord) : State :=
  let e := fun (l : List LogRecord) => l.map (fun r => if r.seq = seq then f r else r)
  { s with log := { s.log with ring := s.log.ring.map e, held := s.log.held.map e } }

/-- Fill the register window with a record (R532). -/
def State.showRecord (s : State) (r : LogRecord) (fromFlash : Bool) : State :=
  let s := (List.range 8).foldl (fun s i => s.set .LOG_WIN_BYTES (leAt r.bytes (4 * i) 4) 0 i) s
  let s := (s.setBit .LOG_WIN_STATE_VALID true).setBit .LOG_WIN_STATE_BUSY false
  (s.setBit .LOG_WIN_STATE_FLASH fromFlash).setBit .LOG_WIN_STATE_END false

/-- Write a record into the ring of pilot `p`; one that would overwrite an unflushed record is lost (R526, R530). -/
def State.append (s : State) (p : Fin 2) (r : LogRecord) : State :=
  let ring := s.log.ring[p]
  if ring.length ≥ 2048 && s.log.oldestUnflushed p then
    let s := s.tally .LOG_LOST_COUNT
    let pend := match s.log.lostPending with
      | some (n, t) => some (min (n + 1) 0xFFFFFFFF, t)
      | none =>
        let first := match s.log.lostAt with
          | none => true
          | some t => decide (t + second ≤ s.now)
        if first then some (1, s.timeNs) else none
    let at_ := if s.log.lostPending.isNone && pend.isSome then some s.now else s.log.lostAt
    { s with log := { s.log with lostPending := pend, lostAt := at_ } }
  else
    let full := ring.length ≥ 2048
    let gone := if full then ring.take 1 else []
    let ring := (if full then ring.drop 1 else ring) ++ [r]
    let unread := s.log.unread.filter (fun q => !gone.any (fun g => g.seq == q))
    let unread := if r.level ≥ 1 then unread ++ [r.seq] else unread
    let s : State := { s with log := { s.log with ring := s.log.ring.set p ring, unread := unread } }
    if s.bit .LOG_WIN_STATE_END && decide (s.log.wantSeq = some r.seq) then s.showRecord r false else s

/-- Take the next SEQ and record an event, or hold it until the mount (R522, R570). Gives the record's SEQ. -/
def State.record (s : State) (code level unit arg0 arg1 eflags : Nat) (onPB latching : Bool) (time : Nat) : State × Nat :=
  let p := s.act
  let mk : Nat → LogRecord := fun seq =>
    { seq := seq, time := time, code := code, level := level, ptp := s.net.ptpValid, onPB := onPB,
      latching := latching, unit := unit, arg0 := arg0, arg1 := arg1, eflags := eflags }
  if s.log.mounted[p] then
    let seq := s.log.nextSeq
    let s := { s with log := { s.log with nextSeq := (seq + 1) % 2 ^ 32 } }
    (s.append p (mk seq), seq)
  else
    let held := s.log.held[p]
    if held.length < 256 then
      let seq := heldBase + held.length
      ({ s with log := { s.log with held := s.log.held.set p (held ++ [mk seq]) } }, seq)
    else
      let s := s.tally .LOG_LOST_COUNT
      let pend := match s.log.lostPending with
        | some (n, t) => some (min (n + 1) 0xFFFFFFFF, t)
        | none => some (1, time)
      ({ s with log := { s.log with lostPending := pend } }, heldBase + 256)

/-- The index of the newest queued event of the lowest level, if that level is below `level` (R523). -/
def victim (level : Nat) (q : List Handling) : Option Nat :=
  let low := q.foldl (fun a h => min a h.level) 7
  if low < level then
    (List.range q.length).foldl (fun a i => if (q[i]?).any (fun h => h.level == low) then some i else a) none
  else none

/-- Put an event into handling, pre-empt, queue it, or drop an event from the full queue (R522, R523). The flag says that
an event was removed unhandled. -/
def State.handle (s : State) (h : Handling) : State × Bool :=
  match s.log.handling with
  | none => ({ s with log := { s.log with handling := some h } }, false)
  | some cur =>
    if h.level > cur.level then
      ({ s with log := { s.log with handling := some h, preempted := cur :: s.log.preempted } }, false)
    else if s.log.queue.length < 64 then ({ s with log := { s.log with queue := s.log.queue ++ [h] } }, false)
    else
      let (out, queue) := match victim h.level s.log.queue with
        | some i => ((s.log.queue[i]?).getD h, s.log.queue.eraseIdx i ++ [h])
        | none => (h, s.log.queue)
      let s := { s with log := { s.log with queue := queue } }
      ((s.editRecord out.seq (fun r => { r with unhandled := true })).tally .LOG_QUEUE_OVERFLOW, true)

/-- Raise an event of pilot `onPB` with a bound on events that raising it raises (R520 to R524). -/
def State.raiseN : Nat → State → (code unit arg0 arg1 eflags : Nat) → (onPB : Bool) → State
  | 0, s, _, _, _, _, _, _ => s
  | n + 1, s, code, unit, arg0, arg1, eflags, onPB =>
    let level := eventLevel code
    match s.log.latches.find? (fun l => l.chapter == code / 256 && l.unit == unit) with
    | some l =>
      let s := s.editRecord l.seq (fun r => { r with
        secCode := if r.secondary then r.secCode else code, secCount := min (r.secCount + 1) 255, secondary := true })
      let unread := if s.log.unread.contains l.seq then s.log.unread else s.log.unread ++ [l.seq]
      let sp := if s.log.inFlash s.act l.seq && !s.log.secPending.contains l.seq then s.log.secPending ++ [l.seq]
        else s.log.secPending
      let s := { s with log := { s.log with unread := unread, secPending := sp }, pins := { s.pins with alert := true } }
      if level ≥ 3 then s.moduleRec level code unit else s
    | none =>
      let (s, seq) := s.record code level unit arg0 arg1 eflags onPB (decide (level ≥ 3)) s.timeNs
      let s := if level ≥ 1 then { s with pins := { s.pins with alert := true } } else s
      let s := if level ≥ 3 then
          let l : Latch := ⟨code / 256, unit, seq⟩
          let s : State := { s with log := { s.log with latches := s.log.latches ++ [l] } }
          (s.moduleRec level code unit).faultLeaves (code / 256) unit
        else s
      let s := if level ≥ 2 || decide ((s.log.unflushed s.act).length ≥ 1024) then s.startFlush else s
      let (s, dropped) := s.handle ⟨seq, code, unit, level⟩
      let due := match s.log.overflowAt with
        | none => true
        | some t => decide (t + ms ≤ s.now)
      if dropped && due then
        raiseN n { s with log := { s.log with overflowAt := some s.now } } 0x2101 0xFF 0 0 0 false
      else s

/-- Raise an event (R522). UNIT is 0xFF where the rule names none (R527). -/
def State.raise (s : State) (code : Nat) (unit : Nat := 0xFF) (arg0 : Nat := 0) (arg1 : Nat := 0) (eflags : Nat := 0)
    (onPB : Bool := false) : State :=
  s.raiseN 2 code unit (arg0 % 2 ^ 32) (arg1 % 2 ^ 32) eflags (onPB || decide (s.act = 1))

/-- End the latch of a function, if it is latched, with event 0x2105 (R521). -/
def State.endLatch (s : State) (chapter unit : Nat) : State :=
  match s.log.latches.find? (fun l => l.chapter == chapter && l.unit == unit) with
  | none => s
  | some l =>
    let s := { s with log := { s.log with
      latches := s.log.latches.filter (fun x => !(x.chapter == chapter && x.unit == unit)) } }
    s.raise 0x2105 unit l.seq

/-- Record a pending 0x2106 once the ring has a free slot (R530). -/
def State.recordLost (s : State) : State :=
  match s.log.lostPending with
  | none => s
  | some (n, t) =>
    if s.log.mounted[s.act] && !((s.log.ring[s.act]).length ≥ 2048 && s.log.oldestUnflushed s.act) then
      let s := { s with log := { s.log with lostPending := none } }
      let (s, seq) := s.record 0x2106 1 0xFF n 0 0 (decide (s.act = 1)) false t
      ({ s with pins := { s.pins with alert := true } }.handle ⟨seq, 0x2106, 0xFF, 1⟩).1
    else s

/-! ### The commands of chapter 21 about events -/

/-- EVENT_RAISED: an event of any source (R522). -/
def execEventRaised (code : BitVec 16) (unit : BitVec 8) (arg0 arg1 : BitVec 32) (s : State) :
    Host.Outcome State Fault Refusal :=
  .next (s.raise code.toNat unit.toNat arg0.toNat arg1.toNat)

/-- The next handling: a pre-empted one resumes unless an event of higher level waits (R522). -/
def nextHandling (l : LogSt) : LogSt :=
  let best := l.queue.foldl (fun a h => max a (h.level + 1)) 0
  let pick := l.queue.find? (fun h => h.level + 1 == best)
  match l.preempted, pick with
  | [], none => { l with handling := none }
  | c :: cs, none => { l with handling := some c, preempted := cs }
  | [], some h => { l with handling := some h, queue := l.queue.erase h }
  | c :: cs, some h =>
    if h.level > c.level then { l with handling := some h, queue := l.queue.erase h }
    else { l with handling := some c, preempted := cs }

/-- EVENT_HANDLING_DONE (R522). -/
def execEventHandlingDone (s : State) : Host.Outcome State Fault Refusal :=
  .next (if s.log.handling.isSome then { s with log := nextHandling s.log } else s)

/-- LATCH_END (R521). -/
def execLatchEnd (chapter unit : BitVec 8) (s : State) : Host.Outcome State Fault Refusal :=
  .next (s.endLatch chapter.toNat unit.toNat)

/-- Raise the 0x2103 of every flushed latching record with news (R524). -/
def State.flushSecondaries (s : State) : State :=
  let l := s.log.secPending
  let s := { s with log := { s.log with secPending := [] } }
  l.foldl (fun s q => match (s.log.all s.act).find? (fun r => r.seq == q), (s.log.ring[s.act]).find? (fun r => r.seq == q) with
    | some _, some r => s.raise 0x2103 r.unit q (r.secCode + r.secCount * 65536)
    | some r, none => s.raise 0x2103 r.unit q (r.secCode + r.secCount * 65536)
    | none, _ => s) s

/-- A flash log with records added; the oldest block of 2,048 records goes when the 64 blocks are full (R530). -/
def flashAppend (flash new : List LogRecord) : List LogRecord :=
  let l := flash ++ new
  if l.length > 131072 then l.drop ((l.length - 131072 + 2047) / 2048 * 2048) else l

/-- Records read from the flash of the active pilot pass its flash unit (Table 21-4). -/
def State.flashRead (s : State) (rs : List LogRecord) : State :=
  (rs.filter (fun r => !(s.log.ring[s.act]).any (fun q => q.seq == r.seq))).foldl (fun s (r : LogRecord) => s.snoop 6 r.bytes false) s

/-- A flush ends: every record of pilot `p`'s ring is in its flash (R529). -/
def State.flushDone (s : State) (p : Fin 2) : State :=
  let s := if p = s.act then s.flushSecondaries else s
  let new := s.log.unflushed p
  let s := { s with log := { s.log with
    flash := s.log.flash.set p (flashAppend s.log.flash[p] new), flashBroken := false } }
  let s := if p = s.act then new.foldl (fun s (r : LogRecord) => s.snoop 6 r.bytes true) s else s
  (if p = s.act then s.setBit .LOG_STATUS_FLUSHING false else s).recordLost

/-- LOG_FLUSH_DONE: the flush of pilot `p` is complete (R529). -/
def execLogFlushDone (p : Fin 2) (s : State) : Host.Outcome State Fault Refusal :=
  .next (if s.bit .LOG_STATUS_FLUSHING then s.flushDone p else s)

/-- LOG_FLASH_FAIL: the log cannot be written; records stay in the ring (R530). -/
def execLogFlashFail (p : Fin 2) (s : State) : Host.Outcome State Fault Refusal :=
  .next <|
    if s.bit .LOG_STATUS_FLUSHING then
      let s := if p = s.act then
          (s.setBit .LOG_STATUS_FLASH_FAIL true).setBit .LOG_STATUS_FLUSHING false
        else s
      let s : State := { s with log := { s.log with flashBroken := true } }
      s.raise 0x2102 0xFF 0 0 0 (decide (p = 1))
    else s

/-- SEQ of a held event once recorded. -/
def settle (base seq : Nat) : Nat := if heldBase ≤ seq then (base + (seq - heldBase)) % 2 ^ 32 else seq

/-- The fields of `RST_CAUSE`, bit 0 first (Table 3-9). -/
def causeFlds : List Fld :=
  [.RST_CAUSE_POR, .RST_CAUSE_BOR, .RST_CAUSE_HOTPLUG, .RST_CAUSE_RESET_IN, .RST_CAUSE_WDG_A, .RST_CAUSE_WDG_B,
   .RST_CAUSE_HMA_A, .RST_CAUSE_HMA_B, .RST_CAUSE_BAMPOR, .RST_CAUSE_DELAYED]

/-- The word of `RST_CAUSE`. -/
def State.rstCause (s : State) : Nat := ofBits (causeFlds.map (fun f => s.bit f))

/-- LOG_MOUNT: pilot `p` mounts its flash log, records 0x2104 and then its held events (R531, R570, R528). -/
def execLogMount (p : Fin 2) (s : State) : Host.Outcome State Fault Refusal :=
  .next <|
    if s.log.mounted[p] || decide ((s.pilot p).role = .out) then s
    else
      let fresh := !s.log.mounted[otherPilot p]
      let newest := ((s.log.flash[p]).getLast?).map (·.seq)
      let next := if fresh then (match newest with | some q => (q + 1) % 2 ^ 32 | none => 0) else s.log.nextSeq
      let held := s.log.held[p]
      let s := if p = s.act then s.flashRead s.log.flash[p] else s
      let s := { s with log := { s.log with
        mounted := s.log.mounted.set p true, nextSeq := next, held := s.log.held.set p [] } }
      let s := s.raise 0x2104 0xFF s.rstCause 0 0 (decide (p = 1))
      let base := s.log.nextSeq
      let s := held.foldl (fun s r =>
        let seq := s.log.nextSeq
        ({ s with log := { s.log with nextSeq := (seq + 1) % 2 ^ 32 } }).append s.act { r with seq := seq }) s
      let fixH := fun (h : Handling) => { h with seq := settle base h.seq }
      let log :=
        { s.log with
          latches := s.log.latches.map (fun l => { l with seq := settle base l.seq })
          handling := s.log.handling.map fixH
          preempted := s.log.preempted.map fixH
          queue := s.log.queue.map fixH
          unread := s.log.unread.map (settle base)
          secPending := s.log.secPending.map (settle base) }
      let s := { s with log := log }
      let s := if held.any (fun r => r.level ≥ 2) then s.startFlush else s
      if s.ready rSUP && decide (p = s.act) && !s.boundMissed rLOG then s.recordLost.setReady rLOG true else s.recordLost

/-- LOG_CTRL_FLUSH (R529). -/
def State.logCtrlFlush (s : State) : State := s.startFlush

/-- LOG_CURSOR_WRITE: start the latch of record `seq` (R532). -/
def State.logCursor (s : State) (seq : Nat) : State :=
  let s := s.set .LOG_CURSOR_SEQ seq
  let s := (List.range 8).foldl (fun s i => s.set .LOG_WIN_BYTES 0 0 i) s
  let s := (s.setBit .LOG_WIN_STATE_VALID false).setBit .LOG_WIN_STATE_BUSY true
  let s := (s.setBit .LOG_WIN_STATE_GAP false).setBit .LOG_WIN_STATE_END false
  { s.setBit .LOG_WIN_STATE_FLASH false with log := { s.log with wantSeq := some (seq % 2 ^ 32) } }

/-- LOG_WINDOW_LATCHED: the latch completes, from the ring or from flash (R532). -/
def execLogWindowLatched (s : State) : Host.Outcome State Fault Refusal :=
  .next <|
    match s.log.wantSeq, s.bit .LOG_WIN_STATE_BUSY with
    | some q, true =>
      let p := s.act
      let inRing := fun (r : LogRecord) => (s.log.ring[p]).any (fun r' => r'.seq == r.seq)
      match (s.log.all p).find? (fun r => r.seq == q) with
      | some r => (s.flashRead [r]).showRecord r (!inRing r)
      | none =>
        match (s.log.all p).find? (fun r => seqOlder q r.seq) with
        | some r => (((s.flashRead [r]).showRecord r (!inRing r)).setBit .LOG_WIN_STATE_GAP true).set .LOG_CURSOR_SEQ r.seq
        | none => (s.setBit .LOG_WIN_STATE_BUSY false).setBit .LOG_WIN_STATE_END true
    | _, _ => s

/-- The read of LOG_WIN7 that moves the window on (R532 step 3). -/
def State.logWin7 (s : State) : State := s.logCursor ((s.get .LOG_CURSOR_SEQ + 1) % 2 ^ 32)

/-- Records that a LOG_READ returns: up to `n` from the oldest held one not older than `cursor` (R533). -/
def State.logRead (s : State) (cursor n : Nat) : List LogRecord :=
  ((s.log.all s.act).filter (fun r => !seqOlder r.seq cursor)).take n

/-- READ_FAULT: the unread record of highest level, the oldest among those, which then counts as read (R534). -/
def State.readFault (s : State) : Option LogRecord × State :=
  let recs := s.log.unread.filterMap (fun q => (s.log.ring[s.act]).find? (fun r => r.seq == q))
  let best := recs.foldl (fun a r => max a r.level) 0
  match recs.find? (fun r => r.level == best) with
  | none => (none, s)
  | some r => (some r, { s with log := { s.log with unread := s.log.unread.erase r.seq } })

end Sys2Proof.Machine
end

