-- ==== Sys2Proof/Machine/Flags.lean ====
section
/-! DEFINITION. The status outputs that the module derives from its state: FAULT_N, the indicators, the Ethernet lanes before a
port is ready, and the pins of the sideband (R43 to R47, R516). -/

namespace Sys2Proof.Machine

/-- FAULT_N is asserted: SUP is not ready, a fault of level 3 or 4 is latched, a comparator of a 16-cell pack is tripped, or the
bollard is (R45). -/
def State.faultAsserted (s : State) : Bool :=
  !s.ready rSUP || !s.log.latches.isEmpty ||
    (s.get .BWR_PACK_CELLS == 16 && (s.bit .CEL_STATUS_COMP_OV || s.bit .CEL_STATUS_COMP_UV)) || s.get .CAP_STATUS_BOLLARD != 0

/-- ALERT_N and WAKE_N, asserted (R46, R47). From a cold reset ALERT_N stays released until SUP, which owns it, is first ready; what
has asked for it before asserts it then (R44, R76, Table 3-5). -/
def State.alertAsserted (s : State) : Bool := s.pins.alert && bitAt s.rst.seen rSUP
def State.wakeAsserted (s : State) : Bool := s.pins.wake

/-- What an indicator shows: off, on, or a blink at a frequency in Hz (Table 20-5). -/
inductive Led where
  | off
  | on
  | blink (hz : Nat)
  deriving DecidableEq, Repr

/-- Every compute die and quay die has been ready since the last cold reset. -/
def State.allDiesSeen (s : State) : Bool := s.rst.seen / 2 ^ 16 % 2 ^ 16 == 0xFFFF

/-- PWR_LED (R516). -/
def State.pwrLed (s : State) : Led :=
  if !s.ready rSUP then .off
  else
    let st := s.get .HPL_STATE_STATE
    if 4 ≤ st then .off
    else if st ≠ 0 ∨ !s.allDiesSeen then .blink 1
    else .on

/-- ATTN_LED: the first pattern whose condition holds (R516). -/
def State.attnLed (s : State) : Led :=
  if !s.ready rSUP then .off
  else
    let st := s.get .HPL_STATE_STATE
    if !s.log.latches.isEmpty ∨ 5 ≤ st then .on
    else if 1 ≤ st ∧ st ≤ 3 then .blink 4
    else if s.bit .HPL_CFG_LOCATE then .blink 1
    else .off

/-- The TX lanes of a port are in electrical idle until its ready bit first sets (R43). -/
def State.lanesIdle (s : State) (p : Fin 2) : Bool := !bitAt s.rst.seen (rPORT p)

/-- What the TX lanes of a port carry: nothing, IEEE 802.3 local fault signalling while its port is not ready again, or the port's
frames (R43, R77). -/
inductive LaneState where
  | idle
  | localFault
  | frames
  deriving DecidableEq, Repr

def State.laneState (s : State) (p : Fin 2) : LaneState :=
  if s.lanesIdle p then .idle else if s.ready (rPORT p) then .frames else .localFault

/-- Is the polarity of lane `n` of a port inverted; lanes are never reordered (R42). -/
def State.laneInverted (s : State) (p : Fin 2) (n : Fin 8) : Bool := bitAt s.net.polNow[p] n

/-- PPS_OUT: no level while its driver is off; high for 100 ms from each second of the module's PTP time; through a warm reset of
NET the level on entry (R41, R43, R77). -/
def State.ppsOutLevel (s : State) : Option Bool :=
  if !s.pins.ppsOut then none
  else match s.pins.ppsHeld with
    | some v => some v
    | none => some (decide (s.timeNs % 1000000000 < 100000000))

/-- The frequency of SYNC_OUT, kHz: none while its driver is off, SYNC_IN's while locked, else the internal reference of 4.0 MHz
(R51). -/
def State.syncOutKhz (s : State) : Option Nat :=
  if !s.pins.syncOut then none
  else if s.get .PWR_SYNC_STATUS_STATE = 2 then some (s.get .PWR_SYNC_STATUS_FREQ_KHZ) else some 4000

/-! ### The test access port (R61, R62) -/

/-- The devices of the chain, in order from TDI to TDO (R61). -/
inductive TapDev where
  | pa | pb | hc0 | hc1 | hc2 | hc3 | cafe | nd0 | nd1
  deriving DecidableEq, Repr

def tapChain : Vector TapDev 9 := #v[.pa, .pb, .hc0, .hc1, .hc2, .hc3, .cafe, .nd0, .nd1]

/-- The register that an instruction puts between a device's TDI and TDO, as IEEE 1149.1, which R61 names, gives it: BYPASS one bit,
IDCODE the 32-bit identification, SAMPLE/PRELOAD and EXTEST the boundary. -/
inductive TapReg where
  | bypass
  | identification
  | boundary
  deriving DecidableEq, Repr

def TapInstr.reg : TapInstr → TapReg
  | .bypass => .bypass
  | .idcode => .identification
  | .sample => .boundary
  | .extest => .boundary

/-- No power is drawn through J1 or the pack may be: the hot-swap FET or pack isolation is closed (R62). -/
def State.tapLive (s : State) : Bool := s.bit .PWR_IN_STATUS_HS_ON || decide (s.get .BWR_STATUS_ISO = 2)

/-- TRST_N low keeps the port in Test-Logic-Reset, where each device holds IDCODE: R62 does not say which instruction that is; the
model's choice, by IEEE 1149.1 (log entry 55). -/
def State.tapReset (s : State) : State := { s with pins := { s.pins with tap := Vector.replicate 9 .idcode } }

/-- A device's boundary cells drive its pins: under EXTEST alone (R62). -/
def State.tapDrives (s : State) (k : Fin 9) : Bool := s.pins.trstN && s.pins.tap[k] == .extest

/-- TDO is driven only while a tester shifts, which no moment between two commands is (Tables 2-6, 3-5). -/
def State.tdoDriven (_s : State) : Bool := false

/-- Every device that holds EXTEST takes BYPASS in its place, with event 0x0201 (R62). -/
def State.tapIsolate (s : State) : State :=
  let n := (s.pins.tap.toList.filter (fun i => i == TapInstr.extest)).length
  let s : State := { s with pins := { s.pins with
    tap := s.pins.tap.map (fun i => if i == TapInstr.extest then TapInstr.bypass else i) } }
  (List.range n).foldl (fun s _ => s.raise 0x0201) s

/-- Bit maps over indices below `n`. -/
def mapBits (n : Nat) (f : Nat → Bool) : Nat := (List.range n).foldl (fun a i => if f i then a + 2 ^ i else a) 0

end Sys2Proof.Machine
end

