-- ==== Sys2Proof/Machine/Die.lean ====
section
/-! DEFINITION. Compute dies (chapter 4 and the shared parts of chapter 6): gang geometry, operation-table entries, scalar
registers and predicates, memory errors, stream faults, external accesses and the bookkeeping of enabled cycles. -/

namespace Sys2Proof.Machine

/-! ### Tiles and gangs (R85, R97) -/

def shapeH (sh : Nat) : Nat := if sh = 4 then 4 else if sh = 2 ∨ sh = 3 then 2 else 1
def shapeW (sh : Nat) : Nat := if sh = 4 ∨ sh = 3 then 4 else if sh = 1 ∨ sh = 2 then 2 else 1

/-- The tiles of a rectangle, row by row from its north-west tile. -/
def rectTiles (nw h w : Nat) : List Nat := (List.range h).flatMap (fun y => (List.range w).map (fun x => nw + 12 * y + x))

/-- The tiles on the west, north and south edge of a rectangle. -/
def westTiles (nw h : Nat) : List Nat := (List.range h).map (fun y => nw + 12 * y)
def northTiles (nw w : Nat) : List Nat := (List.range w).map (fun x => nw + x)
def southTiles (nw h w : Nat) : List Nat := (List.range w).map (fun x => nw + 12 * (h - 1) + x)

/-- The tiles on edge `port` (0 N, 1 E, 2 S, 3 W) of a rectangle, and the neighbour of a tile across that edge. -/
def edgeTiles (port nw h w : Nat) : List Nat :=
  match port with
  | 0 => northTiles nw w
  | 1 => (List.range h).map (fun y => nw + 12 * y + (w - 1))
  | 2 => southTiles nw h w
  | _ => westTiles nw h
def neighbour (port t : Nat) : Nat :=
  match port with
  | 0 => t - 12
  | 1 => t + 1
  | 2 => t + 12
  | _ => t - 1

def Gang.tiles (g : Gang) : List Nat := rectTiles g.nw (shapeH g.shape) (shapeW g.shape)

/-- The gangs of a die's committed map; none without an image. -/
def DieSt.gangs (d : DieSt) : List Gang := (d.image.map (·.gangs)).getD []
def DieSt.gang? (d : DieSt) (g : Nat) : Option Gang := d.gangs[g]?

/-- USE byte `i` of gang `g` (R180), 0 without an image. -/
def DieSt.use (d : DieSt) (g : Nat) : Nat × Nat := ((d.image.bind (fun i => i.use[g]?))).getD (0, 0)

/-- The identifier of the gang that holds a tile. -/
def DieSt.gangOfTile (d : DieSt) (t : Nat) : Option Nat :=
  (List.range d.gangs.length).find? (fun g => (d.gang? g).any (fun x => x.tiles.contains t))

/-- Are tile `t` and its neighbour across `port` linked by the route table (R180). -/
def DieSt.linked (d : DieSt) (port t : Nat) : Bool :=
  let link := fun t => nth ((d.image.map (·.links)).getD []) t
  match port with
  | 0 => bitAt (link (t - 12)) 1 && decide (12 ≤ t)
  | 1 => bitAt (link t) 0
  | 2 => bitAt (link t) 1
  | _ => bitAt (link (t - 1)) 0 && decide (1 ≤ t)

def DieSt.overflowMib (d : DieSt) : Nat := (d.image.map (·.overflowMib)).getD 0

/-- The last bundle of the stream (R163). -/
def DieSt.lastBundle (d : DieSt) : Nat := 258047 + 32768 * d.overflowMib

/-- Does gang `g` lie in a declared window of 256 stream cycles or more in which no other MAT operation of the gang is occupied
(R169). -/
def DieSt.inWindow (d : DieSt) (g : Nat) : Bool :=
  d.idleWin.any (fun w => w.1 == g && decide (256 ≤ w.2.2) && decide (d.cycle < w.2.1)) &&
    !d.taken.any (fun t => t.gang == g && decide (t.kind ≤ 3) && decide (d.cycle < t.until_))

/-! ### Stores of a die -/

def MiB : Nat := 1048576

/-- Where bundle `i` lies: the bundle store, then the overflow in the pool (R108, R151). -/
def bundleAddr (die : Nat) (overflow i : Nat) : Nat :=
  if i < 258048 then bstoreBase die + 131072 + 32 * i else poolBase die + (96 - overflow) * MiB + 32 * (i - 258048)

/-- Operation-table entry `desc`: eight words (R151, R152). -/
def State.opEntry (s : State) (die desc : Nat) : OpEntry :=
  (List.range 8).map (fun w => ofLe (s.bytes (bstoreBase die + 32 * desc + 4 * w) 4))

/-- The tile address fields of an entry, advanced for repeat `r` (R152): words 2 to 5 of a MAT entry, 2 of a VEC entry,
2 and 4 of an RTE entry. -/
def advEntry (cls : Nat) (e : OpEntry) (r : Nat) : OpEntry :=
  let step := r * (nth e 7 % 65536) * 64
  let ws := if cls = 1 then [2, 3, 4, 5] else if cls = 2 then [2] else [2, 4]
  (List.range 8).map (fun i => if ws.contains i then nth e i + step else nth e i)

/-! ### Formats of a matrix operation (Table 4-2, Table 5-3) -/

def eFmtA (e : OpEntry) : Nat := bits (nth e 0) 3 0
def eFmtB (e : OpEntry) : Nat := bits (nth e 0) 7 4
def eMode (e : OpEntry) : Bool := bitAt (nth e 0) 8
def eSparse (e : OpEntry) : Bool := bitAt (nth e 0) 9
def eMxA (e : OpEntry) : Bool := bitAt (nth e 0) 10
def eMxB (e : OpEntry) : Bool := bitAt (nth e 0) 11
def eWide (e : OpEntry) : Bool := bitAt (nth e 0) 12
def eChainE (e : OpEntry) : Bool := bitAt (nth e 0) 15
def eChainS (e : OpEntry) : Bool := bitAt (nth e 0) 16
def eCount (e : OpEntry) : Nat := nth e 1 % 65536
def eRowA (e : OpEntry) : Nat := nth e 6 % 65536
def eRowC (e : OpEntry) : Nat := nth e 6 / 65536 % 65536

/-- BUF on repeat `r` (Table 6-4). -/
def eBuf (e : OpEntry) (r : Nat) : Nat :=
  match bits (nth e 0) 14 13 with
  | 0 => 0
  | 1 => 1
  | 2 => r % 2
  | _ => (r + 1) % 2

/-- The width of the rate format: the wider operand (Table 5-3). -/
def eRate (e : OpEntry) : Nat := max (fmtBits (eFmtA e)) (fmtBits (eFmtB e))

/-- K_t, N_t and d of a rate width (Table 4-2, R98), and the side of a tile's OS block (R89). -/
def kTile (rb : Nat) : Nat := if rb < 8 then 128 else if rb = 32 then 16 else 64
def nTile (rb : Nat) : Nat := if rb ≤ 8 then 64 else if rb = 16 then 32 else 16
def dTile (rb : Nat) : Nat := if rb = 32 then 16 else 64

/-- Reduction steps in one row of a weight block or OS operand: two for 4-bit and 6-bit formats (R573). -/
def fold2 (rb : Nat) : Nat := if rb < 8 then 2 else 1

/-! ### Scalar registers, predicates, vector registers -/

def lookupPair (k : Nat × Nat) (l : List ((Nat × Nat) × α)) : Option α := (l.find? (fun e => e.1 == k)).map (·.2)
def putPair (k : Nat × Nat) (v : α) (l : List ((Nat × Nat) × α)) : List ((Nat × Nat) × α) :=
  (k, v) :: l.filter (fun e => !(e.1 == k))

def DieSt.sreg (d : DieSt) (lane r : Nat) : BitVec 64 := (lookupPair (lane, r) d.scalars).getD 0#64
def DieSt.setSreg (d : DieSt) (lane r : Nat) (v : BitVec 64) : DieSt :=
  { d with scalars := putPair (lane, r) v d.scalars }

/-- A predicate; P0 always reads 1 (R105). -/
def DieSt.pred (d : DieSt) (p : Nat) : Bool := p = 0 || bitAt d.preds p
/-- Write a predicate; a write to P0 is ignored (R105). -/
def DieSt.setPred (d : DieSt) (p : Nat) (v : Bool) : DieSt := if p = 0 then d else { d with preds := putBit d.preds p v }

/-- A vector register of a tile: as written, else undefined (Table 3-3). -/
def State.vreg (s : State) (d : Fin 8) (t r : Nat) : List (BitVec 32) :=
  (lookupPair (t, r) (s.die d).vregs).getD
    ((List.range 256).map (fun i => Config.freeLane d.val t r i s.rst.genCount[d]))
def DieSt.setVreg (d : DieSt) (t r : Nat) (v : List (BitVec 32)) : DieSt := { d with vregs := putPair (t, r) v d.vregs }

/-! ### Counters of a die (R113, R143, R173) -/

def State.cdcCount (s : State) (d : Fin 8) (f : Fld) (n : Nat) : State := s.count .CDC_CNT_CTRL_FREEZE f n d
def State.fmtCount (s : State) (d : Fin 8) (f : Fld) (n : Nat) : State := s.count .CDC_FMT_CNT_CTRL_FREEZE f n d
def State.strCount (s : State) (d : Fin 8) (f : Fld) (n : Nat) : State := s.count .CDC_STR_CNT_CTRL_FREEZE f n d

/-- Clear a group of counters of an instance (R113). -/
def State.clearCnt (s : State) (fs : List Fld) (inst : Nat) : State := fs.foldl (fun s f => s.set f 0 inst) s

/-! ### Stream state and faults -/

def State.streamState (s : State) (d : Fin 8) : Nat := s.get .CDC_STREAM_STATE_STATE d
def State.running (s : State) (d : Fin 8) : Bool := s.streamState d == 1
def State.setStream (s : State) (d : Fin 8) (st : Nat) : State :=
  ((s.set .CDC_STREAM_STATE_STATE st d).setBit .CDC_STREAM_STATE_STALLED false d).setBit .CDC_STREAM_STATE_FRAME_WAIT false d

/-- A stream fault: state faulted, `CDC_FAULT_SLOT`, and the level-3 event 0x0601 (R172). -/
def State.streamFault (s : State) (d : Fin 8) (code slot index : Nat) : State :=
  let s := s.setStream d 3
  let s := (s.set .CDC_FAULT_SLOT_CODE code d).set .CDC_FAULT_SLOT_SLOT slot d
  let s := (s.setBit .CDC_FAULT_SLOT_VALID true d).set .CDC_FAULT_SLOT_INDEX index d
  let s := s.modDie d (fun x => { x with inIssue := false, rep := 0, slotFrom := 0, fetchStall := 0, ended := false, ballast := [] })
  s.raise 0x0601 d (code + slot * 16 + 128 + index * 256)

/-- An error completion in `CDC_ERR_SLOT`: the first sets it, a later one sets MORE (R159, R230). -/
def State.errSlot (s : State) (d : Fin 8) (status tally kind : Nat) : State :=
  if s.bit .CDC_ERR_SLOT_VALID d then s.setBit .CDC_ERR_SLOT_MORE true d
  else
    let s := (s.set .CDC_ERR_SLOT_STATUS status d).set .CDC_ERR_SLOT_TALLY tally d
    (s.set .CDC_ERR_SLOT_KIND kind d).setBit .CDC_ERR_SLOT_VALID true d

/-- Which part of die `d` a byte of the store belongs to: its tile (or 96 for the die unit) and its offset; the bundle store
follows the pool in the die unit. -/
def dieLoc (d : Nat) (addr : Nat) : Option (Nat × Nat) :=
  let st := addr / 2 ^ 48
  let off := addr % 2 ^ 48
  if 0x1000 + d * 128 ≤ st ∧ st < 0x1000 + d * 128 + 96 then some (st - (0x1000 + d * 128), off)
  else if st = 0x2000 + d then some (96, off)
  else if st = 0x3000 + d then some (96, 96 * MiB + off)
  else none

/-- A word error met in tile SRAM, die pool or bundle store: counted, and the first uncorrectable location is held
(R230, Table 8-8). -/
def State.dieMemErr (s : State) (d : Fin 8) (e : WordErr) : State :=
  match dieLoc d e.addr with
  | none => s
  | some (t, off) =>
    if e.corrected then s.tally .CDC_MEM_ERR_CORR 1 d
    else
      let s := s.tally .CDC_MEM_ERR_UNCORR 1 d
      let s := if s.bit .CDC_MEM_ERR_TILE_VALID d then s
        else
          let s := (s.set .CDC_MEM_ERR_LOC_OFFSET off d).setBit .CDC_MEM_ERR_LOC_WHERE (t = 96) d
          (s.set .CDC_MEM_ERR_TILE_TILE (if t = 96 then 0 else t) d).setBit .CDC_MEM_ERR_TILE_VALID true d
      s.raise 0x0808 d

/-- Word errors on accesses of the die's own stream: also `CDC_ERR_SLOT` with KIND 3 and STATUS 0x15 (R230). -/
def State.streamErrs (s : State) (d : Fin 8) (errs : List WordErr) : State :=
  errs.foldl (fun s e => match dieLoc d e.addr with
    | none => s
    | some _ =>
      let s := s.dieMemErr d e
      if e.corrected then s else s.errSlot d 0x15 0 3) s

/-- A completion on a tally: counted, with its error recorded; one past 65,535 faults the stream (R158, R159). -/
def State.completeTally (s : State) (d : Fin 8) (tally status kind : Nat) : State :=
  let err := 2 ≤ status
  let i : Fin 16 := Fin.ofNat 16 tally
  let full := (s.die d).tallies[i] ≥ 65535
  let s := s.modDie d (fun x =>
    { x with
      tallies := if full then x.tallies else x.tallies.set i (x.tallies[i] + 1)
      tallyErr := if err && !full then x.tallyErr ++ [(tally, x.tallies[i])] else x.tallyErr })
  let s := if err then s.errSlot d status tally kind else s
  if full then s.streamFault d 8 7 (s.get .CDC_PC_INDEX d) else s

/-! ### External accesses (R94) and LDT results (R156) -/

/-- The bank of a tile address, as a resource number (R92). -/
def bankId (tile addr : Nat) : Nat := tile * 16 + addr / 64 % 16
/-- Route port leaving a tile, and die pool quadrant, as resource numbers (R96, R107). -/
def portId (tile port : Nat) : Nat := 2048 + tile * 4 + port
def quadId (addr : Nat) : Nat := 4096 + addr / (24 * MiB)

/-- The banks of a row: consecutive lines (R573). -/
def rowBanks (tile addr bytes : Nat) : List Nat :=
  (List.range ((bytes + 63) / 64)).map (fun j => bankId tile (addr + 64 * j))

/-- Write results of served LDTs whose time has come, one enabled cycle later (R156). -/
def DieSt.ldtTick (d : DieSt) : DieSt :=
  let ls : List LdtDone := d.ldts.map (fun l => LdtDone.mk l.lane l.rd l.value (l.left - 1))
  let done := ls.filter (fun l => l.left == 0)
  let d : DieSt := done.foldl (fun d l => d.setSreg l.lane l.rd (BitVec.ofNat 64 l.value)) d
  { d with ldts := ls.filter (fun l => l.left != 0) }

/-- The port that an external access waits for: its bank, or its quadrant of the die pool (R94, R107). -/
def ExtAcc.port (e : ExtAcc) : Nat := if e.tile < 96 then bankId e.tile e.addr else quadId e.addr

/-- Serve external accesses with the banks and quadrants `used` taken: those served, those that wait on, and the ports that were
taken by force after 256 waited enabled cycles. -/
def serveExt : (used : List Nat) → List ExtAcc → List ExtAcc × List ExtAcc × List Nat
  | _, [] => ([], [], [])
  | used, e :: es =>
    let b := e.port
    let (sv, kp, fc) := serveExt (b :: used) es
    if !used.contains b then (e :: sv, kp, fc)
    else if 256 ≤ e.waited then (e :: sv, kp, b :: fc)
    else (sv, { e with waited := e.waited + 1 } :: kp, fc)

/-- The effect of a served access: an STT stores, an LDT reads its 8 bytes, to be written 4 enabled cycles later; a line of a tug's
request is accepted, and the tug's data moves with the request. -/
def State.serve (s : State) (d : Fin 8) (e : ExtAcc) : State :=
  let a := tileBase d e.tile + e.addr
  match e.work with
  | .stt v => s.setBytes a (toLe v 8)
  | .ldt lane rd => s.modDie d (fun x => { x with ldts := x.ldts ++ [⟨lane, rd, ofLe (s.bytes a 8), 4⟩] })
  | .tug r k wr => s.modDie d (fun x => { x with extDone := x.extDone ++ [(r, k, wr)] })

/-- One enabled cycle of the external accesses; gives the ports taken by force. -/
def State.extTick (s : State) (d : Fin 8) (used : List Nat) : State × List Nat :=
  let s := s.modDie d DieSt.ldtTick
  let (sv, kp, fc) := serveExt used (s.die d).ext
  let s := s.modDie d (fun x => { x with ext := kp })
  (sv.foldl (fun s e => s.serve d e) s, fc)

/-- Accesses taken by force are counted: each once in `CDC_EXT_WAIT`, the stall cycles that they cost in `CDC_CONFLICT_STALL`
(R94). -/
def State.forcedCount (s : State) (d : Fin 8) (forced n : Nat) : State :=
  let s := if forced = 0 then s else s.cdcCount d .CDC_EXT_WAIT_COUNT forced
  if n = 0 then s else s.cdcCount d .CDC_CONFLICT_STALL_COUNT n

/-- An enabled cycle in which the die is stalled: only external accesses and LDT results progress, in the ports that no laid-down
access still uses (R94, R146). -/
def State.stallCycle (s : State) (d : Fin 8) (used : List Nat) : State × Nat :=
  let (s, forced) := s.extTick d used
  let n := forced.foldl (fun n p => max n (forced.count p)) 0
  let s := s.forcedCount d forced.length n
  let s := if s.running d then s.strCount d .CDC_ENABLED_COUNT 1 else s
  ((allFin 96).foldl (fun s t => if (s.die d).ballast.any (fun g => ((s.die d).gang? g).any (fun x => x.tiles.contains t.val))
    then s.cdcCount d .CDC_BALLAST_BUSY_COUNT 1 else s) s, n)

/-- `n` stalled enabled cycles and those that accesses taken by force add to them, at most `fuel` in all: `acc` are the laid-down
accesses of the cycle that stalls, of which a port has served `j` (R93). -/
def State.stallCycles (d : Fin 8) (acc : List Nat) : (fuel n j : Nat) → State → State
  | 0, _, _, s => s
  | fuel + 1, n, j, s =>
    if n = 0 then s
    else
      let (s, more) := s.stallCycle d (acc.filter (fun p => decide (j < acc.count p)))
      State.stallCycles d acc fuel (n - 1 + more) (if more = 0 then j + 1 else j) s

/-- One stalled enabled cycle of a waiting bundle, and those that it costs. -/
def State.stallOnce (s : State) (d : Fin 8) : State := State.stallCycles d [] ((s.die d).ext.length + 1) 1 0 s

/-- EXT_ACCESS_FORCED: the oldest external access of a die that has waited 256 enabled cycles takes its port; the die stalls
one cycle, counted in `CDC_CONFLICT_STALL` and `CDC_EXT_WAIT` (R94). `errs` are the word errors that it meets (R230). -/
def execExtAccessForced (d : Fin 8) (errs : List WordErr) (s : State) : Host.Outcome State Fault Refusal :=
  .next <|
    match (s.die d).ext with
    | [] => s
    | e :: es =>
      let s := s.modDie d (fun x => { x with ext := es })
      let s := (s.serve d e).streamErrs d errs
      let s := (s.cdcCount d .CDC_CONFLICT_STALL_COUNT 1).cdcCount d .CDC_EXT_WAIT_COUNT 1
      if s.running d then s.strCount d .CDC_ENABLED_COUNT 1 else s

/-- Is an external access an LDT's. -/
def ExtAcc.isLdt (e : ExtAcc) : Bool :=
  match e.work with
  | .ldt _ _ => true
  | _ => false

/-- LDT_RESULT: the oldest LDT of a die writes its register; one whose access still waits is served first (R156). `errs` are the word
errors of its read (R230). -/
def execLdtResult (d : Fin 8) (errs : List WordErr) (s : State) : Host.Outcome State Fault Refusal :=
  .next <|
    let s := s.streamErrs d errs
    let s := match (s.die d).ldts, (s.die d).ext.find? ExtAcc.isLdt with
      | [], some e => (s.modDie d (fun x => { x with ext := x.ext.erase e })).serve d e
      | _, _ => s
    match (s.die d).ldts with
    | [] => s
    | l :: ls => s.modDie d (fun x => { x.setSreg l.lane l.rd (BitVec.ofNat 64 l.value) with ldts := ls })

/-! ### Sensors and counters (R109 to R113) -/

/-- A sensor site of a die is at or above 100 °C, or below it, as its sensor tells (R472). -/
def State.siteTemp (s : State) (d : Fin 8) (k : Nat) (raw : BitVec 16) : State :=
  if raw = 0x8000#16 then s
  else { s with cap := { s.cap with sitesHot := s.cap.sitesHot.set d (putBit s.cap.sitesHot[d] k (decide (800 ≤ raw.toInt))) } }

/-- HOTSPOT_READING: a sensor's reading; 0x8000 while the die is in reset or its VC rail is out of regulation (R109). A
reading outside −40 °C to 150 °C marks the sensor failed and raises 0x0401 (R110). -/
def execHotspotReading (d : Fin 8) (k : Fin 24) (raw : BitVec 16) (s : State) : Host.Outcome State Fault Refusal :=
  .next <|
    let s := s.siteTemp d k raw
    if s.inReset (8 + d.val) then s
    else if !s.bit .PWR_RAIL_STATUS_IN_REG (2 + d.val) then s.set .CDC_TEMP_TEMP 0x8000 d k
    else
      let t := raw.toInt
      let bad := raw ≠ 0x8000#16 ∧ (t < -320 ∨ 1200 < t)
      let s := s.set .CDC_TEMP_TEMP raw.toNat d k
      if bad ∧ !s.bit .CDC_TEMP_FAILED d k then
        let s := (s.setBit .CDC_TEMP_FAILED true d k).setBit .CDC_STATUS_SENSOR_FAIL true d
        s.raise 0x0401 d k
      else s

/-- Is sensor `k` valid: not failed and holding a temperature (R110). -/
def State.sensorValid (s : State) (d : Fin 8) (k : Nat) : Bool :=
  !s.bit .CDC_TEMP_FAILED d k && s.get .CDC_TEMP_TEMP d k != 0x8000

/-- `CDC_TEMP_MAX`: the highest reading of the valid sensors and its index, 0x8000 without one (R110). Of two valid sensors with the
same highest reading the spec does not say which index shows; the model's choice is the lower (log entry 58). -/
def State.tempMax (s : State) (d : Fin 8) : Nat × Nat :=
  (List.range 24).foldl (fun a k =>
    if s.sensorValid d k && (a.1 == 0x8000 || decide (dec 16 a.1 < dec 16 (s.get .CDC_TEMP_TEMP d k)))
    then (s.get .CDC_TEMP_TEMP d k, k) else a) (0x8000, 0)

/-- The sentinels may measure now (R111): clock good, VC rail in regulation, out of reset, and every gang in a declared
IDLE window or the stream stopped or parked. -/
def State.mayMeasure (s : State) (d : Fin 8) : Bool :=
  let x := s.die d
  !s.inReset (8 + d.val) && s.clkGood (8 + d.val) && s.bit .PWR_RAIL_STATUS_IN_REG (2 + d.val) &&
    (s.streamState d == 0 || s.streamState d == 2 ||
      (List.range x.gangs.length).all (fun g => x.idleWin.any (fun w => w.1 == g && decide (x.cycle < w.2.1))))

def cdcCntFlds : List Fld :=
  [.CDC_MATRIX_BUSY_COUNT, .CDC_BALLAST_BUSY_COUNT, .CDC_VECTOR_BUSY_COUNT, .CDC_CONFLICT_STALL_COUNT, .CDC_EXT_WAIT_COUNT]
def cdcFmtCntFlds : List Fld :=
  [.CDC_CONV_SAT_COUNT, .CDC_CONV_NAN_COUNT, .CDC_MX_SPLIT_COUNT, .CDC_WIDE_SPILL_COUNT, .CDC_ACC_SPECIAL_COUNT,
   .CDC_DEMOTE_STEPS_COUNT]
def cdcStrCntFlds : List Fld :=
  [.CDC_ENABLED_COUNT, .CDC_STALL_MEM_COUNT, .CDC_STALL_COLL_COUNT, .CDC_STALL_FETCH_COUNT, .CDC_STALL_BUSY_COUNT,
   .CDC_STALL_EVQ_COUNT, .CDC_FRAME_WAIT_COUNT, .CDC_FRAME_ABANDON_COUNT, .CDC_HINT_DROP_COUNT, .CDC_SYNCPT_COUNT_COUNT,
   .CDC_INFLIGHT_PEAK]

end Sys2Proof.Machine
end

