-- ==== Sys2Proof/Machine/Matrix.lean ====
section
/-! DEFINITION. The matrix engine (R87 to R90, R98, R99, R102, R103, R122 to R130, R140, R151 to R154, R573): chained arrays,
legality, occupancy, the rows that a MAT operation reads and writes in each stream cycle, and its results. -/

namespace Sys2Proof.Machine

/-! ### Arrays (R98, R99) -/

/-- The gang directly east of `g` with equal height, and directly south with equal width (R180). -/
def DieSt.eastGang (d : DieSt) (g : Gang) : Option Nat :=
  if g.nw % 12 + shapeW g.shape < 12 then
    (List.range d.gangs.length).find? (fun i => (d.gang? i).any (fun x =>
      x.nw == g.nw + shapeW g.shape && shapeH x.shape == shapeH g.shape))
  else none
def DieSt.southGang (d : DieSt) (g : Gang) : Option Nat :=
  (List.range d.gangs.length).find? (fun i => (d.gang? i).any (fun x =>
    x.nw == g.nw + 12 * shapeH g.shape && shapeW x.shape == shapeW g.shape))

/-- Tiles added and crossings made by a chain that leaves gang `g` through its east (`e`) or south edge: it runs on while the
receiving gang declares the same chain use. -/
def DieSt.chainFrom (d : DieSt) (e : Bool) : (fuel g : Nat) → Nat × Nat
  | 0, _ => (0, 0)
  | n + 1, g =>
    if bitAt (d.use g).1 (if e then 4 else 5) then
      match (d.gang? g).bind (fun x => if e then d.eastGang x else d.southGang x) with
      | some g2 =>
        let r := DieSt.chainFrom d e n g2
        (((d.gang? g2).map (fun x => if e then shapeW x.shape else shapeH x.shape)).getD 0 + r.1, r.2 + 1)
      | none => (0, 0)
    else (0, 0)

/-- The whole array of an operation: north-west tile, height, width, crossings. -/
def DieSt.array (d : DieSt) (g : Nat) (e : OpEntry) : Nat × Nat × Nat × Nat :=
  let x := (d.gang? g).getD { nw := 0, shape := 0 }
  let ce := if eChainE e then d.chainFrom true 12 g else (0, 0)
  let cs := if eChainS e then d.chainFrom false 8 g else (0, 0)
  (x.nw, shapeH x.shape + cs.1, shapeW x.shape + ce.1, ce.2 + cs.2)

/-- The gangs of an array. -/
def DieSt.gangsIn (d : DieSt) (nw h w : Nat) : List Nat :=
  (List.range d.gangs.length).filter (fun i => (d.gang? i).any (fun x => (rectTiles nw h w).contains x.nw))

/-- L of an array (R98, R99). -/
def latOf (rb h w c : Nat) : Nat := dTile rb * (h + w) + 8 + 4 * c

/-! ### Row sizes (Table 6-13) -/

def wRowBytes (e : OpEntry) : Nat := fold2 (eRate e) * nTile (eRate e) * fmtBits (eFmtB e) / 8
def metaLines (e : OpEntry) : Nat := if eRate e < 8 then 32 else 16
def actBytes (e : OpEntry) : Nat := (if eSparse e then 2 else 1) * kTile (eRate e) * fmtBits (eFmtA e) / 8
def outBytes (e : OpEntry) : Nat := nTile (eRate e) * 4
def osSide (e : OpEntry) : Nat := dTile (eRate e)
def osRowBytes (e : OpEntry) (w : Nat) : Nat := fold2 (eRate e) * osSide e * w / 8
def osRows (e : OpEntry) : Nat := (eCount e + (fold2 (eRate e) - 1)) / fold2 (eRate e)

/-- Matrix-input occupancy of an accumulate (Table 6-5). -/
def osOcc (e : OpEntry) : Nat := if eRate e = 16 then 2 * eCount e else osRows e

/-! ### Legality (R122, R152, R155, R181, Table 6-11) -/

/-- Rows at an address: aligned, with an aligned stride, inside tile SRAM. -/
def rowsOk (addr stride n bytes : Nat) : Bool :=
  addr % 64 == 0 && (n == 0 || (stride % 64 == 0 && decide (addr + (n - 1) * stride + (bytes + 63) / 64 * 64 ≤ 2 ^ 21)))

/-- The least nonzero code of a list, 0 without one (R172). -/
def leastCode (cs : List Nat) : Nat := cs.foldl (fun a c => if c = 0 then a else if a = 0 then c else min a c) 0

/-- Reserved bits of an entry's words (Table 6-4). -/
def resvBits (cls : Nat) (e : OpEntry) : Bool :=
  let hi := fun (w k : Nat) => nth e w / 2 ^ k != 0
  match cls with
  | 1 => hi 0 17 || hi 1 16 || hi 2 21 || hi 3 21 || hi 4 21 || hi 5 21 || hi 7 16
  | 2 => hi 0 31 || hi 1 16 || hi 2 21 || bits (nth e 3) 23 21 != 0 || hi 3 28 || hi 5 16 || hi 7 16
  | _ => hi 0 2 || hi 1 16 || hi 2 21 || hi 3 0 || hi 4 21 || hi 5 0 || hi 7 16

/-- The operand checks of a MAT operation: `raw` is the entry as stored, `e` with addresses advanced, `rep` the repeat. -/
def DieSt.matCode (d : DieSt) (op g rep : Nat) (raw e : OpEntry) : Nat :=
  let kind := pairKind (eFmtA e) (eFmtB e)
  -- wide mode: the first three kinds (Table 5-3)
  let isOs := 3 ≤ op ∧ op ≤ 5
  let k := kind.getD 0
  let gangBad := (d.gang? g).isNone
  if op = 0xE then (if gangBad then 5 else 0)
  else
    let fmtBad := kind.isNone || (eMxA e && !mxOk k (eFmtA e)) || (eMxB e && !mxOk k (eFmtB e)) || (eWide e && decide (3 ≤ k)) ||
      (eSparse e && (decide isOs || decide (3 ≤ k)))
    let use := d.use g
    -- CHAIN_FMT and the chain mode of a gang without chain use are not interpreted (R180)
    let chain := (eChainE e || eChainS e) && (bitAt use.1 4 || bitAt use.1 5)
    let chainFmt := chain && (bits use.2 3 0 != eFmtA e || bitAt use.2 4 != eMode e)
    let chainUse := (eChainE e && !bitAt use.1 4) || (eChainS e && !bitAt use.1 5)
    let M := eCount e
    let addrBad := match op with
      | 0 => !rowsOk (nth e 2) (eRowA e) (dTile (eRate e)) (wRowBytes e) ||
             (eSparse e && !rowsOk (nth e 3) 64 (metaLines e) 64)
      | 1 => !rowsOk (nth e 2) (eRowA e) M (actBytes e) || !rowsOk (nth e 4) (eRowC e) M (outBytes e)
      | 2 => !rowsOk (nth e 2) (eRowA e) M (actBytes e) || !rowsOk (nth e 4) (eRowC e) M (outBytes e) ||
             !rowsOk (nth e 3) (eRowC e) M (outBytes e)
      | 5 => !rowsOk (nth e 4) (eRowC e) (osSide e) (osSide e * 4)
      | _ => !rowsOk (nth e 2) (eRowA e) (osRows e) (osRowBytes e (fmtBits (eFmtA e))) ||
             !rowsOk (nth e 3) (eRowA e) (osRows e) (osRowBytes e (fmtBits (eFmtB e)))
    let scaleBad := (eMxA e || eMxB e) && (nth e 5 % 64 != 0 || decide (2 ^ 21 ≤ nth e 5))
    let countBad := (op == 1 || op == 2) && M == 0
    let wideBad := eWide e && decide isOs && eBuf raw rep == 1
    leastCode [if fmtBad || chainFmt then 3 else 0, if gangBad || chainUse then 5 else 0, if addrBad || scaleBad then 6 else 0,
      if resvBits 1 raw || countBad || wideBad then 0xB else 0]

/-! ### Occupancy (Table 6-5) -/

/-- Resources that a MAT operation takes: gang, kind, index, stream cycles. -/
def DieSt.matTakes (d : DieSt) (op g buf : Nat) (e : OpEntry) : List (Nat × Nat × Nat × Nat) :=
  let (nw, h, w, c) := d.array g e
  let gs := d.gangsIn nw h w
  let dd := dTile (eRate e)
  let L := latOf (eRate e) h w c
  match op with
  | 0 => gs.flatMap (fun g => [(g, 1, buf, dd), (g, 2, 0, dd)])
  | 1 | 2 => gs.flatMap (fun g => [(g, 0, 0, eCount e), (g, 1, buf, eCount e + L - 8)])
  | 3 | 4 => gs.flatMap (fun g => [(g, 0, 0, osOcc e), (g, 3, buf, osOcc e + L)])
  | 5 => gs.map (fun g => (g, 3, buf, dd))
  | _ => []

/-- Take resources from the present stream cycle on. -/
def DieSt.take (d : DieSt) (l : List (Nat × Nat × Nat × Nat)) : DieSt :=
  { d with taken := d.taken ++ l.map (fun r => ⟨r.1, r.2.1, r.2.2.1, d.cycle + r.2.2.2⟩) }

/-- Is one of the resources of a list still occupied (R153). -/
def DieSt.busy (d : DieSt) (l : List (Nat × Nat × Nat × Nat)) : Bool :=
  l.any (fun r => d.taken.any (fun t => t.gang == r.1 && t.kind == r.2.1 && t.idx == r.2.2.1 && decide (d.cycle < t.until_)))

/-! ### Operand data -/

/-- Element `i` of width `w` in packed bytes (R117). -/
def elemAt (w : Nat) (bs : List Nat) (i : Nat) : Nat := leAt bs (i * w / 8) 5 / 2 ^ (i * w % 8) % 2 ^ w

/-- Elements of width `w` packed into bytes (R117). -/
def packElems (w : Nat) (vs : List Nat) : List Nat :=
  toLe (vs.foldr (fun v acc => v % 2 ^ w + 2 ^ w * acc) 0) ((vs.length * w + 7) / 8)

/-- A row captured by a flight, empty if it read none. -/
def Flight.row (f : Flight) (m t : Nat) : List Nat := (lookupPair (m, t) f.rows).getD []

/-- An MX scale byte in a tile (R120; the layout is `Config.mxScaleAddr`). -/
def State.mxScale (s : State) (d : Fin 8) (t addrS opnd row blk : Nat) : Nat :=
  (s.byte (tileBase d t + Config.mxScaleAddr addrS opnd row blk % 2 ^ 21)).toNat

/-- Row `i` of a weight buffer: as loaded, else undefined (Table 3-3). -/
def State.wRow (s : State) (d : Fin 8) (t buf i n : Nat) : List Nat :=
  match lookupPair (t, buf) (s.die d).wbufs with
  | some w => (w.rows[i]?).getD []
  | none => (List.range n).map (fun j => Config.freeWeight d.val t buf (i * n + j) s.rst.genCount[d] % 256)
/-- Metadata byte `i` of a weight buffer (R102). -/
def State.wMeta (s : State) (d : Fin 8) (t buf i : Nat) : Nat :=
  match lookupPair (t, buf) (s.die d).wbufs with
  | some w => nth w.meta_ i
  | none => Config.freeWeight d.val t buf (100000 + i) s.rst.genCount[d] % 256
/-- Scale byte of output `n`, block `blk` of a weight buffer (R120). A WPASS with MX_B on a buffer that was loaded without it: the spec
gives no scale; the model's choice is scale byte 0 for every block (log entry 58). -/
def State.wScale (s : State) (d : Fin 8) (t buf n blk : Nat) : Nat :=
  match lookupPair (t, buf) (s.die d).wbufs with
  | some w => nth ((w.scales[n]?).getD []) blk
  | none => Config.freeWeight d.val t buf (200000 + n * 8 + blk) s.rst.genCount[d] % 256

/-- One product of an operand pair (R119, R122, R124, R127). -/
def mulElem (level : Nat) (flush : Bool) (e : OpEntry) (a b sa sb : Nat) : FV :=
  if eFmtA e = 10 then lgProduct a b
  else (elemVal level flush (eMxA e) (eFmtA e) a sa).mul (elemVal level flush (eMxB e) (eFmtB e) b sb)

/-- How a pair's products are summed. -/
def sumKind (e : OpEntry) : SumKind :=
  match pairKind (eFmtA e) (eFmtB e) with
  | some 3 => .trunc
  | some 4 => .fma
  | _ => .exact

/-- The combined scale exponent of a half, from the scale codes of its first element (R125). Under 2:4 sparsity a half's kept products
lie in two scale blocks, and the spec gives no one scale for it; the model's choice is that of its first element (log entry 58). -/
def halfScale (e : OpEntry) (sa sb : Nat) : Int :=
  (if eMxA e then (sa : Int) - 127 else 0) + (if eMxB e then (sb : Int) - 127 else 0)

/-- Add one group of products whose scales at its two halves are given; a group without a second half has none to align. -/
def AccSt.addGroup (a : AccSt) (wide : Bool) (e : OpEntry) (ps : List FV) (h0 h1 : Int) : AccSt :=
  a.group wide (sumKind e) ps (if (eMxA e || eMxB e) && decide (32 < ps.length) then some (h0, h1) else none)

/-- The demotion level and the BF16 flush of the gang that holds tile `t` of an array (R139, R140). -/
def Flight.modeAt (f : Flight) (t : Nat) : Nat × Bool := ((f.modes.find? (fun m => m.1.contains t)).map (·.2)).getD (0, false)

/-- Where step `k` of output, row or column `n` lies in its row of a weight block or OS operand. Table 6-13 orders a weight row of two
steps by output, the earlier step first; that an OS operand's row is laid out alike is DEDUCED (log entry 59). -/
def rowElem (rb k n : Nat) : Nat := n * fold2 rb + k % fold2 rb

def AccSt.start (v : FV) (terms : Nat) : AccSt := ⟨v, terms, 0, 0, 0⟩

/-! ### Weight-stationary results (R88, R102, R103, R123) -/

/-- Bit positions of kept value `i` of output `n`: its reduction element within the tile (R102). -/
def State.keptPos (s : State) (d : Fin 8) (f : Flight) (t n i : Nat) : Nat :=
  let g := i / 2
  let b := s.wMeta d t f.buf (n * (metaLines f.entry) + g / 2)
  let nib := if g % 2 = 0 then b % 16 else b / 16
  4 * g + (if i % 2 = 0 then nib % 4 else nib / 4)

/-- The accumulator of output `n` of column `x`, activation row `m`: every tile of the column from north to south. -/
def State.wsDot (s : State) (d : Fin 8) (f : Flight) (m x n : Nat) (a0 : FV) : AccSt :=
  let e := f.entry
  let rb := eRate e
  let ab := actBytes e
  (List.range f.h).foldl (fun a y =>
    let west := f.nw + 12 * y
    let t := west + x
    let (level, flush) := f.modeAt t
    let wide := eWide e && level == 0
    let act := f.row m west
    (List.range ((kTile rb + 63) / 64)).foldl (fun a g =>
      let ks := (List.range (min 64 (kTile rb))).map (fun k => 64 * g + k)
      let pos := fun k => if eSparse e then s.keptPos d f t n k else k
      let blkB := fun k => if eSparse e then 2 * k / 32 else k / 32
      let sa := fun k => nth act (ab + pos k / 32)
      let sb := fun k => s.wScale d t f.buf n (blkB k)
      let ps := ks.map (fun k =>
        mulElem level flush e (elemAt (fmtBits (eFmtA e)) act (pos k))
          (elemAt (fmtBits (eFmtB e)) (s.wRow d t f.buf (k / fold2 rb) (wRowBytes e)) (rowElem rb k n)) (sa k) (sb k))
      a.addGroup wide e ps (halfScale e (sa (64 * g)) (sb (64 * g))) (halfScale e (sa (64 * g + 32)) (sb (64 * g + 32)))) a)
    (AccSt.start a0 0)

/-- Count what an accumulation reports (R125, R128, R130). -/
def State.accCounts (s : State) (d : Fin 8) (as : List AccSt) : State :=
  let sum := fun (g : AccSt → Nat) => as.foldl (fun n a => n + g a) 0
  let s := if sum (·.split) = 0 then s else s.fmtCount d .CDC_MX_SPLIT_COUNT (sum (·.split))
  let s := if sum (·.spill) = 0 then s else s.fmtCount d .CDC_WIDE_SPILL_COUNT (sum (·.spill))
  if sum (·.special) = 0 then s else s.fmtCount d .CDC_ACC_SPECIAL_COUNT (sum (·.special))

/-- Output row `m` leaves the south edge: each south tile writes N_t FP32 results (R154). -/
def State.wsOut (s : State) (d : Fin 8) (f : Flight) (m : Nat) : State :=
  let e := f.entry
  (List.range f.w).foldl (fun s' x =>
    let t := f.nw + 12 * (f.h - 1) + x
    let part := f.row (131072 + m) t
    let as := (List.range (nTile (eRate e))).map (fun n =>
      let a := s.wsDot d f m x n (if f.op = 2 then ofF32 (BitVec.ofNat 32 (leAt part (4 * n) 4)) else .zero)
      a.take false a.acc)
    let s' := s'.setBytes (tileBase d t + nth e 4 + m * eRowC e) (as.flatMap (fun a => toLe (toF32 a.acc).toNat 4))
    s'.accCounts d as) s

/-! ### Output-stationary results (R89, R123) -/

/-- The FP32 or wide accumulators of a tile's set, row by row: as accumulated, else undefined (Table 3-3). -/
def State.accOf (s : State) (d : Fin 8) (t set n : Nat) : List FV :=
  (lookupPair (t, set) (s.die d).accs).getD
    ((List.range n).map (fun i => ofF32 (Config.freeAcc d.val t set i s.rst.genCount[d])))

/-- The accumulator of row `r`, column `c` of tile (y, x) after an accumulate. A K that is not a multiple of 32 breaks R120's rule for
MX operands, and the spec gives no outcome; the model's choice is that the last block is partial (log entry 58). -/
def Flight.osDot (f : Flight) (y x r c : Nat) (a0 : FV) (terms : Nat) : AccSt :=
  let e := f.entry
  let rb := eRate e
  let K := eCount e
  let wt := f.nw + 12 * y
  let nt := f.nw + x
  let (level, flush) := f.modeAt (wt + x)
  let wide := eWide e && level == 0
  let nblk := (K + 31) / 32
  let sa := fun k => nth (f.row 131072 wt) (r * nblk + k / 32)
  let sb := fun k => nth (f.row 131072 (128 + nt)) (c * nblk + k / 32)
  (List.range ((K + 63) / 64)).foldl (fun a g =>
    let ks := (List.range (min 64 (K - 64 * g))).map (fun k => 64 * g + k)
    let ps := ks.map (fun k =>
      mulElem level flush e
        (elemAt (fmtBits (eFmtA e)) (f.row (k / fold2 rb) wt) (rowElem rb k r))
        (elemAt (fmtBits (eFmtB e)) (f.row (k / fold2 rb) (128 + nt)) (rowElem rb k c)) (sa k) (sb k))
    a.addGroup wide e ps (halfScale e (sa (64 * g)) (sb (64 * g))) (halfScale e (sa (64 * g + 32)) (sb (64 * g + 32))))
    (AccSt.start a0 terms)

/-- An accumulate ends: every tile's set takes its new value. -/
def State.osEnd (s : State) (d : Fin 8) (f : Flight) : State :=
  let side := osSide f.entry
  (List.range f.h).foldl (fun s y => (List.range f.w).foldl (fun s x =>
    let t := f.nw + 12 * y + x
    let old := s.accOf d t f.buf (side * side)
    let terms := if f.op = 4 then (lookupPair (t, f.buf) (s.die d).accTerms).getD 0 else 0
    let as := (List.range (side * side)).map (fun i =>
      f.osDot y x (i / side) (i % side) (if f.op = 4 then (old[i]?).getD .zero else .zero) terms)
    let s := s.modDie d (fun z =>
      { z with
        accs := putPair (t, f.buf) (as.map (·.acc)) z.accs
        accTerms := putPair (t, f.buf) ((as.head?.map (·.terms)).getD 0) z.accTerms })
    s.accCounts d as) s) s

/-- Row `r` of a drain lands in every tile, each accumulator rounded to FP32 (R89, R128, R129). -/
def State.drainRow (s : State) (d : Fin 8) (f : Flight) (r : Nat) : State :=
  let side := osSide f.entry
  (rectTiles f.nw f.h f.w).foldl (fun s t =>
    let row := ((s.accOf d t f.buf (side * side)).drop (r * side)).take side
    let as := row.map (fun v => (AccSt.start v 0).take false v)
    (s.setBytes (tileBase d t + nth f.entry 4 + r * eRowC f.entry) (as.flatMap (fun a => toLe (toF32 a.acc).toNat 4))).accCounts d as) s

/-! ### What a MAT flight does in cycle `i` after its issue (Table 6-13) -/

/-- L of a flight. -/
def Flight.lat (f : Flight) : Nat := latOf (eRate f.entry) f.h f.w f.cross

/-- The output row that leaves in cycle `i`, and the partial-sum row read in it. -/
def Flight.outRow (f : Flight) (i : Nat) : Option Nat :=
  if f.lat ≤ i ∧ i - f.lat < eCount f.entry then some (i - f.lat) else none
def Flight.partRow (f : Flight) (i : Nat) : Option Nat :=
  if f.op = 2 ∧ f.lat ≤ i + 2 ∧ i + 2 - f.lat < eCount f.entry then some (i + 2 - f.lat) else none

/-- The OS operand row that enters in cycle `i`. -/
def Flight.osRow (f : Flight) (i : Nat) : Option Nat :=
  if eRate f.entry = 16 then (if i % 2 = 0 ∧ i / 2 < eCount f.entry then some (i / 2) else none)
  else if i < osRows f.entry then some i else none

/-- Rows read in cycle `i`: tile, address, bytes, and the key to keep them under. -/
def Flight.matReads (f : Flight) (i : Nat) : List ((Nat × Nat) × Nat × Nat × Nat) :=
  let e := f.entry
  let all := rectTiles f.nw f.h f.w
  match f.op with
  | 0 =>
    (if i < dTile (eRate e) then all.map (fun t => ((i, t), t, nth e 2 + i * eRowA e, wRowBytes e)) else []) ++
    (if eSparse e ∧ i < metaLines e then all.map (fun t => ((131072 + i, t), t, nth e 3 + 64 * i, 64)) else [])
  | 1 | 2 =>
    (if i < eCount e then (westTiles f.nw f.h).map (fun t => ((i, t), t, nth e 2 + i * eRowA e, actBytes e)) else []) ++
    (match f.partRow i with
      | some m => (southTiles f.nw f.h f.w).map (fun t => ((131072 + m, t), t, nth e 3 + m * eRowC e, outBytes e))
      | none => [])
  | 3 | 4 =>
    match f.osRow i with
    | some k =>
      (westTiles f.nw f.h).map (fun t => ((k, t), t, nth e 2 + k * eRowA e, osRowBytes e (fmtBits (eFmtA e)))) ++
      (northTiles f.nw f.w).map (fun t => ((k, 128 + t), t, nth e 3 + k * eRowA e, osRowBytes e (fmtBits (eFmtB e))))
    | none => []
  | _ => []

/-- Rows written in cycle `i`: tile, address, bytes. -/
def Flight.matWrites (f : Flight) (i : Nat) : List (Nat × Nat × Nat) :=
  let e := f.entry
  match f.op with
  | 1 | 2 => match f.outRow i with
    | some m => (southTiles f.nw f.h f.w).map (fun t => (t, nth e 4 + m * eRowC e, outBytes e))
    | none => []
  | 5 => if i < osSide e then (rectTiles f.nw f.h f.w).map (fun t => (t, nth e 4 + i * eRowC e, osSide e * 4)) else []
  | _ => []

/-- Scale bytes that a read takes with it: an activation row carries its blocks' scales behind its elements; an accumulate
reads the scales of both operands in its first cycle. -/
def State.matCapture (s : State) (d : Fin 8) (f : Flight) (i : Nat) : Flight :=
  let e := f.entry
  let kEff := (if eSparse e then 2 else 1) * kTile (eRate e)
  let rows := (f.matReads i).map (fun r =>
    let bs := s.bytes (tileBase d r.2.1 + r.2.2.1) r.2.2.2
    let sc := if (f.op = 1 ∨ f.op = 2) ∧ r.1.1 < 131072 ∧ eMxA e
      then (List.range (kEff / 32)).map (fun b => s.mxScale d r.2.1 (nth e 5) 0 r.1.1 b) else []
    (r.1, bs ++ sc))
  let nblk := (eCount e + 31) / 32
  let osSc := fun (opnd key t : Nat) => ((131072, key),
    (List.range (osSide e)).flatMap (fun r => (List.range nblk).map (fun b => s.mxScale d t (nth e 5) opnd r b)))
  let scs := if (f.op = 3 ∨ f.op = 4) ∧ i = 0 then
      (if eMxA e then (westTiles f.nw f.h).map (fun t => osSc 0 t t) else []) ++
      (if eMxB e then (northTiles f.nw f.w).map (fun t => osSc 1 (128 + t) t) else [])
    else []
  { f with rows := f.rows ++ rows ++ scs }

/-- A weight load ends: every tile's buffer holds the rows read (R88). -/
def State.wloadEnd (s : State) (d : Fin 8) (f : Flight) : State :=
  let e := f.entry
  let kEff := (if eSparse e then 2 else 1) * kTile (eRate e)
  s.modDie d (fun z => (rectTiles f.nw f.h f.w).foldl (fun z t =>
    let wb : WBuf :=
      { rows := (List.range (dTile (eRate e))).map (fun i => f.row i t)
        meta_ := if eSparse e then (List.range (metaLines e)).flatMap (fun j => f.row (131072 + j) t) else []
        scales := if eMxB e then (List.range (nTile (eRate e))).map (fun n =>
          (List.range (kEff / 32)).map (fun b => s.mxScale d t (nth e 5) 1 n b)) else [] }
    { z with wbufs := putPair (t, f.buf) wb z.wbufs }) z)

/-- The results of cycle `i`, after its reads. -/
def State.matResults (s : State) (d : Fin 8) (f : Flight) (i : Nat) : State :=
  match f.op with
  | 0 => if i + 1 = dTile (eRate f.entry) then s.wloadEnd d f else s
  | 1 | 2 => match f.outRow i with
    | some m => s.wsOut d f m
    | none => s
  | 3 | 4 => if i + 1 = osOcc f.entry + f.lat then s.osEnd d f else s
  | 5 => if 1 ≤ i ∧ i - 1 < osSide f.entry then s.drainRow d f (i - 1) else s
  | _ => s

/-- Rows that later cycles no longer need. -/
def Flight.prune (f : Flight) (i : Nat) : Flight :=
  match f.op, f.outRow i with
  | 1, some m => { f with rows := f.rows.filter (fun r => !(r.1.1 == m)) }
  | 2, some m => { f with rows := f.rows.filter (fun r => !(r.1.1 == m || r.1.1 == 131072 + m)) }
  | _, _ => f

/-! ### Issue -/

/-- The demotion level of a gang (R140). -/
def State.demoteOf (s : State) (d : Fin 8) (g : Nat) : Nat :=
  min (s.get .CDC_DEMOTE_ACTIVE d) ((((s.die d).gang? g).map (·.demoteMax)).getD 0)

/-- A MAT slot acts (R151 to R154, R169). -/
def State.matAct (s : State) (d : Fin 8) (op g desc rep slot : Nat) : State :=
  let x := s.die d
  if op = 0xE then
    if desc = 0 then s
    else s.modDie d (fun x => { x with idleWin := (g, x.cycle + 16 * desc, 16 * desc) :: x.idleWin.filter (fun w => !(w.1 == g)) })
  else
    let raw := s.opEntry d desc
    let e := advEntry 1 raw rep
    let buf := eBuf raw rep
    let (nw, h, w, c) := x.array g e
    let L := latOf (eRate e) h w c
    let span := match op with
      | 0 => dTile (eRate e)
      | 1 | 2 => eCount e + L
      | 5 => osSide e + 1
      | _ => osOcc e + L
    let f : Flight :=
      { cls := 1, op := op, gang := g, nw := nw, h := h, w := w, cross := c, entry := e, buf := buf, start := x.cycle,
        slot := slot, span := span
        modes := (x.gangsIn nw h w).filterMap (fun i => (x.gang? i).map (fun y => (y.tiles, s.demoteOf d i, y.flushBf16))) }
    let takes := x.matTakes op g buf e
    s.modDie d (fun x =>
      { x.take takes with
        flights := x.flights ++ [f]
        idleWin := x.idleWin.filter (fun w => !(w.1 == g))
        ballast := x.ballast.filter (fun b => !(b == g))
        accTerms := if op = 5 then x.accTerms.filter (fun a => !((rectTiles nw h w).contains a.1.1 && a.1.2 == buf))
          else x.accTerms })

end Sys2Proof.Machine
end

