-- ==== Sys2Proof/Machine/Vector.lean ====
section
/-! DEFINITION. The vector unit and the route ports (R91, R95, R96, R131 to R139, R155, R223): legality, lane arithmetic,
conversions, and what VEC and RTE operations do in each stream cycle. -/

namespace Sys2Proof.Machine

/-! ### Entry fields (Table 6-4, VEC) -/

def vFunc (e : OpEntry) : Nat := bits (nth e 0) 3 0
def vFmt (e : OpEntry) : Nat := bits (nth e 0) 7 4
def vRnd (e : OpEntry) : Nat := bits (nth e 0) 9 8
def vSat (e : OpEntry) : Bool := bitAt (nth e 0) 10
def vD (e : OpEntry) : Nat := bits (nth e 0) 15 11
def vA (e : OpEntry) : Nat := bits (nth e 0) 20 16
def vB (e : OpEntry) : Nat := bits (nth e 0) 25 21
def vC (e : OpEntry) : Nat := bits (nth e 0) 30 26
def vTally (e : OpEntry) : Nat := bits (nth e 3) 27 24
def vBase (e : OpEntry) : Nat := nth e 4 + nth e 5 % 65536 * 2 ^ 32
def vStride (e : OpEntry) : Nat := nth e 6

/-- Occupancy and latency of a VEC operation (Table 6-6). -/
def vecOcc (op : Nat) (e : OpEntry) : Nat :=
  if op = 2 ∨ op = 4 ∨ op = 5 then 1 else if op = 3 then 4 else eCount e
def vecLat (op : Nat) (e : OpEntry) : Nat :=
  match op with
  | 0 => 3
  | 1 => 2
  | 2 => if vFunc e = 2 then 6 else 4
  | 3 => 12
  | 4 => 4
  | 5 => 6
  | _ => 1

/-! ### Legality -/

/-- The operand checks of a VEC operation (R155, Table 6-11). -/
def DieSt.vecCode (d : DieSt) (op g : Nat) (raw e : OpEntry) : Nat :=
  let n := eCount e
  let funcBad := ((op == 2 || op == 3) && decide (5 < vFunc e)) || ((op == 4 || op == 5) && vRnd e == 3)
  let fmtBad := !fmtDefined (vFmt e) || (op == 5 && !(decide (3 ≤ vFmt e) && decide (vFmt e ≤ 8)))
  let xfer := op == 0 || op == 1 || op == 6 || op == 7
  let addrBad := ((op == 0 || op == 1) && !rowsOk (nth e 2) 1024 n 1024) || ((op == 6 || op == 7) && !rowsOk (nth e 2) 64 n 64)
  let countBad := (xfer && n == 0) || ((op == 0 || op == 1) && decide (32 < vD e + n)) ||
    ((op == 6 || op == 7) && decide (256 < n))
  leastCode [if funcBad then 1 else 0, if fmtBad then 3 else 0, if (d.gang? g).isNone then 5 else 0, if addrBad then 6 else 0,
    if resvBits 2 raw || countBad then 0xB else 0]

/-- The operand checks of RSEND (R95, R155, R181). -/
def DieSt.rteCode (d : DieSt) (g : Nat) (raw e : OpEntry) : Nat :=
  let x := (d.gang? g).getD { nw := 0, shape := 0 }
  let port := nth e 0 % 4
  let ts := edgeTiles port x.nw (shapeH x.shape) (shapeW x.shape)
  let n := eCount e
  let linkBad := !bitAt (d.use g).1 port || !ts.all (fun t => d.linked port t)
  let addrBad := !rowsOk (nth e 2) (nth e 6 % 65536) n 64 || !rowsOk (nth e 4) (nth e 6 / 65536) n 64
  leastCode [if (d.gang? g).isNone || linkBad then 5 else 0, if addrBad then 6 else 0,
    if resvBits 3 raw || n == 0 then 0xB else 0]

/-! ### Lane arithmetic (R91, Table 6-6) -/

/-- One lane of VALU. -/
def valuLane (func : Nat) (a b c : BitVec 32) : BitVec 32 :=
  match func with
  | 0 => f32Add a b
  | 1 => f32Mul a b
  | 2 => f32Fma a b c
  | 3 => f32MinMax false a b
  | 4 => f32MinMax true a b
  | _ => if c ≠ 0#32 then a else b

/-- Three registers lane by lane. -/
def zip3 (f : BitVec 32 → BitVec 32 → BitVec 32 → BitVec 32) (a b c : List (BitVec 32)) : List (BitVec 32) :=
  (a.zip (b.zip c)).map (fun x => f x.1 x.2.1 x.2.2)

/-- Lanes from bytes and bytes from lanes, little-endian (R117). -/
def lanesOf (bs : List Nat) : List (BitVec 32) := (List.range 256).map (fun i => BitVec.ofNat 32 (leAt bs (4 * i) 4))
def bytesOf (ls : List (BitVec 32)) : List Nat := ls.flatMap (fun l => toLe l.toNat 4)

/-! ### Conversions (R132 to R139) -/

/-- The generator of vector lane `i` of a tile, or of scalar lane `i` for tile 96 (R136, R137): as it stands, else at its seed. No
operation of a scalar lane converts in SR mode, so those stay there. -/
def DieSt.gen (d : DieSt) (t i : Nat) : BitVec 32 :=
  ((d.lanes.find? (fun e => e.1 == t * 256 + i)).map (·.2)).getD (lfsrSeed d.seedNow (if t < 96 then t else 0x7F) i)
def DieSt.setGen (d : DieSt) (t i : Nat) (v : BitVec 32) : DieSt :=
  { d with lanes := (t * 256 + i, v) :: d.lanes.filter (fun e => !(e.1 == t * 256 + i)) }

/-- The rounding mode of lane `i`: SR draws from the lane's generator (R135, R136). -/
def DieSt.rnd (d : DieSt) (mode t i : Nat) : Rnd × DieSt :=
  match mode with
  | 0 => (.rne, d)
  | 1 => (.rtz, d)
  | _ => let (r, g) := lfsrDraw (d.gen t i); (.sr r, d.setGen t i g)

/-- A BF16 subnormal result is written as zero of its sign under FLUSH_BF16 (R139). -/
def flushOut (flush : Bool) (fmt bits : Nat) : Nat := flushIn flush fmt bits

/-- Convert the lanes of a tile: the codes, the generators, and how many were saturated or lost a NaN (R133). -/
def convLanes (fmt mode : Nat) (sat flush : Bool) (t : Nat) : List (Nat × FV) → DieSt → List Nat × DieSt × Nat × Nat
  | [], d => ([], d, 0, 0)
  | (i, v) :: rest, d =>
    let (m, d) := d.rnd mode t i
    let c := convFmt fmt m sat v
    let (cs, d, ns, nn) := convLanes fmt mode sat flush t rest d
    (flushOut flush fmt c.bits :: cs, d, ns + c.sat.toNat, nn + c.nan.toNat)

/-- The exponent of an MX element format's largest power of two (R138). -/
def mxEmax (fmt : Nat) : Int :=
  match fmt with
  | 4 => 15
  | 3 => 8
  | 5 => 4
  | 6 => 2
  | 7 => 2
  | _ => 0

/-- The scale code of a block, and its elements scaled for conversion; `none` for a block with a NaN or an infinity (R138).
An INT8 element counts 2^-6 (R120). -/
def mxBlock (fmt : Nat) (vs : List FV) : Nat × Option (List FV) :=
  if vs.any (·.isSpecial) then (255, none)
  else
    let lead := vs.foldl (fun (a : Option Int) v => match v with
      | .num _ n e => if n = 0 then a else some (match a with | none => leadExp n e | some x => max x (leadExp n e))
      | _ => a) none
    match lead with
    | none => (0, some vs)
    | some l =>
      let se := max (-127) (min 127 (l - mxEmax fmt))
      let k : Int := if fmt = 8 then 6 else 0
      ((se + 127).toNat, some (vs.map (fun v => match v with
        | .num s n e => .num s n (e - se + k)
        | v => v)))

/-- The eight blocks of a tile's register: element codes, scale codes, generators, saturations. Whether a block with a NaN or an
infinity draws under SR, since its elements are written as 0 without a rounding, the spec does not say; the model's choice is that its
lanes' generators stay (R138, log entry 58). -/
def mxBlocks (fmt mode : Nat) (flush : Bool) (t : Nat) (vs : List FV) : List Nat → DieSt → List Nat × List Nat × DieSt × Nat
  | [], d => ([], [], d, 0)
  | b :: bs, d =>
    let blk := (vs.drop (32 * b)).take 32
    let (sc, els) := mxBlock fmt blk
    let (cs, d, ns) := match els with
      | none => (List.replicate 32 0, d, 0)
      | some es =>
        let (cs, d, ns, _) := convLanes fmt mode true flush t (((List.range 32).map (fun i => 32 * b + i)).zip es) d
        (cs, d, ns)
    let (rest, scs, d, m) := mxBlocks fmt mode flush t vs bs d
    (cs ++ rest, sc :: scs, d, ns + m)

/-! ### What a VEC or RTE flight does in cycle `i` after its issue -/

/-- Results that a VEC operation computes at its issue, kept by register (a register's number + 1,000: only its lanes 0 and 1)
and tile until they land; conversions draw and count now. -/
def State.vecCompute (s : State) (d : Fin 8) (f : Flight) : State × Flight :=
  let e := f.entry
  (rectTiles f.nw f.h f.w).foldl (fun (sf : State × Flight) t =>
    let (s, f) := sf
    let a := s.vreg d t (vA e)
    let keep := fun (f : Flight) (k : Nat) (ls : List Nat) => { f with rows := f.rows ++ [((k, t), ls)] }
    match f.op with
    | 2 => (s, keep f (vD e) ((zip3 (valuLane (vFunc e)) a (s.vreg d t (vB e)) (s.vreg d t (vC e))).map (·.toNat)))
    | 3 => (s, keep f (vD e) ((a.map (sfuLane (vFunc e))).map (·.toNat)))
    | 4 =>
      let (cs, x, ns, nn) := convLanes (vFmt e) (vRnd e) (vSat e) (f.modeAt t).2 t ((List.range 256).zip (a.map ofF32)) (s.die d)
      let bs := packElems (fmtBits (vFmt e)) cs
      let s := ((s.setDie d x).fmtCount d .CDC_CONV_SAT_COUNT ns).fmtCount d .CDC_CONV_NAN_COUNT nn
      (s, keep f (vD e) ((lanesOf bs).map (·.toNat)))
    | 5 =>
      let (cs, scs, x, ns) := mxBlocks (vFmt e) (vRnd e) (f.modeAt t).2 t (a.map ofF32) (List.range 8) (s.die d)
      let s := (s.setDie d x).fmtCount d .CDC_CONV_SAT_COUNT ns
      let f := keep f (vD e) ((lanesOf (packElems (fmtBits (vFmt e)) cs)).map (·.toNat))
      (s, keep f (1000 + vC e) [leAt scs 0 4, leAt scs 4 4])
    | _ => (s, f)) (s, f)

/-- Results land in the registers. -/
def State.vecLand (s : State) (d : Fin 8) (f : Flight) : State :=
  f.rows.foldl (fun s r =>
    let (reg, t) := r.1
    if reg < 1000 then s.modDie d (fun x => x.setVreg t reg (r.2.map (BitVec.ofNat 32)))
    else
      let old := s.vreg d t (reg - 1000)
      s.modDie d (fun x => x.setVreg t (reg - 1000) (r.2.map (BitVec.ofNat 32) ++ old.drop 2))) s

/-- Outstanding requests of a die: the rows of gathers and scatters requested and not completed (R166). -/
def DieSt.inflight (d : DieSt) : Nat :=
  d.gathers.foldl (fun n g => n + (g.rows.filter (fun r => r.st == .asked || r.st == .outstanding)).length) 0

/-- Note a new highest REQ (R166, Table 6-12). -/
def State.notePeak (s : State) (d : Fin 8) : State :=
  if s.bit .CDC_STR_CNT_CTRL_FREEZE d then s
  else s.set .CDC_INFLIGHT_PEAK (max (s.get .CDC_INFLIGHT_PEAK d) (s.die d).inflight) d

/-- In cycle `i` each tile of a gather or scatter requests its row `i`; the line that a scatter's row reads is kept with it (R155,
R166, R223). -/
def State.rowsAsk (s : State) (d : Fin 8) (f : Flight) (i : Nat) : State :=
  (s.modDie d (fun x => { x with gathers := x.gathers.map (fun g =>
    if g.id = f.gather then
      { g with rows := g.rows.map (fun r =>
          if r.idx = i ∧ r.st = .waiting then
            { r with st := .asked, data := if g.scatter then some (s.bytes (tileBase d r.tile + r.sram) 64) else none }
          else r) }
    else g) })).notePeak d

/-- The reads of a VEC or RTE flight in cycle `i`. -/
def State.vecCapture (s : State) (d : Fin 8) (f : Flight) (i : Nat) : State × Flight :=
  let e := f.entry
  let all := rectTiles f.nw f.h f.w
  match f.cls, f.op with
  | 2, 0 =>
    if i < eCount e then
      (s, { f with rows := f.rows ++ all.map (fun t =>
        ((vD e + i, t), (lanesOf (s.bytes (tileBase d t + nth e 2 + 1024 * i) 1024)).map (·.toNat))) })
    else (s, f)
  | 2, 1 =>
    if i < eCount e then (s, { f with rows := f.rows ++ all.map (fun t => ((i, t), bytesOf (s.vreg d t (vD e + i)))) }) else (s, f)
  | 2, 6 | 2, 7 => if i < eCount e then (s.rowsAsk d f i, f) else (s, f)
  | 2, _ => if i = 0 then s.vecCompute d f else (s, f)
  | _, _ =>
    if i < eCount e then
      (s, { f with rows := f.rows ++ (edgeTiles (nth e 0 % 4) f.nw f.h f.w).map (fun t =>
        ((i, t), s.bytes (tileBase d t + nth e 2 + i * (nth e 6 % 65536)) 64)) })
    else (s, f)

/-- Lines of an RSEND that arrive in cycle `i`, before the reads of that cycle (R155). -/
def State.rteArrive (s : State) (d : Fin 8) (f : Flight) (i : Nat) : State :=
  if f.cls = 3 ∧ 6 ≤ i ∧ i - 6 < eCount f.entry then
    (edgeTiles (nth f.entry 0 % 4) f.nw f.h f.w).foldl (fun s t =>
      s.setBytes (tileBase d (neighbour (nth f.entry 0 % 4) t) + nth f.entry 4 + (i - 6) * (nth f.entry 6 / 65536))
        (f.row (i - 6) t)) s
  else s

/-- The results of a VEC flight in cycle `i`, after its reads. -/
def State.vecResults (s : State) (d : Fin 8) (f : Flight) (i : Nat) : State :=
  let e := f.entry
  match f.cls, f.op with
  | 2, 1 =>
    if 1 ≤ i ∧ i - 1 < eCount e then
      (rectTiles f.nw f.h f.w).foldl (fun s t => s.setBytes (tileBase d t + nth e 2 + 1024 * (i - 1)) (f.row (i - 1) t)) s
    else s
  | 2, 6 => s
  | 2, 7 => s
  | 2, _ => if i + 1 = f.span then s.vecLand d f else s
  | _, _ => s

/-- Banks and ports that a flight uses in cycle `i` (R93, R96). -/
def Flight.accesses (f : Flight) (i : Nat) : List Nat :=
  let e := f.entry
  let all := rectTiles f.nw f.h f.w
  match f.cls with
  | 1 => (f.matReads i).flatMap (fun r => rowBanks r.2.1 r.2.2.1 r.2.2.2) ++
         (f.matWrites i).flatMap (fun r => rowBanks r.1 r.2.1 r.2.2)
  | 2 =>
    if i < eCount e then
      match f.op with
      | 0 | 1 => all.flatMap (fun t => rowBanks t (nth e 2 + 1024 * i) 1024)
      | 7 => all.flatMap (fun t => rowBanks t (nth e 2 + 64 * i) 64)
      | _ => []
    else []
  | _ =>
    let port := nth e 0 % 4
    let ts := edgeTiles port f.nw f.h f.w
    (if i < eCount e then
      ts.flatMap (fun t => portId t port :: rowBanks t (nth e 2 + i * (nth e 6 % 65536)) 64) else []) ++
    (if 6 ≤ i ∧ i - 6 < eCount e then
      ts.flatMap (fun t => rowBanks (neighbour port t) (nth e 4 + (i - 6) * (nth e 6 / 65536)) 64) else [])

/-! ### Issue -/

/-- The rows of a gather or scatter: per tile of the gang, COUNT rows of 64 bytes (R155, R223). -/
def State.gatherRows (s : State) (d : Fin 8) (e : OpEntry) (tiles : List Nat) : List GRow :=
  tiles.flatMap (fun t => (List.range (eCount e)).map (fun i =>
    { idx := i, tile := t, sram := nth e 2 + 64 * i
      addr := vBase e + (((s.vreg d t (vA e))[i]?).getD 0#32).toNat * vStride e }))

/-- A VEC slot acts (R155). -/
def State.vecAct (s : State) (d : Fin 8) (op g desc rep slot : Nat) : State :=
  let x := s.die d
  let gg := (x.gang? g).getD { nw := 0, shape := 0 }
  let e := advEntry 2 (s.opEntry d desc) rep
  let occ := vecOcc op e
  let f : Flight :=
    { cls := 2, op := op, gang := g, nw := gg.nw, h := shapeH gg.shape, w := shapeW gg.shape, entry := e, start := x.cycle,
      slot := slot, modes := [(gg.tiles, 0, gg.flushBf16)], span := occ + vecLat op e - 1, gather := x.nextGather }
  let isG := op == 6 || op == 7
  let g1 : Gather :=
    { id := x.nextGather, scatter := op == 7, tally := vTally e, rows := if isG then s.gatherRows d e gg.tiles else []
      frame := x.frameNo }
  s.modDie d (fun x =>
    { x.take [(g, 4, 0, occ)] with
      flights := x.flights ++ [f]
      gathers := if isG then x.gathers ++ [g1] else x.gathers
      nextGather := if isG then x.nextGather + 1 else x.nextGather })

/-- An RTE slot acts (R95, R155). -/
def State.rteAct (s : State) (d : Fin 8) (g desc rep slot : Nat) : State :=
  let x := s.die d
  let gg := (x.gang? g).getD { nw := 0, shape := 0 }
  let e := advEntry 3 (s.opEntry d desc) rep
  let f : Flight :=
    { cls := 3, op := 0, gang := g, nw := gg.nw, h := shapeH gg.shape, w := shapeW gg.shape, entry := e, start := x.cycle,
      slot := slot, span := eCount e + 6 }
  s.modDie d (fun x => { x.take [(g, 5, nth e 0 % 4, eCount e)] with flights := x.flights ++ [f] })

/-! ### One stream cycle -/

/-- Arrivals, then reads, of every flight in its present cycle. -/
def State.capture (s : State) (d : Fin 8) (c : Nat) : State :=
  let s := (s.die d).flights.foldl (fun s f => s.rteArrive d f (c - f.start)) s
  let (s, fs) := (s.die d).flights.foldl (fun (a : State × List Flight) f =>
    if f.cls = 1 then (a.1, a.2 ++ [a.1.matCapture d f (c - f.start)])
    else let (s, f) := a.1.vecCapture d f (c - f.start); (s, a.2 ++ [f])) (s, [])
  s.modDie d (fun x => { x with flights := fs })

/-- Results of every flight in its present cycle. -/
def State.results (s : State) (d : Fin 8) (c : Nat) : State :=
  let s := (s.die d).flights.foldl (fun s f =>
    if f.cls = 1 then s.matResults d f (c - f.start) else s.vecResults d f (c - f.start)) s
  s.modDie d (fun x => { x with flights :=
    (x.flights.map (fun f => f.prune (c - f.start))).filter (fun f => decide (c - f.start + 1 < f.span)) })

/-- The largest number of accesses at one resource, less 1 (R93). -/
def conflicts (l : List Nat) : Nat := l.foldl (fun n a => max n (l.count a - 1)) 0

/-- Tile-cycles of a cycle: matrix engines on laid-down work, vector units busy. -/
def DieSt.busyTiles (x : DieSt) (c : Nat) : Nat × Nat :=
  x.flights.foldl (fun a f =>
    let i := c - f.start
    let n := f.h * f.w
    if f.cls = 1 then
      let occ := if f.op = 1 ∨ f.op = 2 then eCount f.entry else if f.op = 3 ∨ f.op = 4 then osOcc f.entry else 0
      if i < occ then (a.1 + n, a.2) else a
    else if f.cls = 2 ∧ i < vecOcc f.op f.entry then (a.1, a.2 + n) else a) (0, 0)

/-- Tiles that run ballast. -/
def DieSt.ballastTiles (x : DieSt) : Nat :=
  x.ballast.foldl (fun n g => n + ((x.gang? g).map (fun y => shapeH y.shape * shapeW y.shape)).getD 0) 0

/-- One stream cycle of a die: every laid-down access of the cycle, external accesses in the free banks, results, counters,
and the stall cycles that conflicts add (R93 to R96, R107, R145, R146). `pool` lists the quadrants that LDP and STP use. -/
def State.streamCycle (s : State) (d : Fin 8) (pool : List Nat) : State :=
  let c := (s.die d).cycle
  let acc := (s.die d).flights.flatMap (fun f => f.accesses (c - f.start)) ++ pool
  let (m, v) := (s.die d).busyTiles c
  let b := (s.die d).ballastTiles
  let s := s.capture d c
  let (s, forced) := s.extTick d acc
  let s := s.results d c
  let n := conflicts (acc ++ forced)
  let s := if m = 0 then s else s.cdcCount d .CDC_MATRIX_BUSY_COUNT m
  let s := if v = 0 then s else s.cdcCount d .CDC_VECTOR_BUSY_COUNT v
  let s := if b = 0 then s else s.cdcCount d .CDC_BALLAST_BUSY_COUNT b
  let s := s.forcedCount d forced.length n
  let s := if s.running d then s.strCount d .CDC_ENABLED_COUNT 1 else s
  let s := s.modDie d (fun x =>
    { x with
      cycle := c + 1
      taken := x.taken.filter (fun t => decide (c + 1 < t.until_))
      scoreboard := x.scoreboard.filter (fun t => decide (c + 1 < t.2.2))
      idleWin := x.idleWin.filter (fun w => decide (c + 1 < w.2.1))
      ballast := x.ballast.filter { x with cycle := c + 2 }.inWindow })
  State.stallCycles d (acc ++ forced) (n + (s.die d).ext.length) n 1 s

/-- `n` stream cycles, pool accesses only in the first. -/
def State.streamCycles (d : Fin 8) (pool : List Nat) : Nat → State → State
  | 0, s => s
  | n + 1, s => State.streamCycles d [] n (s.streamCycle d pool)

end Sys2Proof.Machine
end

