-- ==== Sys2Proof/Machine/Rate.lean ====
section
/-! DEFINITION. A die's rate code (R104, R291 to R294, R306 to R308) and its duty (R25, R167): preparing a change, the
conditions of a switch, and the switch itself. -/

namespace Sys2Proof.Machine

/-! ### Duty (R25, R167) -/

/-- The duty asked of a die: the lowest of its sources, 0 for full duty. -/
def DieSt.askedDuty (x : DieSt) : Nat :=
  let l := [x.duDomain, x.duThermal, x.duReserve].foldl (fun a k => if k = 0 then a else min a k) 8
  if l = 8 then 0 else l

/-- PACING_DUTY_CHANGE: at a frame of 8 core cycles the duty asked for comes into force (R167). -/
def execPacingDutyChange (d : Fin 8) (s : State) : Host.Outcome State Fault Refusal :=
  .next (if s.inReset (8 + d.val) then s else s.set .CDC_PACE_DUTY (s.die d).askedDuty d)

/-- The engine of the active pilot runs its loops: it is out of reset, no takeover waits, and it has not stopped commanding for a
handover (R431, R492, R496). -/
def State.engineUp (s : State) : Bool :=
  match s.activePilot with
  | some p => !s.inReset (4 + p.val) && s.hma.takeover.isNone &&
      !(match s.hma.handover with | some h => h.sent && h.granted.isNone | none => false)
  | none => false

/-! ### A change of code (R306, R307) -/

/-- 200 µs have passed since the BEACON_TIME of the pending code (R307). -/
def State.rateAged (s : State) (d : Fin 8) : Bool := (s.die d).ratePend.any (fun p => decide (p.origin + 200 * us ≤ s.now))

/-- The first two conditions of R307 at a SYNCPT that ends `step`, and all four. -/
def State.rateDue (s : State) (d : Fin 8) (step : Nat) : Bool :=
  match (s.die d).ratePend with
  | none => false
  | some p => (p.noStep || decide ((step + 2 ^ 32 - p.step % 2 ^ 32) % 2 ^ 32 < 2 ^ 31)) && s.rateAged d
def DieSt.rateReady (x : DieSt) : Bool :=
  match x.ratePend with
  | none => false
  | some p => x.standbyLocked == some (baseCode p.code) &&
      (decide (rankOf p.code ≤ rankOf x.code) || x.rampedTo == some (baseCode p.code))

/-- The pending code takes effect on a die: clock, duty, and for a lower code the fall of VC (R307). Event 0x1102 tells when
the whole berth runs it. While no engine holds control it waits for the pilot that does after the gap (R27). -/
def State.rateApply (s : State) (d : Fin 8) : State :=
  let x := s.die d
  match x.ratePend with
  | none => s
  | some p =>
    if !s.engineUp then s
    else
    let s := s.setDie d { x with code := p.code, duDomain := dutyOf p.code, ratePend := none, standbyLocked := none, rampedTo := none }
    let s := if rankOf p.code < rankOf x.code then s.wantVc d p.code else s
    match x.berth with
    | none => s
    | some b => if (s.berthDies b).all (fun e => (s.die e).ratePend.isNone) then s.raise 0x1102 b p.code else s

/-- A switch that falls due at a SYNCPT but is not prepared: counted in `RHD_LATE_SWITCH`, event 0x1107 (R307). -/
def State.rateLate (s : State) (d : Fin 8) : State :=
  match (s.die d).berth with
  | none => s
  | some b => (s.rhdCount b .RHD_LATE_SWITCH_COUNT).raise 0x1107 b

/-- STANDBY_PLL_LOCKED: the standby PLL of a die is locked to the pending frequency (R306). -/
def execStandbyPllLocked (d : Fin 8) (s : State) : Host.Outcome State Fault Refusal :=
  .next (s.modDie d (fun x => match x.ratePend with
    | some p => { x with standbyLocked := some (baseCode p.code) }
    | none => x))

/-- VC_RAMP_DONE: the VC rail of a die is within 5 mV of the pending code's voltage (R306, R307). -/
def execVcRampDone (d : Fin 8) (s : State) : Host.Outcome State Fault Refusal :=
  .next (s.modDie d (fun x => match x.ratePend with
    | some p => { x with rampedTo := some (baseCode p.code) }
    | none => x))

/-- PENDING_TAKEN_STOPPED: a die that is stopped, parked or in reset at BEACON_TIME + 200 µs takes the pending code without a
SYNCPT (R307). One in reset takes it at its release. -/
def execPendingTakenStopped (d : Fin 8) (s : State) : Host.Outcome State Fault Refusal :=
  .next (if s.running d || s.inReset (8 + d.val) || !s.rateAged d then s else s.rateApply d)

end Sys2Proof.Machine
end

