-- ==== Sys2Proof/Machine/Scalar.lean ====
section
/-! DEFINITION. The scalar lanes (R105, R106, R156, Table 6-7): operands, results, legality, and the SCL slots. -/

namespace Sys2Proof.Machine

/-- The low word of a register as FP32 bits (R105). -/
def lowF (a : BitVec 64) : BitVec 32 := a.setWidth 32
/-- An FP32 result in a register: bits [63:32] are written 0 (R105). -/
def fromF (a : BitVec 32) : BitVec 64 := a.setWidth 64

/-- The 12-bit immediate RA:RB, and sign-extension of a `w`-bit field to 64 bits. -/
def imm12 (ra rb : Nat) : Nat := ra % 64 * 64 + rb % 64
def sext64 (w n : Nat) : BitVec 64 := BitVec.ofInt 64 (dec w n)

/-- The integer and FP32 operations of Table 6-7 that write SRD: `c` is SRD, `a` SRA, `b` SRB, with the RA and RB fields. -/
def sclAlu (op : Nat) (c a b : BitVec 64) (ra rb : Nat) : BitVec 64 :=
  match op with
  | 0x00 => a + b
  | 0x01 => a - b
  | 0x02 => a &&& b
  | 0x03 => a ||| b
  | 0x04 => a ^^^ b
  | 0x05 => a <<< (b.toNat % 64)
  | 0x06 => a >>> (b.toNat % 64)
  | 0x07 => a.sshiftRight (b.toNat % 64)
  | 0x08 => a * b
  | 0x09 => a + sext64 6 rb
  | 0x0A => sext64 12 (imm12 ra rb)
  | 0x0B => (c <<< 12) ||| BitVec.ofNat 64 (imm12 ra rb)
  | 0x10 => fromF (f32Add (lowF a) (lowF b))
  | 0x11 => fromF (f32Mul (lowF a) (lowF b))
  | 0x12 => fromF (f32Fma (lowF a) (lowF b) (lowF c))
  | 0x13 => fromF (f32MinMax false (lowF a) (lowF b))
  | 0x14 => fromF (f32MinMax true (lowF a) (lowF b))
  | 0x16 => BitVec.ofNat 64 (f32ToIntC (lowF a)).bits
  | 0x17 => fromF (intToF32 a)
  | _ => a

/-- The comparisons of Table 6-7: CMPEQ, CMPLT, CMPLTU, FCMPLT. -/
def sclCmp (op : Nat) (a b : BitVec 64) : Bool :=
  match op with
  | 0x0C => a == b
  | 0x0D => a.slt b
  | 0x0E => a.ult b
  | _ => f32Lt (lowF a) (lowF b)

/-- PLOGIC: AND, OR, XOR, AND-NOT. -/
def plogic (op : Nat) (a b : Bool) : Bool :=
  match op with
  | 0 => a && b
  | 1 => a || b
  | 2 => a != b
  | _ => a && !b

/-- Latency in stream cycles (Table 6-7); STP, LDT and STT have none. -/
def sclLat (op : Nat) : Nat :=
  if op = 0x08 then 3 else if 0x10 ≤ op ∧ op ≤ 0x12 then 4 else if 0x13 ≤ op ∧ op ≤ 0x17 then 2 else if op = 0x18 then 6 else 1

/-- Does an operation write a predicate; SRD. -/
def sclWritesPred (op : Nat) : Bool := (0x0C ≤ op && op ≤ 0x0F) || op == 0x15
def sclWritesReg (op : Nat) : Bool :=
  op ≤ 0x0B || (0x10 ≤ op && op ≤ 0x14) || (0x16 ≤ op && op ≤ 0x18) || op == 0x1A || op == 0x1D || op == 0x1E

/-- The registers that an operation reads: SRD, SRA, SRB. -/
def sclReads (op rd ra rb : Nat) : List Nat :=
  if op ≤ 0x08 || (0x0C ≤ op && op ≤ 0x0E) || op == 0x10 || op == 0x11 || (0x13 ≤ op && op ≤ 0x15) || op == 0x18 || op == 0x1A
  then [ra, rb]
  else if op == 0x09 || op == 0x16 || op == 0x17 || op == 0x1C || op == 0x1E then [ra]
  else if op == 0x0B then [rd]
  else if op == 0x12 || op == 0x19 || op == 0x1B then [rd, ra, rb]
  else []

/-- The encoding check of a scalar slot: code 0x1 for OP 0x1F, 0xA for predicate fields (R172, Table 6-7). -/
def sclEncCode (op rd ra rb : Nat) : Nat :=
  if 0x1F ≤ op then 1
  else if op = 0x0F ∧ (16 ≤ ra ∨ 16 ≤ rb) then 0xA
  else if (op = 0x0C ∨ op = 0x0D ∨ op = 0x0E ∨ op = 0x15) ∧ 16 ≤ rd then 0xA
  else 0

/-- SRA + SRB as an address. -/
def DieSt.sclAddr (x : DieSt) (lane ra rb : Nat) : Nat := (x.sreg lane ra + x.sreg lane rb).toNat

/-- The operand check of a scalar slot: code 0x6 for an address outside scratch or tiles, or not a multiple of 8. -/
def DieSt.sclCode (x : DieSt) (op lane ra rb : Nat) : Nat :=
  let a := x.sclAddr lane ra rb
  if op = 0x18 ∨ op = 0x19 then (if a % 8 = 0 ∧ a + 8 ≤ (96 - x.overflowMib) * MiB then 0 else 6)
  else if op = 0x1A ∨ op = 0x1B then (if a % 8 = 0 ∧ a < 2 ^ 28 ∧ a / 2 ^ 21 < 96 then 0 else 6)
  else 0

/-- Write SRD, pending for the operation's latency (R156). -/
def DieSt.sclWrite (x : DieSt) (lane rd : Nat) (v : BitVec 64) (lat : Nat) : DieSt :=
  { x.setSreg lane rd v with scoreboard := (lane, rd, x.cycle + lat) :: x.scoreboard }

/-- Write a predicate, pending for the operation's latency (R156); it stands over what a TWAIT or CWAIT of the same issue wrote. -/
def DieSt.sclSetP (x : DieSt) (p : Nat) (v : Bool) (lat : Nat) : DieSt :=
  { x.setPred p v with scoreboard := (4, p, x.cycle + lat) :: x.scoreboard, predNext := x.predNext.filter (fun e => e.1 != p) }

/-- A scalar slot acts: registers and predicates are read from `pre`, the die as the bundle's issue finds it. -/
def State.sclAct (s : State) (d : Fin 8) (pre : DieSt) (op lane rd ra rb : Nat) : State :=
  let a := pre.sreg lane ra
  let b := pre.sreg lane rb
  let c := pre.sreg lane rd
  let addr := pre.sclAddr lane ra rb
  match op with
  | 0x0C | 0x0D | 0x0E | 0x15 => s.modDie d (fun x => x.sclSetP (rd % 16) (sclCmp op a b) (sclLat op))
  | 0x0F => s.modDie d (fun x => x.sclSetP (rd % 16) (plogic (rd / 16) (pre.pred (ra % 16)) (pre.pred (rb % 16))) 1)
  | 0x18 => s.modDie d (fun x => x.sclWrite lane rd (BitVec.ofNat 64 (ofLe (s.bytes (poolBase d + addr) 8))) 6)
  | 0x19 => s.setBytes (poolBase d + addr) (toLe c.toNat 8)
  | 0x1A => s.modDie d (fun x => { x with ext := x.ext ++ [⟨addr / 2 ^ 21, addr % 2 ^ 21, .ldt lane rd, 0⟩] })
  | 0x1B => s.modDie d (fun x => { x with ext := x.ext ++ [⟨addr / 2 ^ 21, addr % 2 ^ 21, .stt c.toNat, 0⟩] })
  | 0x16 =>
    let k := f32ToIntC (lowF a)
    let s := s.modDie d (fun x => x.sclWrite lane rd (BitVec.ofNat 64 k.bits) 2)
    let s := if k.sat then s.fmtCount d .CDC_CONV_SAT_COUNT 1 else s
    if k.nan then s.fmtCount d .CDC_CONV_NAN_COUNT 1 else s
  | 0x1C => s.modDie d (fun x => { x with loops := x.loops.set (Fin.ofNat 4 rd) (a.setWidth 32) })
  | 0x1D => s.modDie d (fun x => x.sclWrite lane rd (BitVec.ofNat 64 (s.get .CDC_STEP_STEP d)) 1)
  | _ => s.modDie d (fun x => x.sclWrite lane rd (sclAlu op c a b ra rb) (sclLat op))

end Sys2Proof.Machine
end

