-- ==== Sys2Proof/Machine/Stream.lean ====
section
/-! DEFINITION. The bundle stream (chapter 6): TUG, SYNC, HINT and FLOW slots, the issue of a bundle with its stalls, busy
cycles and faults, and deadline frames. -/

namespace Sys2Proof.Machine

/-! ### Slot fields (Tables 6-1 to 6-3, 6-8) -/

def slClass (w : Nat) : Nat := bits w 31 28
def slPred (w : Nat) : Nat := bits w 27 24
def slNeg (w : Nat) : Bool := bitAt w 23
def slOp4 (w : Nat) : Nat := bits w 15 12
def slGang (w : Nat) : Nat := bits w 22 16
def slDesc (w : Nat) : Nat := bits w 11 0
def slOp3 (w : Nat) : Nat := bits w 22 20
def slTally (w : Nat) : Nat := bits w 19 16
def slChan (w : Nat) : Nat := bits w 15 12
def slN (w : Nat) : Nat := bits w 15 4
def slPD (w : Nat) : Nat := bits w 3 0
def slTarget (w : Nat) : Nat := bits w 19 0
def sclOp (w : Nat) : Nat := bits w 22 18
def sclRD (w : Nat) : Nat := bits w 17 12
def sclRA (w : Nat) : Nat := bits w 11 6
def sclRB (w : Nat) : Nat := bits w 5 0
def isSync (w op : Nat) : Bool := slClass w == 9 && slOp3 w == op
def isScl (w : Nat) : Bool := decide (4 ≤ slClass w) && decide (slClass w ≤ 7)

def hdWait (h : Nat) : Nat := bits h 11 0
def hdSlots (h : Nat) : Nat := bits h 14 12
def hdRepeat (h : Nat) : Nat := bits h 22 15

/-- The predicate condition of a slot (R149). -/
def DieSt.slotActs (x : DieSt) (w : Nat) : Bool := x.pred (slPred w) != slNeg w

/-! ### Tug channels (R157, R158, R232) -/

/-- Where a channel of a die leads: quay and tug, if its berth maps it (R183). -/
def State.chanMap (s : State) (d : Fin 8) (chan : Nat) : Option (Fin 8 × Fin 32) :=
  match (s.die d).berth with
  | none => none
  | some b => match (s.berth b).desc with
    | none => none
    | some y => match y.chan[16 * d.val + chan]? with
      | none => none
      | some (q, t) => if q < 8 then some (Fin.ofNat 8 q, Fin.ofNat 32 t) else none

/-- Descriptors issued or deferred on a channel and not completed (R157). -/
def DieSt.chanLoad (x : DieSt) (chan : Nat) : Nat :=
  (x.chans.filter (fun t => t.chan == chan)).length + (x.deferred.filter (fun t => t.chan == chan)).length

/-- ISSUE or DEFER acts. On a channel of a quay in reset hold it completes at once with status 0x16 (R232). -/
def State.tugAct (s : State) (d : Fin 8) (defer : Bool) (tally chan desc rep : Nat) : State :=
  let t : TugIssue := ⟨chan, tally, s.opEntry d desc, rep, (s.die d).frameNo, (s.die d).nextTug⟩
  match s.chanMap d chan with
  | none => s
  | some (q, _) =>
    if s.inReset (16 + q.val) then s.completeTally d tally 0x16 0
    else s.modDie d (fun x =>
      if defer then { x with deferred := x.deferred ++ [t], nextTug := x.nextTug + 1 }
      else { x with chans := x.chans ++ [t], nextTug := x.nextTug + 1 })

/-! ### Collectives (R159, R272 to R275) -/

/-- Ask a running die to park (R160). -/
def State.askPark (s : State) (d : Fin 8) (src : ParkSrc) : State :=
  if s.running d then
    (s.setBit .CDC_STREAM_STATE_PARK_REQ true d).modDie d (fun x =>
      if x.parkSrc.contains src then x else { x with parkSrc := x.parkSrc ++ [src] })
  else s

/-- A collective on a handle completes with a status (R159, R275). -/
def State.collDone (s : State) (d : Fin 8) (handle status : Nat) : State :=
  let s := { s with net := { s.net with colls := s.net.colls.filter (fun c => !(c.die == d && c.handle == handle)) } }
  let s := s.modDie d (fun x =>
    { x with handles := x.handles.map (fun h => if h.id = handle ∧ h.status.isNone then { h with status := some status } else h) })
  let s := if status < 2 then s else s.errSlot d status handle 2
  if status = 0x20 then
    match (s.die d).berth with
    | none => s
    | some b => (s.berthDies b).foldl (fun s e => s.askPark e .memberLost) s
  else s

/-- The berth that owns a group, and its entries by position: queue pair and whether the position is the module itself. -/
def State.grpSize (s : State) (g : Nat) : Nat := s.get .NET_GRP_CFG_SIZE_M1 0 g + 1
def State.grpValid (s : State) (g p : Nat) : Bool := s.bit .NET_GRP_ENTRY_VALID 0 (g * 16384 + p)
def State.grpSelf (s : State) (g p : Nat) : Bool := s.bit .NET_GRP_ENTRY_SELF 0 (g * 16384 + p)
def State.grpQp (s : State) (g p : Nat) : Nat := s.get .NET_GRP_ENTRY_QP 0 (g * 16384 + p)
def State.grpMember (s : State) (g p : Nat) : Nat := s.get .NET_GRP_ENTRY_MEMBER 0 (g * 16384 + p)

/-- This module's position in a group (R273). -/
def State.grpPos (s : State) (g : Nat) : Option Nat :=
  (List.range (s.grpSize g)).find? (fun p => s.grpValid g p && s.grpSelf g p)

/-- A queue pair of berth `b` (R266). -/
def State.qpOf (s : State) (b : Fin 8) (qp : Nat) : Bool :=
  match (s.berth b).desc with
  | none => false
  | some y => decide (y.qpBase ≤ qp) && decide (qp < y.qpBase + y.qpCount)

/-- Fields of a collective descriptor (Table 10-3). -/
def cOp (e : OpEntry) : Nat := bits (nth e 0) 3 0
def cRed (e : OpEntry) : Nat := bits (nth e 0) 5 4
def cFmt (e : OpEntry) : Nat := bits (nth e 0) 9 6
def cPort (e : OpEntry) : Nat := bits (nth e 0) 10 10
def cGroup (e : OpEntry) : Nat := bits (nth e 0) 23 16
def cCount (e : OpEntry) : Nat := nth e 1
def cSrc (e : OpEntry) : Nat := nth e 2 + nth e 3 % 65536 * 2 ^ 32
def cDst (e : OpEntry) : Nat := nth e 4 + nth e 5 % 65536 * 2 ^ 32
def cRoot (e : OpEntry) : Nat := bits (nth e 6) 13 0

/-- Is a descriptor valid by itself (R272). -/
def collFieldsOk (e : OpEntry) : Bool :=
  decide (cOp e ≤ 4) && decide (cRed e ≤ 2) && decide (cFmt e ≤ 2) && bits (nth e 0) 15 11 == 0 && bits (nth e 0) 31 24 == 0 &&
    nth e 3 / 65536 == 0 && nth e 5 / 65536 == 0 && nth e 6 / 16384 == 0 && nth e 7 == 0

/-- Does a descriptor's group, with its queue pairs, and COUNT fit it (R273, R274). -/
def State.collGroupOk (s : State) (b : Fin 8) (e : OpEntry) : Bool :=
  let g := cGroup e
  let n := s.grpSize g
  decide (2 ≤ n) && s.get .NET_GRP_CFG_BERTH 0 g == b.val && (s.grpPos g).isSome &&
    (List.range n).all (fun p => s.grpValid g p && (s.grpSelf g p ||
      (s.qpOf b (s.grpQp g p) && decide (3 ≤ s.get .NET_QP_CTRL_STATE 0 (s.grpQp g p))))) &&
    ((cOp e != 1 && cOp e != 2) || cCount e % n == 0) && (cOp e != 4 || cCount e % 64 == 0) &&
    ((cOp e != 3 && cOp e != 4) || decide (cRoot e < n))

/-- The queue pairs that a collective needs: its target's for a PUT, else those of every other position (DEDUCED, log
entry 12). -/
def State.collNeeds (s : State) (e : OpEntry) : List Nat :=
  let g := cGroup e
  ((List.range (s.grpSize g)).filter (fun p => s.grpValid g p && !s.grpSelf g p && (cOp e != 4 || p == cRoot e))).map
    (fun p => s.grpQp g p)

/-- Has the sub-port of a queue pair link (R259). -/
def State.qpLink (s : State) (q : Nat) : Bool :=
  bitAt (s.get .NET_P_LINK_UP (s.get .NET_QP_PORT_PORT 0 q)) (s.get .NET_QP_PORT_SUB 0 q)

/-- Sub-ports of port `p`, their rate in Mb/s and their lanes, by the mode in force (Table 10-1). -/
def State.subPorts (s : State) (p : Fin 2) : Nat := 2 ^ s.net.modeNow[p]
def State.subRate (s : State) (p : Fin 2) : Nat := 1600000 / s.subPorts p
/-- The port and sub-port of a queue pair. -/
def State.qpPort (s : State) (q : Nat) : Fin 2 := Fin.ofNat 2 (s.get .NET_QP_PORT_PORT 0 q)

/-- What the engine keeps of a queue pair; a new one sends at its sub-port's rate. -/
def State.qpSt (s : State) (q : Nat) : QpSt :=
  (s.net.qps.find? (fun x => x.qp == q)).getD { qp := q, rateMbps := s.subRate (s.qpPort q) }
def State.setQp (s : State) (x : QpSt) : State :=
  { s with net := { s.net with qps := x :: s.net.qps.filter (fun y => y.qp != x.qp) } }

/-- COLL acts: the descriptor is posted on a handle; one that is not valid completes at once with 0x24 (R272, R273). -/
def State.collAct (s : State) (d : Fin 8) (handle desc rep : Nat) : State :=
  let e := s.opEntry d desc
  let s := s.modDie d (fun x => { x with handles := x.handles ++ [⟨handle, e, rep, none⟩] })
  match (s.die d).berth with
  | none => s.collDone d handle 0x24
  | some b =>
    if collFieldsOk e && s.collGroupOk b e then
      if (s.collNeeds e).any (fun q => s.get .NET_QP_CTRL_STATE 0 q == 4) then s.collDone d handle 0x22
      else if (s.collNeeds e).any (fun q => !s.qpLink q) then s.collDone d handle 0x21
      else
        let c : Coll := { die := d, handle := handle, berth := b, group := cGroup e, entry := e, rep := rep, posted := s.now }
        { s with net := { s.net with colls := s.net.colls ++ [c] } }
    else s.collDone d handle 0x24

/-! ### Waits (R157 to R159) -/

/-- TWAIT acts: subtract n, and P[PD] tells whether none of the n completions carried an error. -/
def DieSt.twaitAct (x : DieSt) (tally n pd : Nat) : DieSt :=
  let i : Fin 16 := Fin.ofNat 16 tally
  let bad := x.tallyErr.any (fun e => e.1 == tally && decide (e.2 < n))
  let errs := (x.tallyErr.filter (fun e => !(e.1 == tally && decide (e.2 < n)))).map (fun e =>
    if e.1 = tally then (e.1, e.2 - n) else e)
  { x with tallies := x.tallies.set i (x.tallies[i] - n), tallyErr := errs }.setPred pd (!bad)

/-- The condition of a FENCE: no outstanding request, no incomplete tug issue, no incomplete collective. -/
def DieSt.fenceOk (x : DieSt) : Bool :=
  x.gathers.isEmpty && x.chans.isEmpty && x.deferred.isEmpty && x.handles.all (fun h => h.status.isSome)

/-- CWAIT acts: it consumes the completion, and P[PD] tells whether it carried no error. -/
def DieSt.cwaitAct (x : DieSt) (handle pd : Nat) : DieSt :=
  match x.handles.find? (fun h => h.id == handle) with
  | some h => { x with handles := x.handles.erase h }.setPred pd (h.status.any (fun c => decide (c < 2)))
  | none => x

/-- A TWAIT or CWAIT in a bundle, which makes a die `y` of `x`: the predicate that it writes governs from the next bundle (R159). -/
def DieSt.predLater (x y : DieSt) (pd : Nat) : DieSt :=
  { y with preds := x.preds, predNext := (pd, bitAt y.preds pd) :: x.predNext.filter (fun e => e.1 != pd) }

/-- The next bundle: what TWAIT and CWAIT wrote governs. -/
def DieSt.predSettle (x : DieSt) : DieSt := { x.predNext.foldl (fun y e => y.setPred e.1 e.2) x with predNext := [] }

/-- TSET: the tally takes a value, and its record of errors clears. -/
def DieSt.tsetAct (x : DieSt) (tally v : Nat) : DieSt :=
  { x with tallies := x.tallies.set (Fin.ofNat 16 tally) v, tallyErr := x.tallyErr.filter (fun e => !(e.1 == tally)) }

/-! ### Steps (R160, R161) -/

/-- Deadline frames act for a die: its berth has a period and PTP is ready (R170). -/
def State.framesOn (s : State) (b : Fin 8) : Bool := s.get .BTH_B_FRAME_PERIOD_US b != 0 && s.ready rPTP
def State.dieFrames (s : State) (d : Fin 8) : Bool := ((s.die d).berth.map (fun b => s.framesOn b)).getD false

/-- A descriptor in its channel's order of issue: before the ones that were issued later. -/
def chanInsert (t : TugIssue) : List TugIssue → List TugIssue
  | [] => [t]
  | u :: us => if u.chan = t.chan ∧ t.seq < u.seq then t :: u :: us else u :: chanInsert t us

/-- DEFER issues of the ended step become issued descriptors, each at its place in its channel's order of issue (R160, R216,
R221). -/
def DieSt.releaseDefers (x : DieSt) : DieSt :=
  { x with chans := x.deferred.foldl (fun l t => chanInsert t l) x.chans, deferred := [] }

/-- Put an event into a die's queue (R161). -/
def State.queueEvent (s : State) (d : Fin 8) (e : DieEvent) : State := s.modDie d (fun x => { x with events := x.events ++ [e] })

/-- What a SYNCPT does before every slot of its bundle: the shadowed fields commit and the step number is updated (R160: 1 and 2).
`reg` is the register of MODE 1. -/
def State.syncptEarly (s : State) (d : Fin 8) (reg : Option (BitVec 64)) : State :=
  let ended := s.get .CDC_STEP_STEP d
  let s := if s.get .CDC_DEMOTE_ACTIVE d ≠ 0 then s.fmtCount d .CDC_DEMOTE_STEPS_COUNT 1 else s
  let s := s.set .CDC_DEMOTE_ACTIVE (s.get .CDC_DEMOTE_REQ d) d
  let seed := s.get .CDC_SR_SEED_SEED d
  let s := s.modDie d (fun x => if x.seedPend then { x with seedNow := seed, lanes := [], seedPend := false } else x)
  let s := match (s.die d).berth with
    | none => s
    | some b => s.modDie d (fun x => { x with target := s.get .RHD_TARGET_CODE b })
  let s := s.set .CDC_STEP_STEP (match reg with | none => ended + 1 | some v => v.toNat % 2 ^ 32) d
  s.strCount d .CDC_SYNCPT_COUNT_COUNT 1

/-- What a SYNCPT that ends step `ended` does at its slot's place: its event enters the queue, the DEFER issues of the step are
released, and a park and a rate change that falls due wait for the bundle's last repeat (R160: 3 to 5). -/
def State.syncptLate (s : State) (d : Fin 8) (ended : Nat) : State :=
  let s := s.queueEvent d (.syncpt ended s.timeNs)
  let s := if s.dieFrames d then s.modDie d (fun x => { x with frameDone := true }) else s.modDie d DieSt.releaseDefers
  let s := s.rateFollow d
  let due := s.rateDue d ended && s.engineUp
  let rdy := (s.die d).rateReady
  let s := s.modDie d (fun x => { x with parkAfter := true, rateAfter := x.rateAfter || (due && rdy) })
  if due && !rdy then s.rateLate d else s

/-- A SYNCPT that is its bundle's only slot. -/
def State.syncptAct (s : State) (d : Fin 8) (reg : Option (BitVec 64)) : State :=
  (s.syncptEarly d reg).syncptLate d (s.get .CDC_STEP_STEP d)

/-- What a SYNCPT leaves for the end of its bundle: the rate change, then the park (R160, R168). -/
def State.afterSyncpt (s : State) (d : Fin 8) : State :=
  let x := s.die d
  let s := if x.rateAfter then s.rateApply d else s
  let s := s.modDie d (fun x => { x with parkAfter := false, rateAfter := false })
  if x.parkAfter && s.bit .CDC_STREAM_STATE_PARK_REQ d then
    let hold := (s.die d).parkSrc.contains .hold
    let s := (s.setStream d 2).setBit .CDC_STREAM_STATE_PARK_REQ false d
    let s := s.modDie d (fun x => { x with parkSrc := [] })
    match (s.die d).berth, hold with
    | some b, true => s.modBerth b (fun y => { y with parkedDies := y.parkedDies ++ [d.val] })
    | _, _ => s
  else s

/-- A HINT acts: its event enters the queue, or is dropped and counted when the queue is full (R161, R162). -/
def State.hintAct (s : State) (d : Fin 8) (lead pclass id : Nat) : State :=
  if (s.die d).events.length < 64 then s.queueEvent d (.hint lead pclass id s.timeNs)
  else s.strCount d .CDC_HINT_DROP_COUNT 1

/-! ### FLOW (R163, R164) -/

/-- The next bundle's index goes into `CDC_PC`; a taken FLOW waits for the fetch of its target. -/
def State.jump (s : State) (d : Fin 8) (target wait : Nat) : State :=
  let n := if target < 258048 then 3 - wait else 23 - wait
  (s.set .CDC_PC_INDEX target d).modDie d (fun x => { x with fetchStall := x.fetchStall + n })

/-- A FLOW slot acts after the last repeat of its bundle at `pc`. -/
def State.flowAct (s : State) (d : Fin 8) (op target pc wait : Nat) : State :=
  if op = 0 then s.jump d (4 * target) wait
  else if op ≤ 4 then
    let j : Fin 4 := Fin.ofNat 4 (op - 1)
    let n := (s.die d).loops[j]
    if n = 0#32 then s.set .CDC_PC_INDEX (pc + 1) d
    else
      let s := s.modDie d (fun x => { x with loops := x.loops.set j (n - 1#32) })
      if n - 1#32 ≠ 0#32 then s.jump d (4 * target) wait else s.set .CDC_PC_INDEX (pc + 1) d
  else (s.set .CDC_PC_INDEX (pc + 1) d).modDie d (fun x => { x with ended := true })

/-! ### Encoding and operand checks (R172) -/

/-- The encoding check of a slot: 0x1 or 0xA. -/
def slotEncCode (w : Nat) : Nat :=
  match slClass w with
  | 0 => 0
  | 1 => if slOp4 w ≤ 5 ∨ slOp4 w = 0xE then 0 else 1
  | 2 => if slOp4 w ≤ 7 then 0 else 1
  | 3 => if slOp4 w = 0 then 0 else 1
  | 8 => if slOp3 w ≤ 2 then 0 else 1
  | 9 => if slOp3 w ≤ 4 then 0 else 1
  | 10 => 0
  | 11 => if slOp3 w ≤ 5 then 0 else 1
  | c => if 4 ≤ c ∧ c ≤ 7 then sclEncCode (sclOp w) (sclRD w) (sclRA w) (sclRB w) else 1

/-- The handles in use after an acting slot, of those in use before it: COLL takes one, CWAIT frees it (R159). -/
def handlesAfter (hs : List Nat) (w : Nat) : List Nat :=
  if slClass w = 8 ∧ slOp3 w = 2 then slChan w :: hs else if isSync w 2 then hs.erase (slTally w) else hs

/-- The operand check of a slot that acts, on repeat `rep`, with the handles `hs` in use. -/
def State.slotCode (s : State) (d : Fin 8) (rep : Nat) (hs : List Nat) (w : Nat) : Nat :=
  let x := s.die d
  let raw := s.opEntry d (slDesc w)
  match slClass w with
  | 1 => x.matCode (slOp4 w) (slGang w) rep raw (advEntry 1 raw rep)
  | 2 => x.vecCode (slOp4 w) (slGang w) raw (advEntry 2 raw rep)
  | 3 => x.rteCode (slGang w) raw (advEntry 3 raw rep)
  | 8 =>
    if slOp3 w = 2 then (if hs.contains (slChan w) then 0xC else 0)
    else if (s.chanMap d (slChan w)).isNone then 9 else 0
  | 9 => if slOp3 w = 2 ∧ !hs.contains (slTally w) then 0xC else 0
  | 11 => if slOp3 w ≤ 4 ∧ x.lastBundle < 4 * slTarget w then 7 else 0
  | c => if 4 ≤ c ∧ c ≤ 7 then x.sclCode (sclOp w) (c - 4) (sclRA w) (sclRB w) else 0

/-- The codes of the slots of a bundle, 0 for a legal one: encoding checks on every slot, operand checks on those that act, each
with the handles that the slots before it leave (R159, R172). -/
def State.slotCodes (s : State) (d : Fin 8) (rep : Nat) : (hs ws : List Nat) → List Nat
  | _, [] => []
  | hs, w :: ws =>
    let a := (s.die d).slotActs w
    (if slotEncCode w ≠ 0 then slotEncCode w else if a then s.slotCode d rep hs w else 0) ::
      s.slotCodes d rep (if a then handlesAfter hs w else hs) ws

/-- Positions of the slots of a list that meet a condition. -/
def posOf (f : Nat → Bool) (ws : List Nat) : List Nat := (List.range ws.length).filter (fun i => f (nth ws i))

/-- The encoding fault of a bundle: code and slot (R172). -/
def encFault (hdr : Nat) (ws : List Nat) : Option (Nat × Nat) :=
  let dup := fun (f : Nat → Bool) => match posOf f ws with | _ :: p :: _ => some p | _ => none
  if hdr / 2 ^ 23 ≠ 0 then some (2, 7)
  else
    match dup (fun w => slClass w == 11), dup (fun w => isSync w 0) with
    | some p, some q => some (4, min p q)
    | some p, none => some (4, p)
    | none, some q => some (4, q)
    | none, none => none

/-- The first illegal slot and its code. -/
def firstBad (codes : List Nat) : Option (Nat × Nat) :=
  ((List.range codes.length).find? (fun i => nth codes i != 0)).map (fun i => (nth codes i, i))

/-! ### Why a bundle does not issue (R145, R165, Table 6-10) -/

/-- What a scalar operation reads and writes: registers (lane, register), predicates (4, register), and its lane (5, lane). -/
def sclRegs (op lane rd ra rb : Nat) : List (Nat × Nat) :=
  let ps := if op = 0x0F then [(4, rd % 16), (4, ra % 16), (4, rb % 16)]
    else if sclWritesPred op then [(4, rd % 16)] else []
  (5, lane) :: (sclReads op rd ra rb).map (fun r => (lane, r)) ++ (if sclWritesReg op then [(lane, rd)] else []) ++ ps

/-- Scalar registers (lane, register) and predicates (4, register) that an acting slot reads or writes, and the lane (5, lane)
that takes its operation. -/
def slotRegs (w : Nat) : List (Nat × Nat) :=
  let p := (4, slPred w)
  if isScl w then
    p :: sclRegs (sclOp w) (slClass w - 4) (sclRD w) (sclRA w) (sclRB w)
  else if isSync w 0 && bitAt w 19 then [p, (0, bits w 18 13)]
  else if isSync w 1 || isSync w 2 then [p, (4, slPD w)]
  else [p]

/-- Is the write of a register or predicate pending: by a fixed-latency operation, or by an LDT (R156). -/
def DieSt.pendFixed (x : DieSt) (r : Nat × Nat) : Bool :=
  x.scoreboard.any (fun e => e.1 == r.1 && e.2.1 == r.2 && decide (x.cycle < e.2.2) && !(r.1 == 4 && r.2 == 0))
def DieSt.pendLdt (x : DieSt) (r : Nat × Nat) : Bool :=
  x.ext.any (fun e => match e.work with
    | .ldt lane rd => lane == r.1 && rd == r.2
    | _ => false) || x.ldts.any (fun l => l.lane == r.1 && l.rd == r.2)

/-- Gang resources that an acting slot needs (R153). -/
def State.slotTakes (s : State) (d : Fin 8) (rep w : Nat) : List (Nat × Nat × Nat × Nat) :=
  let raw := s.opEntry d (slDesc w)
  match slClass w with
  | 1 => if slOp4 w = 0xE then [] else (s.die d).matTakes (slOp4 w) (slGang w) (eBuf raw rep) raw
  | 2 => [(slGang w, 4, 0, 0)]
  | 3 => [(slGang w, 5, nth raw 0 % 4, 0)]
  | _ => []

/-- Rows that a gather or scatter of gang `g` adds to the outstanding requests; none when its COUNT is illegal (R166). -/
def State.rowsOf (s : State) (d : Fin 8) (g : Nat) (e : OpEntry) : Nat :=
  if 256 < eCount e then 0 else eCount e * (((s.die d).gang? g).map (fun g => g.tiles.length)).getD 0

/-- The rows that a slot adds (R166). -/
def State.slotRows (s : State) (d : Fin 8) (w : Nat) : Nat :=
  if slClass w = 2 ∧ (slOp4 w = 6 ∨ slOp4 w = 7) then s.rowsOf d (slGang w) (s.opEntry d (slDesc w)) else 0

/-- Do the TWAITs among acting slots find their tallies, each after what the slots before it leave (R157, R159). -/
def twaitsOk : Vector Nat 16 → List Nat → Bool
  | _, [] => true
  | t, w :: ws =>
    let i : Fin 16 := Fin.ofNat 16 (slTally w)
    if isSync w 1 then decide (slN w ≤ t[i]) && twaitsOk (t.set i (t[i] - slN w)) ws
    else if isSync w 4 then twaitsOk (t.set i (slN w)) ws
    else twaitsOk t ws

/-- Do the CWAITs among acting slots find their collectives complete: handles, each with whether it is complete (R159). -/
def cwaitsOk : List (Nat × Bool) → List Nat → Bool
  | _, [] => true
  | hs, w :: ws =>
    if isSync w 2 then
      match hs.find? (fun h => h.1 == slTally w) with
      | some h => h.2 && cwaitsOk (hs.erase h) ws
      | none => cwaitsOk hs ws
    else if slClass w = 8 ∧ slOp3 w = 2 then cwaitsOk ((slChan w, false) :: hs) ws
    else cwaitsOk hs ws

/-- HINT slots that lie below the SYNCPT in a list of acting slots. -/
def hintsBelow (acts : List Nat) : Nat := ((acts.takeWhile (fun w => !isSync w 0)).filter (fun w => slClass w == 10)).length

/-- Has the event queue room for the SYNCPT among acting slots, after the HINTs of lower slots (R150, R161). -/
def DieSt.evRoom (x : DieSt) (acts : List Nat) : Bool :=
  !acts.any (fun w => isSync w 0) || decide (x.events.length + hintsBelow acts < 64)

/-- The conditions that acting slots wait for: TWAIT, FENCE and CWAIT (R157, R159, R169). -/
def DieSt.memWait (x : DieSt) (acts : List Nat) : Bool := !twaitsOk x.tallies acts || (acts.any (fun w => isSync w 3) && !x.fenceOk)
def DieSt.collWait (x : DieSt) (acts : List Nat) : Bool := !cwaitsOk (x.handles.map (fun h => (h.id, h.status.isSome))) acts

/-- Would `rows` more outstanding requests pass the limit of R166. -/
def DieSt.overLimit (x : DieSt) (rows : Nat) : Bool := decide (0 < rows) && decide (8192 < x.inflight + rows)

/-- What holds slots back, by Table 6-10: a busy cause, then stall causes 2 to 6. `ws` are the decoded slots, which all read
their predicates, `acts` those that act. -/
def State.causes (s : State) (d : Fin 8) (rep : Nat) (ws acts : List Nat) : Bool × List Bool :=
  let x := s.die d
  let regs := ws.map (fun w => (4, slPred w)) ++ acts.flatMap slotRegs
  let busy := x.busy (acts.flatMap (fun w => s.slotTakes d rep w)) || regs.any x.pendFixed
  let c2 := acts.any (fun w => slClass w == 8 && slOp3 w != 2 && decide (16 ≤ x.chanLoad (slChan w))) || regs.any x.pendLdt
  let c3 := x.fetchStall != 0 && !x.inIssue
  let c4 := !x.evRoom acts
  let c5 := x.memWait acts || x.overLimit (acts.foldl (fun n w => n + s.slotRows d w) 0)
  (busy, [c2, c3, c4, c5, x.collWait acts])

/-- Does a slot need what a slot before it in its own bundle takes in this cycle: a gang resource, its scalar lane, or the last
free place of its tug channel (R153, R156, R157). Such a slot issues in a later cycle (DEDUCED, log entry 60). -/
def State.slotClash (s : State) (d : Fin 8) (rep : Nat) (before : List Nat) (w : Nat) : Bool :=
  let isTug := fun v => slClass v == 8 && slOp3 v != 2
  let queues := fun v => isTug v && slChan v == slChan w && match s.chanMap d (slChan v) with
    | some (q, _) => !s.inReset (16 + q.val)
    | none => false
  before.any (fun v =>
    (isScl w && slClass v == slClass w) ||
    (s.slotTakes d rep v).any (fun r => (s.slotTakes d rep w).any (fun q =>
      q.1 == r.1 && q.2.1 == r.2.1 && q.2.2.1 == r.2.2.1))) ||
    (isTug w && decide (16 ≤ (s.die d).chanLoad (slChan w) + (before.filter queues).length))

/-- The acting slots that issue in this cycle, from the lowest up to the first that clashes; `before` have been taken. -/
def State.issuable (s : State) (d : Fin 8) (rep : Nat) : (before : List Nat) → List (Nat × Nat) → List (Nat × Nat)
  | _, [] => []
  | before, e :: es => if s.slotClash d rep before e.2 then [] else e :: s.issuable d rep (before ++ [e.2]) es

/-- The counter of the first cause that holds. -/
def causeFld (busy : Bool) (cs : List Bool) : Fld :=
  match busy, cs with
  | true, _ => .CDC_STALL_BUSY_COUNT
  | _, true :: _ => .CDC_STALL_BUSY_COUNT
  | _, _ :: true :: _ => .CDC_STALL_FETCH_COUNT
  | _, _ :: _ :: true :: _ => .CDC_STALL_EVQ_COUNT
  | _, _ :: _ :: _ :: true :: _ => .CDC_STALL_MEM_COUNT
  | _, _ => .CDC_STALL_COLL_COUNT

/-! ### Issue -/

/-- A slot acts, FLOW apart; `pre` is the die before the slots of the cycle act, `ended` the step that a SYNCPT among them ends,
`pos` the slot's position. -/
def State.slotAct (s : State) (d : Fin 8) (pre : DieSt) (ended rep pos w : Nat) : State :=
  match slClass w with
  | 1 => s.matAct d (slOp4 w) (slGang w) (slDesc w) rep pos
  | 2 => s.vecAct d (slOp4 w) (slGang w) (slDesc w) rep pos
  | 3 => s.rteAct d (slGang w) (slDesc w) rep pos
  | 8 => if slOp3 w = 2 then s.collAct d (slChan w) (slDesc w) rep
         else s.tugAct d (slOp3 w == 1) (slTally w) (slChan w) (slDesc w) rep
  | 9 =>
    match slOp3 w with
    | 0 => s.syncptLate d ended
    | 1 => s.modDie d (fun x => x.predLater (x.twaitAct (slTally w) (slN w) (slPD w)) (slPD w))
    | 2 => s.modDie d (fun x => x.predLater (x.cwaitAct (slTally w) (slPD w)) (slPD w))
    | 4 => s.modDie d (fun x => x.tsetAct (slTally w) (slN w))
    | _ => s
  | 10 => s.hintAct d (bits w 22 11) (bits w 10 8) (bits w 7 0)
  | c => if 4 ≤ c ∧ c ≤ 7 then s.sclAct d pre (sclOp w) (c - 4) (sclRD w) (sclRA w) (sclRB w) else s

/-- The order in which slots act: slot order, but that scalar writes of predicates come last, by latency and lane, so that the
later one, and of two in one cycle the highest lane's, stands (R105, R150). -/
def actOrder (ws : List (Nat × Nat)) : List (Nat × Nat) :=
  let isP := fun (e : Nat × Nat) => isScl e.2 && sclWritesPred (sclOp e.2)
  ws.filter (fun e => !isP e) ++
    [1, 2].flatMap (fun lat => [4, 5, 6, 7].flatMap (fun c =>
      ws.filter (fun e => isP e && sclLat (sclOp e.2) == lat && slClass e.2 == c)))

/-- Die pool quadrants that the acting slots use (R107). -/
def poolUse (pre : DieSt) (acts : List Nat) : List Nat :=
  (acts.filter (fun w => isScl w && (sclOp w == 0x18 || sclOp w == 0x19))).map (fun w =>
    quadId (pre.sclAddr (slClass w - 4) (sclRA w) (sclRB w)))

/-- The end of a bundle, after its last repeat: FLOW or the following bundle, what a SYNCPT left, and STOP (R163, R171). -/
def State.endBundle (s : State) (d : Fin 8) (flow : Option Nat) (pc wait : Nat) : State :=
  let s := s.modDie d (fun x => { x.predSettle with inIssue := false, rep := 0 })
  let s := match flow with
    | some w => s.flowAct d (slOp3 w) (slTarget w) pc wait
    | none => s.set .CDC_PC_INDEX (pc + 1) d
  let s := s.afterSyncpt d
  if (s.die d).stopAfter then
    let s := s.modDie d (fun x => { x with stopAfter := false })
    if s.running d then s.setStream d 0 else s
  else s

/-- The slots `acts` of the bundle at `pc`, whose decoded slots are `ws`, issue; `held` is the position of the lowest acting slot that
must wait for a later cycle, if any. The last of them lay down WAIT + 1 stream cycles, the others one. -/
def State.issue (s : State) (d : Fin 8) (hdr pc : Nat) (ws : List Nat) (acts : List (Nat × Nat)) (held : Option Nat) : State :=
  let pre := s.die d
  let rep := pre.rep
  let aw := acts.map (·.2)
  let pool := poolUse pre aw
  let ended := s.get .CDC_STEP_STEP d
  let s := s.modDie d (fun x => { x with
    inIssue := true, waitStall := 0, slotFrom := held.getD 0, ballast := x.ballast.filter x.inWindow })
  let s := s.setBit .CDC_STREAM_STATE_STALLED false d
  let s := match aw.find? (fun w => isSync w 0) with
    | some w => s.syncptEarly d (if bitAt w 19 then some (pre.sreg 0 (bits w 18 13)) else none)
    | none => s
  let s := (actOrder acts).foldl (fun s e => s.slotAct d pre ended rep e.1 e.2) s
  let s := State.streamCycles d pool (if held.isSome then 1 else hdWait hdr + 1) s
  let next := pc + 1
  let s := if 258048 ≤ next ∧ pool.contains (quadId (bundleAddr d pre.overflowMib next - poolBase d)) then
      s.modDie d (fun x => { x with fetchStall := x.fetchStall + 1 }) else s
  if !s.running d || held.isSome then s
  else if rep < hdRepeat hdr then s.modDie d (fun x => { x with rep := rep + 1 })
  else s.endBundle d (ws.find? (fun w => slClass w == 11 && pre.slotActs w)) pc (hdWait hdr)

/-- A stalled enabled cycle of a waiting bundle, `wait` if it waits at a TWAIT, CWAIT or FENCE (R165, R169). -/
def State.stalled (s : State) (d : Fin 8) (wait : Bool) : State :=
  let s := s.stallOnce d
  let s := s.setBit .CDC_STREAM_STATE_STALLED true d
  s.modDie d (fun x =>
    { x with fetchStall := x.fetchStall - 1, waitStall := if wait then x.waitStall + 1 else 0 })

/-- A busy cycle of R145. -/
def State.busyCycle (s : State) (d : Fin 8) : State :=
  ((s.streamCycle d []).setBit .CDC_STREAM_STATE_STALLED false d).strCount d .CDC_STALL_BUSY_COUNT 1

/-- The illegal bundle's fault that is recorded, if any: a header fault, a second FLOW or SYNCPT, else the illegal slot of lowest
position; slots below `from_` have issued (R172). -/
def State.bundleBad (s : State) (d : Fin 8) (rep hdr from_ : Nat) (ws : List Nat) : Option (Nat × Nat) :=
  match encFault hdr ws with
  | some f => some f
  | none => (firstBad (s.slotCodes d rep ((s.die d).handles.map (·.id)) (ws.drop from_))).map (fun c => (c.1, from_ + c.2))

/-- One enabled cycle of a running die: the next bundle issues, or the die stalls, runs a busy cycle or waits for its frame;
an illegal bundle faults the stream (R145, R165, R170 to R172). -/
def State.bundleTry (s : State) (d : Fin 8) : State :=
  let x := s.die d
  let pc := s.get .CDC_PC_INDEX d
  let addr := bundleAddr d x.overflowMib pc
  let hdr := ofLe (s.bytes addr 4)
  let ws := (List.range (hdSlots hdr)).map (fun k => ofLe (s.bytes (addr + 4 + 4 * k) 4))
  if x.ended then
    let s := s.streamCycle d []
    if (s.die d).taken.isEmpty then (s.modDie d (fun x => { x with ended := false })).setStream d 0 else s
  else if x.restoring then s.streamCycle d []
  else if x.frameDone && s.dieFrames d && x.slotFrom == 0 then
    ((s.streamCycle d []).setBit .CDC_STREAM_STATE_FRAME_WAIT true d).strCount d .CDC_FRAME_WAIT_COUNT 1
  else if x.lastBundle < pc then s.streamFault d 7 7 pc
  else
    let encOk := (encFault hdr ws).isNone && ws.all (fun w => slotEncCode w == 0)
    let acts := ((List.range ws.length).map (fun i => (i, nth ws i))).filter (fun e =>
      decide (x.slotFrom ≤ e.1) && x.slotActs e.2)
    let aw := acts.map (·.2)
    let (busy, cs) := if encOk then s.causes d x.rep (ws.drop x.slotFrom) aw else (false, [false, x.fetchStall != 0 && !x.inIssue])
    if cs.any id then (s.stalled d (encOk && (x.memWait aw || x.collWait aw))).strCount d (causeFld busy cs) 1
    else if busy then s.busyCycle d
    else
      match s.bundleBad d x.rep hdr x.slotFrom ws with
      | some (code, slot) => s.streamFault d code slot pc
      | none =>
        let now := s.issuable d x.rep [] acts
        s.issue d hdr pc ws now (acts[now.length]?.map (·.1))

/-- BUNDLE_ISSUE: one enabled cycle of a die, with the word errors its accesses meet. A die whose stream does not run only lets
operations in flight advance. -/
def execBundleIssue (die : Fin 8) (errs : List WordErr) (s : State) : Host.Outcome State Fault Refusal :=
  .next <|
    if s.inReset (8 + die.val) then s
    else
      let s := s.streamErrs die errs
      if s.running die then s.bundleTry die
      else if (s.die die).flights.isEmpty && (s.die die).ext.isEmpty && (s.die die).ldts.isEmpty then s
      else s.streamCycle die []

/-! ### Stream control (R171, R328): the actions of accepted register writes -/

def State.cdcLockErr (s : State) (d : Fin 8) : State := s.setBit .CDC_STATUS_LOCK_ERR true d

/-- The quiesce hold of the berth that holds a die. -/
def State.dieHeld (s : State) (d : Fin 8) : Bool := ((s.die d).berth.map (fun b => (s.berth b).hold)).getD false

/-- A snapshot of a die's frame start (R170). -/
def State.snap (s : State) (d : Fin 8) : Snapshot :=
  let x := s.die d
  { pc := s.get .CDC_PC_INDEX d, step := s.get .CDC_STEP_STEP d, scalars := x.scalars, preds := x.preds, loops := x.loops
    tallies := x.tallies }

/-- START (R171, R328). -/
def State.streamStart (s : State) (d : Fin 8) : State :=
  let st := s.streamState d
  if (s.die d).image.isNone || s.dieHeld d || !(st == 0 || st == 3) then s.cdcLockErr d
  else
    let s := (s.set .CDC_PC_INDEX (s.get .CDC_STREAM_ENTRY_INDEX d) d).set .CDC_STEP_STEP (s.get .CDC_STEP_INIT_STEP d) d
    let s := match (s.die d).ratePend with
      | some p => if p.origin + 200 * us ≤ s.now then s.rateApply d else s
      | none => s
    let s := (s.setStream d 1).endLatch 0x06 d
    let s := s.modDie d (fun x =>
      { x.predSettle with
               rep := 0, inIssue := false, fetchStall := 0, ended := false, stopAfter := false, parkAfter := false
               rateAfter := false, slotFrom := 0, frameDone := false, restoring := false, waitStall := 0 })
    s.modDie d (fun x => { x with snapshot := if s.dieFrames d then some (s.snap d) else x.snapshot })

/-- STOP (R171). -/
def State.streamStop (s : State) (d : Fin 8) : State :=
  if !s.running d then s
  else if (s.die d).inIssue then s.modDie d (fun x => { x with stopAfter := true })
  else (s.setStream d 0).modDie d (fun x => { x with ended := false, waitStall := 0, ballast := [] })

/-- RESUME (R171, R328). -/
def State.streamResume (s : State) (d : Fin 8) : State :=
  if s.dieHeld d then s.cdcLockErr d
  else if s.streamState d = 2 then s.setStream d 1 else s

end Sys2Proof.Machine
end

