-- ==== Sys2Proof/Machine/Fairway.lean ====
section
/-! DEFINITION. Fairway (chapter 9): links, routes, flits and the link errors. Dies are numbered CDn n, QDn 8 + n,
NDn 16 + n. -/

namespace Sys2Proof.Machine

/-! ### Links and routes (R236, R238) -/

/-- The ends A and B of a link (Table 9-1). -/
def linkEnds (k : Nat) : Nat × Nat :=
  if k < 16 then (k / 2, 8 + k / 4 + 4 * (k % 2))
  else if k < 20 then (2 * (k - 16), 2 * (k - 16) + 1)
  else if k < 26 then (2 * ((k - 20) / 2) + (k - 20) % 2, 2 * ((k - 20) / 2) + 2 + (k - 20) % 2)
  else match k with
    | 26 => (8, 9) | 27 => (9, 10) | 28 => (10, 11) | 29 => (11, 15) | 30 => (15, 14) | 31 => (14, 13) | 32 => (13, 12)
    | 33 => (12, 8) | 34 => (16, 8) | 35 => (16, 12) | 36 => (17, 11) | _ => (17, 15)

/-- Is a link a full one; how many sub-links it has in each direction. -/
def linkFull (k : Nat) : Bool := decide (k < 16)
def linkSubs (k : Nat) : Nat := if linkFull k then 8 else 4

/-- The ring position of a quay: its place in QD0, QD1, QD2, QD3, QD7, QD6, QD5, QD4. -/
def ringPos (q : Nat) : Nat := if q < 4 then q else 11 - q

/-- Ring steps from one position to another in direction 0, and the ring distance. -/
def ringUp (a b : Nat) : Nat := (b + 8 - a) % 8
def ringDist (a b : Nat) : Nat := min (ringUp a b) (ringUp b a)

/-- The hops, as (link, direction), round the ring between two positions, the shorter way, direction 0 on a tie. -/
def ringPath (a b : Nat) : List (Nat × Nat) :=
  if ringUp a b ≤ ringUp b a then (List.range (ringUp a b)).map (fun i => (26 + (a + i) % 8, 0))
  else (List.range (ringUp b a)).map (fun i => (26 + (a + 7 - i) % 8, 1))

/-- The nearer of two quays to ring position `p`: the north one, `a`, on a tie. -/
def nearer (a b p : Nat) : Nat := if ringDist (ringPos a) p ≤ ringDist (ringPos b) p then a else b

/-- The link between compute die `n` and its quay `q`. -/
def dieLink (n q : Nat) : Nat := if q < 4 then 2 * n else 2 * n + 1

/-- From quay `q` to a quay or a compute die (Table 9-2). -/
def quayPath (q dst : Nat) : List (Nat × Nat) :=
  if 8 ≤ dst then ringPath (ringPos q) (ringPos (dst - 8))
  else
    let x := nearer (dst / 2) (dst / 2 + 4) (ringPos q)
    ringPath (ringPos q) (ringPos x) ++ [(dieLink dst x, 1)]

/-- Along a row of the mesh from column `a` to column `b`. -/
def rowPath (row a b : Nat) : List (Nat × Nat) :=
  if a ≤ b then (List.range (b - a)).map (fun i => (20 + 2 * (a + i) + row, 0))
  else (List.range (a - b)).map (fun i => (20 + 2 * (a - 1 - i) + row, 1))

/-- The path of a request from one die to another (Table 9-2); no hop within one die. -/
def fwyPath (src dst : Nat) : List (Nat × Nat) :=
  if src = dst then []
  else if src < 8 then
    if dst < 8 then
      rowPath (src % 2) (src / 2) (dst / 2) ++
        (if src % 2 = dst % 2 then [] else [(16 + dst / 2, if src % 2 = 0 then 0 else 1)])
    else
      let x := nearer (src / 2) (src / 2 + 4) (ringPos (dst - 8))
      (dieLink src x, 0) :: ringPath (ringPos x) (ringPos (dst - 8))
  else if src < 16 then quayPath (src - 8) dst
  else
    -- the destination quay, or the quay of the compute die that each of the net die's quays reaches first
    let na := if src = 16 then 0 else 3
    let nb := if src = 16 then 4 else 7
    let far := fun q => if 8 ≤ dst then ringDist (ringPos q) (ringPos (dst - 8))
      else ringDist (ringPos q) (ringPos (nearer (dst / 2) (dst / 2 + 4) (ringPos q)))
    let x := if far na ≤ far nb then na else nb
    ((if src = 16 then 34 else 36) + (if x = na then 0 else 1), 0) :: quayPath x dst

/-- The same hops in reverse: the path of the response (R238). -/
def revPath (p : List (Nat × Nat)) : List (Nat × Nat) := (p.map (fun h => (h.1, 1 - h.2))).reverse

/-! ### Link state (R250, R251) -/

def State.linkRetired (s : State) (k : Nat) : Nat := s.get .FWY_LINK_STATUS_RETIRED 0 k
/-- Active sub-links: those that are not retired. -/
def State.linkActive (s : State) (k : Nat) : Nat :=
  ((List.range (linkSubs k)).filter (fun i => !bitAt (s.linkRetired k) i)).length
/-- Both ends of a link have trained. -/
def State.linkTrained (s : State) (k : Nat) : Bool := s.fwy.trained.contains (linkEnds k).1 && s.fwy.trained.contains (linkEnds k).2
/-- A link is up when both its ends have trained, it has not gone down since, and a sub-link is active. -/
def State.linkUp (s : State) (k : Nat) : Bool := s.linkTrained k && !s.fwy.down.contains k && decide (0 < s.linkActive k)
def State.linksUp (s : State) : Nat := ((List.range 38).filter (fun k => s.linkUp k)).length

/-- The reset domain of a die of fairway (Table 3-1). -/
def fwyDomain (d : Nat) : Nat := if d < 8 then 8 + d else if d < 16 then 16 + (d - 8) else 6

/-- `FWY_STATUS.DOWN`: a link of two released ends is down. -/
def State.linkDownSeen (s : State) : Bool :=
  (List.range 38).any (fun k => let (a, b) := linkEnds k
    !s.inReset (fwyDomain a) && !s.inReset (fwyDomain b) && !s.linkUp k)

/-- Does a path cross no link that is down. -/
def State.pathUp (s : State) (p : List (Nat × Nat)) : Bool := p.all (fun h => s.linkUp h.1)

/-! ### Flits (R237) and counters (R255) -/

def State.fwyCount (s : State) (f : Fld) (n item : Nat) : State := s.count .FWY_CNT_CTRL_FREEZE f n 0 item

/-- Payload flits of one request of `n` bytes. -/
def dataFlits (n : Nat) : Nat := if n ≤ 128 then 1 else 2

/-- Send `n` flits of berth `b` over a hop. -/
def State.sendFlits (s : State) (b : Nat) (h : Nat × Nat) (n : Nat) : State :=
  let i := h.1 * 2 + h.2
  let s := (s.fwyCount .FWY_LINK_FLITS_COUNT n i).fwyCount .FWY_LINK_BERTH_COUNT n (i * 8 + b)
  let w := ((s.fwy.winFlits.find? (fun e => e.1 == i)).map (·.2)).getD 0
  { s with fwy := { s.fwy with winFlits := (i, w + n) :: s.fwy.winFlits.filter (fun e => e.1 != i) } }

/-- The counters of a link, which its training and CLEAR clear. -/
def fwyLinkFlds : List Fld :=
  [.FWY_LINK_FLITS_COUNT, .FWY_LINK_CREDIT_STALL_COUNT, .FWY_LINK_WAIT_MAX_CYCLES, .FWY_LINK_RETRY_COUNT,
   .FWY_LINK_TIMEOUT_COUNT]

/-- Clear the counters of one link. -/
def State.clearLink (s : State) (k : Nat) : State :=
  { s with regs := s.regs.filter (fun e =>
      !((fwyLinkFlds.contains e.1.f && e.1.item / 2 == k) || (e.1.f == .FWY_LINK_BERTH_COUNT && e.1.item / 16 == k))) }

/-- The slots that a link offers change now: the active sub-links until now are kept for the window's count (R254). -/
def State.linkNote (s : State) (k : Nat) : State :=
  { s with fwy := { s.fwy with winActive := s.fwy.winActive ++ [(k, s.now, if s.linkUp k then s.linkActive k else 0)] } }

/-- The fabric port of a die trains, at the release of its reset domain: its links come back with every sub-link, their
counters cleared (R250, R255); a link that had gone down returns to service (R521). -/
def State.fwyTrain (s : State) (die : Nat) : State :=
  let mine := (List.range 38).filter (fun k => (linkEnds k).1 == die || (linkEnds k).2 == die)
  let s := mine.foldl State.linkNote s
  let s := { s with fwy := { s.fwy with trained := if s.fwy.trained.contains die then s.fwy.trained else die :: s.fwy.trained } }
  mine.foldl (fun s k =>
    let s := (s.clearLink k).set .FWY_LINK_STATUS_RETIRED 0 0 k
    let keep := fun (e : Nat × Nat × Nat × Nat) => e.1 != k
    let s := { s with fwy := { s.fwy with
      down := s.fwy.down.filter (· != k), replays := s.fwy.replays.filter keep, consec := s.fwy.consec.filter keep
      retryRec := s.fwy.retryRec.filter (fun e => e.1 != k) } }
    if s.linkUp k then s.endLatch 0x09 k else s) s

/-! ### Windows of berth addresses (Table 8-2), as far as routes need them -/

/-- The die of fairway that serves a berth address: a quay, a compute die; none outside every window. -/
def addrDie (a : Nat) : Option Nat :=
  if a < 2 ^ 39 then some (8 + a / 2 ^ 35 / 2)
  else if a < 2 ^ 39 + 8 * 2 ^ 30 then some (8 + (a - 2 ^ 39) / 2 ^ 30)
  else if 0x9000000000 ≤ a ∧ a < 0x9000000000 + 8 * 2 ^ 28 then some ((a - 0x9000000000) / 2 ^ 28)
  else if 0xA000000000 ≤ a ∧ a < 0xA000000000 + 8 * 2 ^ 28 then some ((a - 0xA000000000) / 2 ^ 28)
  else none

/-- The path between a requester and the die that serves an address. -/
def addrPath (src a : Nat) : List (Nat × Nat) := ((addrDie a).map (fun d => fwyPath src d)).getD []

/-- Source and destination addresses of the rows of a tug descriptor on repeat `rep` (R217, R218). -/
def tRows (e : OpEntry) : Nat := nth e 0 / 65536 + 1
def tLines (e : OpEntry) : Nat := nth e 1 % 2 ^ 18
def tSrc (e : OpEntry) (rep m : Nat) : Nat :=
  nth e 2 + nth e 3 % 65536 * 2 ^ 32 + rep * (nth e 3 / 65536) * 64 + m * nth e 6
def tDst (e : OpEntry) (rep m : Nat) : Nat :=
  nth e 4 + nth e 5 % 65536 * 2 ^ 32 + rep * (nth e 5 / 65536) * 64 + m * nth e 7
def tOp (e : OpEntry) : Nat := nth e 0 % 16
def tNoAlloc (e : OpEntry) : Bool := bitAt (nth e 0) 4

/-- Does a tug's descriptor read its source rows, write its destination rows. -/
def tReads (e : OpEntry) : Bool := tOp e == 0 || tOp e == 2
def tWrites (e : OpEntry) : Bool := decide (tOp e ≤ 1)

/-! ### Requests and packets (R220, R222, R237, R239, R242 to R245) -/

/-- The status of a transfer in which causes meet: the highest code, but 0x1F over all others and 0x16 over 0x19 (R222). -/
def statusOf (cs : List Nat) : Nat :=
  if cs.contains 0x1F then 0x1F else (if cs.contains 0x16 then cs.filter (· != 0x19) else cs).foldl max 0

/-- Change a run of a tug, a row of a gather. -/
def State.modRun (s : State) (q t n : Nat) (f : TugRun → TugRun) : State :=
  s.modQuay (Fin.ofNat 8 q) (fun y =>
    let x := y.tugs[(Fin.ofNat 32 t : Fin 32)]
    { y with tugs := y.tugs.set (Fin.ofNat 32 t : Fin 32) { x with runs := x.runs.map (fun r => if r.num = n then f r else r) } })
def State.modRow (s : State) (d g i : Nat) (f : GRow → GRow) : State :=
  s.modDie (Fin.ofNat 8 d) (fun x => { x with gathers := x.gathers.map (fun y =>
    if y.id = g then { y with rows := y.rows.modify i f } else y) })

/-- Request `k` of a requester completes, with a cause of Table 8-4 or 0. -/
def State.reqDone (s : State) (r : Requester) (k code : Nat) : State :=
  match r with
  | .tug q t n => s.modRun q t n (fun x =>
      { x with out := x.out.filter (fun e => e.k != k), codes := if code = 0 then x.codes else code :: x.codes })
  | .row d g i => s.modRow d g i (fun y => { y with st := .done code })
  | .segment n => { s with fwy := { s.fwy with segs := s.fwy.segs.filter (fun e => e.n != n) } }

def State.dropPacket (s : State) (p : Packet) : State := { s with fwy := { s.fwy with packets := s.fwy.packets.erase p } }

/-- Packets and waiting accesses of requests that have ended, or whose requester has, leave the module (R252). -/
def State.purge (s : State) (mine : Requester → Nat → Bool) : State :=
  let s : State := { s with fwy := { s.fwy with packets := s.fwy.packets.filter (fun p => !mine p.req p.k) } }
  forFin 8 s (fun s d =>
    if (s.die d).ext.isEmpty && (s.die d).extDone.isEmpty then s
    else s.modDie d (fun x =>
      { x with
        ext := x.ext.filter (fun e => match e.work with
          | .tug r k _ => !mine r k
          | _ => true)
        extDone := x.extDone.filter (fun e => !mine e.1 e.2.1) }))

/-! ### Arbitration (R239, R243 to R248) -/

def ringLink (k : Nat) : Bool := decide (26 ≤ k) && decide (k ≤ 33)

/-- A packet after it has crossed a hop: the ring channel changes at link 33 (R239). -/
def Packet.cross (p : Packet) (h : Nat × Nat) : Packet := { p with ring2 := p.ring2 || h.1 == 33 }

/-- The virtual channel of a packet in the buffer at the far end of a link: requests and responses apart, two of each on the quay
ring (R239). -/
def Packet.vc (p : Packet) (link : Nat) : Nat := (if p.resp then 1 else 0) + (if ringLink link && p.ring2 then 2 else 0)

/-- Flit slots that a berth holds in a buffer. -/
def State.bufUse (s : State) (dir vc b : Nat) : Nat :=
  s.fwy.packets.foldl (fun n p => if p.buf = some dir ∧ p.vc (dir / 2) = vc ∧ p.berth = b then n + p.flits else n) 0

/-- The buffer at the far end of a hop has credit for a packet: the berth then holds at most 40 of its 128 slots, 8 of them reserved,
and all berths together at most the 64 shared ones (R245). -/
def State.credit (s : State) (p : Packet) (h : Nat × Nat) : Bool :=
  let dir := h.1 * 2 + h.2
  let vc := (p.cross h).vc h.1
  let use := fun b => s.bufUse dir vc b + (if b = p.berth then p.flits else 0)
  decide (use p.berth ≤ 40) && decide (((List.range 8).map (fun b => use b - 8)).sum ≤ 64)

/-- Packets whose next hop is direction `dir` and which may leave in this cycle; the eligible ones of them (R243). -/
def State.atArb (s : State) (dir : Nat) : List Packet :=
  s.fwy.packets.filter (fun p => (p.hops.head?.any (fun h => h.1 * 2 + h.2 == dir)) && decide (p.ready ≤ s.fwy.cycle))
def State.eligible (s : State) (dir : Nat) : List Packet :=
  (s.atArb dir).filter (fun p => p.hops.head?.any (fun h => s.credit p h))

/-- The oldest packet of a berth, by age stamps within a window of 2^19 cycles; of equal stamps, which the spec does not order, the
first in the model's list (R244, log entry 61). -/
def oldestOf (cycle b : Nat) (ps : List Packet) : Option Packet :=
  let age := fun (p : Packet) => (cycle - p.stamp) % 2 ^ 19
  (ps.filter (fun p => p.berth == b)).foldl (fun a p => match a with
    | none => some p
    | some x => if age x < age p then some p else some x) none

def State.arb (s : State) (dir : Nat) : Arbiter := (s.fwy.arbs.find? (fun a => a.dir == dir)).getD { dir := dir }
def State.setArb (s : State) (a : Arbiter) : State :=
  { s with fwy := { s.fwy with arbs := a :: s.fwy.arbs.filter (fun x => x.dir != a.dir) } }

/-- The berth whose turn it is among those with an eligible packet, ascending: the visited one until it has used its allowance, then the
next in the round after the one served last; a new round takes the weights as they stand at its start (R243, R247). -/
def Arbiter.turn (a : Arbiter) (ws bs : List Nat) : Option Nat × Arbiter :=
  let goOn := match a.visit with
    | some (b, used) => decide (used < nth a.weights b) && bs.contains b
    | none => false
  if goOn then (a.visit.map (·.1), a)
  else
    let a := match a.visit with
      | some (b, _) => { a with visit := none, last := b, visited := b :: a.visited }
      | none => a
    let order := ((List.range 8).map (fun i => (a.last + 1 + i) % 8)).filter (fun b => bs.contains b)
    match order.find? (fun b => !a.visited.contains b), order with
    | some b, _ => (some b, { a with visit := some (b, 0), weights := if a.visited.isEmpty then ws else a.weights })
    | none, b :: _ => (some b, { a with visit := some (b, 0), visited := [], weights := ws })
    | none, [] => (none, { a with visited := [] })

def State.berthWeights (s : State) : List Nat := (List.range 8).map (fun b => s.get .FWY_BERTH_WEIGHT_WEIGHT 0 b)

/-- An arbiter fills `slots` flit slots of this cycle, at most `fuel` packets; a packet of two flits may use a slot of the next cycle.
The packet reaches the next die 10 cycles later, its last flit a cycle after that (R242, R243). -/
def State.arbSend (dir : Nat) : (fuel slots : Nat) → State → State
  | 0, _, s => s
  | fuel + 1, slots, s =>
    if slots = 0 then s
    else
      let ps := s.eligible dir
      let (turn, a) := (s.arb dir).turn s.berthWeights (ps.map (·.berth))
      match turn.bind (fun b => oldestOf s.fwy.cycle b ps) with
      | none => s.setArb a
      | some p =>
        match p.hops with
        | [] => s.setArb a
        | h :: hs =>
          let moved : Packet := { p.cross h with hops := hs, buf := some dir, ready := s.fwy.cycle + 10 + (p.flits - 1) }
          let s := s.setArb { a with
            visit := a.visit.map (fun v => (v.1, v.2 + p.flits)), debt := p.flits - slots
            waits := a.waits.filter (fun w => w.1 != p.berth) }
          let s := (s.sendFlits p.berth h p.flits)
          let s : State := { s with fwy := { s.fwy with packets := s.fwy.packets.map (fun x => if x = p then moved else x) } }
          State.arbSend dir fuel (slots - p.flits) s

/-- One fabric cycle of an arbiter. Packets before a link that is down complete with status 0x18 (R251); the others take the slots of
the active sub-links, and those that wait are counted (R243, R255). -/
def State.arbCycle (s : State) (dir : Nat) : State :=
  if !s.linkUp (dir / 2) then
    (s.atArb dir).foldl (fun s p => (s.dropPacket p).reqDone p.req p.k 0x18) s
  else
    let n := s.linkActive (dir / 2)
    let a := s.arb dir
    let s := s.setArb { a with debt := a.debt - n }
    let s := State.arbSend dir (n - a.debt) (n - a.debt) s
    let left := s.eligible dir
    let s := if left.length < (s.atArb dir).length then s.fwyCount .FWY_LINK_CREDIT_STALL_COUNT 1 dir else s
    let a := s.arb dir
    let ws := (left.map (·.berth)).eraseDups.map (fun b => (b, ((a.waits.find? (fun w => w.1 == b)).map (·.2)).getD 0 + 1))
    let s := s.setArb { a with waits := ws }
    let top := ws.foldl (fun m w => max m w.2) (s.get .FWY_LINK_WAIT_MAX_CYCLES 0 dir)
    if s.bit .FWY_CNT_CTRL_FREEZE then s else s.set .FWY_LINK_WAIT_MAX_CYCLES (min 65535 top) 0 dir

/-! ### The commands -/

/-- A link goes down: event 0x0903, and every request held that is routed over it completes with status 0x18 (R251). -/
def State.takeDown (s : State) (k : Nat) : State :=
  if s.fwy.down.contains k then s
  else
    let s := s.linkNote k
    let s : State := { s with fwy := { s.fwy with down := k :: s.fwy.down } }
    let held := s.fwy.packets.filter (fun p => p.hops.any (fun h => h.1 == k))
    let s := held.foldl (fun s p => (s.dropPacket p).reqDone p.req p.k 0x18) s
    let s := if s.linksUp = 0 then s.setReady rFWY false else s
    s.raise 0x0903 k

/-- A die of fairway loses its fabric clock or its rail: every link of it goes down (R241, R251). -/
def State.fabricLost (s : State) (die : Nat) : State :=
  ((List.range 38).filter (fun k => ((linkEnds k).1 == die || (linkEnds k).2 == die) && s.linkUp k)).foldl State.takeDown s

/-- SUBLINK_RETIRE: a sub-link retires, event 0x0902; with the last one the link is down (R250, R251). -/
def State.retireSub (s : State) (k sub : Nat) : State :=
  if linkSubs k ≤ sub ∨ bitAt (s.linkRetired k) sub then s
  else
    let s := ((s.linkNote k).set .FWY_LINK_STATUS_RETIRED (putBit (s.linkRetired k) sub true) 0 k).raise 0x0902 k
    if s.linkActive k = 0 then s.takeDown k else s
def execSublinkRetire (link : Fin 38) (sub : Fin 8) (s : State) : Host.Outcome State Fault Refusal :=
  .next (s.retireSub link sub)

/-- FLIT_REPLAY: a flit that failed its check is replayed: counted, event 0x0901 for each 1,024 on a link, and the sub-link
retires on more than 64 replays in 1 ms, or when one flit has failed 8 consecutive replays, which its ninth tells (R249, R250). Replays of one
sub-link and direction within 64 fabric cycles of one another are replays of one flit (log entry 10). -/
def execFlitReplay (link : Fin 38) (dir : Fin 2) (sub : Fin 8) (s : State) : Host.Outcome State Fault Refusal :=
  .next <|
    if !s.linkUp link || decide (linkSubs link ≤ sub.val) || bitAt (s.linkRetired link) sub then s
    else
      let s := s.fwyCount .FWY_LINK_RETRY_COUNT 1 (link.val * 2 + dir.val)
      let here := fun (e : Nat × Nat × Nat × Nat) => e.1 == link.val && e.2.1 == sub.val
      let last := (s.fwy.replays.filter (fun e => here e && e.2.2.1 == dir.val)).head?.map (fun e => e.2.2.2)
      let row := match last with
        | some t => decide (s.now < t + 26667)
        | none => false
      let old : Nat := ((s.fwy.consec.find? (fun e => here e && e.2.2.1 == dir.val)).map (fun e => e.2.2.2)).getD 0
      let n : Nat := if row then old + 1 else 1
      let reps := (link.val, sub.val, dir.val, s.now) :: s.fwy.replays.filter (fun e => decide (s.now < e.2.2.2 + ms))
      let rec_ := (((s.fwy.retryRec.find? (fun e => e.1 == link.val)).map (·.2)).getD 0) + 1
      let s := { s with fwy := { s.fwy with
        replays := reps
        consec := (link.val, sub.val, dir.val, n) :: s.fwy.consec.filter (fun e => !(here e && e.2.2.1 == dir.val))
        retryRec := (link.val, rec_ % 1024) :: s.fwy.retryRec.filter (fun e => e.1 != link.val) } }
      let s := if rec_ = 1024 then s.raise 0x0901 link else s
      if decide (64 < (reps.filter here).length) || decide (9 ≤ n) then s.retireSub link sub else s

/-- LINK_DOWN: a link whose last sub-link retired, or that lost either end, is down (R241, R251). -/
def execLinkDown (link : Fin 38) (s : State) : Host.Outcome State Fault Refusal := .next (s.takeDown link)

/-- A request has timed out: counted on every link direction of its path, event 0x0904 for the first in each 1 ms (R252). -/
def State.timedOut (s : State) (path : List (Nat × Nat)) : State :=
  let s := path.eraseDups.foldl (fun s h => s.fwyCount .FWY_LINK_TIMEOUT_COUNT 1 (h.1 * 2 + h.2)) s
  let due := match s.fwy.timeoutAt with
    | none => true
    | some t => decide (t / ms < s.now / ms)
  if due then { s with fwy := { s.fwy with timeoutAt := some s.now } }.raise 0x0904 else s

/-- A 1 ms window of the ports ends: a port counts it when a sub-port sent at 95% of its rate or more (Table 10-11). -/
def State.netSat (s : State) : State :=
  let full := fun (p : Fin 2) => s.net.winBytes.any (fun e =>
    e.1 == p.val && decide (95 * (200000000 / 2 ^ s.net.modeNow[p]) ≤ 100 * e.2.2))
  let s := forFin 2 s (fun s (p : Fin 2) => if full p then s.netCount .NET_P_SAT_COUNT 1 p else s)
  { s with net := { s.net with winBytes := [] } }

/-- Active sub-links of a link times ps, over a window of 1 ms from its start with the changes that were noted within it (R254). -/
def State.offered (s : State) (k : Nat) : Nat :=
  let (n, at_) := s.fwy.winActive.foldl (fun (a : Nat × Nat) e =>
    if e.1 = k then (let t := min ms (e.2.1 - s.fwy.winAt); (a.1 + e.2.2 * (t - a.2), max t a.2)) else a) (0, 0)
  n + (if s.linkUp k then s.linkActive k else 0) * (ms - at_)

/-- SATURATION_WINDOW: a 1 ms window ends, and each link shows whether either direction sent flits in at least 95% of the slots
that its active sub-links offered in it, 2.4 for each ns (R254); so do the ports. -/
def execSaturationWindow (s : State) : Host.Outcome State Fault Refusal :=
  .next <|
    let sat := fun (k : Nat) => [0, 1].any (fun dir =>
      let n := ((s.fwy.winFlits.find? (fun e => e.1 == k * 2 + dir)).map (·.2)).getD 0
      decide (0 < s.offered k) && decide (95 * s.offered k * 24 ≤ 100 * n * 10000))
    let w := ofBits ((List.range 38).map sat)
    let s := (s.set .FWY_SAT_LO_LINK w).set .FWY_SAT_HI_LINK (w / 2 ^ 32)
    { s with fwy := { s.fwy with winFlits := [], winActive := [], winAt := s.now } }.netSat

/-- FWY_CNT_CTRL.CLEAR (R255). -/
def State.fwyClear (s : State) : State := s.clearAll (.FWY_CYCLES_COUNT :: .FWY_LINK_BERTH_COUNT :: fwyLinkFlds)

end Sys2Proof.Machine
end

