-- ==== Sys2Proof/Machine/Memory.lean ====
section
/-! DEFINITION. Memory beyond a die's own stream (chapter 8): the berth address space, quay scratch and cache, HBM, tugs,
gathers and scatters, HBM training, errors and scrubbing. -/

namespace Sys2Proof.Machine

/-! ### The berth address space (R207 to R210) -/

/-- Where a berth address lies: HBM byte of a stack, scratch byte of a quay, die unit byte, tile byte. -/
inductive Loc where
  | hbm (stack off : Nat)
  | scratch (quay off : Nat)
  | die (n off : Nat)
  | tile (n t off : Nat)
  deriving DecidableEq, Repr

/-- Translate `len` bytes at a berth address against a berth's committed windows; none unless they lie wholly inside one
window unit (R210). -/
def BerthDesc.translate (y : BerthDesc) (a len : Nat) : Option Loc :=
  if a < 2 ^ 39 then
    let k := a / 2 ^ 35
    let (base, size) := (y.hbm[k]?).getD (0, 0)
    if a % 2 ^ 35 + len ≤ size * 2 ^ 30 then some (.hbm k (base * 2 ^ 30 + a % 2 ^ 35)) else none
  else if a < 2 ^ 39 + 8 * 2 ^ 30 then
    let q := (a - 2 ^ 39) / 2 ^ 30
    let size := ((y.qsram[q]?).getD (0, 0)).2
    if bitAt y.quayMask q && decide (a % 2 ^ 30 + len ≤ size * MiB) then some (.scratch q (a % 2 ^ 30)) else none
  else if 0x9000000000 ≤ a ∧ a < 0x9000000000 + 8 * 2 ^ 28 then
    let n := (a - 0x9000000000) / 2 ^ 28
    if bitAt y.dieMask n && decide (a % 2 ^ 28 + len ≤ 104 * MiB) then some (.die n (a % 2 ^ 28)) else none
  else if 0xA000000000 ≤ a ∧ a < 0xA000000000 + 8 * 2 ^ 28 then
    let n := (a - 0xA000000000) / 2 ^ 28
    let t := a % 2 ^ 28 / 2 ^ 21
    if bitAt y.dieMask n && decide (t < 96) && decide (a % 2 ^ 21 + len ≤ 2 ^ 21) then some (.tile n t (a % 2 ^ 21)) else none
  else none

def State.translate (s : State) (b : Fin 8) (a len : Nat) : Option Loc := (s.berth b).desc.bind (fun y => y.translate a len)

/-- The physical byte of a location, for a berth. -/
def Loc.phys (b : Nat) : Loc → Nat
  | .hbm k o => hbmBase k + o
  | .scratch q o => scratchBase q b + o
  | .die n o => if o < 96 * MiB then poolBase n + o else bstoreBase n + (o - 96 * MiB)
  | .tile n t o => tileBase n t + o

/-- The die of fairway that serves a location. -/
def Loc.server : Loc → Nat
  | .hbm k _ => 8 + k / 2
  | .scratch q _ => 8 + q
  | .die n _ => n
  | .tile n _ _ => n

/-- The quay of a location in HBM or scratch; the die of one in a die unit or tile. -/
def Loc.quay? : Loc → Option Nat
  | .hbm k _ => some (k / 2)
  | .scratch q _ => some q
  | _ => none
def Loc.die? : Loc → Option Nat
  | .die n _ => some n
  | .tile n _ _ => some n
  | _ => none

/-! ### HBM and the quay cache (R213, R214, R234) -/

/-- A quay counter, held by the quay's FREEZE. -/
def State.qdcCount (s : State) (q : Nat) (f : Fld) (n : Nat) : State := s.count .QDC_CNT_CTRL_FREEZE f n q

/-- Bytes read from and written to a stack; its data bus is busy one CK cycle for each 512 bytes, which is 819.2 GB/s at 1.6 GHz
(R206, R233, log entry 11). -/
def State.hbmTraffic (s : State) (stack : Nat) (wr : Bool) (n : Nat) : State :=
  let q := stack / 2
  let odd := stack % 2 == 1
  let s := s.qdcCount q (match odd, wr with
    | false, false => .QDC_HBM0_RD_COUNT
    | false, true => .QDC_HBM0_WR_COUNT
    | true, false => .QDC_HBM1_RD_COUNT
    | true, true => .QDC_HBM1_WR_COUNT) n
  let qq : Fin 8 := Fin.ofNat 8 q
  let i : Fin 2 := Fin.ofNat 2 stack
  let rest := (s.quay qq).busyRest[i] + n
  let s := s.modQuay qq (fun y => { y with busyRest := y.busyRest.set i (rest % 512) })
  if rest < 512 then s else s.qdcCount q (if odd then .QDC_HBM1_BUSY_COUNT else .QDC_HBM0_BUSY_COUNT) (rest / 512)

/-- CACHE_MIB of a berth on a quay (R183). -/
def State.cacheMib (s : State) (b q : Nat) : Nat :=
  (((s.berth (Fin.ofNat 8 b)).desc.bind (fun y => y.qsram[q]?)).getD (0, 0)).1

/-- The cache line of a berth that holds a stack's line. -/
def QuaySt.line? (y : QuaySt) (b stack line : Nat) : Option CacheLine :=
  y.cache.find? (fun l => l.berth == b && l.stack == stack && l.line == line)

/-- Put a line at the front of a quay's cache in place of the one with its identity. -/
def QuaySt.putLine (y : QuaySt) (l : CacheLine) : QuaySt :=
  { y with cache := l :: y.cache.filter (fun x => !(x.berth == l.berth && x.stack == l.stack && x.line == l.line)) }

/-- Write the dirty sectors of a line back to its stack. -/
def State.writeBack (s : State) (q : Nat) (l : CacheLine) : State :=
  (List.range 4).foldl (fun s i => match l.sectors[i]? with
    | some (true, true, bs) =>
      (s.setBytes (hbmBase (2 * q + l.stack) + l.line * 256 + i * 64) bs).hbmTraffic (2 * q + l.stack) true 64
    | _ => s) s

/-- Make room for a line in its set: with 16 lines there, one is evicted. Pseudo-LRU does not fix which, so it is a free
choice (R213, log entry 2). -/
def State.makeRoom (s : State) (q b stack line : Nat) : State :=
  let qq : Fin 8 := Fin.ofNat 8 q
  let sets := s.cacheMib b q * 256
  let set := fun (st ln : Nat) => Config.cacheSet sets st ln % sets
  let mine := (s.quay qq).cache.filter (fun l => l.berth == b && set l.stack l.line == set stack line)
  if mine.length < 16 then s
  else
    let (n, s) := s.freeNat 8
    match mine[n % mine.length]? with
    | none => s
    | some v => (s.writeBack q v).modQuay qq (fun y => { y with cache := y.cache.filter (· != v) })

/-- Read a 64-byte sector of a stack for a berth, through its cache (R213). -/
def State.hbmRead (s : State) (b stack off : Nat) (noAlloc : Bool) : List Nat × State :=
  let q := stack / 2
  let qq : Fin 8 := Fin.ofNat 8 q
  let line := off / 256
  let sec := off / 64 % 4
  let base := hbmBase stack + line * 256
  if s.cacheMib b q = 0 then (s.bytes (base + sec * 64) 64, s.hbmTraffic stack false 64)
  else
    let cur := (s.quay qq).line? b (stack % 2) line
    match cur.bind (fun l => l.sectors[sec]?) with
    | some (true, _, bs) =>
      (bs, (s.qdcCount q .QDC_CACHE_HIT_COUNT 1).modQuay qq (fun y => match cur with | some l => y.putLine l | none => y))
    | _ =>
      let s := s.qdcCount q .QDC_CACHE_MISS_COUNT 1
      if noAlloc then (s.bytes (base + sec * 64) 64, s.hbmTraffic stack false 64)
      else
        let s := if cur.isNone then s.makeRoom q b (stack % 2) line else s
        let old := (cur.map (·.sectors)).getD (List.replicate 4 (false, false, []))
        let secs := (List.range 4).map (fun i => match old[i]? with
          | some (true, d, bs) => (true, d, bs)
          | _ => (true, false, s.bytes (base + i * 64) 64))
        let n := (old.filter (fun x => !x.1)).length
        let s := (s.hbmTraffic stack false (64 * n)).modQuay qq (fun y => y.putLine ⟨b, stack % 2, line, secs⟩)
        (s.bytes (base + sec * 64) 64, s)

/-- Write a 64-byte sector of a stack for a berth, through its cache (R213). -/
def State.hbmWrite (s : State) (b stack off : Nat) (noAlloc : Bool) (bs : List Nat) : State :=
  let q := stack / 2
  let qq : Fin 8 := Fin.ofNat 8 q
  let line := off / 256
  let sec := off / 64 % 4
  let addr := hbmBase stack + line * 256 + sec * 64
  if s.cacheMib b q = 0 then (s.setBytes addr bs).hbmTraffic stack true 64
  else
    match (s.quay qq).line? b (stack % 2) line with
    | some l => (s.qdcCount q .QDC_CACHE_HIT_COUNT 1).modQuay qq (fun y => y.putLine { l with sectors := l.sectors.set sec (true, true, bs) })
    | none =>
      let s := s.qdcCount q .QDC_CACHE_MISS_COUNT 1
      if noAlloc then (s.setBytes addr bs).hbmTraffic stack true 64
      else
        let s := s.makeRoom q b (stack % 2) line
        s.modQuay qq (fun y => y.putLine
          ⟨b, stack % 2, line, (List.replicate 4 (false, false, ([] : List Nat))).set sec (true, true, bs)⟩)

/-! ### Quay scratch (R198, R212) -/

/-- `n` bytes of a berth's scratch on a quay; those that hold undefined data are free values (log entry 63). -/
def State.scratchRead (s : State) (q b o n : Nat) : List Nat :=
  let bs := s.bytes (scratchBase q b + o) n
  let opn := (s.quay (Fin.ofNat 8 q)).opened.filter (fun e => e.berth == b)
  if opn.isEmpty then bs
  else bs.zipIdx.map (fun v => match opn.find? (fun e => decide (e.lo ≤ o + v.2) && decide (o + v.2 < e.hi)) with
    | some e => Config.free 72 (((e.gen * 8 + q) * 8 + b) * 2 ^ 29 + o + v.2) % 256
    | none => v.1)

/-- Write bytes of a berth's scratch: they hold undefined data no more. -/
def State.scratchWrite (s : State) (q b o : Nat) (bs : List Nat) : State :=
  let cut := fun (e : OpenSram) =>
    if e.berth = b then
      (if e.lo < min e.hi o then [{ e with hi := min e.hi o }] else []) ++
        (if max e.lo (o + bs.length) < e.hi then [{ e with lo := max e.lo (o + bs.length) }] else [])
    else [e]
  let s := if (s.quay (Fin.ofNat 8 q)).opened.isEmpty then s
    else s.modQuay (Fin.ofNat 8 q) (fun y => { y with opened := y.opened.flatMap cut })
  s.setBytes (scratchBase q b + o) bs

/-! ### Lines of any store -/

/-- Read a 64-byte line at a location for a berth. -/
def State.readLine (s : State) (b : Nat) (l : Loc) (noAlloc : Bool) : List Nat × State :=
  match l with
  | .hbm k o => s.hbmRead b k o noAlloc
  | .scratch q o => (s.scratchRead q b o 64, s)
  | l => (s.bytes (l.phys b) 64, s)

/-- Write a 64-byte line at a location for a berth. -/
def State.writeLine (s : State) (b : Nat) (l : Loc) (noAlloc : Bool) (bs : List Nat) : State :=
  match l with
  | .hbm k o => s.hbmWrite b k o noAlloc bs
  | .scratch q o => s.scratchWrite q b o bs
  | l => s.setBytes (l.phys b) bs

/-- A location `n` bytes further on. -/
def Loc.plus (l : Loc) (n : Nat) : Loc :=
  match l with
  | .hbm k o => .hbm k (o + n)
  | .scratch q o => .scratch q (o + n)
  | .die d o => .die d (o + n)
  | .tile d t o => .tile d t (o + n)

/-- `n` free bytes. -/
def State.freeBytes (s : State) (tag : Nat) : Nat → List Nat × State
  | 0 => ([], s)
  | n + 1 =>
    let (v, s) := s.freeNat tag
    let (l, s) := State.freeBytes s tag n
    (v % 256 :: l, s)

/-! ### Serving a location: reset, fairway, training (R222, R232, R251, R572) -/

/-- Is a stack trained (R225). -/
def State.trained (s : State) (stack : Nat) : Bool := s.bit .QDC_HBM_STATUS_TRAINED (stack / 2) (stack % 2)

/-- The status with which a location's own die fails the requests that reach it, 0 if it serves them: reset hold first, then an
untrained stack (R225, R232). -/
def State.storeStatus (s : State) (l : Loc) : Nat :=
  match l with
  | .hbm k _ => if s.inReset (16 + k / 2) then 0x16 else if !s.trained k then 0x19 else 0
  | .scratch q _ => if s.inReset (16 + q) then 0x16 else 0
  | .die n _ => if s.inReset (8 + n) then 0x17 else 0
  | .tile n _ _ => if s.inReset (8 + n) then 0x17 else 0

/-- The status with which requests of a requester to a location fail, 0 if they are served: reset hold of the location's die, then a
link of the path that is down, before which a router answers, then an untrained stack (R232, R251). -/
def State.serveStatus (s : State) (src : Nat) (l : Loc) : Nat :=
  let bad := s.storeStatus l
  if bad ≠ 0x16 ∧ bad ≠ 0x17 ∧ !s.pathUp (fwyPath src l.server) then 0x18 else bad

/-! ### Word errors on requests (R227, R228, R230, Table 8-7) -/

/-- The quay and berth of a scratch byte or of a byte of a berth's cache region, numbered from 0x6000 on like scratch. -/
def sramLoc (addr : Nat) : Option (Nat × Nat × Bool × Nat) :=
  let st := addr / 2 ^ 48
  if 0x4000 ≤ st ∧ st < 0x4040 then some ((st - 0x4000) / 8, (st - 0x4000) % 8, false, addr % 2 ^ 48)
  else if 0x6000 ≤ st ∧ st < 0x6040 then some ((st - 0x6000) / 8, (st - 0x6000) % 8, true, addr % 2 ^ 48)
  else none

/-- The stack and byte of an HBM byte. -/
def hbmLoc (addr : Nat) : Option (Nat × Nat) :=
  let st := addr / 2 ^ 48
  if 0x5000 ≤ st ∧ st < 0x5010 then some (st - 0x5000, addr % 2 ^ 48) else none

/-- Hold the first uncorrectable address of a quay (Table 8-7). -/
def State.ueAddr (s : State) (q off stack : Nat) (sram patrol : Bool) (berth : Nat) (cache : Bool) : State :=
  if s.bit .QDC_UE_ADDR_HI_VALID q then s
  else
    let s := ((s.set .QDC_UE_ADDR_LO_OFFSET off q).set .QDC_UE_ADDR_HI_OFFSET (off / 2 ^ 32) q).set .QDC_UE_ADDR_HI_STACK stack q
    let s := ((s.setBit .QDC_UE_ADDR_HI_WHERE sram q).setBit .QDC_UE_ADDR_HI_SOURCE patrol q).set .QDC_UE_ADDR_HI_BERTH berth q
    (s.setBit .QDC_UE_ADDR_HI_REGION cache q).setBit .QDC_UE_ADDR_HI_VALID true q

/-- The berth whose share holds an HBM byte, 0 if none does. -/
def State.hbmOwner (s : State) (stack off : Nat) : Nat :=
  (((allFin 8).find? (fun b => match (s.berth b).desc.bind (fun y => y.hbm[stack]?) with
    | some (base, size) => decide (base * 2 ^ 30 ≤ off) && decide (off < (base + size) * 2 ^ 30)
    | none => false)).map (·.val)).getD 0

/-- A row of a stack, as corrected errors are counted for 0x0804: the spec gives no row size, so a free function of the
byte. -/
def State.hbmRow (_s : State) (off : Nat) : Nat := Config.hbmRow off

/-- A corrected HBM word: counted, 0x0801 for each 1,024 of a stack, 0x0804 on the 16th of a row in 24 h. `rewrite`: it is to be
written back within 10 µs (R227). -/
def State.hbmCorrected (s : State) (stack off : Nat) (rewrite : Bool) : State :=
  let q : Fin 8 := Fin.ofNat 8 (stack / 2)
  let i : Fin 2 := Fin.ofNat 2 stack
  let s := s.tally .QDC_HBM_ECC_CORR 1 q i
  let n := (s.quay q).corrAt[i] + 1
  let row := s.hbmRow off
  let day := 24 * 3600 * second
  let old := (s.quay q).rowCorr.filter (fun e => decide (s.now < e.2.2 + day))
  let before := (old.filter (fun e => e.1 == i.val && e.2.1 == row)).length
  let s := s.modQuay q (fun y =>
    { y with
      corrAt := y.corrAt.set i (n % 1024)
      rowCorr := (i.val, row, s.now) :: old
      writebacks := if rewrite then y.writebacks ++ [(stack, off / 8 * 8)] else y.writebacks })
  let s := if n = 1024 then s.raise 0x0801 stack else s
  if before = 15 then s.raise 0x0804 stack else s

/-- A word error met by a request of a berth; gives the status it contributes (R222). -/
def State.reqErr (s : State) (berth : Nat) (e : WordErr) : Nat × State :=
  match hbmLoc e.addr with
  | some (k, off) =>
    if e.corrected then (0x01, s.hbmCorrected k off true)
    else
      let s := (s.tally .QDC_HBM_ECC_UNCORR 1 (k / 2) (k % 2)).ueAddr (k / 2) off (k % 2) false false berth false
      (0x13, s.raise 0x0802 (k / 2))
  | none =>
    match sramLoc e.addr with
    | some (q, b, cache, off) =>
      if e.corrected then (0x01, s.tally .QDC_SRAM_ECC_CORR 1 q)
      else
        let s := (s.tally .QDC_SRAM_ECC_UNCORR 1 q).ueAddr q off 0 true false b cache
        (0x14, s.raise 0x0807 q)
    | none =>
      match (allFin 8).find? (fun d : Fin 8 => (dieLoc d.val e.addr).isSome) with
      | some d => (if e.corrected then 0x01 else 0x15, s.dieMemErr d e)
      | none => (0, s)

/-- The word errors of a transfer's reads: those in the rows it reads, each a physical address and a length, or in the cache of
a quay it reads through. -/
def State.reqErrs (s : State) (berth : Nat) (rows : List (Nat × Nat)) (quays : List Nat) (errs : List WordErr) : Nat × State :=
  let mine := errs.filter (fun e => rows.any (fun r => decide (r.1 ≤ e.addr) && decide (e.addr < r.1 + r.2)) ||
    (match sramLoc e.addr with | some (q, b, true, _) => b == berth && quays.contains q | _ => false))
  mine.foldl (fun a e => let (st, s) := a.2.reqErr berth e; (max a.1 st, s)) (0, s)

/-! ### HBM stacks (R225, R226, R572) -/

/-- HBM_TRAINING_DONE: a stack of a released quay ends its training at the rate it trains at (0: 6.4, 1: 5.6, 2: 4.8 Gb/s), which
starts at RATE_MAX and falls after each failure; one that fails at 4.8 stays failed until the next release of its quay (R225,
R572). A readiness bit whose bound was missed stays clear (R84). -/
def execHbmTrainingDone (stack : Fin 16) (rate : Fin 3) (ok : Bool) (s : State) : Host.Outcome State Fault Refusal :=
  .next <|
    let q : Fin 8 := Fin.ofNat 8 (stack.val / 2)
    let i : Fin 2 := Fin.ofNat 2 stack.val
    if s.inReset (16 + q.val) || s.trained stack || (s.quay q).failed[i] || rate.val != (s.quay q).tryRate[i] then s
    else if ok then
      let s := (s.setBit .QDC_HBM_STATUS_TRAINED true q i).set .QDC_HBM_STATUS_RATE rate q i
      let s := (s.setBit .QDC_HBM_STATUS_SELF_REFRESH false q i).endLatch 0x08 stack
      if s.ready (rQD q) && !s.boundMissed (rHBM stack) then s.setReady (rHBM stack) true else s
    else if rate.val < 2 then
      (s.modQuay q (fun y => { y with tryRate := y.tryRate.set i (rate.val + 1) })).raise 0x0805 stack
    else (s.modQuay q (fun y => { y with failed := y.failed.set i true })).raise 0x0806 stack

/-- HBM_STACK_FAILED: a trained stack fails in operation; its ready bit clears and the cache sectors of it that are dirty are
lost (R572). -/
def execHbmStackFailed (stack : Fin 16) (s : State) : Host.Outcome State Fault Refusal :=
  .next <|
    let q : Fin 8 := Fin.ofNat 8 (stack.val / 2)
    let i : Fin 2 := Fin.ofNat 2 stack.val
    if !s.trained stack then s
    else
      let s := (s.setBit .QDC_HBM_STATUS_TRAINED false q i).setReady (rHBM stack) false
      let s := s.modQuay q (fun y =>
        { y with failed := y.failed.set i true, cache := y.cache.filter (fun l => l.stack != i.val)
                 writebacks := y.writebacks.filter (fun w => w.1 != stack.val) })
      s.raise 0x0806 stack

/-- HBM_TEMP_REPORT: a stack's temperature; above 85 °C the refresh doubles, above 95 °C commands halve with event 0x0809, and
each ends 3 °C below (R226). -/
def execHbmTempReport (stack : Fin 16) (temp : BitVec 8) (s : State) : Host.Outcome State Fault Refusal :=
  .next <|
    let q : Fin 8 := Fin.ofNat 8 (stack.val / 2)
    let i : Fin 2 := Fin.ofNat 2 stack.val
    if s.inReset (16 + q.val) || !s.trained stack then s
    else
      let t := temp.toNat
      let hot := decide (85 < t) || (s.bit .QDC_HBM_STATUS_HOT q i && decide (82 < t))
      let was := s.bit .QDC_HBM_STATUS_SLOWED q i
      let slow := decide (95 < t) || (was && decide (92 < t))
      let s := (s.set .QDC_HBM_STATUS_TEMP t q i).setBit .QDC_HBM_STATUS_HOT hot q i
      let s := (s.setBit .QDC_HBM_STATUS_SLOWED slow q i).modQuay q (fun y => { y with doubled := y.doubled.set i hot })
      if slow && !was then s.raise 0x0809 stack else s

/-- HBM_CORRECTED_WRITEBACK: the corrected words of a stack that wait are written back (R227). Memory holds them correct. -/
def execHbmCorrectedWriteback (stack : Fin 16) (s : State) : Host.Outcome State Fault Refusal :=
  .next (s.modQuay (Fin.ofNat 8 (stack.val / 2)) (fun y => { y with writebacks := y.writebacks.filter (fun w => w.1 != stack.val) }))

/-- PATROL_SCRUB: a quay's patrol passes over both its stacks with the word errors it found (R229). -/
def execPatrolScrub (quay : Fin 8) (errs : List WordErr) (s : State) : Host.Outcome State Fault Refusal :=
  .next <|
    if s.inReset (16 + quay.val) || !s.bit .QDC_SCRUB_CFG_ENABLE quay then s
    else
      let s := errs.foldl (fun s e => match hbmLoc e.addr with
        | some (k, off) =>
          if k / 2 ≠ quay.val ∨ !s.trained k then s
          else if e.corrected then s.hbmCorrected k off false
          else
            let s := (s.tally .QDC_HBM_ECC_UNCORR 1 quay (k % 2)).ueAddr quay off (k % 2) false true (s.hbmOwner k off) false
            s.raise 0x0803 quay off (off / 2 ^ 32)
        | none => s) s
      s.set .QDC_SCRUB_PASS_COUNT (s.get .QDC_SCRUB_PASS_COUNT quay + 1) quay

/-- QSRAM_PATROL: the hourly patrol of a quay's SRAM, with the word errors it found (R230). -/
def execQsramPatrol (quay : Fin 8) (errs : List WordErr) (s : State) : Host.Outcome State Fault Refusal :=
  .next <|
    if s.inReset (16 + quay.val) then s
    else errs.foldl (fun s e => match sramLoc e.addr with
      | some (q, b, cache, off) =>
        if q ≠ quay.val then s
        else if e.corrected then s.tally .QDC_SRAM_ECC_CORR 1 q
        else ((s.tally .QDC_SRAM_ECC_UNCORR 1 q).ueAddr q off 0 true true b cache).raise 0x0807 q
      | none => s) s

/-- The counters that `QDC_CNT_CTRL.CLEAR` clears: 0x088 to 0x0C8 (Table 8-7). -/
def qdcCntFlds : List Fld :=
  [.QDC_HBM0_RD_COUNT, .QDC_HBM0_WR_COUNT, .QDC_HBM1_RD_COUNT, .QDC_HBM1_WR_COUNT, .QDC_HBM0_BUSY_COUNT,
   .QDC_HBM1_BUSY_COUNT, .QDC_CACHE_HIT_COUNT, .QDC_CACHE_MISS_COUNT, .QDC_TUG_OUT_MAX_PEAK]

/-- `QDC_CNT_CTRL.CLEAR` (R234). -/
def State.qdcClear (s : State) (q : Fin 8) : State := s.clearCnt qdcCntFlds q

/-! ### Commits and request timeouts -/

/-- Write back and empty a berth's cache on every quay out of reset hold (R215, R232). -/
def State.flushCache (s : State) (b : Fin 8) : State :=
  forFin 8 s (fun s q =>
    let mine := (s.quay q).cache.filter (fun l => l.berth == b.val)
    let s := if s.inReset (16 + q.val) then s else mine.foldl (fun s l => s.writeBack q l) s
    s.modQuay q (fun y => { y with cache := y.cache.filter (fun l => l.berth != b.val) }))

end Sys2Proof.Machine
end

