-- ==== Sys2Proof/Machine/Fabric.lean ====
section
/-! DEFINITION. Requests over fairway (R220, R223, R237 to R248): how the requesters put packets in, what the stores answer, one
cycle of the fabric, and a requester's packets run to their end. -/

namespace Sys2Proof.Machine

/-! ### Tug descriptors as requests (R216 to R220) -/

/-- The berth that owns a tug: the one whose descriptor maps it (R216). -/
def State.tugOwner (s : State) (q : Fin 8) (t : Fin 32) : Option (Fin 8) :=
  (allFin 8).find? (fun b => match (s.berth b).desc with
    | none => false
    | some y => y.chan.any (fun e => e.1 == q.val && e.2 == t.val))

/-- The addresses at which a row of a descriptor is read and written. -/
def rowAddrs (t : TugIssue) (m : Nat) : List Nat :=
  (if tReads t.entry then [tSrc t.entry t.rep m] else []) ++ (if tWrites t.entry then [tDst t.entry t.rep m] else [])

/-- The bytes from offset `off` of a row to the end of its request: none crosses a 256-byte boundary of an address it reads or
writes (R220). -/
def reqSize (addrs : List Nat) (off len : Nat) : Nat := addrs.foldl (fun n a => min n (256 - (a + off) % 256)) (min 256 (len - off))

/-- Has a run issued its last request. -/
def TugRun.allIssued (r : TugRun) : Bool := decide (tRows r.issue.entry ≤ r.row)

/-- A run with its next request issued (R220). -/
def TugRun.issueNext (r : TugRun) : TugRun :=
  let n := tLines r.issue.entry * 64
  let z := reqSize (rowAddrs r.issue r.row) r.off n
  let last := decide (n ≤ r.off + z)
  { r with
    issued := r.issued + 1, out := r.out ++ [⟨r.issued, r.row, r.off, z⟩]
    row := if last then r.row + 1 else r.row, off := if last then 0 else r.off + z }

/-- `QDC_TUG_INFO.OUTSTANDING` (R220). -/
def TugSt.outstanding (x : TugSt) : Nat := x.runs.foldl (fun n r => n + r.out.length) 0

/-- The requests of a whole descriptor, at most: as many as its 64-byte lines. -/
def tugBound (t : TugIssue) : Nat := tRows t.entry * (tLines t.entry + 1)

/-! ### What a request is about -/

/-- A request: its berth, the die of its requester, where it is read and where it is written, and its bytes. -/
structure ReqInfo where
  berth : Fin 8
  home : Nat
  src : Option Loc
  dst : Option Loc
  size : Nat

/-- Request `k` of a requester, none once either has ended. -/
def State.reqInfo (s : State) (r : Requester) (k : Nat) : Option ReqInfo :=
  match r with
  | .tug q t n =>
    let qq : Fin 8 := Fin.ofNat 8 q
    let tt : Fin 32 := Fin.ofNat 32 t
    match s.tugOwner qq tt, ((s.quay qq).tugs[tt].runs.find? (fun x => x.num == n)) with
    | some b, some x => (x.out.find? (fun e => e.k == k)).map (fun e =>
        let at_ := fun a => s.translate b (a + e.off) e.size
        ⟨b, 8 + q, if tReads x.issue.entry then at_ (tSrc x.issue.entry x.issue.rep e.row) else none,
          if tWrites x.issue.entry then at_ (tDst x.issue.entry x.issue.rep e.row) else none, e.size⟩)
    | _, _ => none
  | .row d g i =>
    let dd : Fin 8 := Fin.ofNat 8 d
    match (s.die dd).berth, (s.die dd).gathers.find? (fun y => y.id == g) with
    | some b, some y => (y.rows[i]?).map (fun x =>
        let l := s.translate b x.addr 64
        ⟨b, d, if y.scatter then none else l, if y.scatter then l else none, 64⟩)
    | _, _ => none
  | .segment n => (s.fwy.segs.find? (fun e => e.n == n)).map (fun e =>
      let b : Fin 8 := Fin.ofNat 8 e.berth
      let l := s.translate b e.addr e.size
      ⟨b, e.net, if e.wr then none else l, if e.wr then l else none, e.size⟩)

/-- The die, tile (96 for the pool) and address of a location whose accesses from a tug use a bank or quadrant port (R94, R107); the
bundle store has a port of its own (R209). -/
def Loc.port : Loc → Option (Nat × Nat × Nat)
  | .tile n t o => some (n, t, o)
  | .die n o => if o < 96 * MiB then some (n, 96, o) else none
  | _ => none

/-! ### Injection (R244) -/

/-- A packet enters fairway at its source port, with its age stamp. -/
def State.inject (s : State) (r : Requester) (k : Nat) (b : Fin 8) (hops : List (Nat × Nat)) (resp wr : Bool) (flits code : Nat) :
    State :=
  { s with fwy := { s.fwy with packets := s.fwy.packets ++
      [{ req := r, k := k, resp := resp, wr := wr, berth := b, stamp := s.fwy.cycle, flits := flits, hops := hops
         ready := s.fwy.cycle, code := code }] } }

/-- The write of a request sets out, with its data (R237). -/
def State.writeOut (s : State) (r : Requester) (k : Nat) (i : ReqInfo) : State :=
  match i.dst with
  | some l => s.inject r k i.berth (fwyPath i.home l.server) false true (dataFlits i.size) 0
  | none => s.reqDone r k 0

/-- A request sets out: its read first, if it has one (R237). -/
def State.startReq (s : State) (r : Requester) (k : Nat) : State :=
  match s.reqInfo r k with
  | none => s
  | some i =>
    match i.src with
    | some l => s.inject r k i.berth (fwyPath i.home l.server) false false 1 0
    | none => s.writeOut r k i

/-- The run of a tug whose requests come next: all before it have issued their last (R220). -/
def TugSt.issuing (x : TugSt) : Option TugRun := x.runs.find? (fun r => !r.allIssued)

/-- A run of a tug issues its next request. -/
def State.issueReq (s : State) (q : Fin 8) (t : Fin 32) (r : TugRun) : State :=
  let s := (s.modRun q t r.num TugRun.issueNext).startReq (.tug q t r.num) r.issued
  let n := ((s.quay q).tugs[t]).outstanding
  if s.bit .QDC_CNT_CTRL_FREEZE q || decide (n ≤ s.get .QDC_TUG_OUT_MAX_PEAK q) then s else s.set .QDC_TUG_OUT_MAX_PEAK n q

/-- A tug issues requests until 256 are outstanding (R220, R248). -/
def State.pumpTug (q : Fin 8) (t : Fin 32) : (fuel : Nat) → State → State
  | 0, s => s
  | fuel + 1, s =>
    let x := (s.quay q).tugs[t]
    match x.issuing with
    | some r => if x.outstanding < 256 then State.pumpTug q t fuel (s.issueReq q t r) else s
    | none => s

/-- The code with which a row of a gather fails its check, or 0 (R223). -/
def State.rowCheck (s : State) (b : Fin 8) (r : GRow) : Nat :=
  if r.addr % 64 ≠ 0 then 0x11 else if (s.translate b r.addr 64).isNone then 0x10 else 0

/-- Row `i` of a gather is checked, and its request made (R223). -/
def State.askRow (s : State) (d : Fin 8) (b : Fin 8) (g i : Nat) (r : GRow) : State :=
  let c := s.rowCheck b r
  if c ≠ 0 then s.modRow d g i (fun x => { x with st := .done c })
  else (s.modRow d g i (fun x => { x with st := .outstanding })).startReq (.row d g i) 0

/-- The rows that a die has asked for enter fairway. -/
def State.pumpDie (s : State) (d : Fin 8) : State :=
  match (s.die d).berth with
  | none => s
  | some b => (s.die d).gathers.foldl (fun s g => (g.rows.zipIdx).foldl (fun s e =>
      if e.1.st = .asked then s.askRow d b g.id e.2 e.1 else s) s) s

/-- Has a tug or a die requests to put in. -/
def State.tugReady (s : State) (q : Fin 8) (t : Fin 32) : Bool := ((s.quay q).tugs[t]).issuing.isSome
def DieSt.rowReady (x : DieSt) : Bool := x.gathers.any (fun g => g.rows.any (fun r => r.st == .asked))

/-- Every requester puts in what it may. -/
def State.pump (s : State) : State :=
  let s := forFin 8 s (fun s q => forFin 32 s (fun s t => if s.tugReady q t then State.pumpTug q t 256 s else s))
  forFin 8 s (fun s d => if (s.die d).rowReady then s.pumpDie d else s)

/-! ### Delivery -/

/-- The answer of a store: an acceptance or a failure of one flit, or the data read (R237). -/
def State.answer (s : State) (p : Packet) (i : ReqInfo) (l : Loc) (code : Nat) : State :=
  s.inject p.req p.k i.berth (revPath (fwyPath i.home l.server)) true p.wr (if p.wr ∨ code ≠ 0 then 1 else dataFlits i.size) code

/-- A packet has come to the end of its path. A response ends its request, or the read is followed by the write; a request is answered
by its store, one of a tug to tile SRAM or die pool once each of its lines has had its bank or quadrant (R94, R107); `rush`: without
that wait. -/
def State.deliver (s : State) (p : Packet) (rush : Bool) : State :=
  let gone := s.dropPacket p
  match s.reqInfo p.req p.k with
  | none => gone
  | some i =>
    if p.resp then
      if p.code ≠ 0 ∨ p.wr ∨ i.dst.isNone then gone.reqDone p.req p.k p.code else gone.writeOut p.req p.k i
    else
      match (if p.wr then i.dst else i.src) with
      | none => gone
      | some l =>
        let st := s.storeStatus l
        let clear := fun (s : State) => s.purge (fun r k => r == p.req && k == p.k)
        match p.req, l.port with
        | .tug _ _ _, some (d, tile, addr) =>
          let dd : Fin 8 := Fin.ofNat 8 d
          let n := i.size / 64
          let served := ((s.die dd).extDone.filter (fun e => e.1 == p.req && e.2.1 == p.k)).length
          if st ≠ 0 ∨ rush ∨ (p.atStore ∧ n ≤ served) then (clear gone).answer p i l st
          else if p.atStore then s
          else
            let s : State := { s with fwy := { s.fwy with packets := s.fwy.packets.map (fun x =>
              if x = p then { x with atStore := true } else x) } }
            s.modDie dd (fun x => { x with ext := x.ext ++ (List.range n).map (fun j => ⟨tile, addr + 64 * j, .tug p.req p.k p.wr, 0⟩) })
        | _, _ => gone.answer p i l st

/-! ### Requests at a quay (R335) -/

/-- Requests that have come to a quay and wait for it or one of its stacks. -/
def State.atQuay (s : State) (q : Fin 8) : List Packet :=
  s.fwy.packets.filter (fun p => p.hops.isEmpty && !p.resp && decide (p.ready ≤ s.fwy.cycle) &&
    ((s.reqInfo p.req p.k).bind (fun i => if p.wr then i.dst else i.src)).any (fun l => l.server == 8 + q.val))

/-- A quay serves waiting requests, at most `fuel`, in weighted rounds of the berths and in age order within one: its arbiter is numbered
after those of the links. -/
def State.quayServe (q : Fin 8) : (fuel : Nat) → State → State
  | 0, s => s
  | fuel + 1, s =>
    let ps := s.atQuay q
    let (turn, a) := (s.arb (76 + q.val)).turn s.berthWeights (ps.map (·.berth))
    match turn.bind (fun b => oldestOf s.fwy.cycle b ps) with
    | none => s.setArb a
    | some p => State.quayServe q fuel ((s.setArb { a with visit := a.visit.map (fun v => (v.1, v.2 + 1)) }).deliver p false)

/-- One fabric cycle of a quay: it serves some of the requests that wait, how many the spec does not say (free value 73), at most one
from each of its 32 banks (log entry 69). -/
def State.quayCycle (s : State) (q : Fin 8) : State :=
  if (s.atQuay q).isEmpty then s
  else
    let (v, s) := s.freeNat 73
    State.quayServe q (1 + v % 32) s

/-! ### Fabric cycles -/

/-- One cycle of the fabric: the requesters put in, each arbiter with a packet before it sends, and arrived packets are delivered. -/
def State.fabricCycle (s : State) : State :=
  let s := s.pump
  let dirs := (s.fwy.packets.filterMap (fun p => if p.ready ≤ s.fwy.cycle then p.hops.head?.map (fun h => h.1 * 2 + h.2) else none)).eraseDups
  let s := dirs.foldl State.arbCycle s
  let waiting := (allFin 8).flatMap s.atQuay
  let arrived := s.fwy.packets.filter (fun p => p.hops.isEmpty && decide (p.ready ≤ s.fwy.cycle) && !waiting.contains p)
  let s := forFin 8 s State.quayCycle
  let s := arrived.foldl (fun s p => s.deliver p false) s
  { s with fwy := { s.fwy with cycle := s.fwy.cycle + 1 } }

/-- Nothing is under way in fairway and no requester has a request to make. -/
def State.fabricIdle (s : State) : Bool :=
  s.fwy.packets.isEmpty && (allFin 8).all (fun q => (s.quay q).tugs.all (fun x => x.issuing.isNone)) &&
    (allFin 8).all (fun d => !(s.die d).rowReady)

/-- `n` cycles of the fabric. -/
def State.fabricCycles : Nat → State → State
  | 0, s => s
  | n + 1, s =>
    State.fabricCycles n (if s.fabricIdle then { s with fwy := { s.fwy with cycle := s.fwy.cycle + 1 } } else s.fabricCycle)

/-! ### A requester's packets run to their end -/

/-- A packet crosses every hop that it has left, up to a link that is down. -/
def State.walk (s : State) (p : Packet) : (hops : List (Nat × Nat)) → State × Bool
  | [] => (s, true)
  | h :: hs => if s.linkUp h.1 then State.walk (s.sendFlits p.berth h p.flits) p hs else (s, false)

/-- A packet reaches its end now. -/
def State.rush (s : State) (p : Packet) : State :=
  let (s, ok) := s.walk p p.hops
  if ok then s.deliver p true else (s.dropPacket p).reqDone p.req p.k 0x18

/-- Every packet of one requester, and what follows from it, runs to its end; `more` puts in its next request when none is left. -/
def State.rushAll (r : Requester) (more : State → Option State) : (fuel : Nat) → State → State
  | 0, s => s
  | fuel + 1, s =>
    match s.fwy.packets.find? (fun p => p.req == r) with
    | some p => State.rushAll r more fuel (s.rush p)
    | none => match more s with
      | some s => State.rushAll r more fuel s
      | none => s

/-- A run of a tug is run to its end: its outstanding requests, and with `all` those not yet issued. -/
def State.rushRun (s : State) (q : Fin 8) (t : Fin 32) (n : Nat) (all : Bool) (bound : Nat) : State :=
  State.rushAll (.tug q t n) (fun s =>
    if all then match ((s.quay q).tugs[t]).runs.find? (fun r => r.num == n) with
      | some r => if r.allIssued then none else some (s.issueReq q t r)
      | none => none
    else none) (5 * bound + 1280) s

/-- A piece of a RoCEv2 segment of an operation is asked of fairway by a net die, whose packet buffer holds it until it can be sent
(R248). -/
def State.askSeg (s : State) (b : Fin 8) (net qp op addr size : Nat) (wr : Bool) : State :=
  let n := s.fwy.nextSeg
  let s : State := { s with fwy := { s.fwy with nextSeg := n + 1, segs := s.fwy.segs ++ [⟨n, net, qp, b, addr, size, wr, op⟩] } }
  s.startReq (.segment n) 0

end Sys2Proof.Machine
end

