-- ==== Sys2Proof/Machine/Tugs.lean ====
section
/-! DEFINITION. Tugs, gathers and scatters (R216 to R223): descriptors taken and completed, data moved; the berth caches' flush; and
deadline frames (R170). -/

namespace Sys2Proof.Machine

/-! ### Taking a descriptor (R216, R219) -/

/-- The channels, as 16 n + c, that lead to a tug, in ascending order of die and channel. -/
def State.tugChans (s : State) (q : Fin 8) (t : Fin 32) : List Nat :=
  (List.range 128).filter (fun i => s.chanMap (Fin.ofNat 8 (i / 16)) (i % 16) == some (q, t))

/-- Descriptors of a channel that this tug has started and not completed. -/
def TugSt.startedOf (x : TugSt) (i : Nat) : Nat :=
  (x.runs.filter (fun r => r.die.val == i / 16 && r.issue.chan == i % 16)).length

/-- The next descriptor that a tug would start: of the channel in turn after the last one served. A DEFER descriptor not yet released
holds back those issued after it on its channel (R216, R221; DEDUCED, log entry 62). -/
def State.tugNext (s : State) (q : Fin 8) (t : Fin 32) : Option (Nat × TugIssue) :=
  let x := (s.quay q).tugs[t]
  let cs := s.tugChans q t
  let order := cs.filter (fun i => decide (x.lastChan < i)) ++ cs.filter (fun i => decide (i ≤ x.lastChan))
  (order.filterMap (fun i =>
    let y := s.die (Fin.ofNat 8 (i / 16))
    let l := y.chans.filter (fun c => c.chan == i % 16)
    (l[x.startedOf i]?).bind (fun c =>
      if y.deferred.any (fun u => u.chan == c.chan && decide (u.seq < c.seq)) then none else some (i, c)))).head?

/-- Is a descriptor well formed by Table 8-3. -/
def tugFieldsOk (e : OpEntry) : Bool :=
  let op := tOp e
  decide (op ≤ 2) && bits (nth e 0) 15 5 == 0 && nth e 1 / 2 ^ 18 == 0 && tLines e != 0 &&
    (op != 1 || nth e 3 % 65536 == 0) && (op != 2 || (nth e 4 == 0 && nth e 5 % 65536 == 0))

/-- The rows of a descriptor that it reads and that it writes, as berth addresses. -/
def tugSrcRows (t : TugIssue) : List Nat :=
  if tReads t.entry then (List.range (tRows t.entry)).map (fun m => tSrc t.entry t.rep m) else []
def tugDstRows (t : TugIssue) : List Nat :=
  if tWrites t.entry then (List.range (tRows t.entry)).map (fun m => tDst t.entry t.rep m) else []

/-- The codes of a descriptor's check before it moves data: 0x10 to 0x12, those that apply (R219, R222). -/
def State.tugCheck (s : State) (b : Fin 8) (t : TugIssue) : List Nat :=
  let e := t.entry
  let n := tLines e * 64
  let src := tugSrcRows t
  let dst := tugDstRows t
  (if tugFieldsOk e && (tOp e != 2 || src.all (fun a => decide (a < 2 ^ 39))) then [] else [0x12]) ++
    (if nth e 6 % 64 != 0 || nth e 7 % 64 != 0 || (src ++ dst).any (fun a => a % 64 != 0) then [0x11] else []) ++
    (if (src ++ dst).any (fun a => (s.translate b a n).isNone) then [0x10] else [])

/-- A PREFETCH does nothing where the quay of its source has no cache for the berth (R218). -/
def State.tugIdle (s : State) (b : Fin 8) (t : TugIssue) : Bool :=
  tOp t.entry == 2 && (tugSrcRows t).all (fun a => s.cacheMib b (a / 2 ^ 35 / 2) == 0)

/-- TUG_DESCRIPTOR_START: an owned tug takes its next descriptor, checks it and issues its requests (R216, R219, R220). -/
def execTugDescriptorStart (quay : Fin 8) (tug : Fin 32) (s : State) : Host.Outcome State Fault Refusal :=
  .next <|
    if s.inReset (16 + quay.val) then s
    else match s.tugNext quay tug, s.tugOwner quay tug with
      | some (i, c), some b =>
        let codes := s.tugCheck b c
        let s := s.modQuay quay (fun y =>
          let x := y.tugs[tug]
          let run : TugRun :=
            { die := Fin.ofNat 8 (i / 16), issue := c, codes := codes, num := x.nextRun
              row := if codes.isEmpty && !s.tugIdle b c then 0 else tRows c.entry }
          { y with tugs := y.tugs.set tug { x with runs := x.runs ++ [run], lastChan := i, nextRun := x.nextRun + 1 } })
        State.pumpTug quay tug 256 s
      | _, _ => s

/-! ### Data of a descriptor (R218, R240) -/

/-- Is byte `a` of a row that a COPY writes left undefined: a source row covers it, or two destination rows with unlike data
do (R218, R240). -/
def tugByteOpen (t : TugIssue) (n a : Nat) : Bool :=
  let e := t.entry
  let cover := fun (rows : List Nat) => (rows.filter (fun r => decide (r ≤ a) && decide (a < r + n))).length
  tOp e == 0 && (decide (0 < cover (tugSrcRows t)) || (decide (1 < cover (tugDstRows t)) && nth e 6 != nth e 7))

/-- Bytes of a line with the open ones replaced by free values. -/
def State.openBytes (s : State) (a : Nat) (isOpen : Nat → Bool) : Nat → List Nat → List Nat × State
  | _, [] => ([], s)
  | i, v :: vs =>
    let (v, s) := if isOpen (a + i) then (let (n, s) := s.freeNat 9; (n % 256, s)) else (v, s)
    let (l, s) := State.openBytes s a isOpen (i + 1) vs
    (v :: l, s)

/-- Move the first `upTo` bytes of one row of a descriptor: read each line where it is served, write it where that is served. -/
def State.tugRow (s : State) (q : Nat) (b : Fin 8) (t : TugIssue) (m upTo : Nat) : State :=
  let e := t.entry
  let n := tLines e * 64
  let src := if tReads e then s.translate b (tSrc e t.rep m) n else none
  let dst := if tWrites e then s.translate b (tDst e t.rep m) n else none
  let ok := fun (l : Option Loc) => match l with | some x => s.serveStatus (8 + q) x == 0 | none => true
  if !(ok src && ok dst) then s
  else
    (List.range (upTo / 64)).foldl (fun s i =>
      let (bs, s) := match src with
        | some l => s.readLine b (l.plus (64 * i)) (tNoAlloc e && tOp e != 2)
        | none => ((List.replicate 16 (toLe (nth e 2) 4)).flatten, s)
      match dst with
      | some l =>
        let (bs, s) := s.openBytes (tDst e t.rep m + 64 * i) (tugByteOpen t n) 0 bs
        s.writeLine b (l.plus (64 * i)) (tNoAlloc e) bs
      | none => s) s

/-- Move the rows of a descriptor up to byte `off` of row `row`. -/
def State.tugRows (s : State) (q : Nat) (b : Fin 8) (t : TugIssue) (row off : Nat) : State :=
  let s := (List.range row).foldl (fun s m => s.tugRow q b t m (tLines t.entry * 64)) s
  if off = 0 then s else s.tugRow q b t row off

/-- Leave every destination byte of a descriptor undefined (statuses 0x16 to 0x18 of Table 8-4). -/
def State.tugSpoil (s : State) (b : Fin 8) (t : TugIssue) : State :=
  let n := tLines t.entry * 64
  (tugDstRows t).foldl (fun s a => match s.translate b a n with
    | none => s
    | some l => (List.range (tLines t.entry)).foldl (fun s i =>
        let (bs, s) := s.freeBytes 9 64
        s.writeLine b (l.plus (64 * i)) true bs) s) s

/-! ### Completion (R158, R220, R222) -/

/-- Take a run off its tug and off its channel, with what is left of its requests. -/
def State.tugOff (s : State) (q : Fin 8) (t : Fin 32) (r : TugRun) : State :=
  let s := s.purge (fun x _ => x == .tug q t r.num)
  let s := s.modQuay q (fun y =>
    let x := y.tugs[t]
    { y with tugs := y.tugs.set t { x with runs := x.runs.filter (fun z => z.num != r.num) } })
  s.modDie r.die (fun x => { x with chans := x.chans.filter (fun c => !(c.chan == r.issue.chan && c.seq == r.issue.seq)) })

/-- A running descriptor ends: its requests run to their end, its data moves, and its status goes to its die's tally (R220, R222). -/
def State.tugFinish (s : State) (q : Fin 8) (t : Fin 32) (b : Fin 8) (r : TugRun) (errs : List WordErr) : State :=
  let s := s.rushRun q t r.num true (tugBound r.issue)
  let codes := ((((s.quay q).tugs[t]).runs.find? (fun x => x.num == r.num)).map (·.codes)).getD r.codes
  let st := statusOf codes
  let skip := (0x10 ≤ st ∧ st ≤ 0x12) ∨ s.tugIdle b r.issue
  let n := tLines r.issue.entry * 64
  let locs := if skip then [] else (tugSrcRows r.issue).filterMap (fun a => s.translate b a n)
  let (bad, s) := s.reqErrs b (locs.map (fun l => (l.phys b, n))) (locs.filterMap Loc.quay?) errs
  let s := if skip then s
    else if 0x16 ≤ st ∧ st ≤ 0x18 then s.tugSpoil b r.issue else s.tugRows q b r.issue (tRows r.issue.entry) 0
  (s.tugOff q t r).completeTally r.die r.issue.tally (statusOf [st, bad]) 0

/-- TUG_COMPLETION: the oldest running descriptor of a tug completes (R219, R220, R222). -/
def execTugCompletion (quay : Fin 8) (tug : Fin 32) (errs : List WordErr) (s : State) : Host.Outcome State Fault Refusal :=
  .next <|
    match ((s.quay quay).tugs[tug]).runs, s.tugOwner quay tug with
    | r :: _, some b => s.tugFinish quay tug b r errs
    | _, _ => s

/-! ### Gathers and scatters (R155, R223) -/

/-- Move one row of a gather or scatter. Two rows of one scatter that write one address leave either value there (R240). -/
def State.gatherRow (s : State) (d b : Fin 8) (g : Gather) (r : GRow) : State :=
  match s.translate b r.addr 64 with
  | none => s
  | some l =>
    let tile := tileBase d r.tile + r.sram
    if g.scatter then
      let bs := r.data.getD (s.bytes tile 64)
      let twin := g.rows.any (fun x => x.addr == r.addr && x.data.isSome && x.data != some bs)
      let (bs, s) := if twin then s.freeBytes 9 64 else (bs, s)
      s.writeLine b l false bs
    else
      let (bs, s) := s.readLine b l false
      s.setBytes tile bs

/-- The bytes that a row leaves undefined, cut off by a reset or a link error (Table 8-4). -/
def State.gatherSpoil (s : State) (d b : Fin 8) (g : Gather) (r : GRow) : State :=
  let (bs, s) := s.freeBytes 9 64
  if g.scatter then (match s.translate b r.addr 64 with | some l => s.writeLine b l true bs | none => s)
  else s.setBytes (tileBase d r.tile + r.sram) bs

/-- Complete a gather or scatter of a die with a status. -/
def State.gatherDone (s : State) (d : Fin 8) (g : Gather) (status : Nat) : State :=
  let s := s.purge (fun x _ => match x with
    | .row e i _ => e == d.val && i == g.id
    | _ => false)
  (s.modDie d (fun x => { x with gathers := x.gathers.filter (fun y => y.id != g.id) })).completeTally d g.tally status 1

/-- Rows `rs` of a gather, by position, make their requests if they have not, and all their requests run to their end. -/
def State.rushRows (s : State) (d b : Fin 8) (g : Nat) (rs : List (GRow × Nat)) : State :=
  rs.foldl (fun s e =>
    let s := match e.1.st with
      | .waiting | .asked => s.askRow d b g e.2 e.1
      | _ => s
    State.rushAll (.row d g e.2) (fun _ => none) 8 s) s

/-- The status of a row that has completed. -/
def GRow.code (r : GRow) : Nat := match r.st with | .done c => c | _ => 0

/-- The rows of a gather that pass move, those cut off are left undefined: the causes met, and the state (R223). -/
def State.gatherMove (s : State) (d b : Fin 8) (g : Gather) (errs : List WordErr) : List Nat × State :=
  let s := s.rushRows d b g.id g.rows.zipIdx
  let g := ((s.die d).gathers.find? (fun x => x.id == g.id)).getD g
  let rows := g.rows.filter (fun r => r.code = 0)
  let locs := rows.filterMap (fun r => s.translate b r.addr 64)
  let phys := if g.scatter then rows.map (fun r => (tileBase d r.tile + r.sram, 64)) else locs.map (fun l => (l.phys b, 64))
  let (bad, s) := s.reqErrs b phys (if g.scatter then [] else locs.filterMap Loc.quay?) errs
  let s := g.rows.foldl (fun s r =>
    if r.code = 0 then s.gatherRow d b g r else if 0x16 ≤ r.code ∧ r.code ≤ 0x18 then s.gatherSpoil d b g r else s) s
  (bad :: g.rows.map GRow.code, s)

/-- GATHER_COMPLETION: gather or scatter number `n` of a die completes (R155, R223). -/
def execGatherCompletion (die : Fin 8) (n : Nat) (errs : List WordErr) (s : State) : Host.Outcome State Fault Refusal :=
  .next <|
    match (s.die die).gathers.find? (fun g => g.id == n), (s.die die).berth with
    | some g, some b =>
      let (codes, s) := s.gatherMove die b g errs
      s.gatherDone die g (statusOf codes)
    | _, _ => s

/-! ### Deadline frames (R170) -/

/-- A descriptor of an abandoned frame that its tug runs: its issued requests are accepted, and it completes with status 0x1F
and no tally (R221). -/
def State.abandonRun (s : State) (q : Fin 8) (t : Fin 32) (b : Fin 8) (r : TugRun) : State :=
  let s := s.rushRun q t r.num false 0
  let s := if r.codes.isEmpty && !s.tugIdle b r.issue then s.tugRows q b r.issue r.row r.off else s
  (s.tugOff q t r).errSlot r.die 0x1F r.issue.tally 0

/-- A gather or scatter of an abandoned frame: the requests made are accepted (R221). -/
def State.abandonGather (s : State) (d b : Fin 8) (g : Gather) : State :=
  let g := { g with rows := g.rows.map (fun r => if r.st = .waiting then { r with st := .done 0x1F } else r) }
  let s := s.modDie d (fun x => { x with gathers := x.gathers.map (fun y => if y.id = g.id then g else y) })
  let (_, s) := s.gatherMove d b g []
  let s := s.purge (fun x _ => match x with
    | .row e i _ => e == d.val && i == g.id
    | _ => false)
  (s.modDie d (fun x => { x with gathers := x.gathers.filter (fun y => y.id != g.id) })).errSlot d 0x1F g.tally 1

/-- A frame is abandoned on a die: its DEFERs are dropped, its descriptors, gathers and scatters are cancelled, and it issues no more; a
STOP that waited for the bundle in issue stops it (R170, R171, R221). -/
def State.abandonDie (s : State) (d : Fin 8) : State :=
  let n := (s.die d).frameNo
  let stop := (s.die d).stopAfter
  let s := s.modDie d (fun x => { x with deferred := [] })
  let s := match (s.die d).berth with
    | none => s
    | some b =>
      let s := forFin 8 s (fun s q => forFin 32 s (fun s t =>
        (((s.quay q).tugs[t]).runs.filter (fun r : TugRun => r.die == d && r.issue.frame == n)).foldl (fun s r => s.abandonRun q t b r) s))
      ((s.die d).gathers.filter (fun g : Gather => g.frame == n)).foldl (fun s g => s.abandonGather d b g) s
  let waiting := (s.die d).chans.filter (fun t : TugIssue => t.frame == n)
  let s := s.modDie d (fun x =>
    { x with
      chans := x.chans.filter (fun t => t.frame != n)
      restoring := true, inIssue := false, rep := 0, slotFrom := 0, fetchStall := 0, ended := false, stopAfter := false
      parkAfter := false, rateAfter := false, ballast := [], predNext := [] })
  let s := waiting.foldl (fun s t => s.errSlot d 0x1F t.tally 0) s
  let s := if stop then s.setStream d 0 else s
  (s.strCount d .CDC_FRAME_ABANDON_COUNT 1).raise 0x0602 d

/-- A new frame begins on a die. -/
def State.frameBegin (s : State) (d : Fin 8) : State :=
  let s := s.setBit .CDC_STREAM_STATE_FRAME_WAIT false d
  s.modDie d (fun x => { x with frameDone := false, frameNo := x.frameNo + 1 })

/-- FRAME_BOUNDARY: the frame is complete when every running die of the berth has issued its SYNCPT for it; else it is
abandoned on every die of the berth (R170). -/
def execFrameBoundary (b : Fin 8) (s : State) : Host.Outcome State Fault Refusal :=
  .next <|
    let ds := s.berthDies b
    if !s.framesOn b || ds.any (fun d => (s.die d).restoring) then s
    else if ds.all (fun d => !s.running d || (s.die d).frameDone) then
      ds.foldl (fun s d =>
        let s := s.modDie d DieSt.releaseDefers
        let s := s.modDie d (fun x => { x with snapshot := some (s.snap d) })
        s.frameBegin d) s
    else
      let s := ds.foldl (fun s d => s.abandonDie d) s
      s.modBerth b (fun y => { y with loopWait := true })

/-- Do occupied units of a die still run: operations in flight, resources, scalar results or external accesses. -/
def DieSt.unitsBusy (x : DieSt) : Bool :=
  !x.flights.isEmpty || !x.taken.isEmpty || !x.scoreboard.isEmpty || !x.ldts.isEmpty ||
    x.ext.any (fun e => match e.work with | .tug _ _ _ => false | _ => true)

/-- A bound on the stream cycles in which they run empty. -/
def DieSt.emptyBound (x : DieSt) : Nat :=
  x.flights.foldl (fun n f => max n (f.start + f.span)) 0 + x.taken.foldl (fun n t => max n t.until_) 0 + 300 * (x.ext.length + 1)

/-- Occupied units run empty, for at most `fuel` stream cycles. -/
def State.runEmpty (d : Fin 8) : (fuel : Nat) → State → State
  | 0, s => s
  | fuel + 1, s => if (s.die d).unitsBusy then State.runEmpty d fuel (s.streamCycle d []) else s

/-- FRAME_RESTORED: every die of the berth has let its units run empty and restored its snapshot, and the next frame begins (R170). -/
def execFrameRestored (b : Fin 8) (s : State) : Host.Outcome State Fault Refusal :=
  .next <|
    if !(s.berth b).loopWait then s
    else
      let s := s.modBerth b (fun y => { y with loopWait := false })
      (s.berthDies b).foldl (fun s d =>
        let s := State.runEmpty d (s.die d).emptyBound s
        let s := match (s.die d).restoring, (s.die d).snapshot with
          | true, some n =>
            let s := (s.set .CDC_PC_INDEX n.pc d).set .CDC_STEP_STEP n.step d
            s.modDie d (fun x =>
              { x with
                scalars := n.scalars
                preds := n.preds
                loops := n.loops
                tallies := n.tallies
                tallyErr := x.tallyErr.filter (fun e => decide (e.2 < n.tallies[(Fin.ofNat 16 e.1 : Fin 16)]))
                scoreboard := [] })
          | _, _ => s
        (s.modDie d (fun x => { x with restoring := false })).frameBegin d) s

end Sys2Proof.Machine
end

