-- ==== Sys2Proof/Machine/Net.lean ====
section
/-! DEFINITION. Ports, frames, congestion control, RoCEv2 queue pairs, collectives and PTP (chapter 10). -/

namespace Sys2Proof.Machine

/-! ### Kinds of `Tx.roce` -/

def kAck : Nat := 0
def kNakAccess : Nat := 1        -- remote-access NAK
def kNakInvalid : Nat := 2       -- invalid-request NAK
def kNakRnr : Nat := 3           -- RNR NAK, its body the timer code
def kCnp : Nat := 4
def kReadResp : Nat := 5
def kSend : Nat := 7             -- a packet of a collective
def kNakRemote : Nat := 8        -- remote operational error NAK of the IBTA specification (PRESUMED, log entry 13)

/-! ### Ports (R256 to R264) -/

/-- The lanes of a sub-port (Table 10-1). -/
def State.subLanes (s : State) (p : Fin 2) (sub : Nat) : List Nat :=
  let w := 8 / s.subPorts p
  (List.range w).map (fun i => w * sub + i)

/-- The net dies are in reset hold. -/
def State.netHeld (s : State) : Bool := s.inReset 6

def State.qpState (s : State) (q : Nat) : Nat := s.get .NET_QP_CTRL_STATE 0 q

/-- The berth that owns a queue pair (R266). -/
def State.qpBerth (s : State) (q : Nat) : Option (Fin 8) := (allFin 8).find? (fun b => s.qpOf b q)

/-- The next hop and the remote address of a queue pair (Table 10-11, R15): IPv6, or an IPv4-mapped address as IPv4. -/
def State.qpPeer (s : State) (q : Nat) : Addr :=
  let ip := ofBe ((List.range 4).flatMap (fun i => toLe (s.get .NET_QP_DEST_IP_ADDR 0 (4 * q + i)) 4))
  let v4 := ip / 2 ^ 32 == 0xFFFF
  ⟨ofBe (toLe (s.get .NET_QP_DMAC_HI_MAC 0 q) 2 ++ toLe (s.get .NET_QP_DMAC_LO_MAC 0 q) 4), !v4, if v4 then ip % 2 ^ 32 else ip⟩

/-- What stands around a RoCEv2 packet of a queue pair: its berth's identity, UDP destination port 4791, the queue pair's priority,
ECT(0) (R261, R263, R265, R266). -/
def State.qpWire (s : State) (q : Nat) : Wire :=
  let p := (s.qpPort q).val
  let prio := s.get .NET_QP_PORT_PRIO 0 q
  s.berthWire ((s.qpBerth q).getD 0) p (s.get .NET_QP_PORT_SUB 0 q) (s.qpPeer q) 4791 prio (s.tcOf p prio) true

/-- Send a RoCEv2 packet of a queue pair. -/
def State.roce (s : State) (q kind psn : Nat) (body : List Nat) : State := s.put (s.qpWire q) (.roce q kind psn body)

/-- May a sub-port come up: with AN it has negotiated its own mode's rate with RS(544,514) and trained; without, it starts at that
rate and asks its partner nothing (R257, R258). -/
def State.linkMay (s : State) (p : Fin 2) (x : LinkPartner) : Bool :=
  !s.net.anNow[p] || (x.negotiates && x.rates.contains (s.subRate p) && x.trained)

/-- SUBPORT_LINK_UP: a sub-port of the mode in force gains link, its lanes lock (R256, R258). -/
def execSubportLinkUp (port : Fin 2) (sub : Fin 8) (partner : LinkPartner) (s : State) : Host.Outcome State Fault Refusal :=
  .next <|
    if s.netHeld || decide (s.subPorts port ≤ sub.val) || !s.linkMay port partner then s
    else
      let lanes := (s.subLanes port sub).foldl (fun a i => putBit a i true) (s.get .NET_P_LINK_LOCK port)
      let s := (s.set .NET_P_LINK_UP (putBit (s.get .NET_P_LINK_UP port) sub true) port).set .NET_P_LINK_LOCK lanes port
      { s with net := { s.net with qps := s.net.qps.map (fun x : QpSt =>
          if s.qpPort x.qp = port ∧ s.get .NET_QP_PORT_SUB 0 x.qp = sub.val then { x with downSince := none } else x) } }

/-! ### Bytes at berth addresses, for the engines of the net dies -/

/-- Read bytes at a location: HBM sector by sector through the cache. -/
def State.readAt (s : State) (b : Nat) (l : Loc) (n : Nat) : List Nat × State :=
  match l with
  | .hbm k o =>
    let first := o / 64
    let cnt := if n = 0 then 0 else (o + n - 1) / 64 - first + 1
    let (bs, s) := (List.range cnt).foldl (fun (a : List Nat × State) i =>
      let (x, s) := a.2.hbmRead b k ((first + i) * 64) false
      (a.1 ++ x, s)) ([], s)
    ((bs.drop (o % 64)).take n, s)
  | .scratch q o => (s.scratchRead q b o n, s)
  | l => (s.bytes (l.phys b) n, s)

/-- Write bytes at a location; a sector written in part is read first. -/
def State.writeAt (s : State) (b : Nat) (l : Loc) (bs : List Nat) : State :=
  match l with
  | .hbm k o =>
    let first := o / 64
    let n := bs.length
    let cnt := if n = 0 then 0 else (o + n - 1) / 64 - first + 1
    (List.range cnt).foldl (fun s i =>
      let base := (first + i) * 64
      let lo := max base o
      let hi := min (base + 64) (o + n)
      let part := (bs.drop (lo - o)).take (hi - lo)
      if hi - lo = 64 then s.hbmWrite b k base false part
      else
        let (old, s) := s.hbmRead b k base false
        s.hbmWrite b k base false (putAt old (lo - base) part)) s
  | .scratch q o => s.scratchWrite q b o bs
  | l => s.setBytes (l.phys b) bs

/-- The die of fairway of a queue pair's net die. -/
def State.qpNd (s : State) (q : Nat) : Nat := 16 + (s.qpPort q).val

/-- Path MTU of a queue pair, bytes. -/
def State.pmtu (s : State) (q : Nat) : Nat := 1024 * 2 ^ min 2 (s.get .NET_QP_PORT_PMTU 0 q)

/-- The segments of `n` bytes under a path MTU of `m`: offsets and sizes. -/
def segs (m n : Nat) : List (Nat × Nat) :=
  (List.range ((n + m - 1) / m)).map (fun i => (i * m, min m (n - i * m)))

/-- The segments of `n` bytes at a berth address lie each inside one window unit (R210, R267). -/
def State.segsOk (s : State) (b : Fin 8) (m va n : Nat) : Bool :=
  (segs m n).all (fun g => (s.translate b (va + g.1) g.2).isSome)

/-- The status with which segments fail, 0 if all are served. -/
def State.segsReach (s : State) (b : Fin 8) (nd m va n : Nat) : Nat :=
  (segs m n).foldl (fun a g => match s.translate b (va + g.1) g.2 with
    | some l => max a (s.serveStatus nd l)
    | none => a) 0

/-- Bytes of an element of a format of Table 10-3. -/
def fmtBytes (f : Nat) : Nat := if f = 0 then 4 else 2

/-- What a collective reads at SRC and writes at DST on this module, in bytes: lengths. -/
def collSrcLen (e : OpEntry) (n pos : Nat) : Nat :=
  let z := cCount e * fmtBytes (cFmt e)
  match cOp e with
  | 0 => z
  | 1 => z
  | 2 => z / n
  | 3 => if cRoot e = pos then z else 0
  | _ => cCount e
def collDstLen (e : OpEntry) (n pos : Nat) : Nat :=
  let z := cCount e * fmtBytes (cFmt e)
  match cOp e with
  | 0 => z
  | 1 => z / n
  | 2 => z
  | 3 => z
  | _ => if cRoot e = pos then cCount e else 0

/-- The queue pair whose path MTU cuts a collective's accesses (R210). -/
def State.collQp (s : State) (e : OpEntry) : Nat := (s.collNeeds e).headD 0

/-- A collective that ends with a status of an error after the engine has taken it may have written any part of DST: its bytes are free
values, those on a stack that does not serve apart (Table 8-4; for the codes of Table 10-4 the spec does not say, log entry 36). -/
def State.collSpoil (s : State) (c : Coll) : State :=
  let e := c.entry
  let b : Fin 8 := Fin.ofNat 8 c.berth
  if c.own.isNone then s
  else
    (segs (s.pmtu (s.collQp e)) (collDstLen e (s.grpSize c.group) ((s.grpPos c.group).getD 0))).foldl (fun s g =>
      match s.translate b (cDst e + g.1) g.2 with
      | some l =>
        if s.serveStatus (16 + cPort e) l = 0x19 then s
        else
          let (bs, s) := s.freeBytes 9 g.2
          s.writeAt b l bs
      | none => s) s

/-- A collective fails. -/
def State.collFail (s : State) (c : Coll) (status : Nat) : State := (s.collSpoil c).collDone c.die c.handle status

/-! ### Ports and links -/

/-- Complete with a status every collective that meets a condition (R275). -/
def State.failColls (s : State) (p : State → Coll → Bool) (status : Nat) : State :=
  (s.net.colls.filter (fun c => p s c)).foldl (fun s c => s.collFail c status) s

/-- SUBPORT_LINK_DOWN: a sub-port loses link; collectives that need it complete with 0x21 (R259). -/
def State.subDown (s : State) (port : Fin 2) (sub : Nat) : State :=
  if !bitAt (s.get .NET_P_LINK_UP port) sub then s
  else
    let lanes := (s.subLanes port sub).foldl (fun a i => putBit a i false) (s.get .NET_P_LINK_LOCK port)
    let s := (s.set .NET_P_LINK_UP (putBit (s.get .NET_P_LINK_UP port) sub false) port).set .NET_P_LINK_LOCK lanes port
    let on := fun (q : Nat) => s.qpPort q == port && s.get .NET_QP_PORT_SUB 0 q == sub
    let s := { s with net := { s.net with
      qps := s.net.qps.map (fun x : QpSt => if on x.qp then { x with downSince := some s.now } else x)
      xoffSent := s.net.xoffSent.filter (fun e => !(e.1 == port.val && e.2.1 == sub))
      paused := s.net.paused.filter (fun e => !(e.1 == port.val && e.2.1 == sub))
      held := s.net.held.filter (fun e => !(e.1.port == port.val && e.1.sub == sub)) } }
    s.failColls (fun s c => (s.collNeeds c.entry).any (fun q => !s.qpLink q)) 0x21
def execSubportLinkDown (port : Fin 2) (sub : Fin 8) (s : State) : Host.Outcome State Fault Refusal :=
  .next (if s.netHeld then s else s.subDown port sub)

/-! ### Received frames (R260 to R262) -/

/-- An identity: MAC, VLAN (0 untagged), IPv4 and IPv6 addresses (0 none), the first byte of each highest. -/
structure Identity where
  mac : Nat
  vlan : Nat
  ip4 : Nat
  ip6 : List Nat
  deriving DecidableEq, Repr

/-- The management identity of a port, and the identities that it answers to: that one and those of the berths with committed structure
(R260). -/
def State.mgmtId (s : State) (p : Fin 2) : Identity :=
  ⟨mgmtMac p, s.get .NET_MGMT_VLAN_VID, s.mgmtIp4, [linkLocal (mgmtMac p), s.mgmtIp6]⟩
def State.identities (s : State) (p : Fin 2) : List Identity :=
  s.mgmtId p :: (allFin 8).filterMap (fun b : Fin 8 => (s.berth b).desc.bind (fun y =>
    (y.ports[p.val]?).map (fun n => ⟨n.mac, n.vlan, n.ipv4, [n.ipv6]⟩)))

/-- The multicast groups that a port's berths listen to (R288). -/
def State.groups (s : State) (p : Fin 2) : List (Nat × Addr) :=
  (allFin 8).filterMap (fun b : Fin 8 => if s.get .RHD_CFG_PORT b = p.val then (s.berth b).desc.bind (fun y =>
    (y.ports[p.val]?).map (fun n => (n.vlan, s.tmGroup b))) else none)

/-- Does a frame carry an identity's tag: its VLAN, or none where it has none (R261). -/
def tagged (vlan : Nat) (tag : Option Nat) : Bool := tag.getD 0 == vlan && tag.isNone == (vlan == 0)

/-- Is a frame addressed to an identity, with its tag (R260, R261). -/
def Identity.takes (i : Identity) (f : EthFrame) : Bool :=
  let group := bitAt (f.dst.mac / 2 ^ 40) 0
  (f.dst.mac == i.mac || group) && tagged i.vlan f.vlan && f.dst.ip != 0 &&
    (if f.dst.v6 then i.ip6.contains f.dst.ip else f.dst.ip == i.ip4)

/-- Is a frame delivered: to one identity or to a domain's group, not a fragment, not with an extension header, not stacked. -/
def State.delivers (s : State) (p : Fin 2) (f : EthFrame) : Bool :=
  !f.stacked && decide (f.len ≤ 9216) && !(f.kind == .fragment || f.kind == .extHeader) &&
    ((s.identities p).any (fun i => i.takes f) ||
      (f.kind == .other && (s.groups p).any (fun g => tagged g.1 f.vlan && f.dst.v6 == g.2.v6 && f.dst.ip == g.2.ip)))

/-- The number of an answered request in `Frame.ctrl`. -/
def ctrlKind : FrameKind → Option Nat
  | .arp => some 0
  | .neighbour => some 1
  | .echo4 => some 2
  | .echo6 => some 3
  | _ => none

/-- The answer to a request goes from the identity that took it to the asker, with that identity's tag, at priority 0 (which priority
is the model's choice, log entry 64). -/
def State.answerWire (s : State) (p : Fin 2) (sub : Nat) (f : EthFrame) : Wire :=
  let i := ((s.identities p).find? (fun i => i.takes f)).getD (s.mgmtId p)
  ⟨p, sub, ⟨i.mac, f.dst.v6, f.dst.ip⟩, f.src, i.vlan, 0, 0, s.tcOf p 0, false⟩

/-- NET_FRAME_RECEIVE: a frame is delivered or discarded and counted; ARP, neighbour discovery and echo are answered. With it come the
codewords that the FEC of the port has corrected and has not since the last frame (R257, R260 to R262). -/
def execNetFrameReceive (port : Fin 2) (sub : Fin 8) (f : EthFrame) (corrected uncorrected : Nat) (s : State) :
    Host.Outcome State Fault Refusal :=
  .next <|
    if s.netHeld then s
    else
      let s := (s.netCount .NET_P_FEC_CORR_COUNT corrected port).netCount .NET_P_FEC_UNCORR_COUNT uncorrected port
      let s := s.netCount .NET_P_RX_COUNT f.len port
      if !s.delivers port f then s.netCount .NET_P_DROP_COUNT 1 port
      else match ctrlKind f.kind with
        | some k => s.put (s.answerWire port sub f) (.ctrl k f.len)
        | none => s

/-! ### PFC and congestion control (R264, R265) -/

/-- A PFC frame goes out, which no pause holds: to the address that IEEE 802.1Qbb gives it. -/
def State.pfcSend (s : State) (p : Fin 2) (sub prio : Nat) (xoff : Bool) : State :=
  s.emit ⟨p, sub, ⟨mgmtMac p, false, 0⟩, ⟨0x0180C2000001, false, 0⟩, 0, 0, 0, 0, false⟩ (.pfc prio xoff)

/-- PFC_XOFF_SEND: an enabled priority of a sub-port uses `useKib` KiB: above XOFF_KIB it sends XOFF, at half of that XON. -/
def execPfcXoffSend (port : Fin 2) (sub prio : Fin 8) (useKib : Nat) (s : State) : Host.Outcome State Fault Refusal :=
  .next <|
    let key := (port.val, sub.val, prio.val)
    let x := s.get .NET_P_PFC_XOFF_KIB port
    if s.netHeld || !bitAt (s.get .NET_P_PFC_ENABLE port) prio then s
    else if s.net.xoffSent.contains key then
      if 2 * useKib ≤ x then
        let s := { s with net := { s.net with xoffSent := s.net.xoffSent.filter (· != key) } }
        s.pfcSend port sub prio false
      else s
    else if x < useKib then
      let s := { s with net := { s.net with xoffSent := key :: s.net.xoffSent } }
      (s.netCount .NET_P_PFC_TX_COUNT 1 port).pfcSend port sub prio true
    else s

/-- PFC_FRAME_RECEIVE: a received PFC frame pauses an enabled priority of its sub-port, or resumes it, and what has waited is sent
(R264). -/
def execPfcFrameReceive (port : Fin 2) (sub prio : Fin 8) (xoff : Bool) (s : State) : Host.Outcome State Fault Refusal :=
  .next <|
    if s.netHeld then s
    else
      let key := (port.val, sub.val, prio.val)
      let s := s.received port 2 0
      let s := if xoff then s.netCount .NET_P_PFC_RX_COUNT 1 port else s
      if !xoff then s.resume key
      else if bitAt (s.get .NET_P_PFC_ENABLE port) prio && !s.net.paused.contains key then
        { s with net := { s.net with paused := key :: s.net.paused } }
      else s

/-- A queue pair receives packets: state RTR or RTS, of a berth, NET out of reset hold. -/
def State.qpReceives (s : State) (q : Nat) : Bool :=
  !s.netHeld && (s.qpState q == 2 || s.qpState q == 3) && (s.qpBerth q).isSome

/-- CE_PACKET_RECEIVE: at most one CNP per queue pair in 50 µs goes back to the sender (R265). -/
def execCePacketReceive (qp : Fin 65536) (s : State) : Host.Outcome State Fault Refusal :=
  .next <|
    if !s.qpReceives qp then s
    else
      let s := s.netCount .NET_P_CE_RX_COUNT 1 (s.qpPort qp).val
      let x := s.qpSt qp
      let due := match x.cnpSent with
        | none => true
        | some t => decide (t + 50 * us ≤ s.now)
      if due then (s.setQp { x with cnpSent := some s.now }).roce qp kCnp 0 [] else s

/-- CNP_RECEIVE: the send rate falls by CUT ÷ 256, not below 1 Gb/s (R265). -/
def execCnpReceive (qp : Fin 65536) (s : State) : Host.Outcome State Fault Refusal :=
  .next <|
    if !s.qpReceives qp then s
    else
      let s := (s.received (s.qpPort qp).val 1 0).netCount .NET_P_CNP_RX_COUNT 1 (s.qpPort qp).val
      let x := s.qpSt qp
      s.setQp { x with rateMbps := max 1000 (x.rateMbps * (256 - s.get .NET_CC_CUT) / 256), cnpRecv := some s.now }

/-- CC_RATE_STEP: 55 µs have passed without a CNP; the rate rises by STEP × 100 Mb/s up to the sub-port rate (R265). -/
def execCcRateStep (qp : Fin 65536) (s : State) : Host.Outcome State Fault Refusal :=
  .next <|
    if !s.qpReceives qp then s
    else
      let x := s.qpSt qp
      s.setQp { x with rateMbps := min (s.subRate (s.qpPort qp)) (x.rateMbps + s.get .NET_CC_STEP * 100), cnpRecv := some s.now }

/-! ### Messages at berth addresses -/

/-- The pieces of `n` bytes from an address, cut at 256-byte boundaries: what fairway carries as one request (R237). -/
def cutAt256 (a n : Nat) : List (Nat × Nat) :=
  (List.range (n / 256 + 2)).filterMap (fun i =>
    let lo := max a ((a / 256 + i) * 256)
    let hi := min (a + n) ((a / 256 + i + 1) * 256)
    if lo < hi then some (lo, hi - lo) else none)

/-- The pieces of a segment of a queue pair are asked of fairway, for an operation. -/
def State.askSegs (s : State) (b : Fin 8) (nd qp op : Nat) (wr : Bool) (a n : Nat) : State :=
  (cutAt256 a n).foldl (fun s c => s.askSeg b nd qp op c.1 c.2 wr) s

/-- Write a message of a queue pair at a berth address, segment by segment; a stack that is not trained serves none (Table 8-4). -/
def State.segWrite (s : State) (b : Fin 8) (nd qp m va : Nat) (bs : List Nat) : State :=
  let op := s.fwy.nextSeg
  (segs m bs.length).foldl (fun s g => match s.translate b (va + g.1) g.2 with
    | some l =>
      if s.serveStatus nd l = 0x19 then s
      else (s.writeAt b l ((bs.drop g.1).take g.2)).askSegs b nd qp op true (va + g.1) g.2
    | none => s) s

/-- Read a message of a queue pair at a berth address. -/
def State.segRead (s : State) (b : Fin 8) (nd qp m va n : Nat) : List Nat × State :=
  let op := s.fwy.nextSeg
  (segs m n).foldl (fun (a : List Nat × State) g => match a.2.translate b (va + g.1) g.2 with
    | some l =>
      let (bs, s) := a.2.readAt b l g.2
      (a.1 ++ bs, s.askSegs b nd qp op false (va + g.1) g.2)
    | none => a) ([], s)

/-- The expected packet sequence number, moved on by a message of `n` bytes. -/
def State.psnOn (s : State) (q n : Nat) : State :=
  s.set .NET_QP_RQ_PSN_PSN (s.get .NET_QP_RQ_PSN_PSN 0 q + max 1 (segs (s.pmtu q) n).length) 0 q

/-! ### Inbound operations (R267 to R269) -/

/-- A packet of `n` data bytes has come in on a queue pair's port. -/
def State.qpIn (s : State) (q n : Nat) : State := s.received (s.qpPort q).val 1 n

/-- Does a valid group entry name a queue pair: it then carries collective traffic only (R268). -/
def State.qpInGroup (s : State) (q : Nat) : Bool :=
  s.regs.any (fun e => decide (e.1.f = .NET_GRP_ENTRY_VALID) && e.2 != 0 && s.get .NET_GRP_ENTRY_QP e.1.inst e.1.item == q)

/-- The RDMA READs of a queue pair whose data is not yet complete; 16 of them are allowed (R266). -/
def State.readsOut (s : State) (q : Nat) : Nat :=
  ((s.fwy.segs.filter (fun e => e.qp == q && !e.wr)).map (·.op)).eraseDups.length

/-- The code with which an RDMA access of a queue pair is refused, if it is: RKEY, windows, or a queue pair of a group, which carries
no access of a host (R267, R268). -/
def State.rdmaRefused (s : State) (b : Fin 8) (q rkey va n : Nat) : Bool :=
  s.qpInGroup q || rkey != s.get .NET_QP_RKEY_RKEY 0 q || !s.segsOk b (s.pmtu q) va n

/-- RDMA_WRITE_IN (R267). Memory that does not serve the write is answered with a NAK (log entry 13). -/
def execRdmaWriteIn (qp : Fin 65536) (rkey : BitVec 32) (va : BitVec 48) (data : List (BitVec 8)) (s : State) :
    Host.Outcome State Fault Refusal :=
  .next <|
    match s.qpReceives qp, s.qpBerth qp with
    | true, some b =>
      let psn := s.get .NET_QP_RQ_PSN_PSN 0 qp
      let bs := data.map (·.toNat)
      let s := s.qpIn qp bs.length
      if s.rdmaRefused b qp rkey.toNat va.toNat bs.length then s.roce qp kNakAccess psn []
      else if s.segsReach b (s.qpNd qp) (s.pmtu qp) va.toNat bs.length ≠ 0 then s.roce qp kNakRemote psn []
      else ((s.segWrite b (s.qpNd qp) qp (s.pmtu qp) va.toNat bs).psnOn qp bs.length).roce qp kAck psn []
    | _, _ => s

/-- RDMA_READ_IN (R266, R267): a READ beyond the 16 outstanding ones is answered with the invalid-request NAK of the IBTA specification
(PRESUMED, log entry 13). -/
def execRdmaReadIn (qp : Fin 65536) (rkey : BitVec 32) (va : BitVec 48) (len : Nat) (s : State) :
    Host.Outcome State Fault Refusal :=
  .next <|
    match s.qpReceives qp, s.qpBerth qp with
    | true, some b =>
      let psn := s.get .NET_QP_RQ_PSN_PSN 0 qp
      let s := s.qpIn qp 0
      if s.rdmaRefused b qp rkey.toNat va.toNat len then s.roce qp kNakAccess psn []
      else if 16 ≤ s.readsOut qp then s.roce qp kNakInvalid psn []
      else if s.segsReach b (s.qpNd qp) (s.pmtu qp) va.toNat len ≠ 0 then s.roce qp kNakRemote psn []
      else
        let (bs, s) := s.segRead b (s.qpNd qp) qp (s.pmtu qp) va.toNat len
        (s.psnOn qp len).roce qp kReadResp psn bs
    | _, _ => s

/-- The address of a queue pair's receive ring, and its entries (R268). -/
def State.rqBase (s : State) (q : Nat) : Nat :=
  s.get .NET_QP_RQ_BASE_LO_ADDR 0 q + s.get .NET_QP_RQ_BASE_HI_ADDR 0 q * 2 ^ 32
def State.rqSize (s : State) (q : Nat) : Nat := 2 ^ s.get .NET_QP_RQ_CFG_RQ_LOG 0 q

/-- A queue pair enters ERROR: collectives that need it complete with 0x22 (R270, R275). -/
def State.qpError (s : State) (q : Nat) : State :=
  let s := (s.set .NET_QP_CTRL_STATE 4 0 q).setQp { s.qpSt q with unacked := [], retries := 0 }
  s.failColls (fun s c => (s.collNeeds c.entry).contains q) 0x22

/-- Write STATUS, BYTES and OWNER of the entry at CONS and advance CONS (R269). -/
def State.rqConsume (s : State) (b : Fin 8) (q : Nat) (entry : Loc) (old : List Nat) (status n : Nat) : State :=
  let new := putAt (putAt old 0x0C [0, status]) 0x10 (toLe n 4)
  (s.writeAt b entry new).set .NET_QP_RQ_CFG_CONS ((s.get .NET_QP_RQ_CFG_CONS 0 q + 1) % s.rqSize q) 0 q

/-- A SEND on a queue pair of a group is its collective engine's: a peer's PUT lands at its DST (R210, R274); ring data, whose use comes
with COLLECTIVE_COMPLETE, is acknowledged (log entry 65). -/
def State.collIn (s : State) (b : Fin 8) (qp : Nat) (put : Option (BitVec 48)) (bs : List Nat) : State :=
  let psn := s.get .NET_QP_RQ_PSN_PSN 0 qp
  match put with
  | none => (s.psnOn qp bs.length).roce qp kAck psn []
  | some a =>
    if !s.segsOk b (s.pmtu qp) a.toNat bs.length then s.roce qp kNakAccess psn []
    else if s.segsReach b (s.qpNd qp) (s.pmtu qp) a.toNat bs.length ≠ 0 then s.roce qp kNakRemote psn []
    else ((s.segWrite b (s.qpNd qp) qp (s.pmtu qp) a.toNat bs).psnOn qp bs.length).roce qp kAck psn []

/-- SEND_IN: an inbound SEND takes the ring entry at CONS (R269), or is traffic of a collective (R268). -/
def execSendIn (qp : Fin 65536) (put : Option (BitVec 48)) (data : List (BitVec 8)) (s : State) :
    Host.Outcome State Fault Refusal :=
  .next <|
    match s.qpReceives qp, s.qpBerth qp with
    | true, some b =>
      let psn := s.get .NET_QP_RQ_PSN_PSN 0 qp
      let bs := data.map (·.toNat)
      let s := s.qpIn qp bs.length
      let addr := s.rqBase qp + 32 * (s.get .NET_QP_RQ_CFG_CONS 0 qp % s.rqSize qp)
      if s.qpInGroup qp then s.collIn b qp put bs
      else match s.translate b addr 32 with
      | none => s.roce qp kNakRemote psn []
      | some l =>
        if s.serveStatus (s.qpNd qp) l ≠ 0 then s.roce qp kNakRemote psn []
        else
          let (e, s) := s.readAt b l 32
          let buf := leAt e 0 6
          let len := leAt e 8 4
          if nth e 0x0C ≠ 1 then s.roce qp kNakRnr psn [s.get .NET_QP_PORT_RNR 0 qp]
          else if len < bs.length then
            ((s.rqConsume b qp l e 0x25 0).roce qp kNakInvalid psn []).qpError qp
          else if (s.translate b buf len).isNone then
            ((s.rqConsume b qp l e 0x10 0).roce qp kNakInvalid psn []).qpError qp
          else
            let reach := s.segsReach b (s.qpNd qp) (s.pmtu qp) buf bs.length
            let s := if reach = 0 then s.segWrite b (s.qpNd qp) qp (s.pmtu qp) buf bs else s
            ((s.rqConsume b qp l e reach bs.length).psnOn qp bs.length).roce qp kAck psn []
    | _, _ => s

/-! ### Retransmission and states of queue pairs (R270, R271) -/

/-- Go back N: send every unacknowledged packet again, or enter ERROR after the 7th retransmission of the oldest (R270). -/
def State.goBack (s : State) (q : Nat) : State :=
  let x := s.qpSt q
  match x.unacked with
  | [] => s
  | l => if 7 ≤ x.retries then s.qpError q
         else l.foldl (fun s e => s.roce q kSend e.1 e.2) (s.setQp { x with retries := x.retries + 1 })

/-- NAK_RECEIVE: the packets before `psn` are acknowledged, the rest go again (R270). -/
def execNakReceive (qp : Fin 65536) (psn : Nat) (s : State) : Host.Outcome State Fault Refusal :=
  .next <|
    if s.netHeld || s.qpState qp != 3 then s
    else
      let s := s.qpIn qp 0
      let x := s.qpSt qp
      let rest := if x.unacked.any (·.1 == psn) then x.unacked.dropWhile (·.1 != psn) else x.unacked
      let s := s.setQp { x with unacked := rest, retries := if rest = x.unacked then x.retries else 0 }
      s.goBack qp

/-- QP_ACK_TIMEOUT (R270). -/
def execQpAckTimeout (qp : Fin 65536) (s : State) : Host.Outcome State Fault Refusal :=
  .next (if s.netHeld || s.qpState qp != 3 then s else s.goBack qp)

/-- The context fields of a queue pair. -/
def qpFlds : List Fld :=
  [.NET_QP_CTRL_STATE, .NET_QP_PORT_PORT, .NET_QP_PORT_SUB, .NET_QP_PORT_PMTU, .NET_QP_PORT_PRIO, .NET_QP_PORT_TIMEOUT,
   .NET_QP_PORT_RNR, .NET_QP_DEST_QPN_QPN, .NET_QP_DEST_IP_ADDR, .NET_QP_DMAC_LO_MAC, .NET_QP_DMAC_HI_MAC, .NET_QP_RKEY_RKEY,
   .NET_QP_SQ_PSN_PSN, .NET_QP_RQ_PSN_PSN, .NET_QP_RQ_BASE_LO_ADDR, .NET_QP_RQ_BASE_HI_ADDR, .NET_QP_RQ_CFG_RQ_LOG,
   .NET_QP_RQ_CFG_CONS]

/-- A queue pair in RESET: its context cleared (Table 10-2). The four words of the remote address are items 4 q to 4 q + 3. -/
def State.qpReset (s : State) (q : Nat) : State :=
  { s with
    regs := s.regs.filter (fun e => !(qpFlds.contains e.1.f &&
      (if e.1.f = .NET_QP_DEST_IP_ADDR then e.1.item / 4 == q else e.1.item == q)))
    net := { s.net with qps := s.net.qps.filter (fun x => x.qp != q) } }

/-- Is a queue pair's context complete for RTR: of a berth, its path MTU and sub-port of Tables 10-11 and 10-1, a next hop and
a destination, and a receive ring by R268 where it has one (DEDUCED, log entry 14). -/
def State.qpComplete (s : State) (q : Nat) : Bool :=
  match s.qpBerth q with
  | none => false
  | some b =>
    decide (s.get .NET_QP_PORT_PMTU 0 q ≤ 2) && decide (s.get .NET_QP_PORT_SUB 0 q < s.subPorts (s.qpPort q)) &&
      (List.range 4).any (fun i => s.get .NET_QP_DEST_IP_ADDR 0 (4 * q + i) != 0) &&
      (s.get .NET_QP_DMAC_LO_MAC 0 q != 0 || s.get .NET_QP_DMAC_HI_MAC 0 q != 0) &&
      (s.qpInGroup q || (s.rqBase q % 64 == 0 && (s.translate b (s.rqBase q) (32 * s.rqSize q)).isSome))

/-- STATE written by software; a write that Table 10-2 does not list is ignored (R271). -/
def State.qpWrite (s : State) (q v : Nat) : State :=
  match s.qpState q, v with
  | _, 0 => s.qpReset q
  | 0, 1 => (s.set .NET_QP_CTRL_STATE 1 0 q).set .NET_QP_RQ_CFG_CONS 0 0 q
  | 1, 2 => if s.qpComplete q then s.set .NET_QP_CTRL_STATE 2 0 q else s
  | 2, 3 => s.set .NET_QP_CTRL_STATE 3 0 q
  | 1, 4 => s.qpError q
  | 2, 4 => s.qpError q
  | 3, 4 => s.qpError q
  | _, _ => s

/-- QP_SUBPORT_DOWN_TIMEOUT: the sub-port of a queue pair has been down for 100 ms (Table 10-2). -/
def execQpSubportDownTimeout (qp : Fin 65536) (s : State) : Host.Outcome State Fault Refusal :=
  .next <|
    if s.netHeld || s.qpLink qp then s
    else if s.qpState qp = 1 ∨ s.qpState qp = 2 ∨ s.qpState qp = 3 then s.qpError qp else s

/-! ### Collectives (R274, R275) -/

/-- One ring step of a reduction, in FP32 (R274). -/
def redStep (red : Nat) (a b : BitVec 32) : BitVec 32 :=
  if red = 0 then f32Add a b else f32MinMax (red == 1) a b

/-- The position at which element `e` enters the ring of `n` members, and how many steps after it position `pos` comes. -/
def ringFirst (n count e : Nat) : Nat := Config.ringStart n count e % n
def ringHop (n count pos e : Nat) : Nat := (pos + n - ringFirst n count e) % n

/-- The value of element `e` after the first `k + 1` positions of the ring, in position order from where it starts. -/
def ringPartial (red count e k : Nat) (xs : List (BitVec 32)) : BitVec 32 :=
  let st := ringFirst xs.length count e
  match (xs.drop st ++ xs.take st).take (k + 1) with
  | [] => 0#32
  | y :: ys => ys.foldl (redStep red) y

/-- The reduced value of element `e` over every position's input. -/
def ringReduce (red count e : Nat) (xs : List (BitVec 32)) : BitVec 32 := ringPartial red count e xs.length xs

/-- Element `e` of an input as FP32. -/
def inputElem (fmt : Nat) (bs : List Nat) (e : Nat) : BitVec 32 :=
  toF32 (decodeFmt fmt (leAt bs (e * fmtBytes fmt) (fmtBytes fmt)))

/-- The elements `lo` to `lo + n - 1` of a reduction over all inputs, as bytes of the format (R274). -/
def reduceBytes (fmt red count lo n : Nat) (inputs : List (List Nat)) : List Nat :=
  (List.range n).flatMap (fun i =>
    let e := lo + i
    toLe (convFmt fmt .rne false (ofF32 (ringReduce red count e (inputs.map (fun bs => inputElem fmt bs e))))).bits (fmtBytes fmt))

/-- The elements that position `pos` passes on to the next as FP32 partial values: those whose ring starts here (`first`), or those that
reach it and do not end there (R274). -/
def ringPartials (e : OpEntry) (n pos : Nat) (first : Bool) (inputs : List (List Nat)) : List Nat :=
  (List.range (cCount e)).flatMap (fun i =>
    let k := ringHop n (cCount e) pos i
    if k + 1 < n ∧ (k == 0) = first then
      toLe (ringPartial (cRed e) (cCount e) i k (inputs.map (fun bs => inputElem (cFmt e) bs i))).toNat 4
    else [])

/-- The results that position `pos` passes on: an ALLREDUCE's to every position after the one where it was formed, a REDUCE_SCATTER's as
far as its own position (R274). -/
def ringResults (e : OpEntry) (n pos : Nat) (inputs : List (List Nat)) : List Nat :=
  (List.range (cCount e)).flatMap (fun i =>
    let last := (ringFirst n (cCount e) i + n - 1) % n
    let far := if cOp e = 0 then n - 1 else (i / (cCount e / n) + n - last) % n
    if (pos + n - last) % n < far then reduceBytes (cFmt e) (cRed e) (cCount e) i 1 inputs else [])

/-- What a member sends with its own input alone: to its ring successor, or to the target of a PUT (R274). The order of a member's data
on its queue pair is the model's choice (log entry 65). -/
def ringOwn (e : OpEntry) (n pos : Nat) (own : List Nat) : List Nat :=
  match cOp e with
  | 0 | 1 => ringPartials e n pos true ((List.range n).map (fun p => if p = pos then own else []))
  | 2 => sliceAt own 0 (cCount e / n * fmtBytes (cFmt e))
  | 3 => if cRoot e = pos then sliceAt own 0 (cCount e * fmtBytes (cFmt e)) else []
  | _ => if cRoot e = pos then [] else sliceAt own 0 (cCount e)

/-- What a member passes on of its peers' data: partial values and results, the parts of an ALLGATHER but the successor's own, a
BROADCAST's data unless the successor is its root (R274). -/
def ringRest (e : OpEntry) (n pos : Nat) (inputs : List (List Nat)) : List Nat :=
  match cOp e with
  | 0 | 1 => ringPartials e n pos false inputs ++ ringResults e n pos inputs
  | 2 => (List.range (n - 2)).flatMap (fun j =>
      sliceAt ((inputs[(pos + n - 1 - j) % n]?).getD []) 0 (cCount e / n * fmtBytes (cFmt e)))
  | 3 => if cRoot e = pos ∨ cRoot e = (pos + 1) % n then []
         else sliceAt ((inputs[cRoot e]?).getD []) 0 (cCount e * fmtBytes (cFmt e))
  | _ => []

/-- The bytes that a collective leaves at DST, from every position's input (R274). -/
def collResult (e : OpEntry) (pos : Nat) (inputs : List (List Nat)) : List Nat :=
  let n := inputs.length
  let c := cCount e
  match cOp e with
  | 0 => reduceBytes (cFmt e) (cRed e) c 0 c inputs
  | 1 => reduceBytes (cFmt e) (cRed e) c (pos * (c / n)) (c / n) inputs
  | 2 => inputs.flatMap (fun bs => sliceAt bs 0 (c / n * fmtBytes (cFmt e)))
  | 3 => sliceAt ((inputs[cRoot e]?).getD []) 0 (c * fmtBytes (cFmt e))
  | _ => sliceAt ((inputs[pos]?).getD []) 0 c

/-- A range of a collective at a berth address: its code of Table 8-4, 0 if it is served. -/
def State.collReach (s : State) (b : Fin 8) (nd m addr len : Nat) : Nat :=
  if s.segsOk b m addr len then s.segsReach b nd m addr len else 0x10

/-- Send data on a queue pair, in SENDs of its path MTU; each waits for its acknowledgement (R266, R270). -/
def State.qpSend (s : State) (q : Nat) (bs : List Nat) : State :=
  (segs (s.pmtu q) bs.length).foldl (fun s g =>
    let x := s.qpSt q
    let psn := (s.get .NET_QP_SQ_PSN_PSN 0 q + x.sent) % 2 ^ 24
    let body := (bs.drop g.1).take g.2
    (s.setQp { x with unacked := x.unacked ++ [(psn, body)], sent := x.sent + 1 }).roce q kSend psn body) s

/-- Where a collective's data goes: the queue pair of its ring successor, or of the target of a PUT; none to itself. -/
def State.collNext (s : State) (e : OpEntry) : Option Nat :=
  let g := cGroup e
  let p := if cOp e = 4 then cRoot e else ((s.grpPos g).getD 0 + 1) % s.grpSize g
  if s.grpSelf g p then none else some (s.grpQp g p)
def State.collPut (s : State) (e : OpEntry) (bs : List Nat) : State :=
  match s.collNext e with
  | some q => s.qpSend q bs
  | none => s

/-- The collective engine takes a posted collective: it reads SRC, and sends what needs no peer's data (R274). -/
def State.collStart (s : State) (c : Coll) : State :=
  let e := c.entry
  let b : Fin 8 := Fin.ofNat 8 c.berth
  let n := s.grpSize c.group
  let pos := (s.grpPos c.group).getD 0
  let len := collSrcLen e n pos
  let code := s.collReach b (16 + cPort e) (s.pmtu (s.collQp e)) (cSrc e) len
  let (own, s) := if 2 ≤ code then ([], s) else s.segRead b (16 + cPort e) (s.collQp e) (s.pmtu (s.collQp e)) (cSrc e) len
  let s : State := { s with net := { s.net with
    colls := s.net.colls.map (fun x => if x.die = c.die ∧ x.handle = c.handle then { x with own := some (code, own) } else x) } }
  if 2 ≤ code then s else s.collPut e (ringOwn e n pos own)

/-- The collective engines take every collective that waits for them. -/
def State.collStarts (s : State) : State := (s.net.colls.filter (fun c => c.own.isNone)).foldl State.collStart s

/-- The statuses with which a collective's data moves all the same, but for the requests that are not served, and those with which it
may have moved in part (Tables 8-4, 10-4). -/
def collMoves (status : Nat) : Bool :=
  decide (status < 2) || (decide (0x13 ≤ status) && decide (status ≤ 0x15)) || status == 0x19
def collOpen (status : Nat) : Bool := (decide (0x16 ≤ status) && decide (status ≤ 0x18)) || decide (0x1A ≤ status)

/-- A collective completes with the peers' inputs by position (this module's own place is what was read at SRC), or with a memory
status (R274, R275). Its data moves in segments of its queue pair's path MTU (R210). -/
def State.collRun (s : State) (c : Coll) (peers : List (List Nat)) (memStatus : Nat) : State :=
  let e := c.entry
  let b : Fin 8 := Fin.ofNat 8 c.berth
  let n := s.grpSize c.group
  let pos := (s.grpPos c.group).getD 0
  let qp := s.collQp e
  let dl := collDstLen e n pos
  let (code, own) := c.own.getD (0, [])
  let st := max memStatus (max code (s.collReach b (16 + cPort e) (s.pmtu qp) (cDst e) dl))
  if collOpen st then s.collFail c st
  else if 2 ≤ code || !collMoves st then s.collDone c.die c.handle st
  else
    let inputs := (List.range n).map (fun p => if p = pos then own else (peers[p]?).getD [])
    let s := s.collPut e (ringRest e n pos inputs)
    let s := if dl = 0 then s else s.segWrite b (16 + cPort e) qp (s.pmtu qp) (cDst e) (collResult e pos inputs)
    let s := (s.collNeeds e).foldl (fun s q => s.setQp { s.qpSt q with unacked := [], retries := 0 }) s
    s.collDone c.die c.handle st

/-- COLLECTIVE_COMPLETE (R274, R275). -/
def execCollectiveComplete (die : Fin 8) (handle : Fin 16) (peers : List (List Nat)) (memStatus : Nat) (s : State) :
    Host.Outcome State Fault Refusal :=
  .next <|
    let mine := fun (c : Coll) => c.die == die && c.handle == handle.val
    match s.net.colls.find? mine with
    | none => s
    | some c =>
      let s := if c.own.isNone then s.collStart c else s
      s.collRun ((s.net.colls.find? mine).getD c) peers memStatus

/-- COLLECTIVE_TIMEOUT: not complete within TIMEOUT_MS of its post; 0 means no timeout (R275). -/
def execCollectiveTimeout (die : Fin 8) (handle : Fin 16) (s : State) : Host.Outcome State Fault Refusal :=
  .next <| match s.net.colls.find? (fun c => c.die == die && c.handle == handle.val) with
    | some c => if s.get .NET_GRP_CFG_TIMEOUT_MS 0 c.group = 0 then s else s.collFail c 0x23
    | none => s

/-- Is a group busy: a collective on it in flight (R290). -/
def State.grpBusy (s : State) (g : Nat) : Bool := s.net.colls.any (fun c => c.group == g)

/-! ### PTP (R276, R277) -/

/-- The port whose PTP messages discipline the module time: by the source in force, ND0's time of day with PPS. -/
def State.ptpPort (s : State) : Option (Fin 2) :=
  match s.get .NET_PTP_STATUS_SRC with
  | 0 => some 0
  | 1 => some 1
  | 2 => some 0
  | _ => none

/-- Set the PTP state, and with it whether module time is valid (R277). -/
def State.setPtp (s : State) (st : Nat) : State :=
  let s := s.set .NET_PTP_STATUS_STATE st
  { s with net := { s.net with ptpValid := (st == 2 || st == 3) && s.get .NET_PTP_STATUS_SRC != 3 } }

/-- The group of the default profile on a transport, and the UDP port of its event messages, as IEEE 1588 gives them (PRESUMED, log
entry 64). -/
def ptpGroup : PtpTransport → Addr
  | .ip4 => groupAddr false (224 * 2 ^ 24 + 1 * 2 ^ 8 + 129)
  | .ip6 => groupAddr true (0xFF0E * 2 ^ 112 + 0x181)
  | .ethernet => ⟨0x011B19000000, false, 0⟩
def ptpUdp : PtpTransport → Nat
  | .ethernet => 0
  | _ => 319

/-- Does the management identity of a port take a PTP message: with its tag, and on IPv4 with an address of its own (R260, R261,
R276). -/
def State.ptpDelivered (s : State) (m : PtpMsg) : Bool :=
  tagged (s.get .NET_MGMT_VLAN_VID) m.vlan && (m.transport != .ip4 || s.mgmtIp4 != 0)

/-- The PTP clock asks for its delay: a Delay_Req on the Sync's transport, with the time it leaves (R276). -/
def State.delayReq (s : State) (port : Fin 2) (t : PtpTransport) : State :=
  let x := s.net.ptp
  let s' : State := { s with net := { s.net with
    ptp := { x with req := some (x.nextReq, (s.timeNs : Int)), nextReq := (x.nextReq + 1) % 65536 } } }
  s'.put (s'.mgmtWire port (s'.anySub port) (ptpGroup t) (ptpUdp t) 7 7) (.delayReq x.nextReq)

/-- The clock takes an offset from its master: all of it, or with PPS_IN, which gives the phase, whole seconds of it; it is in lock or
acquiring (R276, R277). -/
def State.ptpFollow (s : State) (offset : Int) (locked : Bool) : State :=
  let step := if s.get .NET_PTP_STATUS_SRC = 2 then (offset + 500000000) / 1000000000 * 1000000000 else offset
  let s := s.set .NET_PTP_OFFSET_NS (enc 32 offset)
  let s : State := { s with net := { s.net with ptpBase := s.net.ptpBase - step } }
  s.setPtp (if locked then 2 else 1)

/-- What a message of the clock's domain does. An Announce of the best master makes its sender the parent. A Sync of the parent is
timestamped as it arrives; with its origin time, which a two-step master's Follow_Up brings, a Delay_Req goes out, and its answer
gives the offset, half the difference of the two delays. Peer-delay messages are not supported (R276). -/
def State.ptpTake (s : State) (port : Fin 2) (m : PtpMsg) (locked : Bool) : State :=
  let x := s.net.ptp
  let keep := fun (y : PtpSt) => ({ s with net := { s.net with ptp := y } } : State)
  match m.kind with
  | .announce best =>
    if best || x.parent.isNone then
      if x.parent = some m.sender then s else keep { x with parent := some m.sender, sync := none, waits := none, req := none }
    else s
  | .sync origin twoStep =>
    if x.parent ≠ some m.sender then s
    else
      let now : Int := s.timeNs
      let s := if s.get .NET_PTP_STATUS_STATE = 0 then s.setPtp 1 else s
      if twoStep then { s with net := { s.net with ptp := { x with waits := some (m.seq, now) } } }
      else ({ s with net := { s.net with ptp := { x with sync := some (origin, now), waits := none } } } : State).delayReq port
        m.transport
  | .followUp origin =>
    match x.waits with
    | some (n, t) =>
      if x.parent = some m.sender ∧ n = m.seq then
        (keep { x with sync := some (origin, t), waits := none }).delayReq port m.transport
      else s
    | none => s
  | .delayResp received =>
    match x.sync, x.req with
    | some (t1, t2), some (n, t3) =>
      if x.parent = some m.sender ∧ n = m.seq then
        (keep { x with req := none }).ptpFollow (((t2 - t1) - (received - t3)) / 2) locked
      else s
    | _, _ => s
  | .peerDelay => s

/-- PTP_MESSAGE: the port whose clock disciplines the module time takes a message of its domain; one that no identity takes is dropped
and counted (R260, R276, R277). Whether its servo then holds lock, the message's command says. -/
def execPtpMessage (port : Fin 2) (m : PtpMsg) (locked : Bool) (s : State) : Host.Outcome State Fault Refusal :=
  .next <|
    if s.netHeld then s
    else
      let s := s.received port 3 0
      if !s.ptpDelivered m then s.netCount .NET_P_DROP_COUNT 1 port
      else if !s.ready rPTP || s.ptpPort != some port || m.domain != s.get .NET_PTP_CFG_DOMAIN then s
      else s.ptpTake port m locked

/-- A selected source is lost: with AUTO the other net die takes over if it has link, else the clock holds over (R277). -/
def State.ptpLost (s : State) (port : Fin 2) : State :=
  let other : Fin 2 := if port = 0 then 1 else 0
  if s.ptpPort ≠ some port then s
  else
    let s : State := { s with net := { s.net with ptp := {} } }
    if s.get .NET_PTP_STATUS_SRC < 2 ∧ s.bit .NET_PTP_CFG_AUTO ∧ s.get .NET_P_LINK_UP other ≠ 0 then
      (((s.set .NET_PTP_CFG_SRC other).set .NET_PTP_STATUS_SRC other).setPtp (if s.net.ptpValid then 3 else 1))
    else s.setPtp 3

/-- PTP_SOURCE_SWITCH (R277). -/
def execPtpSourceSwitch (port : Fin 2) (s : State) : Host.Outcome State Fault Refusal :=
  .next (if s.netHeld then s else s.ptpLost port)

/-- `NET_PTP_CFG.SRC` written (R277). -/
def State.ptpSelect (s : State) (src : Nat) : State :=
  if s.get .NET_PTP_STATUS_SRC = src then s
  else
    let s : State := { s with net := { s.net with ptp := {} } }
    (s.set .NET_PTP_STATUS_SRC src).setPtp (if src = 3 then 0 else if s.ready rPTP then 1 else 0)

/-! ### Request timeouts (R252) -/

/-- Request `k` of a requester times out: only the path of its part under way is counted; it completes with status 0x18, and what
comes for it later is discarded (R252). -/
def State.reqTimeout (s : State) (r : Requester) (k : Nat) : State :=
  let path := match s.reqInfo r k with
    | none => []
    | some i =>
      let wr := (s.fwy.packets.find? (fun p => p.req == r && p.k == k)).elim i.src.isNone (·.wr)
      ((if wr then i.dst else i.src).map (fun l => fwyPath i.home l.server)).getD []
  ((s.timedOut path).purge (fun x n => x == r && n == k)).reqDone r k 0x18

/-- The oldest outstanding request of a tug; of a gather or scatter, with its position; of a queue pair. -/
def State.oldestTug (s : State) (q : Fin 8) (t : Fin 32) : Option (Requester × Nat) :=
  (((s.quay q).tugs[t]).runs.flatMap (fun r => r.out.map (fun e => (Requester.tug q t r.num, e.k)))).head?
def State.oldestRow (s : State) (d : Fin 8) (n : Nat) : Option (Requester × Nat) :=
  ((s.die d).gathers.find? (fun g => g.id == n)).bind (fun g =>
    (g.rows.findIdx? (fun r => r.st == .asked || r.st == .outstanding)).map (fun i => (Requester.row d n i, 0)))
def State.oldestSeg (s : State) (qp : Nat) : Option (Requester × Nat) :=
  (s.fwy.segs.find? (fun e => e.qp == qp)).map (fun e => (Requester.segment e.n, 0))

/-- REQUEST_TIMEOUT: a request not completed within `FWY_TIMEOUT.US` completes with status 0x18: the oldest outstanding one of a tug,
of a gather or scatter, or of a queue pair, whose operation or collective then fails (R252, R275). -/
def execRequestTimeout (req : TimedReq) (s : State) : Host.Outcome State Fault Refusal :=
  .next <|
    match req with
    | .tug q t => (match s.oldestTug q t with | some r => s.reqTimeout r.1 r.2 | none => s)
    | .gather d n => (match s.oldestRow d n with | some r => s.reqTimeout r.1 r.2 | none => s)
    | .segment qp =>
      if s.netHeld then s
      else
        let hit := fun (s : State) (c : Coll) => (s.collNeeds c.entry).contains qp.val
        let s := match s.oldestSeg qp, s.net.colls.find? (hit s) with
          | some r, _ => s.reqTimeout r.1 r.2
          | none, some c => s.timedOut (addrPath (16 + cPort c.entry) (cSrc c.entry))
          | none, none => s.timedOut []
        if s.net.colls.any (hit s) then s.failColls hit 0x18
        else if s.qpReceives qp then s.roce qp kNakRemote (s.get .NET_QP_RQ_PSN_PSN 0 qp) [] else s

/-- The counters that `NET_CNT_CTRL.CLEAR` clears (R289). -/
def netCntFlds : List Fld :=
  [.NET_BP_DROP_COUNT, .NET_TM_DROP_COUNT, .NET_P_FEC_CORR_COUNT, .NET_P_FEC_UNCORR_COUNT, .NET_P_PFC_TX_COUNT,
   .NET_P_PFC_RX_COUNT, .NET_P_CE_RX_COUNT, .NET_P_CNP_RX_COUNT, .NET_P_DROP_COUNT, .NET_P_TX_COUNT, .NET_P_RX_COUNT,
   .NET_P_SAT_COUNT]

end Sys2Proof.Machine
end

