-- ==== Sys2Proof/Machine/RateHold.lean ====
section
/-! DEFINITION. Rate-hold domains (chapter 11): received Tidemark frames, membership, the master's choice, election and
quorum. -/

namespace Sys2Proof.Machine

/-! ### What a berth reports of itself -/

/-- The lower code in force over a berth's dies (R300). -/
def State.berthCode (s : State) (b : Fin 8) : Nat :=
  match s.berthDies b with
  | [] => 0
  | d :: ds => ds.foldl (fun a e => lowerCode a (s.die e).code) (s.die d).code

/-- The lower of two steps, modulo 2^32 (R304). -/
def lowerStep (a b : Nat) : Nat := if (a + 2 ^ 32 - b) % 2 ^ 32 < 2 ^ 31 then b else a

/-- The lowest step among a berth's running dies; among all its dies while none runs (R300). -/
def State.berthStep (s : State) (b : Fin 8) : Nat :=
  let run := (s.berthDies b).filter (fun d => s.running d)
  let l := (if run.isEmpty then s.berthDies b else run).map (fun d : Fin 8 => s.get .CDC_STEP_STEP d)
  match l with
  | [] => 0
  | x :: xs => xs.foldl lowerStep x

/-- The lowest local duty in force on a berth's dies, 0 for full duty (R300). -/
def State.berthDuty (s : State) (b : Fin 8) : Nat :=
  let l := (s.berthDies b).foldl (fun a d =>
    let k := [(s.die d).duThermal, (s.die d).duReserve].foldl (fun a k => if k = 0 then a else min a k) 8
    min a k) 8
  if l = 8 then 0 else l

/-- `RHD_RATE.MAX_CODE`: the lowest highest code among a berth's dies (R294). -/
def State.berthMax (s : State) (b : Fin 8) : Nat := (s.berthDies b).foldl (fun a (d : Fin 8) => lowerCode a (s.dieMax d)) 0x30

/-- A berth is healthy (R297): its tag is the domain's, no level-3 fault is latched on it, its port has link. -/
def State.healthy (s : State) (b : Fin 8) : Bool :=
  let r := s.rhdOf b
  ((s.berth b).tag == r.domainTag || !r.everHeard) && !s.log.latches.any (fun l => s.faultOn b l.chapter l.unit) &&
    s.get .NET_P_LINK_UP (s.get .RHD_CFG_PORT b) != 0

/-- What a CLAIM or BEACON of this berth would carry: PINNED and its index. -/
def State.ownRank (s : State) (b : Fin 8) : Bool × Nat := (s.bit .RHD_CFG_PIN b, s.get .RHD_STATE_INDEX b)

/-- Is the first of higher precedence: pinned against unpinned, else the lower index. -/
def outranks (a b : Bool × Nat) : Bool := (a.1 && !b.1) || (a.1 == b.1 && decide (a.2 < b.2))

/-- The berth's request index: what it elects with before it has been admitted (DEDUCED, log entry 68). -/
def State.claimIndex (s : State) (b : Fin 8) : Nat := if s.bit .RHD_ID_ANY b then 0 else s.get .RHD_ID_REQ_INDEX b

/-- P in ps. -/
def State.period (s : State) (b : Fin 8) : Nat := (s.rhdOf b).periodUs * us

/-! ### Received frames (R287) -/

/-- A berth whose rate-hold logic takes frames: it exists, is not OFF, the net dies and a pilot's link to them run. -/
def State.tmListens (s : State) (b : Fin 8) : Bool := !s.netHeld && s.pilotTalks && (s.berth b).desc.isSome && s.rhdState b != 0

/-- The frame that a received header and payload make up, and whether it is valid (R287). -/
def tmBytes (h : TmHdr) (type : Nat) (payload : List Nat) : List Nat :=
  toBe h.magic 2 ++ [h.version, type] ++ toBe h.domain 2 ++ toBe h.sender 2 ++ toBe h.epoch 4 ++ toBe h.alive 2 ++
    toBe h.length 2 ++ [h.flags, 0, 0, 0] ++ payload
def State.tmValid (s : State) (b : Fin 8) (h : TmHdr) (type : Nat) (payload : List Nat) : Bool :=
  let body := tmBytes h type payload
  let auth := bitAt h.flags 0
  let tagOk := if s.tmKeySet b then auth && h.tag == s.tmTag b body else !auth
  h.magic == 0x7D3C && h.version == 1 && h.domain == s.get .RHD_ID_DOMAIN b && h.length == payload.length && tagOk &&
    h.crc == crc32c (body ++ (if auth then h.tag else []))

/-- A frame arrives: the bound unit checks it; if it is valid and its rate codes are, `act` follows, else it is discarded and
counted (R287, R291). -/
def State.tmRx (s : State) (b : Fin 8) (h : TmHdr) (type : Nat) (payload : List Nat) (codes : List Nat) (act : State → State) :
    State :=
  let s := if s.netHeld then s else s.received (s.get .RHD_CFG_PORT b) 4 h.length
  if !s.tmListens b then s
  else
    let item := tmBytes h type payload ++ (if bitAt h.flags 0 then h.tag else []) ++ toBe h.crc 4
    let s := s.snoop 4 item false
    if s.tmValid b h type payload && codes.all codeValid then act s else s.netCount .NET_TM_DROP_COUNT 1

/-! ### Following a master -/

/-- Complete every collective in flight on the groups that a berth owns with MEMBER_LOST (R319). -/
def State.lossColls (s : State) (b : Fin 8) : State :=
  s.failColls (fun _ c => c.berth == b.val) 0x20

/-- Every die of a berth prepares a pending code that differs from the berth's code in force (R306). -/
def State.berthPrepare (s : State) (b : Fin 8) (code step origin : Nat) (noStep : Bool) : State :=
  (s.berthDies b).foldl (fun (s : State) (d : Fin 8) =>
    let c := s.limitCode d code
    match (s.die d).ratePend with
    | some p => if p.code = c then s else s.ratePrepare d code step origin noStep
    | none => if c = (s.die d).code then s else s.ratePrepare d code step origin noStep) s

/-- The run time at which module time stood at `timeNs`. -/
def State.runTime (s : State) (timeNs : Nat) : Nat :=
  ((s.now : Int) - ((s.timeNs : Int) - (timeNs : Int)) * 1000).toNat

/-- Exclude a berth from its domain, with event 0x1106 (Tables 11-2, 11-7). -/
def State.exclude (s : State) (b : Fin 8) : State := (s.rhdLeft b 6).raise 0x1106 b

/-- No hotspot of a berth reads as high as `t` (1/8 °C); sensors that are not valid do not count. -/
def State.cooler (s : State) (b : Fin 8) (t : Int) : Bool :=
  (s.berthDies b).all (fun d => (List.range 24).all (fun k =>
    !s.sensorValid d k || decide (dec 16 (s.get .CDC_TEMP_TEMP d k) < t)))

/-- A beacon shows RATE at or below the code that the berth asked for: local thermal pacing withdraws unless its condition holds
(R310, R470). -/
def State.localWithdraw (s : State) (b : Fin 8) (rate : Nat) : State :=
  let asked := ((s.rhdOf b).ceilings.find? (fun e => e.1 == 0)).map (·.2)
  let met := match asked with
    | some c => decide (rankOf rate ≤ rankOf c)
    | none => true
  if met && s.cooler b 816 then (s.berthDies b).foldl (fun s d => s.modDie d (fun x => { x with duThermal := 0 })) s else s

/-- The fields of an accepted beacon. -/
structure Beacon where
  rate : Nat
  pending : Nat
  step : Nat
  timeNs : Nat
  manifest : Nat
  periodUs : Nat
  members : Nat
  deriving DecidableEq, Repr

/-- Keep what an accepted beacon says: master, P, epoch, pending code, members. -/
def State.keepBeacon (s : State) (b : Fin 8) (h : TmHdr) (n : Beacon) : State :=
  let pinned := bitAt h.flags 1
  let s := s.rhdCount b .RHD_BEACON_RX_COUNT
  let s := ((s.set .RHD_MASTER_INDEX h.sender b).setBit .RHD_MASTER_PINNED pinned b).setBit .RHD_MASTER_VALID true b
  let s := ((s.set .RHD_EFF_STEP_STEP n.step b).set .RHD_MEMBERS_COUNT n.members b).set .RHD_RATE_PENDING n.pending b
  let s := s.setBit .RHD_STATE_REQUESTING false b
  s.modRhd b (fun r =>
    { r with
      periodUs := n.periodUs, domainTag := n.manifest, masterAddr := some h.src, heardAt := s.now
      heardFrom := (h.sender, h.alive, n.timeNs) :: r.heardFrom.filter (fun e => e.1 != h.sender)
      highEpoch := max r.highEpoch h.epoch, missed := 0, lastPending := n.pending, everHeard := true, domRate := n.rate
      lastRank := (pinned, h.sender), quorumBase := n.members })

/-- A member takes a beacon of the master it follows: tag, epoch, pending code, skew (R300, R306, R319, R320). `elected`: the beacon
is the first of a new master. Whether a new epoch of the same master is a loss epoch no frame tells, so it is free (log entry
16). -/
def State.memberBeacon (s : State) (b : Fin 8) (h : TmHdr) (n : Beacon) (elected : Bool) : State :=
  let newEpoch := s.get .RHD_EPOCH_EPOCH b < h.epoch
  let differs := (s.berth b).tag != n.manifest
  if newEpoch && s.bit .RHD_STATE_TAG_MISMATCH b then s.exclude b
  else
    let s := s.set .RHD_EPOCH_EPOCH h.epoch b
    let s := if differs && !s.bit .RHD_STATE_TAG_MISMATCH b then (s.setBit .RHD_STATE_TAG_MISMATCH true b).raise 0x1105 b
      else s.setBit .RHD_STATE_TAG_MISMATCH differs b
    let s := if !newEpoch then s
      else if elected then s.lossColls b
      else
        let (v, s) := s.freeNat 16
        if v % 2 = 1 then s.lossColls b else s
    let s := if n.pending = n.rate then s.set .RHD_SKEW_SKEW (s.berthStep b + 2 ^ 32 - n.step % 2 ^ 32) b else s
    (s.berthPrepare b n.pending n.step (s.runTime n.timeNs) false).localWithdraw b n.rate

/-- Become a member that follows the sender of a beacon. -/
def State.follow (s : State) (b : Fin 8) (h : TmHdr) (n : Beacon) (elected : Bool) : State :=
  let s := (s.rhdEnter b 4).modRhd b (fun r =>
    { r with claimAt := none, outranked := false, mute := false, members := [], joins := [], periods := 0, windows := []
             newEpoch := false, lossEpoch := false, fromEpoch := none })
  (s.keepBeacon b h n).memberBeacon b h n elected

/-- Payload of JOIN (Table 10-10). -/
def State.joinPayload (s : State) (b : Fin 8) : List Nat :=
  toBe (s.berth b).tag 8 ++ toBe (if s.bit .RHD_ID_ANY b then 0xFFFF else s.get .RHD_ID_REQ_INDEX b) 2 ++ [0, 0]

/-- A beacon that repeats the ALIVE of the last one accepted from its sender, or is not later than it (R299). -/
def RhdSt.stale (r : RhdSt) (sender alive timeNs : Nat) : Bool :=
  r.heardFrom.any (fun e => e.1 == sender && (e.2.1 == alive || decide (timeNs ≤ e.2.2)))

/-- TM_BEACON_RX (R296, R299, R306). -/
def execTmBeaconRx (b : Fin 8) (h : TmHdr) (rate pending : BitVec 8) (effStep : BitVec 32) (timeNs : Nat)
    (manifest : BitVec 64) (periodUs : BitVec 32) (members : BitVec 16) (s : State) : Host.Outcome State Fault Refusal :=
  .next <|
    let n : Beacon := ⟨rate.toNat, pending.toNat, effStep.toNat, timeNs, manifest.toNat, periodUs.toNat, members.toNat⟩
    let payload := [n.rate, n.pending, 0, 0] ++ toBe n.step 4 ++ toBe (timeNs / 1000000000) 6 ++ toBe (timeNs % 1000000000) 4 ++
      [0, 0] ++ toBe n.manifest 8 ++ toBe n.periodUs 4 ++ toBe n.members 2 ++ [0, 0]
    s.tmRx b h 0x01 payload [n.rate, n.pending] (fun s =>
      let r := s.rhdOf b
      let st := s.rhdState b
      let followed := s.bit .RHD_MASTER_VALID b && s.get .RHD_MASTER_INDEX b == h.sender
      let rank := (bitAt h.flags 1, h.sender)
      if r.stale h.sender h.alive timeNs then s.netCount .NET_TM_DROP_COUNT 1
      else if st = 1 then
        (((s.keepBeacon b h n).rhdEnter b 2).tmSend b h.src 0x04 (s.joinPayload b))
      else if st = 2 then
        let s := s.keepBeacon b h n
        match r.fromEpoch with
        | some e => if e ≤ h.epoch then
              let s := (s.rhdEnter b 4).set .RHD_EPOCH_EPOCH h.epoch b
              let s := s.modRhd b (fun r => { r with fromEpoch := none })
              let s := s.memberBeacon b h n false
              if s.rhdState b = 4 then s.berthPrepare b n.pending n.step (s.runTime timeNs) true else s
            else s
        | none => s
      else if st = 3 then
        if !outranks rank (s.ownRank b) then s
        else if s.get .RHD_EPOCH_EPOCH b ≤ h.epoch then s.follow b h n true else s.modRhd b (fun r => { r with outranked := true })
      else if st = 4 then
        if followed then (s.keepBeacon b h n).memberBeacon b h n false
        else if outranks rank r.lastRank && decide (s.get .RHD_EPOCH_EPOCH b ≤ h.epoch) then s.follow b h n true else s
      else if st = 5 then
        if outranks rank (s.ownRank b) && n.manifest == r.domainTag then s.follow b h n true else s
      else s)

/-! ### The master (R301 to R305, R315, R316, R318) -/

/-- MEMBERS: the members of the table and the master itself. -/
def RhdSt.count (r : RhdSt) : Nat := r.members.length + 1

/-- TM_RATE_REQ_RX: a request for a code lower than the domain's RATE is held for 3 × P (R302, R303). -/
def execTmRateReqRx (b : Fin 8) (h : TmHdr) (code reason : BitVec 8) (step skew : BitVec 32) (s : State) :
    Host.Outcome State Fault Refusal :=
  .next <|
    s.tmRx b h 0x02 ([code.toNat, reason.toNat, 0, 0] ++ toBe step.toNat 4 ++ toBe skew.toNat 4) [code.toNat] (fun s =>
      if s.rhdState b = 5 ∧ rankOf code.toNat < rankOf (s.rhdOf b).domRate then
        s.modRhd b (fun r => { r with members := r.members.map (fun m : Member =>
          if m.index = h.sender then { m with req := some (code.toNat, s.now + 3 * s.period b) } else m) })
      else s)

/-- Answer a candidate or an unknown member, at its address, with a JOIN_REPLY (Table 10-10). -/
def State.joinReply (s : State) (b : Fin 8) (dst : Addr) (result index fromEpoch : Nat) : State :=
  s.tmSend b dst 0x05 ([result, 0] ++ toBe index 2 ++ toBe fromEpoch 4)

/-- TM_STATUS_RX: the master records a member's STATUS; an index it does not know gets RESULT 3, but for the first 3 periods of a
new master, which builds its table from them (R305, R312, R318, R320). -/
def execTmStatusRx (b : Fin 8) (h : TmHdr) (rate duty : BitVec 8) (step skew : BitVec 32) (memRatio : BitVec 16)
    (manifest : BitVec 64) (s : State) : Host.Outcome State Fault Refusal :=
  .next <|
    s.tmRx b h 0x03 ([rate.toNat, duty.toNat, 0, 0] ++ toBe step.toNat 4 ++ toBe skew.toNat 4 ++ toBe memRatio.toNat 2 ++ [0, 0] ++
      toBe manifest.toNat 8) [rate.toNat] (fun s =>
      if s.rhdState b ≠ 5 then s
      else
        let r := s.rhdOf b
        let known := r.members.any (fun m => m.index == h.sender)
        if !known && decide (3 ≤ r.periods) then s.joinReply b h.src 3 h.sender 0
        else
          let ok := manifest.toNat == r.domainTag
          let base : Member := (r.members.find? (fun m => m.index == h.sender)).getD { index := h.sender }
          let m : Member :=
            { base with
              rate := rate.toNat, duty := duty.toNat, step := step.toNat, skew := skew.toNat, missed := 0, heard := true, pending := false
              tagOk := base.tagOk && ok }
          let bad := base.tagOk && !ok
          s.setRhd b
            { r with
              members := r.members.filter (fun x => x.index != h.sender) ++ [m]
              newEpoch := r.newEpoch || bad, lossEpoch := r.lossEpoch || bad })

/-- The lowest index that no member holds (R316). -/
def RhdSt.freeIndex (r : RhdSt) (own : Nat) : Nat :=
  ((List.range 16384).find? (fun i => i != own && !r.members.any (fun m => m.index == i))).getD 0xFFFF

/-- The RESULT of a JOIN at a master (R301, R316). -/
def State.joinResult (s : State) (b : Fin 8) (manifest req : Nat) : Nat :=
  let r := s.rhdOf b
  if manifest ≠ r.domainTag then 1
  else if r.periodUs * 1000 < (r.count + 1) * 50 ∨ 16384 < r.count + 1 then 2
  else if req ≠ 0xFFFF ∧ (req = s.get .RHD_STATE_INDEX b ∨ r.members.any (fun m => m.index == req)) then 3
  else 0

/-- TM_JOIN_RX: the master answers after the beacon that opens FROM_EPOCH; one that is not master answers 4 (R316). -/
def execTmJoinRx (b : Fin 8) (h : TmHdr) (manifest : BitVec 64) (reqIndex : BitVec 16) (s : State) :
    Host.Outcome State Fault Refusal :=
  .next <|
    s.tmRx b h 0x04 (toBe manifest.toNat 8 ++ toBe reqIndex.toNat 2 ++ [0, 0]) [] (fun s =>
      if s.rhdState b ≠ 5 then (s.joinReply b h.src 4 reqIndex.toNat 0).raise 0x1108 b
      else
        let r := s.rhdOf b
        let res := s.joinResult b manifest.toNat reqIndex.toNat
        if res ≠ 0 then (s.setRhd b { r with joins := r.joins ++ [(res, reqIndex.toNat, h.src)] }).raise 0x1108 b
        else
          let i := if reqIndex.toNat = 0xFFFF then r.freeIndex (s.get .RHD_STATE_INDEX b) else reqIndex.toNat
          s.setRhd b
            { r with
              members := r.members ++ [{ index := i, rate := r.domRate, pending := true }]
              joins := r.joins ++ [(0, i, h.src)], newEpoch := true })

/-- TM_JOIN_REPLY_RX (Table 11-2). -/
def execTmJoinReplyRx (b : Fin 8) (h : TmHdr) (result : BitVec 8) (index : BitVec 16) (fromEpoch : BitVec 32) (s : State) :
    Host.Outcome State Fault Refusal :=
  .next <|
    s.tmRx b h 0x05 ([result.toNat, 0] ++ toBe index.toNat 2 ++ toBe fromEpoch.toNat 4) [] (fun s =>
      match s.rhdState b, result.toNat with
      | 2, 0 => (s.set .RHD_STATE_INDEX index.toNat b).modRhd b (fun r => { r with fromEpoch := some fromEpoch.toNat })
      | 2, 4 => s.rhdEnter b 1
      | 2, n => if n ≤ 3 then (s.raise 0x1108 b).exclude b else s
      | 4, 3 => if index.toNat = s.get .RHD_STATE_INDEX b then s.exclude b else s
      | _, _ => s)

/-- TM_LEAVE_RX: the master drops the member and opens an epoch at the next beacon (R315). -/
def execTmLeaveRx (b : Fin 8) (h : TmHdr) (reason : BitVec 8) (s : State) : Host.Outcome State Fault Refusal :=
  .next <|
    s.tmRx b h 0x06 [reason.toNat, 0, 0, 0] [] (fun s =>
      let r := s.rhdOf b
      if s.rhdState b = 5 ∧ r.members.any (fun m => m.index == h.sender) then
        s.setRhd b { r with members := r.members.filter (fun m => m.index != h.sender), newEpoch := true
                            lossEpoch := r.lossEpoch || reason.toNat != 0 }
      else s)

/-! ### Election (R311 to R314) -/

/-- A berth's CLAIM, if it is healthy. -/
def State.claim (s : State) (b : Fin 8) : State :=
  if !s.healthy b then s
  else (s.tmSend b (s.tmGroup b) 0x07 (toBe (s.berth b).tag 8 ++ toBe 0 4) (s.bit .RHD_CFG_PIN b)).modRhd b (fun r =>
    { r with claimAt := some s.now, outranked := false })

/-- Enter ELECTING; a pinned berth claims at once. -/
def State.elect (s : State) (b : Fin 8) : State :=
  let s := (s.rhdEnter b 3).modRhd b (fun r => { r with claimAt := none, outranked := false })
  if s.bit .RHD_CFG_PIN b then s.claim b else s

/-- TM_CLAIM_RX (Table 11-2, R311). -/
def execTmClaimRx (b : Fin 8) (h : TmHdr) (manifest : BitVec 64) (s : State) : Host.Outcome State Fault Refusal :=
  .next <|
    s.tmRx b h 0x07 (toBe manifest.toNat 8 ++ toBe 0 4) [] (fun s =>
      let rank := (bitAt h.flags 1, h.sender)
      let r := s.rhdOf b
      let higher := outranks rank (s.ownRank b)
      match s.rhdState b with
      | 3 =>
        if higher then s.setRhd b { r with outranked := true }
        else if outranks (s.ownRank b) rank && r.claimAt.isNone && !r.outranked then s.claim b else s
      | 4 => if higher then s.setRhd b { r with outranked := true } else s
      | 5 =>
        if higher && manifest.toNat == r.domainTag then
          let s := (s.rhdEnter b 4).modRhd b (fun r =>
            { r with mute := true, masterAddr := some h.src, members := [], joins := [], periods := 0, windows := [], newEpoch := false
                     lossEpoch := false, missed := 0, lastRank := rank })
          ((s.set .RHD_MASTER_INDEX h.sender b).setBit .RHD_MASTER_PINNED rank.1 b).setBit .RHD_MASTER_VALID true b
        else s
      | _ => s)

/-- What a berth asks for, as (reason, code): the conditions that other chapters hold, R294, and its own target (Table 11-3). -/
def State.asks (s : State) (b : Fin 8) : List (Nat × Nat) :=
  let r := s.rhdOf b
  let top := if rankOf r.domRate < rankOf (s.get .RHD_RATE_PENDING b) then s.get .RHD_RATE_PENDING b else r.domRate
  let mx := s.berthMax b
  let own := (r.ceilings.filter (fun e => decide (rankOf e.2 < rankOf r.domRate)))
  own ++ (if rankOf mx < rankOf top then [(1, mx)] else []) ++
    (if rankOf (s.get .RHD_TARGET_CODE b) < rankOf r.domRate then [(4, s.get .RHD_TARGET_CODE b)] else [])

/-- The lowest code of some asks, with the lowest reason that asks it (R464). -/
def lowestAsk : List (Nat × Nat) → Option (Nat × Nat)
  | [] => none
  | a :: l => match lowestAsk l with
    | none => some a
    | some c => if rankOf c.2 < rankOf a.2 ∨ (rankOf c.2 = rankOf a.2 ∧ c.1 < a.1) then some c else some a

/-- The master's own berth asks in each period as a member would, and its request is held as a member's is (R302, R303). -/
def State.ownAsk (s : State) (b : Fin 8) : State :=
  if s.rhdState b ≠ 5 then s
  else match lowestAsk (s.asks b) with
    | none => s
    | some (_, code) => s.modRhd b (fun r => { r with ownReq := some (code, s.now + 3 * s.period b) })

/-- The step of a new change: the highest step reported in the last period, the master's own with it, plus STEP_LEAD (R304). -/
def State.effStep (s : State) (b : Fin 8) : Nat :=
  (((s.rhdOf b).members.filter (·.heard)).foldl (fun a m => if (m.step + 2 ^ 32 - a) % 2 ^ 32 < 2 ^ 31 then m.step else a) (s.berthStep b) +
    s.get .RHD_TIMING_STEP_LEAD b) % 2 ^ 32

/-- The master's desired code: the lowest of the held requests, its own berth's with them, and its own target (R303). -/
def State.desired (s : State) (b : Fin 8) : Nat :=
  let r := s.rhdOf b
  let c := r.members.foldl (fun a m => match m.req with | some (c, _) => lowerCode a c | none => a) (s.get .RHD_TARGET_CODE b)
  match r.ownReq with
  | some (own, _) => lowerCode c own
  | none => c

/-- RATE and PENDING of the master's next beacon (R303, R305), its first as R312 has them: pending code, and its step if a change is announced now. -/
def State.nextRate (s : State) (b : Fin 8) : Nat × Nat × Option Nat :=
  let r := s.rhdOf b
  let pend := s.get .RHD_RATE_PENDING b
  if pend ≠ r.domRate then
    if r.members.all (fun m => m.pending || (m.heard && m.rate == pend)) && s.berthCode b == pend then (pend, pend, none) else (r.domRate, pend, none)
  else if r.periods = 0 then (r.domRate, pend, none)
  else
    let want := s.desired b
    let hold := match r.expiredAt with
      | none => false
      | some t => decide (s.now < t + s.get .RHD_TIMING_HOLD b * 10 * ms)
    if rankOf want < rankOf pend ∨ (rankOf pend < rankOf want ∧ !hold) then (r.domRate, want, some (s.effStep b))
    else (r.domRate, pend, none)

/-- A new period of the master: each member's silence is counted (R313, R318), but for one whose epoch has not begun. -/
def Member.close (m : Member) : Member :=
  if m.pending then m
  else { m with missed := if m.heard then 0 else min 3 (m.missed + 1), quiet := if m.heard then 0 else min 3 (m.quiet + 1), heard := false }

/-- An epoch opens: the admitted are members of it, those with another tag leave (R315, R320). -/
def RhdSt.open (r : RhdSt) : RhdSt :=
  { r with members := (r.members.filter (·.tagOk)).map (fun m => { m with pending := false }), newEpoch := false, lossEpoch := false }

/-- BEACON_SEND: the master's one beacon of the present multiple of P, with what it announces; joins are answered after it (R298, R303 to R305,
R312, R315, R316). -/
def execBeaconSend (b : Fin 8) (s : State) : Host.Outcome State Fault Refusal :=
  .next <|
    let r := s.rhdOf b
    let t := if r.periodUs = 0 then s.timeNs else s.timeNs / (r.periodUs * 1000) * (r.periodUs * 1000)
    if s.netHeld || s.rhdState b != 5 || r.mute || r.sentTime == some t then s
    else
      let s := s.ownAsk b
      let r := s.rhdOf b
      let (rate, pend, eff) := s.nextRate b
      -- the epoch
      let opens := r.newEpoch
      let epoch := if opens then (s.get .RHD_EPOCH_EPOCH b + 1) % 2 ^ 32 else s.get .RHD_EPOCH_EPOCH b
      let s := s.set .RHD_EPOCH_EPOCH epoch b
      let step := match eff with
        | some e => e
        | none => if pend = rate then s.berthStep b else s.get .RHD_EFF_STEP_STEP b
      let changed := eff.isSome
      let closed := { r with members := r.members.map Member.close }
      let closed := if opens then closed.open else closed
      let count := closed.count
      let s := ((s.set .RHD_RATE_PENDING pend b).set .RHD_EFF_STEP_STEP step b).set .RHD_MEMBERS_COUNT count b
      let s := s.setRhd b
        { closed with
          domRate := rate, windows := if r.periods = 0 then r.windows else (count :: r.windows).take 4
          periods := r.periods + 1, joins := [], sentTime := some t, heardAt := s.now, highEpoch := max r.highEpoch epoch }
      let payload := [rate, pend, 0, 0] ++ toBe step 4 ++ toBe (t / 1000000000) 6 ++ toBe (t % 1000000000) 4 ++ [0, 0] ++
        toBe r.domainTag 8 ++ toBe r.periodUs 4 ++ toBe count 2 ++ [0, 0]
      let s := s.tmSend b (s.tmGroup b) 0x01 payload (s.bit .RHD_CFG_PIN b)
      let s := if opens then s.raise 0x1101 b else s
      let s := if opens && r.lossEpoch then s.lossColls b else s
      let s := if changed || pend != s.berthCode b then s.berthPrepare b pend step (s.runTime t) false else s
      let s := s.localWithdraw b rate
      r.joins.foldl (fun s j => s.joinReply b j.2.2 j.1 j.2.1 epoch) s

/-- BEACON_MISSED: a beacon period is missed; the third in a row starts an election (R296). -/
def execBeaconMissed (b : Fin 8) (s : State) : Host.Outcome State Fault Refusal :=
  .next <|
    if s.rhdState b ≠ 4 then s
    else
      let s := (s.rhdCount b .RHD_BEACON_MISS_COUNT).setBit .RHD_STATE_REQUESTING false b
      let s := s.modRhd b (fun r => { r with missed := r.missed + 1 })
      if (s.rhdOf b).missed < 3 then s
      else ((s.setBit .RHD_MASTER_VALID false b).elect b).raise 0x1104 b

/-- MEM_RATIO: the highest ratio of `CDC_STALL_MEM` to `CDC_ENABLED` among the dies since the last STATUS, in 2^-16 (R300). -/
def State.takeRatio (s : State) (b : Fin 8) : Nat × List (Nat × Nat × Nat) :=
  let old := (s.rhdOf b).ratioBase
  let now := (s.berthDies b).map (fun d : Fin 8 => (d.val, s.get .CDC_STALL_MEM_COUNT d, s.get .CDC_ENABLED_COUNT d))
  let r := now.foldl (fun a e =>
    let (m0, n0) := ((old.find? (fun o => o.1 == e.1)).map (·.2)).getD (0, 0)
    let m := if m0 ≤ e.2.1 then e.2.1 - m0 else e.2.1
    let n := if n0 ≤ e.2.2 then e.2.2 - n0 else e.2.2
    if n = 0 then a else max a (min 65535 (m * 65536 / n))) 0
  (r, now)

/-- STATUS_SEND: a member's STATUS to its master (R300). -/
def execStatusSend (b : Fin 8) (s : State) : Host.Outcome State Fault Refusal :=
  .next <|
    if s.netHeld || s.rhdState b != 4 || !s.bit .RHD_MASTER_VALID b then s
    else
      let (ratio, base) := s.takeRatio b
      let s := s.modRhd b (fun r => { r with memRatio := ratio, ratioBase := base })
      s.tmSend b (s.tmMaster b) 0x03 ([s.berthCode b, s.berthDuty b, 0, 0] ++ toBe (s.berthStep b) 4 ++ toBe (s.get .RHD_SKEW_SKEW b) 4 ++
        toBe ratio 2 ++ [0, 0] ++ toBe (s.berth b).tag 8)

/-- RATE_REQ_SEND: one RATE_REQ in a beacon period, with the lowest code asked (R302, R464). -/
def execRateReqSend (b : Fin 8) (s : State) : Host.Outcome State Fault Refusal :=
  .next <|
    if s.netHeld || s.rhdState b != 4 || s.bit .RHD_STATE_REQUESTING b then s
    else match lowestAsk (s.asks b) with
      | none => s
      | some (reason, code) =>
        let s := (s.setBit .RHD_STATE_REQUESTING true b).rhdCount b .RHD_REQ_TX_COUNT
        s.tmSend b (s.tmMaster b) 0x02 ([code, reason, 0, 0] ++ toBe (s.berthStep b) 4 ++ toBe (s.get .RHD_SKEW_SKEW b) 4)

/-- REQUEST_HOLD_EXPIRY (R303). -/
def execRequestHoldExpiry (b : Fin 8) (index : Nat) (s : State) : Host.Outcome State Fault Refusal :=
  .next <|
    let r := s.rhdOf b
    if s.rhdState b ≠ 5 then s
    else if index = s.get .RHD_STATE_INDEX b ∧ r.ownReq.isSome then s.setRhd b { r with ownReq := none, expiredAt := some s.now }
    else if r.members.any (fun m => m.index == index && m.req.isSome) then
      s.setRhd b
        { r with
          members := r.members.map (fun m : Member => if m.index = index then { m with req := none } else m)
          expiredAt := some s.now }
    else s

/-- SEEKING_TIMEOUT: 3 × P without a valid beacon (Table 11-2). -/
def execSeekingTimeout (b : Fin 8) (s : State) : Host.Outcome State Fault Refusal :=
  .next (if s.rhdState b = 1 then ((s.set .RHD_STATE_INDEX (s.claimIndex b) b).elect b) else s)

/-- JOINING_TIMEOUT (Table 11-2). -/
def execJoiningTimeout (b : Fin 8) (s : State) : Host.Outcome State Fault Refusal :=
  .next (if s.rhdState b = 2 ∧ (s.rhdOf b).fromEpoch.isNone then s.rhdEnter b 1 else s)

/-- CLAIM_SEND: a healthy berth in ELECTING that nothing outranked claims at its index's offset (R311). -/
def execClaimSend (b : Fin 8) (s : State) : Host.Outcome State Fault Refusal :=
  .next (if s.netHeld || s.rhdState b != 3 || (s.rhdOf b).outranked || (s.rhdOf b).claimAt.isSome then s else s.claim b)

/-- ELECTION_WON: 2 × P after its CLAIM with nothing of higher precedence the berth is master, with an epoch to open (R312, R314). -/
def execElectionWon (b : Fin 8) (s : State) : Host.Outcome State Fault Refusal :=
  .next <|
    let r := s.rhdOf b
    let st := s.rhdState b
    if r.claimAt.isNone || r.outranked || !(st == 3 || (st == 4 && s.bit .RHD_CFG_PIN b)) then s
    else
      let own := s.get .RHD_TARGET_CODE b
      let rate := if r.everHeard then s.berthCode b else own
      let pend := if r.everHeard then r.lastPending else own
      let s := (s.rhdEnter b 5).rhdCount b .RHD_ELECTIONS_COUNT
      let s := ((s.set .RHD_EPOCH_EPOCH r.highEpoch b).set .RHD_RATE_PENDING pend b).set .RHD_EFF_STEP_STEP (s.effStep b) b
      let s := ((s.set .RHD_MASTER_INDEX (s.get .RHD_STATE_INDEX b) b).setBit .RHD_MASTER_PINNED (s.bit .RHD_CFG_PIN b) b).setBit
        .RHD_MASTER_VALID true b
      s.modRhd b (fun r =>
        { r with
          members := [], joins := [], newEpoch := true, lossEpoch := true, domainTag := (s.berth b).tag, domRate := rate
          periods := 0, masterAddr := none, sentTime := none, ownReq := none, windows := [if r.everHeard then r.quorumBase else 1], claimAt := none, outranked := false, mute := false
          expiredAt := none })

/-- MEMBER_LOST: three periods have closed without a member's STATUS (R318). -/
def execMemberLost (b : Fin 8) (index : Nat) (s : State) : Host.Outcome State Fault Refusal :=
  .next <|
    let r := s.rhdOf b
    if s.rhdState b = 5 ∧ r.members.any (fun m => m.index == index && decide (3 ≤ m.missed)) then
      (s.setRhd b { r with members := r.members.filter (fun m => m.index != index), newEpoch := true, lossEpoch := true }).raise 0x1103 b
    else s

/-- QUORUM_LOST: over the last 3 closed periods no more than half of the MEMBERS at their start have sent STATUS (R313). -/
def execQuorumLost (b : Fin 8) (s : State) : Host.Outcome State Fault Refusal :=
  .next <|
    let r := s.rhdOf b
    let heard := 1 + (r.members.filter (fun m => decide (m.quiet < 3))).length
    if s.rhdState b = 5 ∧ 4 ≤ r.periods ∧ 2 * heard ≤ (r.windows.getLast?).getD 1 then s.exclude b else s

/-! ### Register actions -/

/-- `RHD_CFG.ENABLE` written 1: OFF becomes SEEKING; a fault of an earlier exclusion is over (R296, R521). -/
def State.rhdEnableOn (s : State) (b : Fin 8) : State :=
  let s := s.setBit .RHD_CFG_ENABLE true b
  if s.rhdState b ≠ 0 ∨ (s.berth b).desc.isNone then s
  else
    let s := (s.rhdEnter b 1).modRhd b (fun r => { r with periodUs := s.get .RHD_TIMING_PERIOD_US b })
    s.endLatch 0x11 b

/-- `RHD_CFG.ENABLE` written 0 (R296). -/
def State.rhdEnableOff (s : State) (b : Fin 8) : State := (s.setBit .RHD_CFG_ENABLE false b).rhdOff b 1

/-- `RHD_CFG.PIN` written 1: a pinned CLAIM at once, whatever the state but OFF (R311). -/
def State.rhdPinOn (s : State) (b : Fin 8) : State :=
  let s := s.setBit .RHD_CFG_PIN true b
  if s.netHeld || s.rhdState b = 0 then s else s.claim b

/-- RATE_CEILING_LIFT: the condition of a ceiling of a berth in no domain has not held for 10 ms (R465). -/
def execRateCeilingLift (b : Fin 8) (reason : Fin 5) (s : State) : Host.Outcome State Fault Refusal :=
  .next <|
    let r := s.rhdOf b
    if !s.noDomain b || !r.lifted.any (fun e => e.1 == reason.val) then s
    else
      let s := s.setRhd b
        { r with ceilings := r.ceilings.filter (fun e => e.1 != reason.val), lifted := r.lifted.filter (fun e => e.1 != reason.val) }
      (s.berthDies b).foldl (fun s d => s.rateFollow d) s

/-- A request of a reason holds at a code: in a domain it is asked for, in none it is a ceiling at once (R464, R465). -/
def State.askRate (s : State) (b : Fin 8) (reason code : Nat) : State :=
  let s := s.modRhd b (fun r =>
    { r with ceilings := (reason, code) :: r.ceilings.filter (fun e => e.1 != reason)
             lifted := r.lifted.filter (fun e => e.1 != reason) })
  if s.noDomain b then (s.berthDies b).foldl (fun s d => s.rateFollow d) s else s

/-- The condition of a request no longer holds: in a domain it is not asked any more; a ceiling waits for its lift. -/
def State.unaskRate (s : State) (b : Fin 8) (reason : Nat) : State :=
  s.modRhd b (fun r =>
    if !r.ceilings.any (fun e => e.1 == reason) || r.lifted.any (fun e => e.1 == reason) then r
    else if s.noDomain b then { r with lifted := (reason, s.now) :: r.lifted }
    else { r with ceilings := r.ceilings.filter (fun e => e.1 != reason) })

/-- A berth's manifest tag changes: a master whose tag is no longer the domain's is excluded (R320). -/
def State.tagChanged (s : State) (b : Fin 8) : State :=
  if s.rhdState b = 5 ∧ (s.berth b).tag ≠ (s.rhdOf b).domainTag then s.exclude b else s

/-- The counters of the RHD block. -/
def rhdCntFlds : List Fld :=
  [.RHD_BEACON_RX_COUNT, .RHD_BEACON_MISS_COUNT, .RHD_LATE_SWITCH_COUNT, .RHD_REQ_TX_COUNT, .RHD_ELECTIONS_COUNT]

end Sys2Proof.Machine
end

