-- ==== Sys2Proof/Machine/Trust.lean ====
section
/-! DEFINITION. Signatures, digests, keys and anti-rollback counters, as image, package and session checks use them (R187,
R188, R542, R547, R548). -/

namespace Sys2Proof.Machine

/-- `n` bytes of a list from an offset. -/
def cut (bs : List Nat) (off n : Nat) : List Nat := (bs.drop off).take n

/-! ### Digests and signatures (R187, R542) -/

/-- The signed digest D of an image or package: SHAKE256, 512 bits, over all but the signature block. -/
def digestD (bs : List Nat) : List Nat := Config.shake256 (bs.take (bs.length - 128)) 64

/-- Does the signature block of an image or package verify under a key, with an empty context. -/
def sigOk (key bs : List Nat) : Bool := Config.ed448Verify key [] (digestD bs) (cut bs (bs.length - 128) 114)

/-- The enrolled owner key (R548). -/
def State.ownerKey (s : State) : Option (List Nat) :=
  if s.bit .SEC_STATUS_OWNED then
    some (((List.range 15).flatMap (fun i => toLe (s.get .SEC_OWNER_KEY_BYTES 0 i) 4)).take 57)
  else none

/-! ### Anti-rollback counters (R547, Table 22-5) -/

def rbFirmware : Nat := 0
def rbTables : Nat := 1
def rbFull : Nat := 2
def rbBerth (b : Nat) : Nat := 3 + b
def rbCustomer : Nat := 11
def rbOwner : Nat := 12

/-- A counter as flash `p` holds it. -/
def State.rbOf (s : State) (p : Fin 2) (i : Nat) : Nat :=
  (((s.sec.rb[p]).find? (fun e => e.1 == i)).map (·.2)).getD (Config.flash .SEC_RB_VAL_COUNT 0 i % 2 ^ 32)

/-- A counter as the active pilot holds it. -/
def State.rbNow (s : State) (i : Nat) : Nat := s.rbOf s.act i

/-- Write a counter of one flash. -/
def State.rbWrite (s : State) (p : Fin 2) (i v : Nat) : State :=
  { s with sec := { s.sec with rb := s.sec.rb.set p ((i, v) :: (s.sec.rb[p]).filter (fun e => e.1 != i)) } }

/-- Raise a counter in both flashes; it never falls (R547). -/
def State.rbRaise (s : State) (i v : Nat) : State :=
  forFin 2 s (fun s p => if s.rbOf p i < v then s.rbWrite p i v else s)

/-! ### Versions (R202) -/

/-- The firmware package that a pilot runs, and its FW_VERSION. -/
def State.fwPackage (s : State) (p : Fin 2) : List Nat := (s.sec.fwRun[p]).getD (Config.pkgDelivered p 1 0)
def State.fwVersion (s : State) : Nat := leAt (s.fwPackage s.act) 0x10 4

/-- The voltage tables in force, and VT_VERSION. -/
def State.vtPackage (s : State) : List Nat := s.sec.vt.getD (Config.pkgDelivered s.act 2 0)
def State.vtVersion (s : State) : Nat := s.get .CAP_VT_VERSION_VERSION

end Sys2Proof.Machine
end

