-- ==== Sys2Proof/Machine/Image.lean ====
section
/-! DEFINITION. Tondamond images: their layout, the loader, verification, commits, restoring at start-up, and the manifest
(chapter 7); quiescing a berth (chapter 12). -/

namespace Sys2Proof.Machine

/-! ### Header and directory (Tables 7-1, 7-2) -/

def imgKind (img : List Nat) : Nat := nth img 6
def imgBerth (img : List Nat) : Nat := nth img 7
def imgSlot (img : List Nat) : Nat := nth img 0x0E
def imgRollback (img : List Nat) : Nat := leAt img 0x10 4
def imgCount (img : List Nat) : Nat := leAt img 0x0C 2

/-- Directory entry `i`. -/
def imgEntry (img : List Nat) (i : Nat) : Section :=
  let o := 64 + 16 * i
  ⟨leAt img o 2, nth img (o + 2), leAt img (o + 4) 4, leAt img (o + 8) 4⟩

def imgSecs (img : List Nat) : List Section := (List.range (imgCount img)).map (imgEntry img)

/-- The bytes of the section of a type and scope, none where the image has no such section. -/
def imgSec (img : List Nat) (type scope : Nat) : Option (List Nat) :=
  ((imgSecs img).find? (fun e => e.type == type && e.scope == scope)).map (fun e => cut img e.off e.len)

def allZero (bs : List Nat) : Bool := bs.all (fun b => b == 0)

/-- LENGTH within its limits (R175). -/
def lenOk (n : Nat) : Bool := decide (256 ≤ n) && decide (n ≤ 1048576) && n % 4 == 0

/-- Check 1: the header fields and the reserved bytes of header and signature block (Table 7-1). -/
def headerOk (img : List Nat) : Bool :=
  leAt img 0 4 == 0x5A0E7D1A && leAt img 4 2 == 1 && decide (imgKind img ≤ 1) &&
    (if imgKind img = 0 then imgBerth img == 0xFF else decide (imgBerth img ≤ 7)) &&
    leAt img 8 4 == img.length && lenOk img.length && decide (1 ≤ imgCount img) && decide (imgCount img ≤ 64) &&
    nth img 0x0F == 0 && leAt img 0x14 4 == 0x8A01 && allZero (cut img 0x20 32) && allZero (cut img (img.length - 14) 14)

/-- The key that an image's slot names: none where the slot is not permitted or no key is enrolled (R188). -/
def State.imgKey (s : State) (img : List Nat) : Option (List Nat) :=
  match imgSlot img, imgKind img with
  | 0, _ => s.ownerKey
  | 1, 1 => if h : imgBerth img < 8 then (s.berth ⟨imgBerth img, h⟩).desc.map (·.imgKey) else none
  | _, _ => none

/-- The counter that an image is checked against (R188). -/
def imgCounter (img : List Nat) : Nat := if imgKind img = 0 then rbFull else rbBerth (imgBerth img)

/-- Gangs of die `n` as its GANG_MAP counts them. -/
def imgGangs (img : List Nat) (n : Nat) : Option Nat := (imgSec img 1 n).map (fun bs => nth bs 1)

/-- The section length that Table 7-3 fixes; for a die whose image has no GANG_MAP, any number of gangs will do. -/
def secLenOk (img : List Nat) (e : Section) : Bool :=
  let gs := match imgGangs img e.scope with
    | some g => [g]
    | none => (List.range 96).map (· + 1)
  match e.type with
  | 0x01 => e.len == 4 + 4 * nth img (e.off + 1)
  | 0x02 => gs.any (fun g => e.len == 4 + 4 * g)
  | 0x03 => gs.any (fun g => e.len == (100 + 2 * g + 3) / 4 * 4)
  | 0x04 => e.len == 4
  | 0x05 => e.len == 16
  | 0x10 => e.len == 512
  | 0x11 => e.len == 68
  | 0x12 => e.len == 2068
  | _ => false

/-- Check 4: the index of the first directory entry that breaks R175 or R176. -/
def dirBad (img : List Nat) : Option Nat :=
  let n := imgCount img
  (List.range n).find? (fun i =>
    let e := imgEntry img i
    let o := 64 + 16 * i
    let start := if i = 0 then 64 + 16 * n else (imgEntry img (i - 1)).off + (imgEntry img (i - 1)).len
    let prev := imgEntry img (i - 1)
    let rising := i = 0 || decide (prev.type < e.type) || (prev.type == e.type && decide (prev.scope < e.scope))
    !(rising && decide (e.scope ≤ 7) && nth img (o + 3) == 0 && allZero (cut img (o + 12) 4) && e.off == start &&
      decide (e.off + e.len ≤ img.length - 128) && secLenOk img e && (decide (i + 1 < n) || e.off + e.len == img.length - 128)))

/-! ### Die sections (R178 to R182) -/

/-- Gang entries of a GANG_MAP with their formats. -/
def imgGangList (img : List Nat) (d : Nat) : List Gang :=
  let gm := (imgSec img 1 d).getD []
  let fm := (imgSec img 2 d).getD []
  let bp := (imgSec img 5 d).getD []
  (List.range (nth gm 1)).map (fun g =>
    { nw := nth gm (4 + 4 * g)
      shape := nth gm (5 + 4 * g)
      demoteMax := nth fm (4 + 4 * g) % 4
      flushBf16 := bitAt (nth fm (4 + 4 * g)) 2
      ballast := bitAt (nth bp (4 + g / 8)) (g % 8) })

/-- What an image gives die `d`. -/
def imgDie (img : List Nat) (d : Nat) : DieImage :=
  let rt := (imgSec img 3 d).getD []
  { gangs := imgGangList img d
    links := cut rt 4 96
    use := (List.range (((imgGangs img d).getD 0))).map (fun g => (nth rt (100 + 2 * g), nth rt (101 + 2 * g)))
    overflowMib := nth ((imgSec img 4 d).getD []) 0 }

/-- A gang as R97 and R178 admit it: its tile, shape and place. -/
def gangPlaced (g : Gang) : Bool :=
  decide (g.nw ≤ 95) && decide (g.shape ≤ 4) && g.nw / 12 % shapeH g.shape == 0 && g.nw % 12 % shapeW g.shape == 0 &&
    decide (g.nw / 12 + shapeH g.shape ≤ 8) && decide (g.nw % 12 + shapeW g.shape ≤ 12)

/-- No two gangs share a tile. -/
def gangsApart : List Gang → Bool
  | [] => true
  | g :: gs => gs.all (fun h => g.tiles.all (fun t => !h.tiles.contains t)) && gangsApart gs

def gangMapCode (img bs : List Nat) (d : Nat) : Nat :=
  let gs := imgGangList img d
  if nth bs 0 ≠ d ∨ !allZero (cut bs 2 2) ∨ !(List.range (nth bs 1)).all (fun g => allZero (cut bs (6 + 4 * g) 2)) then 0x09
  else if nth bs 1 = 0 ∨ 96 < nth bs 1 ∨ !gs.all gangPlaced ∨ !gangsApart gs then 0x0A else 0

def formatMapCode (bs : List Nat) (d : Nat) : Nat :=
  let n := (bs.length - 4) / 4
  if nth bs 0 ≠ d ∨ !allZero (cut bs 1 3) ∨ !(List.range n).all (fun g => decide (nth bs (4 + 4 * g) < 8) &&
      nth bs (4 + 4 * g) % 4 != 3 && allZero (cut bs (5 + 4 * g) 3)) then 0x09 else 0

/-- A link of R180: inside the die and between two gangs. -/
def linkOk (x : DieSt) (t bit : Nat) : Bool :=
  let far := if bit = 0 then t + 1 else t + 12
  !(if bit = 0 then t % 12 == 11 else decide (84 ≤ t)) &&
    match x.gangOfTile t, x.gangOfTile far with
    | some a, some b => a != b
    | _, _ => false

/-- Two gangs of a crossing that both interpret CHAIN_FMT and the chain mode declare the same (R99, R180). -/
def chainAgree (u v : Nat × Nat) : Bool := !(bitAt v.1 4 || bitAt v.1 5) || u.2 == v.2

/-- A gang's USE bits against the links and its neighbours (R180). -/
def useOk (x : DieSt) (i : Nat) : Bool :=
  match x.gang? i with
  | none => true
  | some g =>
    let h := shapeH g.shape
    let w := shapeW g.shape
    let u := x.use i
    let edge := fun port => (edgeTiles port g.nw h w).all (fun t => x.linked port t)
    (List.range 4).all (fun p => !bitAt u.1 p || edge p) &&
      (!bitAt u.1 4 || (edge 1 && decide (g.nw % 12 + w < 12) && x.gangs.zipIdx.any (fun o =>
        o.1.nw == g.nw + w && shapeH o.1.shape == h && chainAgree u (x.use o.2)))) &&
      (!bitAt u.1 5 || (edge 2 && x.gangs.zipIdx.any (fun o =>
        o.1.nw == g.nw + 12 * h && shapeW o.1.shape == w && chainAgree u (x.use o.2)))) &&
      (!(bitAt u.1 4 || bitAt u.1 5) || decide (u.2 % 16 ≤ 10))

def routeCode (img bs : List Nat) (d : Nat) : Nat :=
  let g := (imgGangs img d).getD ((bs.length - 100) / 2)
  let links := cut bs 4 96
  if nth bs 0 ≠ d ∨ !allZero (cut bs 1 3) ∨ !links.all (fun l => decide (l < 4)) ∨
      !(List.range g).all (fun i => decide (nth bs (100 + 2 * i) < 64) && decide (nth bs (101 + 2 * i) < 32)) ∨
      !allZero (bs.drop (100 + 2 * g)) then 0x09
  else if (imgGangs img d).isNone then 0
  else
    let x : DieSt := { image := some (imgDie img d) }
    if (List.range 96).all (fun t => (List.range 2).all (fun k => !bitAt (nth links t) k || linkOk x t k)) &&
        (List.range g).all (useOk x) then 0 else 0x0B

def ballastCode (img bs : List Nat) (d : Nat) : Nat :=
  let g := (imgGangs img d).getD 96
  if nth bs 0 ≠ d ∨ !allZero (cut bs 1 3) ∨ !(List.range 96).all (fun i => decide (i < g) || !bitAt (nth bs (4 + i / 8)) (i % 8)) then
    0x09 else 0

/-! ### Berth sections (R183 to R185) -/

/-- BERTH_DESC, BERTH_NET and HINT_TABLE of berth `b`. -/
def imgDesc (img : List Nat) (b : Nat) : Option BerthDesc :=
  match imgSec img 0x10 b, imgSec img 0x11 b, imgSec img 0x12 b with
  | some d, some n, some h =>
    some
      { dieMask := nth d 1
        quayMask := nth d 2
        capWeight := nth d 3
        qpCount := leAt d 4 4
        ballastMaxW := leAt d 8 2
        hbm := (List.range 16).map (fun k => (nth d (0x10 + 2 * k), nth d (0x11 + 2 * k)))
        qsram := (List.range 8).map (fun q => (leAt d (0x30 + 4 * q) 2, leAt d (0x32 + 4 * q) 2))
        chan := (List.range 128).map (fun c => (nth d (0x50 + 2 * c), nth d (0x51 + 2 * c)))
        bamporKey := cut d 0x150 57
        imgKey := cut d 0x190 57
        qpBase := leAt n 0 4
        ports := (List.range 2).map (fun p =>
          { mac := ofBe (cut n (4 + 32 * p) 6), vlan := leAt n (10 + 32 * p) 2
            ipv4 := ofBe (cut n (12 + 32 * p) 4), ipv6 := ofBe (cut n (16 + 32 * p) 16) })
        classW := (List.range 8).map (fun c => leAt h (4 + 2 * c) 2)
        hints := (List.range 256).map (fun i =>
          { valid := bitAt (nth h (20 + 8 * i)) 0, learn := bitAt (nth h (20 + 8 * i)) 1
            durUs := leAt h (22 + 8 * i) 2, seedW := leAt h (24 + 8 * i) 2 }) }
  | _, _, _ => none

def berthDescCode (bs : List Nat) (b : Nat) : Nat :=
  if nth bs 0 ≠ b ∨ 65536 < leAt bs 4 4 ∨ 4000 < leAt bs 8 2 ∨ !allZero (cut bs 0x0A 6) ∨ !allZero (cut bs 0x189 7) ∨
      !allZero (cut bs 0x1C9 55) ∨
      !(List.range 128).all (fun c => decide (nth bs (0x50 + 2 * c) ≤ 7) || nth bs (0x50 + 2 * c) == 0xFF) then 0x09 else 0

def berthNetCode (bs : List Nat) : Nat :=
  if (List.range 2).all (fun p => decide (leAt bs (10 + 32 * p) 2 ≤ 4094) && allZero (cut bs (32 + 32 * p) 4)) then 0 else 0x09

def hintCode (bs : List Nat) (b : Nat) : Nat :=
  if nth bs 0 = b ∧ allZero (cut bs 1 3) ∧ (List.range 256).all (fun i =>
      decide (nth bs (20 + 8 * i) < 4) && nth bs (21 + 8 * i) == 0 && allZero (cut bs (26 + 8 * i) 2)) then 0 else 0x09

/-- Check 5: the code of one section, 0 if it passes. -/
def secCode (img : List Nat) (e : Section) : Nat :=
  let bs := cut img e.off e.len
  match e.type with
  | 0x01 => gangMapCode img bs e.scope
  | 0x02 => formatMapCode bs e.scope
  | 0x03 => routeCode img bs e.scope
  | 0x04 => if nth bs 0 ≤ 64 ∧ allZero (bs.drop 1) then 0 else 0x09
  | 0x05 => ballastCode img bs e.scope
  | 0x10 => berthDescCode bs e.scope
  | 0x11 => berthNetCode bs
  | _ => hintCode bs e.scope

/-! ### Completeness and resources (R177, R186) -/

/-- The berths that an image describes. -/
def imgBerths (img : List Nat) : List Nat :=
  (List.range 8).filter (fun b => (imgSecs img).any (fun e => decide (0x10 ≤ e.type) && e.scope == b))

/-- Check 6 (R177). -/
def imgComplete (img : List Nat) : Bool :=
  let bs := imgBerths img
  let mask := fun b => nth ((imgSec img 0x10 b).getD []) 1
  bs.all (fun b => [0x10, 0x11, 0x12].all (fun t => (imgSec img t b).isSome)) &&
    (imgKind img == 0 || bs == [imgBerth img]) &&
    (List.range 8).all (fun d =>
      let named := bs.any (fun b => bitAt (mask b) d)
      [1, 2, 3, 4, 5].all (fun t => (imgSec img t d).isSome == named))

/-- The berth index and descriptor of every berth that an image describes. -/
def imgDescs (img : List Nat) : List (Nat × BerthDesc) :=
  (imgBerths img).filterMap (fun b => (imgDesc img b).map (fun y => (b, y)))

/-- What R186 asks of one berth alone. -/
def descOk (y : BerthDesc) : Bool :=
  let hbmSize := fun k => ((y.hbm[k]?).getD (0, 0)).2
  (List.range 8).all (fun q =>
    let (c, w) := (y.qsram[q]?).getD (0, 0)
    let share := hbmSize (2 * q) != 0 || hbmSize (2 * q + 1) != 0
    (bitAt y.quayMask q || (c == 0 && w == 0 && !share)) && (c == 0 || share) && decide (c + w ≤ 320)) &&
  y.hbm.all (fun h => h.2 == 0 || decide (h.1 + h.2 ≤ 24)) &&
  (List.range 128).all (fun i =>
    let (q, t) := (y.chan[i]?).getD (0xFF, 0)
    decide (8 ≤ q) || (bitAt y.quayMask q && decide (t ≤ 31) && bitAt y.dieMask (i / 16))) &&
  (y.qpCount == 0 || decide (y.qpBase + y.qpCount ≤ 65536)) &&
  y.ports.all (fun p => p.mac != 0 && p.mac / 2 ^ 40 % 2 == 0) && y.capWeight != 0

/-- What R186 asks of two berths together. -/
def descsApart (x y : BerthDesc) : Bool :=
  (List.range 8).all (fun d => !(bitAt x.dieMask d && bitAt y.dieMask d)) &&
  (List.range 16).all (fun k =>
    let (a, n) := (x.hbm[k]?).getD (0, 0)
    let (b, m) := (y.hbm[k]?).getD (0, 0)
    n == 0 || m == 0 || decide (a + n ≤ b) || decide (b + m ≤ a)) &&
  x.chan.all (fun c => decide (8 ≤ c.1) || !y.chan.contains c) &&
  (x.qpCount == 0 || y.qpCount == 0 || decide (x.qpBase + x.qpCount ≤ y.qpBase) || decide (y.qpBase + y.qpCount ≤ x.qpBase)) &&
  x.ports.all (fun p => y.ports.all (fun r => p.mac != r.mac)) &&
  (List.range 2).all (fun i => match x.ports[i]?, y.ports[i]? with
    | some p, some r => p.ipv4 == 0 || p.ipv4 != r.ipv4
    | _, _ => true)

def allApart : List BerthDesc → Bool
  | [] => true
  | y :: ys => ys.all (descsApart y) && allApart ys

/-- Check 7: the image's berths together with the committed berths that it leaves (R186). -/
def State.resourcesOk (s : State) (img : List Nat) : Bool :=
  let own := imgDescs img
  let rest := if imgKind img = 0 then [] else
    (allFin 8).filterMap (fun b : Fin 8 => if b.val == imgBerth img then none else (s.berth b).desc)
  let l := own.map (·.2) ++ rest
  l.all descOk && allApart l &&
    (List.range 8).all (fun q => decide ((l.map (fun y : BerthDesc => ((y.qsram[q]?).getD (0, 0)).1 + ((y.qsram[q]?).getD (0, 0)).2)).sum ≤ 320))

/-! ### Verification (R193) -/

/-- Checks 2 and 3: key slot, rollback, signature (R187, R188). -/
def State.trustCode (s : State) (img : List Nat) : Nat :=
  match s.imgKey img with
  | none => 0x0F
  | some k => if imgRollback img < s.rbNow (imgCounter img) then 0x10 else if sigOk k img then 0 else 0x0E

/-- The first failing check of a staged image and its section, code 0 if all pass. A load that a berth's session opened must be
a partial image of that berth (R283). -/
def State.verifyImage (s : State) (img : List Nat) : Nat × Nat :=
  let mine := match s.img.openedBy with
    | none => true
    | some b => imgKind img == 1 && imgBerth img == b
  if !(headerOk img && mine) then (0x07, 0xFF)
  else if s.trustCode img ≠ 0 then (s.trustCode img, 0xFF)
  else match dirBad img with
    | some i => (0x08, i)
    | none => match (List.range (imgCount img)).find? (fun i => secCode img (imgEntry img i) != 0) with
      | some i => (secCode img (imgEntry img i), i)
      | none => if !imgComplete img then (0x0D, 0xFF) else if !s.resourcesOk img then (0x0C, 0xFF) else (0, 0xFF)

/-! ### Loading (R189 to R192) -/

def State.imgState (s : State) : Nat := s.get .BTH_IMG_STATE_STATE

/-- An error code of the load, and the failing section (Table 7-9). -/
def State.imgErr (s : State) (code : Nat) (sec : Nat := 0xFF) : State :=
  (s.set .BTH_IMG_STATE_ERR code).set .BTH_IMG_STATE_ERR_SECTION sec

def State.imgFail (s : State) (code : Nat) (sec : Nat := 0xFF) : State := (s.set .BTH_IMG_STATE_STATE 6).imgErr code sec

def framesFor (len : Nat) : Nat := (len + 4075) / 4076

/-- INDEX and PAYLOAD_LEN agree with LENGTH (R189). -/
def frameFits (idx plen len : Nat) : Bool :=
  decide (idx < framesFor len) && (if idx + 1 < framesFor len then plen == 4076 else plen == len - 4076 * (framesFor len - 1))

/-- The staged image: the payloads in order of their indices. -/
def State.staged (s : State) : List Nat :=
  (List.range (s.get .BTH_IMG_FRAMES_EXPECTED)).flatMap (fun i =>
    ((s.img.frames.find? (fun e => e.1 == i)).map (·.2)).getD [])

/-- Discard a frame with code 0x02 to 0x04, counted since OPEN. -/
def State.frameBad (s : State) (code n : Nat) : State :=
  if code = 2 then s.tally .BTH_IMG_FRAME_ERR_CRC n else s.tally .BTH_IMG_FRAME_ERR_OTHER n

/-- Store a frame. Frame 0 fixes LENGTH, against which the frames stored before it are then checked; the last frame starts the
verification (R191, R193). -/
def State.frameStore (s : State) (idx : Nat) (pay : List Nat) : State :=
  let frames := s.img.frames ++ [(idx, pay)]
  let len := if idx = 0 then some (leAt pay 8 4) else s.img.length
  let keep := match len with
    | some n => frames.filter (fun e => frameFits e.1 e.2.length n)
    | none => frames
  let s := s.frameBad 4 (frames.length - keep.length)
  let s : State := { s with img := { s.img with frames := keep, length := len, lastFrame := s.now } }
  let s := if idx = 0 then
      ((s.set .BTH_IMG_FRAMES_EXPECTED (framesFor (leAt pay 8 4))).set .BTH_IMG_STATE_KIND (nth pay 6)).set .BTH_IMG_STATE_BERTH
        (if nth pay 6 = 1 then nth pay 7 else 0)
    else s
  let s := s.set .BTH_IMG_FRAMES_RECEIVED keep.length
  match len with
  | some n => if keep.length = framesFor n then s.set .BTH_IMG_STATE_STATE 2 else s
  | none => s

/-- A frame that passed its CRC and arrives while a load is open: its code and the state after it (R191). -/
def State.frameTake (s : State) (f : List Nat) : Nat × State :=
  let idx := leAt f 8 2
  let plen := leAt f 10 2
  let pay := cut f 16 plen
  let receiving := s.imgState = 1
  let fits := decide (idx ≤ 257) && decide (1 ≤ plen) && decide (plen ≤ 4076) && (match s.img.length with
    | some n => frameFits idx plen n
    | none => true)
  match s.img.frames.find? (fun e => e.1 == idx) with
  | some e =>
    if fits && e.2 == pay then (0, if receiving then { s with img := { s.img with lastFrame := s.now } } else s)
    else if !fits then (4, s.frameBad 4 1)
    else (5, if receiving then s.imgFail 5 else s)
  | none =>
    if !fits || !receiving then (4, s.frameBad 4 1)
    else if idx = 0 ∧ !lenOk (leAt pay 8 4) then (7, s.imgFail 7)
    else if idx = 0 ∧ !frameFits 0 plen (leAt pay 8 4) then (4, s.frameBad 4 1)
    else (0, s.frameStore idx pay)

/-- An image frame arrives: its CRC by the unit bound to the stream, then R191. Gives the code of Table 7-8. -/
def State.imgFrame (s : State) (f : List Nat) : Nat × State :=
  let s := s.snoop 1 f false
  let idBad := leAt f 0 2 ≠ 0x7D1A ∨ leAt f 2 2 ≠ 0 ∨ leAt f 4 4 ≠ s.get .BTH_IMG_LOAD_ID_ID ∨ leAt f 12 4 ≠ 0 ∨
    !allZero ((f.drop (16 + leAt f 10 2)).take (0xFFC - (16 + leAt f 10 2)))
  if s.imgState = 4 then (1, s)
  else if crc32c (f.take 0xFFC) ≠ leAt f 0xFFC 4 then (2, s.frameBad 2 1)
  else if idBad ∨ s.imgState = 0 ∨ 5 ≤ s.imgState then (3, s.frameBad 3 1)
  else s.frameTake f

/-- `BTH_IMG_CTRL.OPEN` (Table 7-6). The opener is a berth's session or not. OPEN in VERIFYING, which the table does not list, is
without effect. -/
def State.imgOpen (s : State) (by_ : Option Nat) : State :=
  match s.imgState with
  | 1 => s.imgErr 1
  | 4 => s.imgErr 1
  | 2 => s
  | _ =>
    let id := (s.get .BTH_IMG_LOAD_ID_ID + 1) % 2 ^ 32
    let s := (s.set .BTH_IMG_LOAD_ID_ID (if id = 0 then 1 else id)).set .BTH_IMG_STATE_STATE 1
    let s := ((s.set .BTH_IMG_FRAME_ERR_CRC 0).set .BTH_IMG_FRAME_ERR_OTHER 0).set .BTH_IMG_FRAMES_RECEIVED 0
    let s := ((s.set .BTH_IMG_FRAMES_EXPECTED 0).set .BTH_IMG_STATE_KIND 0).set .BTH_IMG_STATE_BERTH 0
    { s with img := { s.img with
      frames := [], length := none, lastFrame := s.now, stored := false, copies := Vector.replicate 2 false, openedBy := by_ } }

/-- `BTH_IMG_CTRL.ABORT` (Table 7-6). -/
def State.imgAbort (s : State) : State :=
  match s.imgState with
  | 1 => (s.set .BTH_IMG_STATE_STATE 0).imgErr 0x15
  | 2 => (s.set .BTH_IMG_STATE_STATE 0).imgErr 0x15
  | 3 => (s.set .BTH_IMG_STATE_STATE 0).imgErr 0x15
  | 4 => s.imgErr 1
  | _ => s

/-- A switch-over loses a load, or a commit whose copies are not stored (Table 7-6, R197). -/
def State.imgSwitch (s : State) : State :=
  match s.imgState with
  | 1 => s.imgFail 0x13
  | 2 => s.imgFail 0x13
  | 3 => s.imgFail 0x13
  | 4 => if s.img.stored then s else s.imgFail 0x13
  | _ => s

/-- IMAGE_RECEIVE_TIMEOUT (Table 7-6). -/
def execImageReceiveTimeout (s : State) : Host.Outcome State Fault Refusal :=
  .next (if s.imgState = 1 then s.imgFail 6 else s)

/-- IMAGE_VERIFY_DONE (R193). -/
def execImageVerifyDone (s : State) : Host.Outcome State Fault Refusal :=
  .next <|
    if s.imgState ≠ 2 then s
    else
      let (code, sec) := s.verifyImage s.staged
      if code = 0 then s.set .BTH_IMG_STATE_STATE 3 else s.imgFail code sec

/-! ### Quiescing (R327 to R331) -/

/-- A die of the berth runs, or has an operation in flight. -/
def State.diesBusy (s : State) (b : Fin 8) : Bool :=
  (s.berthDies b).any (fun d =>
    let x := s.die d
    s.running d || !x.flights.isEmpty || !x.ext.isEmpty || !x.ldts.isEmpty || !x.gathers.isEmpty)

/-- A tug of the berth holds a descriptor. -/
def State.tugsBusy (s : State) (b : Fin 8) : Bool := (s.berthDies b).any (fun d => !(s.die d).chans.isEmpty)

/-- A collective is in flight on a group of the berth. -/
def State.collBusy (s : State) (b : Fin 8) : Bool := s.net.colls.any (fun c => c.berth == b.val)

/-- A queue pair of the berth is in RTR or RTS. -/
def State.qpActive (s : State) (b : Fin 8) : Bool :=
  s.regs.any (fun e => e.1.f == .NET_QP_CTRL_STATE && (e.2 == 2 || e.2 == 3) && s.qpOf b e.1.item)

def State.quiesced (s : State) (b : Fin 8) : Bool :=
  (s.berth b).desc.isSome && !s.diesBusy b && !s.tugsBusy b && !s.collBusy b && !s.qpActive b

/-- `BTH_Bb_CTRL.QUIESCE` (R328); a berth that does not exist ignores it (R339). -/
def State.bthQuiesce (s : State) (b : Fin 8) : State :=
  if (s.berth b).desc.isNone then s
  else (s.berthDies b).foldl (fun s (d : Fin 8) => s.askPark d .hold) (s.modBerth b (fun y => { y with hold := true }))

/-- `BTH_Bb_CTRL.RELEASE` (R330): the dies that the hold parked resume; one that has not parked yet is asked no more. -/
def State.bthRelease (s : State) (b : Fin 8) : State :=
  if !(s.berth b).hold then s
  else
    let parked := (s.berth b).parkedDies
    let s := s.modBerth b (fun y => { y with hold := false, parkedDies := [] })
    (s.berthDies b).foldl (fun s (d : Fin 8) =>
      let left := (s.die d).parkSrc.filter (fun p => p != .hold)
      let s := s.modDie d (fun x => { x with parkSrc := left })
      let s := if left.isEmpty then s.setBit .CDC_STREAM_STATE_PARK_REQ false d else s
      if parked.contains d.val && s.streamState d == 2 then s.setStream d 1 else s) s

/-! ### Commit (R194 to R196) -/

/-- The berths that an image touches (R194). -/
def State.imgTouched (s : State) (img : List Nat) : List (Fin 8) :=
  (allFin 8).filter (fun b =>
    if imgKind img = 1 then b.val == imgBerth img else (s.berth b).desc.isSome || (imgBerths img).contains b.val)

/-- Every die and quay that some descriptors name is ready. -/
def State.namedReady (s : State) (ys : List BerthDesc) : Bool :=
  ys.all (fun y => (List.range 8).all (fun n =>
    (!bitAt y.dieMask n || s.ready (rCD n)) && (!bitAt y.quayMask n || s.ready (rQD n))))

/-- `BTH_IMG_CTRL.COMMIT` (Table 7-6, R194, R195). -/
def State.imgCommit (s : State) : State :=
  match s.imgState with
  | 4 => s.imgErr 1
  | 3 =>
    let img := s.staged
    if (s.imgTouched img).any (fun b => (s.berth b).desc.isSome && !s.quiesced b) then
      (s.imgErr 0x11).setBit .BTH_IMG_STATUS_LOCK_ERR true
    else if !s.namedReady ((imgDescs img).map (·.2)) then s.imgErr 0x12
    else if !s.resourcesOk img then s.imgErr 0x0C
    else
      let s := s.set .BTH_IMG_STATE_STATE 4
      { s with img := { s.img with stored := false, copies := Vector.replicate 2 false } }
  | _ => s.imgErr 0x16

/-- Is a commit in progress that touches a berth (R197). -/
def State.committing (s : State) (b : Fin 8) : Bool := s.imgState == 4 && (s.imgTouched s.staged).contains b

/-! ### Manifest (R201 to R203) -/

/-- S_b over the sections of an image (R201). -/
def structDigest (img : List Nat) (b mask : Nat) : List Nat :=
  let mine := (List.range (imgCount img)).filter (fun i =>
    let e := imgEntry img i
    ((e.type == 0x10 || e.type == 0x12) && e.scope == b) || (decide (e.type ≤ 5) && bitAt mask e.scope))
  Config.shake256 (mine.flatMap (fun i =>
    putAt (cut img (64 + 16 * i) 16) 4 [0, 0, 0, 0] ++ cut img (imgEntry img i).off (imgEntry img i).len)) 64

/-- The manifest tag of a berth (R202). -/
def State.tagOf (s : State) (b : Fin 8) : Nat :=
  if (s.berth b).desc.isNone then 0
  else ofLe (Config.shake256 ((s.berth b).digestS ++ toLe s.vtVersion 4 ++ toLe (s.get .CTE_CP_SET_ID) 4 ++ toLe s.fwVersion 4) 8)

/-- Recompute every berth's tag; a master whose domain has another tag now leaves (R203, R320). -/
def State.retag (s : State) : State :=
  forFin 8 s (fun s b => (s.modBerth b (fun y => { y with tag := s.tagOf b })).tagChanged b)

/-- The item of a source's own copy of a selector (R14). -/
def srcItem : Source → Nat
  | .smbus => 0
  | .internal n => 2 * n + 1
  | .session n => 2 * n + 2

/-- The selector fields of R14. -/
def selectorFlds : List Fld :=
  [.CDC_TILE_SEL_TILE, .CDC_SENT_SEL_SENTINEL, .QDC_TUG_SEL_TUG, .FWY_LINK_SEL_LINK, .FWY_LINK_SEL_DIR, .NET_QP_SEL_QP,
   .NET_GRP_SEL_GROUP, .NET_GRP_SEL_POS, .RHD_MEMBER_SEL_BERTH, .RHD_MEMBER_SEL_INDEX, .PWR_RAIL_PH_SEL_PHASE,
   .BWR_TIDE_SEL_BIN, .CTE_CORE_SEL_CORE, .CTE_LOOP_SEL_LOOP, .CTE_PARAM_SEL_WORD, .CAP_LEARN_SEL_BERTH, .CAP_LEARN_SEL_ID,
   .CAP_VT_SEL_DIE, .CAP_VT_SEL_CODE, .SEC_MAN_SEL_BERTH, .SEC_MAN_SEL_KIND, .SEC_RB_SEL_INDEX]

/-- What a selector write latches for its source (R205). -/
def manFlds : List Fld := [.SEC_MAN_TAG_TAG, .SEC_MAN_VT_VT_VERSION, .SEC_MAN_CP_CP_SET, .SEC_MAN_FW_FW_VERSION]

/-- A source's copies of selectors and latched values take their Reset values (R14). -/
def State.clearCopies (s : State) (src : Source) : State :=
  let i := srcItem src
  let mine := fun (e : RKey × Nat) =>
    ((selectorFlds.contains e.1.f || manFlds.contains e.1.f) && e.1.item == i) ||
      (e.1.f == Fld.SEC_MAN_DIGEST_BYTES && e.1.item / 16 == i)
  { s with
    regs := s.regs.filter (fun e => !mine e)
    pwr := { s.pwr with recLatch := s.pwr.recLatch.filter (fun e => e.1 != src) } }

/-- `SEC_MAN_SEL` written: tag, digest and inputs are latched for the source (R205). -/
def State.secManSel (s : State) (src : Source) (value : Nat) : State :=
  let i := srcItem src
  let b : Fin 8 := Fin.ofNat 8 value
  let y := s.berth b
  let dig := if y.desc.isNone then [] else if bitAt value 8 then y.digestD else y.digestS
  let s := ((s.set .SEC_MAN_SEL_BERTH value 0 i).set .SEC_MAN_SEL_KIND (value / 256) 0 i).set .SEC_MAN_TAG_TAG y.tag 0 i
  let s := (s.set .SEC_MAN_VT_VT_VERSION s.vtVersion 0 i).set .SEC_MAN_CP_CP_SET (s.get .CTE_CP_SET_ID) 0 i
  let s := s.set .SEC_MAN_FW_FW_VERSION s.fwVersion 0 i
  (List.range 16).foldl (fun s k => s.set .SEC_MAN_DIGEST_BYTES (leAt dig (4 * k) 4) 0 (16 * i + k)) s

/-! ### Applying a structure (R198, R333) -/

/-- Queue pairs of a range in RESET. -/
def State.qpRangeReset (s : State) (base count : Nat) : State :=
  let mine := fun q => decide (base ≤ q) && decide (q < base + count)
  { s with
    regs := s.regs.filter (fun e => !(qpFlds.contains e.1.f &&
      mine (if e.1.f = .NET_QP_DEST_IP_ADDR then e.1.item / 4 else e.1.item)))
    net := { s.net with qps := s.net.qps.filter (fun x => !mine x.qp) } }

/-- A quay share of a descriptor: its SRAM and its stacks. -/
def quayShare (y : Option BerthDesc) (q : Nat) : (Nat × Nat) × (Nat × Nat) × (Nat × Nat) :=
  match y with
  | none => ((0, 0), (0, 0), (0, 0))
  | some y => ((y.qsram[q]?).getD (0, 0), (y.hbm[2 * q]?).getD (0, 0), (y.hbm[2 * q + 1]?).getD (0, 0))

/-- Moved caches are written back and start empty; quay SRAM that comes to a berth as scratch holds undefined data (R198, R215). -/
def State.moveQuaySram (s : State) (b : Fin 8) (new : Option BerthDesc) : State :=
  let old := (s.berth b).desc
  let s := forFin 8 s (fun s q =>
    if quayShare old q = quayShare new q then s
    else
      let mine := (s.quay q).cache.filter (fun l => l.berth == b.val)
      let s := if s.inReset (16 + q.val) then s else mine.foldl (fun s l => s.writeBack q l) s
      s.modQuay q (fun y => { y with cache := y.cache.filter (fun l => l.berth != b.val) }))
  let keep := fun q => min (quayShare old q).1.2 (quayShare new q).1.2 * MiB
  let s := forFin 8 s (fun s q => s.modQuay q (fun y => { y with
    openGen := y.openGen + 1
    opened := y.opened.flatMap (fun e =>
        if e.berth ≠ b.val ∨ e.hi ≤ keep q then [e] else if e.lo < keep q then [{ e with hi := keep q }] else []) ++
      (if keep q < (quayShare new q).1.2 * MiB then [⟨b, keep q, (quayShare new q).1.2 * MiB, y.openGen + 1⟩] else []) }))
  { s with mem := s.mem.filter (fun c => (List.range 8).all (fun q =>
      let base := scratchBase q b
      !(decide (base + keep q ≤ c.1) && decide (c.1 < base + 320 * MiB)))) }

/-- A die stands in state stopped with a structure, or with none (R333, R198). -/
def State.dieStructure (s : State) (d : Fin 8) (b : Option (Fin 8)) (i : Option DieImage) : State :=
  let s := (s.setStream d 0).setBit .CDC_STREAM_STATE_PARK_REQ false d
  s.modDie d (fun x =>
    { x with
      image := i, berth := b, inIssue := false, rep := 0, fetchStall := 0, ended := false, stopAfter := false
      parkAfter := false, rateAfter := false, frameDone := false, restoring := false, snapshot := none, ballast := []
      idleWin := [], parkSrc := [], deferred := [] })

/-- Give berth `b` the structure of an image, or end it (R333, R198, R281). -/
def State.applyBerth (s : State) (img : List Nat) (b : Fin 8) (new : Option BerthDesc) : State :=
  let old := (s.berth b).desc
  let s := if old.isSome && s.rhdState b != 0 then s.rhdEnableOff b else s
  let range := fun (y : Option BerthDesc) => y.map (fun y => (y.qpBase, y.qpCount))
  let s := match old with
    | some y => if range old = range new then s else s.qpRangeReset y.qpBase y.qpCount
    | none => s
  let s := s.moveQuaySram b new
  let leave := s.berthDies b
  let s := leave.foldl (fun s (d : Fin 8) => s.dieStructure d none none) s
  let s := match new with
    | none => s
    | some y => forFin 8 s (fun s d => if bitAt y.dieMask d then s.dieStructure d (some b) (some (imgDie img d)) else s)
  let close := old.isSome && (new.isNone || (old.map (·.bamporKey)) != (new.map (·.bamporKey)))
  let s : State := if close then
      { s with net := { s.net with sessions := s.net.sessions.filter (fun x => x.role != b.val) } } else s
  let s := s.modBerth b (fun y =>
    { y with
      desc := new, hold := false, parkedDies := [], loopWait := false
      digestS := (new.map (fun y => structDigest img b y.dieMask)).getD []
      digestD := if new.isSome then digestD img else [] })
  let s : State := { s with cap := { s.cap with
    learned := s.cap.learned.filter (fun e => e.1.1 != b.val), runs := s.cap.runs.filter (fun r => r.berth != b.val) } }
  let s := s.set .BTH_COMMITTED_BERTHS (putBit (s.get .BTH_COMMITTED_BERTHS) b new.isSome)
  if old.isSome && new.isNone then
    let s := { s with regs := s.regs.filter (fun e => !(e.1.f == Fld.FWY_BERTH_WEIGHT_WEIGHT && e.1.item == b.val)) }
    s.clearFlds [.BTH_B_CAP_WATTS, .BTH_B_FRAME_PERIOD_US] b
  else s

/-- The descriptor that an image leaves a touched berth: none where it ends it (R174). -/
def imgGives (img : List Nat) (b : Nat) : Option BerthDesc :=
  match imgDesc img b with
  | some y => if imgKind img = 1 ∧ y.dieMask = 0 then none else some y
  | none => none

/-- Apply an image to every berth it touches, in one step (R198). Berths that end or shrink come first. -/
def State.applyImage (s : State) (img : List Nat) : State :=
  let touched := s.imgTouched img
  let s := touched.foldl (fun s (b : Fin 8) => if (s.berth b).desc.isSome && (imgGives img b).isNone then s.applyBerth img b none else s) s
  let s := touched.foldl (fun s (b : Fin 8) => (s.berthDies b).foldl (fun s (d : Fin 8) =>
    if ((imgGives img b).map (fun y => bitAt y.dieMask d)).getD false then s else s.dieStructure d none none) s) s
  (touched.foldl (fun s (b : Fin 8) => if (imgGives img b).isSome then s.applyBerth img b (imgGives img b) else s) s).retag

/-- IMAGE_COPIES_STORED: with its copies stored the image is applied; a flash failure fails the commit (R196, Table 7-6). -/
def execImageCopiesStored (storedA storedB : Bool) (s : State) : Host.Outcome State Fault Refusal :=
  .next <|
    if s.imgState ≠ 4 ∨ s.img.stored then s
    else
      let p := s.act
      let q := otherPilot p
      let got := fun (i : Fin 2) => if i = 0 then storedA else storedB
      let present := (s.pilot q).role = .standby
      if !got p || (present && !got q) then s.imgFail 0x14
      else
        let s := if present then s else s.raise 0x0701
        let both : Vector Bool 2 := ((Vector.replicate 2 false).set p true).set q present
        let s : State := { s with img := { s.img with stored := true, copies := both } }
        s.applyImage s.staged

/-- Mark an image current in flash `p`; a full image discards the stored partial ones (R199). -/
def State.slotCurrent (s : State) (p : Fin 2) (img : List Nat) : State :=
  if imgKind img = 0 then
    { s with img := { s.img with full := s.img.full.set p (some img), partials := s.img.partials.set p [] } }
  else
    let l := (imgBerth img, img) :: (s.img.partials[p]).filter (fun e => e.1 != imgBerth img)
    { s with img := { s.img with partials := s.img.partials.set p l } }

/-- IMAGE_SLOT_CURRENT: the slots are current, then the counter is raised; COMMITTED (Table 7-7, R188). -/
def execImageSlotCurrent (s : State) : Host.Outcome State Fault Refusal :=
  .next <|
    if s.imgState ≠ 4 ∨ !s.img.stored then s
    else
      let img := s.staged
      let s := forFin 2 s (fun s p => if s.img.copies[p] then s.slotCurrent p img else s)
      let s := s.rbRaise (imgCounter img) (imgRollback img)
      s.set .BTH_IMG_STATE_STATE 5

/-! ### Restoring at start-up (R199) -/

/-- The stored image that holds berth `b`: the partial one committed last, else the full one. -/
def State.storedFor (s : State) (b : Fin 8) : Option (List Nat) :=
  match (s.img.partials[s.act]).find? (fun e => e.1 == b.val) with
  | some e => if (imgGives e.2 b).isSome then some e.2 else none
  | none => match s.img.full[s.act] with
    | some f => if (imgBerths f).contains b.val then some f else none
    | none => none

/-- The keys that a stored image may verify under: the owner key, or for KEY_SLOT 1 the berth's IMG_KEY as the stored images
give it, since no structure is committed yet (DEDUCED, log entry 17). -/
def State.storedKeys (s : State) (img : List Nat) (b : Fin 8) : List (List Nat) :=
  if imgSlot img = 0 then s.ownerKey.toList
  else (imgDesc img b).toList.map (·.imgKey) ++ ((s.img.full[s.act]).bind (fun f => imgDesc f b)).toList.map (·.imgKey)

/-- BERTH_RESTORE: a stored berth is verified again and applied, once what it names is ready; once a start-up. -/
def execBerthRestore (b : Fin 8) (s : State) : Host.Outcome State Fault Refusal :=
  .next <|
    match s.storedFor b with
    | none => s
    | some img =>
      let y := (imgGives img b).toList
      if bitAt s.img.tried b || (s.berth b).desc.isSome || !s.namedReady y then s
      else
        let s := { s with img := { s.img with tried := putBit s.img.tried b true } }
        if s.rbNow (imgCounter img) ≤ imgRollback img && (s.storedKeys img b).any (fun k => sigOk k img) then
          let s := s.rbRaise (imgCounter img) (imgRollback img)
          let s := (s.applyBerth img b (imgGives img b)).retag
          s.set .BTH_COMMITTED_RESTORED (putBit (s.get .BTH_COMMITTED_RESTORED) b true)
        else (s.setBit .BTH_IMG_STATUS_RESTORE_FAIL true).raise 0x0702 b

end Sys2Proof.Machine
end

