-- ==== Sys2Proof/Machine/Domains.lean ====
section
/-! DEFINITION. What entering reset does to each domain (R69, Table 3-3), requests for reset (R67, R70, R71), a cold reset
(R64, R76, R80), and the surprise-removal sequence's first step (R510, R511, R513). -/

namespace Sys2Proof.Machine

/-! ### Dies and quays in reset hold (R69, R232) -/

/-- Do the requests of a descriptor touch the compute die `x` (0 to 7) or the quay `x - 8`. -/
def issueTouches (x : Nat) (t : TugIssue) : Bool :=
  (List.range (tRows t.entry)).any (fun m =>
    (tReads t.entry && addrDie (tSrc t.entry t.rep m) == some x) || (tWrites t.entry && addrDie (tDst t.entry t.rep m) == some x))

/-- Running descriptors that touch a die or quay entering reset hold take its status (R232). -/
def State.runsStatus (s : State) (x status : Nat) : State :=
  forFin 8 s (fun s q => s.modQuay q (fun y => { y with tugs := y.tugs.map (fun t : TugSt =>
    { t with runs := t.runs.map (fun r : TugRun =>
      if issueTouches x r.issue ∧ !(r.allIssued && r.out.isEmpty) then { r with codes := status :: r.codes } else r) }) }))

/-- Rows of gathers and scatters that a die or quay entering reset hold serves, asked for and not complete, complete with its status
(R223, R232). -/
def State.rowsStatus (s : State) (x status : Nat) : State :=
  forFin 8 s (fun s d => s.modDie d (fun y => { y with gathers := y.gathers.map (fun g =>
    { g with rows := g.rows.map (fun r =>
        if (r.st = .asked ∨ r.st = .outstanding) ∧ addrDie r.addr = some x then { r with st := .done status } else r) }) }))

/-- Packets and waiting lines of requests that no requester holds any more leave the module. -/
def State.purgeGone (s : State) : State :=
  s.purge (fun r k => (s.reqInfo r k).isNone || (match r with
    | .row d g i => (((s.die (Fin.ofNat 8 d)).gathers.find? (fun y => y.id == g)).bind (fun y => y.rows[i]?)).any (fun x => x.st != .outstanding)
    | _ => false))

/-- The destinations of a die's running descriptors, gathers and scatters when its reset cuts them short: what they had written by
then is open, and no status tells of it (R69). Its collectives' are `collSpoil`'s. -/
def State.cutShort (s : State) (d : Fin 8) : State :=
  match (s.die d).berth with
  | none => s
  | some b =>
    let runs := (allFin 8).flatMap (fun q : Fin 8 => (s.quay q).tugs.toList.flatMap (fun t => t.runs.filter (fun r => r.die == d)))
    let s := runs.foldl (fun s r => if r.codes.all (fun c => decide (0x13 ≤ c)) then s.tugSpoil b r.issue else s) s
    (s.die d).gathers.foldl (fun s g => g.rows.foldl (fun s r =>
      if r.code = 0 ∨ (0x16 ≤ r.code ∧ r.code ≤ 0x18) then s.gatherSpoil d b g r else s) s) s

/-- A compute die enters reset: stream position, registers, requests and counters are cleared; the committed structure and its
memories stay, but for what a transfer cut short had to write; register and accumulator contents become undefined (R69, Table 3-3). -/
def State.holdDie (s : State) (d : Fin 8) : State :=
  let x := s.die d
  let s := (s.net.colls.filter (fun c => c.die == d)).foldl State.collSpoil (s.cutShort d)
  let s := s.clearFlds (Blk.fields .cdc) d
  let s := s.setDie d
    { image := x.image, berth := x.berth, target := x.target, ratePend := x.ratePend, code := x.code, duDomain := x.duDomain
      duThermal := x.duThermal, duReserve := x.duReserve, frameNo := x.frameNo, nextGather := x.nextGather }
  let s := { s with
    net := { s.net with colls := s.net.colls.filter (fun c => c.die != d) }
    rst := { s.rst with genCount := s.rst.genCount.set d (s.rst.genCount[d] + 1) } }
  let s := forFin 8 s (fun s q => s.modQuay q (fun y => { y with tugs := y.tugs.map (fun t : TugSt =>
    { t with runs := t.runs.filter (fun r => r.die != d) }) }))
  ((s.runsStatus d 0x17).rowsStatus d 0x17).purgeGone.setReady (rCD d) false

/-- A quay enters reset: its descriptors and the requests it serves complete with status 0x16, its stacks go to self-refresh,
dirty cache sectors are lost (R232, Table 3-3). -/
def State.holdQuay (s : State) (q : Fin 8) : State :=
  let live := [0, 1].filter (fun k => s.trained (2 * q.val + k) || s.bit .QDC_HBM_STATUS_SELF_REFRESH q k)
  let running := (allFin 32).flatMap (fun t : Fin 32 => ((s.quay q).tugs[t]).runs)
  let s := s.modQuay q (fun y => { y with cache := [] })
  let s := running.foldl (fun s r => match (s.die r.die).berth with
    | some b => if r.codes.all (fun c => decide (0x13 ≤ c)) then s.tugSpoil b r.issue else s
    | none => s) s
  let s := s.modQuay q (fun y => { y with tugs := Vector.replicate 32 {} })
  let s := forFin 8 s (fun s d =>
    let mine := fun (t : TugIssue) => (s.chanMap d t.chan).any (fun e => e.1 == q)
    let done := ((s.die d).chans ++ (s.die d).deferred).filter mine
    let s := s.modDie d (fun x =>
      { x with chans := x.chans.filter (fun t => !mine t), deferred := x.deferred.filter (fun t => !mine t) })
    done.foldl (fun s t => s.completeTally d t.tally 0x16 0) s)
  let s := ((s.runsStatus (8 + q.val) 0x16).rowsStatus (8 + q.val) 0x16).purgeGone
  let s := s.modQuay q (fun y => { opened := y.opened, openGen := y.openGen })
  let s := s.clearFlds ((Blk.fields .qdc).filter (fun f => f != .QDC_HBM_CFG_RATE_MAX)) q
  let s := live.foldl (fun s k => s.setBit .QDC_HBM_STATUS_SELF_REFRESH true q k) s
  ((s.setReady (rQD q) false).setReady (rHBM (2 * q.val)) false).setReady (rHBM (2 * q.val + 1)) false

/-! ### The net dies (R69, R259) -/

/-- Fields of the net dies that a reset of NET leaves: those that take effect at its release (R12), and those held in flash, which
only a cold start loads. -/
def netKept (f : Fld) : Bool :=
  f.info.flash || [Fld.NET_P_CFG_MODE, .NET_P_CFG_AN, .NET_P_CFG_POL, .NET_UDP_PORTS_BAMPOR, .NET_UDP_PORTS_TIDEMARK].contains f

/-- The net dies enter reset: queue pairs, link state, PTP time and counters are cleared, collectives end with 0x21; the other fields
of the block take their Reset values, and PPS_OUT holds its level (R13, R69, R77). -/
def State.holdNet (s : State) : State :=
  let s : State := { s with pins := { s.pins with ppsHeld := s.ppsOutLevel } }
  let s := s.failColls (fun _ _ => true) 0x21
  let s := (s.qpRangeReset 0 65536).clearAll ((Blk.fields .net ++ Blk.fields .port).filter (fun f => !netKept f))
  let s := { s with
    net := { s.net with qps := [], xoffSent := [], paused := [], held := [], ptpBase := 0, ptpValid := false, ptp := {} }
    fwy := { s.fwy with segs := [] } }
  let s := s.purgeGone
  ((s.setReady (rPORT 0) false).setReady (rPORT 1) false).setReady rPTP false

/-! ### Helm controllers and control engines -/

/-- Helm registers and counters, which a warm reset of PWR returns to their Reset values; set-points, latches, status and
last-fault data stay (Table 3-3). -/
def helmFlds : List Fld :=
  [.PWR_RAIL_CTRL_SHED_EN, .PWR_RAIL_CTRL_DE_EN, .PWR_RAIL_CTRL_BRAKE_EN, .PWR_RAIL_STATUS_LOCK_ERR, .PWR_RAIL_VOUT_MV,
   .PWR_RAIL_IOUT_A_X10, .PWR_RAIL_CFG1_SS_TIME, .PWR_RAIL_CFG1_SLEW, .PWR_RAIL_CFG1_SLOPE, .PWR_RAIL_CFG2_SHED_LO,
   .PWR_RAIL_CFG2_ADD_HI, .PWR_RAIL_CFG2_STEP, .PWR_RAIL_CFG2_BRAKE, .PWR_RAIL_BAL_KT, .PWR_RAIL_PH_INFO_A_X10,
   .PWR_RAIL_PH_INFO_TEMP, .PWR_RAIL_PH_INFO_SHARE, .PWR_RAIL_CNT_CTRL_FREEZE, .PWR_RAIL_SHED_COUNT,
   .PWR_RAIL_SHED_ABORT_COUNT, .PWR_RAIL_BRAKE_COUNT, .PWR_STATUS_HELM_UP, .PWR_RAIL_PROT_CFG_N_LIMIT,
   .PWR_RAIL_PROT_CFG_OFF_MS, .PWR_RAIL_PROT_CFG_RETRY_MAX, .PWR_RAIL_PROT_CFG_HS_CHECK, .PWR_RAIL_PROT_CNT_CTRL_FREEZE,
   .PWR_RAIL_LIMITED_COUNT, .PWR_RAIL_TRIPS_COUNT, .PWR_RAIL_LATCHES_COUNT, .PWR_RAIL_THERM_STOP_COUNT, .PWR_CMD_ERR_CRC,
   .PWR_CMD_ERR_REPEAT, .PWR_CMD_OVERLAP_COUNT, .PWR_CNT_CTRL_FREEZE]

/-- The helm controllers enter a warm reset: commands waiting on their links are gone; the rails run on. -/
def State.holdPwr (s : State) : State :=
  let s := s.clearAll helmFlds
  { s with pwr := { s.pwr with
    rails := s.pwr.rails.map (fun r : RailSt => { r with waiting := none, links := 0, alive := Vector.replicate 2 none })
    errTimes := [] } }

/-- The loops of the engine in service are lost: states, integrators, outputs; helm set-points hold (Table 3-3). -/
def State.clearLoops (s : State) : State :=
  { s with
    cte := { s.cte with cycle := 0, loops := Vector.replicate 32 {}, ready := [], snaps := [], commit := none }
    outs := {}
    bwr := { s.bwr with acc := 0, ref := 0, atLimit := false, tide := [], anchors := [], lastAnchor := none, lockedT := none
                        hints := [], pinPrev := 0, beyond := 0 } }

/-- Fields of the control engine's block that its reset returns to their Reset values: parameter sets are kept, as flash holds them
(R13, Table 3-3). -/
def cteResetFlds : List Fld :=
  (Blk.fields .cte).filter (fun f => !f.info.flash && !selectorFlds.contains f && !(f == Fld.CTE_CP_SET_ID))

/-- The control engine half of a pilot enters reset: its heartbeat stops (R490); of the engine in service, which no other pilot's has
taken over from, the loops and registers are lost and CTE clears (R69, R78). -/
def State.holdCte (s : State) (p : Fin 2) : State :=
  let s := s.modPilot p (fun x => { x with hbRunning := false })
  if s.hma.grant = some (otherPilot p) then s
  else ((s.clearLoops).clearAll cteResetFlds).setReady rCTE false

/-! ### Pilots -/

/-- A write that both flashes take is in progress: a fault record, an image, a parameter set, a customer or vendor package (R385,
R196, R428, R434, R546). -/
def State.flashWrites (s : State) : Bool :=
  (allFin 51).any (fun r => s.pwr.recs[r].writing.isSome) || (s.imgState == 4 && !s.img.stored) || s.bit .CTE_PARAM_STATUS_STORING ||
    s.get .CTE_CUST_STATUS_STATE == 3 || (s.get .SEC_PKG_STATUS_STATE == 3 && !s.sec.stored)

/-- A pilot drives a flash program pulse, or is about to: the active one flushes its log or, as the standby too, writes what both
flashes take (R71). -/
def State.flashBusy (s : State) (p : Fin 2) : Bool :=
  (s.activePilot == some p && (s.bit .LOG_STATUS_FLUSHING || s.flashWrites)) || ((s.pilot p).role == .standby && s.flashWrites)

/-- The SUP half of a pilot enters reset: its core, registers, unflushed records and, with no copy of them, sessions go; flash
and the other pilot stay (Table 3-3). It is in self-test until it stands by or is granted. HMA holds its grant and its enable
until it judges the pilot. -/
def State.holdSup (s : State) (p : Fin 2) : State :=
  let x := s.pilot p
  let s := s.setPilot p
    { role := if x.held then .out else .selfTest, forced := x.forced, held := x.held, linkEn := x.linkEn, hbLast := x.hbLast }
  { s with
    log := { s.log with ring := s.log.ring.set p [], held := s.log.held.set p [], mounted := s.log.mounted.set p false }
    sec := { s.sec with fwRun := s.sec.fwRun.set p none }
    copyHeld := if s.hma.grant = some p then s.copyHeld else none }

/-- Register fields that both pilots lose when both are in reset: logbook, check-value units, security engine, and the capping
process with its rack cap message (R13, R60, R69, R498); what flash holds stays as it was loaded. -/
def supFlds : List Fld :=
  [Blk.log, .cvu, .cvuu, .sec, .cap].flatMap (fun b => b.fields.filter (fun f => !f.info.flash))

/-- Both SUP halves are in reset: SUP, LOG, FWV and the rate-hold logic stop, and what no other pilot holds is lost (R69, R78,
R498). -/
def State.supDown (s : State) : State :=
  let s := s.clearAll supFlds
  let s : State := { s with
    log := { s.log with latches := [], handling := none, preempted := [], queue := [], unread := [], secPending := [], wantSeq := none }
    cvu := Vector.replicate 8 {}
    sec := { s.sec with staging := [], verified := none, stored := false }
    cap := { ageStored := s.cap.ageStored, reduction := s.cap.reduction } }
  (((s.setReady rSUP false).setReady rLOG false).setReady rFWV false).setReady rRHD false

/-! ### A domain enters reset hold (R69, R70, R78) -/

/-- Mark a domain in reset hold. -/
def State.markHold (s : State) (d : Nat) : State := s.set .RST_IN_RESET_STATE (putBit (s.get .RST_IN_RESET_STATE) d true)

/-- FWY ends once no die with a fairway port is out of reset (R78). -/
def State.fwyHeld (s : State) : State :=
  if s.inReset 6 && (List.range 16).all (fun i => s.inReset (8 + i)) then s.setReady rFWY false else s

/-- The logical state of a berth enters reset: its queue pairs, tug queues, requests and fetch state are cleared, and its dies
go through reset (Table 3-3). -/
def State.holdBerth (s : State) (b : Fin 8) : State :=
  let s := (s.berthDies b).foldl (fun s (d : Fin 8) => (s.markHold (8 + d.val)).holdDie d) s
  let s := match (s.berth b).desc with
    | some y => s.qpRangeReset y.qpBase y.qpCount
    | none => s
  let s : State := { s with net := { s.net with colls := s.net.colls.filter (fun c => c.berth != b.val) } }
  s.modBerth b (fun y => { y with parkedDies := [], loopWait := false })

/-- A domain enters reset hold, by its index in Table 3-1. AO and the reserved index are held by no request. -/
def State.holdDomain (s : State) (d : Nat) : State :=
  if d = 0 ∨ d = 7 ∨ 32 ≤ d then s
  else
    let s := s.markHold d
    let s :=
      if d = 1 ∨ d = 2 then
        let s := s.holdSup (Fin.ofNat 2 (d - 1))
        if s.inReset 1 && s.inReset 2 then s.supDown else s
      else if d = 3 then s.holdPwr
      else if d = 4 then s.holdCte 0
      else if d = 5 then s.holdCte 1
      else if d = 6 then s.holdNet
      else if d < 16 then s.holdDie (Fin.ofNat 8 (d - 8))
      else if d < 24 then s.holdQuay (Fin.ofNat 8 (d - 16))
      else s.holdBerth (Fin.ofNat 8 (d - 24))
    s.fwyHeld

/-! ### Requests (R67, R71) -/

/-- Set a cause bit. -/
def State.setCause (s : State) (i : Nat) : State := s.setBit ((causeFlds[i]?).getD .RST_CAUSE_POR) true

/-- Request a warm reset of the domains of a mask: it waits while a named SUP half drives a flash pulse (R71). -/
def State.requestReset (s : State) (mask : Nat) : State :=
  let waits := (bitAt mask 1 && s.flashBusy 0) || (bitAt mask 2 && s.flashBusy 1)
  if waits then
    let s := (s.setBit .RST_STATUS_FLASH_DELAYED true).setCause 9
    { s with rst := { s.rst with waiting := Nat.lor s.rst.waiting mask } }
  else { s with rst := { s.rst with requested := Nat.lor s.rst.requested mask } }

/-! ### Cold reset (R64 to R67, R76, R80) -/

/-- Register fields that a cold reset keeps: those of AO. -/
def coldKept (f : Fld) : Bool :=
  causeFlds.contains f ||
    [Fld.HPL_COUNT_DRAINS, .HPL_COUNT_SURPRISES, .CEL_SLEEP_CFG_LO_MV, .CEL_SLEEP_CFG_HI_MV, .CEL_SLEEP_LOG_CELL,
     .CEL_SLEEP_LOG_MV, .CEL_SLEEP_LOG_VALID, .PWR_IN_STATUS_TRIPS].contains f

/-- "flash" fields whose value flash holds otherwise than as delivered: the load at the next start-up brings it back (R13, R480,
R545, R548). -/
def flashKept (f : Fld) : Bool :=
  [Fld.SEC_STATUS_OWNED, .SEC_OWNER_KEY_BYTES, .CAP_AGE_LOWERED, .CAP_VT_VENDOR_MV, .CAP_VT_VERSION_VERSION].contains f

/-- Causes of cold resets as bits of `RST_CAUSE` (Table 3-2): 0 POR, 1 BOR, 2 HOTPLUG. -/
def State.coldReset (s : State) (causes : List Nat) : State :=
  let boot := !causes.contains 2
  let rails : Vector RailSt 50 := Vector.ofFn (fun r : Fin 50 =>
    if boot && decide (46 ≤ r.val) && decide (r.val ≤ 48) then
      (if causes.contains 0 then { s.pwr.rails[r] with latch := none } else s.pwr.rails[r]) else {})
  let recs : Vector RecSt 51 := s.pwr.recs.map (fun x : RecSt => { seq := x.seq, slots := x.slots })
  let keepRail := fun (e : RKey × Nat) => boot && decide (46 ≤ e.1.inst) && decide (e.1.inst ≤ 48) && e.1.f.info.blk == .rail
  let s : State :=
    { now := s.now, fresh := s.fresh, tx := s.tx, pending := s.pending
      regs := s.regs.filter (fun e => coldKept e.1.f || keepRail e)
      pins := { s.pins with alert := false, wake := s.pins.wake, limiter := !s.pins.presentN
                            syncOut := false, ppsOut := false, ppsHeld := none, smbStatus := 0 }
      rst := { cold := true, coldTime := s.now, genCount := s.rst.genCount.map (· + 1), released := 0 }
      flashRegs := s.regs.filter (fun e => flashKept e.1.f) ++ s.flashRegs
      img := { full := s.img.full, partials := s.img.partials }
      pilots := Vector.replicate 2 {}
      log := { flash := s.log.flash }
      pwr := { rails := rails, recs := recs }
      cte := { paramFlash := s.cte.paramFlash, custFlash := s.cte.custFlash }
      cap := { ageStored := s.cap.ageStored }
      sec := { rb := s.sec.rb, fwCurrent := s.sec.fwCurrent, fwOther := s.sec.fwOther, vt := s.sec.vt } }
  let s := s.set .RST_IN_RESET_STATE 0xFFFFFF7E
  causes.foldl (fun s c => s.setCause c) s

/-- Request a cold reset: it supersedes every warm one and waits for a flash pulse in progress (R67, R71, R72). -/
def State.requestCold (s : State) (causes : List Nat) : State :=
  if s.flashBusy 0 || s.flashBusy 1 then
    let s := causes.foldl (fun s c => s.setCause c) ((s.setBit .RST_STATUS_FLASH_DELAYED true).setCause 9)
    { s with rst := { s.rst with waitCold := some causes, requested := 0, waiting := 0xFFFFFF7E } }
  else s.coldReset causes

/-! ### Surprise removal (R510 to R513) -/

/-- The hot-swap FET opens: no main current flows (Table 3-5). -/
def State.hotSwapOpen (s : State) : State := (s.setBit .PWR_IN_STATUS_HS_ON false).setBit .PWR_IN_STATUS_HS_LIMIT false

/-- The active pilot means every rail but VAUX, VPLA, VPLB and BWC to stop (Table 20-3). -/
def State.railsDown (s : State) (rs : List Nat) : State := rs.foldl (fun s r => s.setWanted r { s.wanted r with en := false }) s

/-- A surprise sequence goes on without hold-up: its event carries NO_HOLDUP (R513). -/
def State.loseHoldup (s : State) : State :=
  if s.get .HPL_STATE_STATE ≠ 5 then s
  else
    let s : State := { s with hpl := { s.hpl with noHoldup := true } }
    match s.log.latches.find? (fun l => l.chapter == 0x20 && l.unit == 0xFF) with
    | some l => s.editRecord l.seq (fun r => { r with eflags := 1 })
    | none => s

/-- A surprise trigger of Table 20-2, from RUN, QUIESCING, DISCHARGING or STOPPING. -/
def State.surprise (s : State) (trigger : Nat) : State :=
  if s.get .HPL_STATE_STATE > 3 then s
  else
    let noHold := s.get .BWR_STATUS_ISO != 2
    let s := (s.set .HPL_STATE_STATE 5).set .HPL_STATE_TRIGGER trigger
    let s := s.tally .HPL_COUNT_SURPRISES
    let s : State := { s with
      hpl := { since := s.now, noHoldup := noHold, limiterOff := true }
      pins := { s.pins with limiter := false } }
    let s := s.hotSwapOpen
    let s := forFin 8 s (fun s d => if s.running d then s.streamStop d else s)
    let s := s.railsDown (List.range 46)
    let s := (s.setBit .BWR_STATUS_DRAIN false).set .BWR_PIN_SET_W 0
    let s : State := { s with outs := { s.outs with pset := 0 } }
    (s.raise 0x2005 0xFF trigger 0 noHold.toNat).startFlush

end Sys2Proof.Machine
end

