-- ==== Sys2Proof/Machine/Power.lean ====
section
/-! DEFINITION. Input stage, rails and helm controllers (chapter 13): the command link, telemetry, start and stop, regulation,
phase balance, shedding, braking and synchronisation. -/

namespace Sys2Proof.Machine

/-! ### Rails -/

def State.rail (s : State) (r : Fin 50) : RailSt := s.pwr.rails[r]
def State.setRail (s : State) (r : Fin 50) (x : RailSt) : State := { s with pwr := { s.pwr with rails := s.pwr.rails.set r x } }
def State.modRail (s : State) (r : Fin 50) (f : RailSt → RailSt) : State := s.setRail r (f (s.rail r))

/-- Phases of a rail and the mask of those that may run: neither shed nor stopped by their stages (R356, R377). -/
def railPhases (r : Fin 50) : List Nat := List.range (railFig r 0)
def State.runPhases (s : State) (r : Fin 50) : List Nat :=
  if s.bit .PWR_RAIL_STATUS_ON r then
    (railPhases r).filter (fun k => !(s.rail r).shed.contains k && !(s.rail r).thermal.contains k)
  else []

/-- VAUX, VPLA and VPLB, which the boot sequencer starts (R347). -/
def isBoot (r : Nat) : Bool := r == 46 || r == 47 || r == 48

/-- i_rated of a rail, A (R355). -/
def railRated (r : Nat) : Rat := (railFig r 3 : Rat) / (railFig r 0 : Rat)

/-- Total current of a rail, A, signed. -/
def State.railAmps (s : State) (r : Fin 50) : Rat := (dec 16 (s.get .PWR_RAIL_IOUT_A_X10 r) : Rat) / 10

/-- The number of a rational field of an exact value, rounded down and kept non-negative. -/
def natOf (x : Rat) : Nat := x.floor.toNat

/-- An exact FP32 number as a rational; infinities and NaN, which no parameter holds (R427), give 0. -/
def FV.rat : FV → Rat
  | .num neg m e =>
    let v : Rat := if 0 ≤ e then (m * 2 ^ e.toNat : Nat) else (m : Rat) / ((2 ^ (-e).toNat : Nat) : Rat)
    if neg then -v else v
  | _ => 0

/-- A parameter of the active set, by the loop it serves and its number there (R427). -/
def State.param (s : State) (loop name : Nat) : Rat :=
  (ofF32 (BitVec.ofNat 32 (s.get .CTE_PARAM_ACTIVE_VALUE 0 (Config.paramWord loop name % 1024)))).rat

/-- The frequency of a group in force, kHz: it moves linearly over 200 µs (R364 to R366). -/
def State.groupKhz (s : State) (g : Nat) : Rat :=
  let i : Fin 6 := Fin.ofNat 6 g
  let a := s.pwr.slewFrom[i]
  let b := s.pwr.slewTo[i]
  let t := min (s.now - s.pwr.slewAt) (200 * us)
  a + (b - a) * (t : Rat) / ((200 * us : Nat) : Rat)

/-- The switching period of a rail, µs. -/
def State.railPeriod (s : State) (r : Nat) : Rat := 1000 / s.groupKhz (railFig r 2)

/-- Does a rail latch, by its protection or by the bollard. -/
def RailSt.latched (x : RailSt) : Bool := x.latch.isSome || x.bollard

/-- Protection states that stop a rail (R372), input low among them. -/
def State.railStopped (s : State) (r : Fin 50) : Bool :=
  (s.rail r).latched || s.bit .PWR_RAIL_PROT_STATUS_HICCUP_OFF r || (s.rail r).thermalOff ||
    s.bit .PWR_RAIL_PROT_STATUS_INPUT_LOW r

/-- Some protection state of a rail holds, its current limit among them: shedding, braking, diode emulation and HOLD do not act
(R372). -/
def State.railProtects (s : State) (r : Fin 50) : Bool := s.railStopped r || decide (0 < (s.rail r).limited)

/-- EN in force: the boot rails ignore EN in commands (R347). -/
def State.railEn (s : State) (r : Fin 50) : Bool := (s.rail r).en

/-- Diode emulation governs (R360), as it does during soft start (R361). -/
def State.railDE (s : State) (r : Fin 50) : Bool :=
  s.bit .PWR_RAIL_STATUS_SOFT_START r ||
    (s.bit .PWR_RAIL_CTRL_DE_EN r && !s.railProtects r && decide ((s.runPhases r).length = railFig r 1) &&
      !decide ((s.rail r).target < (s.rail r).vset) && !(s.rail r).stepped)

/-- A ramp of the set-point is in progress (R354). -/
def State.railRamp (s : State) (r : Fin 50) : Bool :=
  s.bit .PWR_RAIL_STATUS_ON r && !s.bit .PWR_RAIL_STATUS_SOFT_START r && decide ((s.rail r).vset ≠ (s.rail r).target)

/-- Turn every switch of a rail off (R362). -/
def State.railOff (s : State) (r : Fin 50) : State :=
  let s := (s.setBit .PWR_RAIL_STATUS_ON false r).setBit .PWR_RAIL_STATUS_SOFT_START false r
  s.modRail r (fun x =>
    { x with onTime := [], first := none, shed := [], rampOff := none, braking := [], decaying := false, stepped := false, limited := 0, limitedAgo := 16
             checked := false, ic := 0, ePrev := 0 })

/-! ### The command link (R343 to R345) -/

/-- A discarded command: counted, and 64 within 1 ms raise event 0x1305 (R343, R368). -/
def State.cmdError (s : State) (f : Fld) : State :=
  let s := s.count .PWR_CNT_CTRL_FREEZE f 1
  let times := s.now :: s.pwr.errTimes.filter (fun t => decide (s.now < t + ms))
  let due : Bool := match s.pwr.errEventAt with
    | none => true
    | some t => decide (t + ms ≤ s.now)
  let s : State := { s with pwr := { s.pwr with errTimes := times } }
  if 64 ≤ times.length ∧ due then ({ s with pwr := { s.pwr with errEventAt := some s.now } } : State).raise 0x1305 else s

/-- No helm controller has gone 30 µs without an accepted command. -/
def State.helmsFed (s : State) : Bool := (allFin 4).all (fun h => decide (s.now < s.pwr.lastCmd[h] + 30 * us))

/-- HELM_COMMAND: eight bytes on the link of a pilot to a helm controller (R343, R344, R345, R347, R372, R486, R490). -/
def execHelmCommand (helm : Fin 4) (link : Fin 2) (bytes : Vector (BitVec 8) 8) (s : State) :
    Host.Outcome State Fault Refusal :=
  .next <|
    let bs := bytes.toList.map BitVec.toNat
    let r := nth bs 0
    let alive := nth bs 4 % 16
    if s.inReset 3 || !(s.pilot link).linkEn || !(s.pilot link).linkOut then s
    else if crc16 (bs.take 6) ≠ leAt bs 6 2 then s.cmdError .PWR_CMD_ERR_CRC
    else if 50 ≤ r ∨ railHelm r ≠ helm.val then s.cmdError .PWR_CMD_ERR_CRC
    else
      let rr : Fin 50 := Fin.ofNat 50 r
      let x := s.rail rr
      if x.alive[link] = some alive then s.cmdError .PWR_CMD_ERR_REPEAT
      else
        let cmd : HelmCmd := ⟨bitAt (nth bs 1) 0, bitAt (nth bs 1) 1, leAt bs 2 2⟩
        let s := s.setRail rr
          { x with alive := x.alive.set link (some alive), waiting := if x.latched then none else some cmd
                   links := Nat.lor x.links (2 ^ link.val) }
        let s := (s.setBit .PWR_RAIL_CTRL_EN cmd.en r).setBit .PWR_RAIL_CTRL_HOLD cmd.hold r
        let s := s.set .PWR_RAIL_VSET_TARGET_MV cmd.set r
        let s : State := { s with pwr := { s.pwr with lastCmd := s.pwr.lastCmd.set helm s.now } }
        if s.helmsFed then s.setBit .PWR_STATUS_AUTONOMOUS false else s

/-- HELM_AUTONOMOUS: a helm controller has gone 30 µs without an accepted command; it holds its set-points (R345). -/
def execHelmAutonomous (helm : Fin 4) (s : State) : Host.Outcome State Fault Refusal :=
  .next (if s.now < s.pwr.lastCmd[helm] + 30 * us then s else s.setBit .PWR_STATUS_AUTONOMOUS true)

/-- A sample of a die's power, W: kept for the phase learner's means over 200 µs and the means over steps (R462). -/
def State.diePower (s : State) (d : Fin 8) (w : Rat) : State :=
  let keep := (s.cap.hist[d]).takeWhile (fun e => decide (s.now ≤ e.1 + 1500 * us))
  let a := s.cap.stepAcc[d]
  { s with cap := { s.cap with
    hist := s.cap.hist.set d ((s.now, w) :: keep), stepAcc := s.cap.stepAcc.set d (a.1 + w, a.2 + 1) } }

/-- HELM_TELEMETRY: output voltage, phase currents in 0.1 A and stage temperatures reach the control engine (R346);
output power adds up for the means of R460 and R462, and BWC's is its node-side power (DEDUCED from R395, R400; log entry 41). -/
def execHelmTelemetry (rail : Fin 50) (mv : BitVec 16) (amps : List Int) (temps : List Nat) (s : State) :
    Host.Outcome State Fault Refusal :=
  .next <|
    if s.inReset 3 then s
    else
      let s := (s.set .PWR_RAIL_VOUT_MV mv.toNat rail).set .PWR_RAIL_IOUT_A_X10 (enc 16 ((amps.take (railFig rail 0)).sum)) rail
      let total := (amps.take (railFig rail 0)).sum
      let p : Int := mv.toNat * total
      let acc := s.pwr.pAcc[rail]
      let s : State := { s with pwr := { s.pwr with pAcc := s.pwr.pAcc.set rail (acc.1 + p, acc.2 + 1) } }
      let s := if rail = 49 then s.set .BWR_BWC_MEAS_W (enc 16 (p / 10000)) else s
      let s := if 2 ≤ rail.val ∧ rail.val < 10 then s.diePower (Fin.ofNat 8 (rail.val - 2)) ((p : Rat) / 10000) else s
      (railPhases rail).foldl (fun s k =>
        let s := match amps[k]? with
          | some a => s.set .PWR_RAIL_PH_INFO_A_X10 (enc 12 a) rail k
          | none => s
        match temps[k]? with
        | some t => s.set .PWR_RAIL_PH_INFO_TEMP (min t 255) rail k
        | none => s) s

/-! ### Boot rails and the input stage (R347 to R351) -/

/-- BOOT_SEQUENCER: VAUX starts once precharge is done, VPLA and VPLB once VAUX is in regulation (R347). -/
def execBootSequencer (s : State) : Host.Outcome State Fault Refusal :=
  .next <|
    let on := fun (s : State) (r : Fin 50) (mv : Nat) =>
      if (s.rail r).latched then s else s.modRail r (fun x => { x with en := true, target := mv })
    if !s.bit .PWR_IN_STATUS_PRE_DONE then s
    else
      let s := on s 46 3300
      if s.bit .PWR_RAIL_STATUS_IN_REG 46 then on (on s 47 900) 48 900 else s

/-- PRECHARGE_DONE: the node is within 2 V of J1 (R348). -/
def execPrechargeDone (s : State) : Host.Outcome State Fault Refusal :=
  .next (if s.pins.limiter then s.setBit .PWR_IN_STATUS_PRE_DONE true else s)

/-- PRECHARGE_TIMEOUT: not done in 50 ms; the limiter turns off (R348). -/
def execPrechargeTimeout (s : State) : Host.Outcome State Fault Refusal :=
  .next (if s.bit .PWR_IN_STATUS_PRE_DONE then s else { s with pins := { s.pins with limiter := false } })

/-- PRECHARGE_RETRY: after 1 s off the limiter restarts and the retry is counted; event 0x1304 once SUP is ready (R348, R368). -/
def execPrechargeRetry (s : State) : Host.Outcome State Fault Refusal :=
  .next <|
    if s.pins.limiter || s.pins.presentN || s.hpl.limiterOff || s.bit .PWR_IN_PROT_STATUS_OV || s.bit .PWR_IN_STATUS_PRE_DONE then s
    else
      let s : State := { s with pins := { s.pins with limiter := true } }
      let s := s.tally .PWR_IN_STATUS_PRE_RETRY
      if s.ready rSUP then s.raise 0x1304 else { s with pwr := { s.pwr with retriesHeld := s.pwr.retriesHeld + 1 } }

/-- The conditions under which the active pilot closes the hot-swap FET (R349, R382). -/
def State.hotSwapMay (s : State) : Bool :=
  s.activePilot.isSome && s.bit .PWR_IN_STATUS_PRE_DONE && s.ready rFWV && s.pins.pwrEn &&
    decide (s.get .PWR_IN_STATUS_TRIPS < 3) && !s.bit .PWR_IN_PROT_STATUS_UV && !s.bit .PWR_IN_PROT_STATUS_OV &&
    decide (s.get .HPL_STATE_STATE ≤ 3)

/-- HOT_SWAP_CLOSE, with the level of PWR_EN (R49, R349). -/
def execHotSwapClose (pwrEn : Bool) (s : State) : Host.Outcome State Fault Refusal :=
  .next <|
    let s : State := { s with pins := { s.pins with pwrEn := pwrEn } }
    if s.hotSwapMay then (s.setBit .PWR_IN_STATUS_HS_ON true).tapIsolate else s

/-- HOT_SWAP_TRIP: the FET opens on overcurrent, 2 ms of regulation or 1.5 J; AO counts it; event 0x1303; surprise removal from
the step that stops the dies (R349, Table 20-2). -/
def execHotSwapTrip (s : State) : Host.Outcome State Fault Refusal :=
  .next <|
    if !s.bit .PWR_IN_STATUS_HS_ON then s
    else ((s.hotSwapOpen.tally .PWR_IN_STATUS_TRIPS).raise 0x1303).surprise 2

/-- IDEAL_DIODE_BLOCK: the node rises 20 mV above J1 (R350). -/
def execIdealDiodeBlock (s : State) : Host.Outcome State Fault Refusal := .next (s.setBit .PWR_IN_STATUS_ID_BLOCK true)

/-- INPUT_MEASURE: the 2 µs sample of both voltages and the current; every 500 of them give the 1 ms average; energy adds up in
whole J (R351). The diode conducts again once J1 is above the node, and the FET regulates while it carries 130 A (DEDUCED from R349, R350;
log entry 66). -/
def execInputMeasure (j1Mv nodeMv aX100 : BitVec 16) (s : State) : Host.Outcome State Fault Refusal :=
  .next <|
    let s := ((s.set .PWR_IN_V_J1_MV j1Mv.toNat).set .PWR_IN_V_NODE_MV nodeMv.toNat).set .PWR_IN_I_A_X100 aX100.toNat
    let s := if nodeMv.toNat < j1Mv.toNat then s.setBit .PWR_IN_STATUS_ID_BLOCK false else s
    let s := s.setBit .PWR_IN_STATUS_HS_LIMIT (s.bit .PWR_IN_STATUS_HS_ON && decide (13000 ≤ aX100.toNat))
    let p := nodeMv.toNat * aX100.toNat
    let sum := s.pwr.pSum + p
    let n := s.pwr.pCount + 1
    let rest := s.pwr.jRest + p
    let joule := 50000000000
    let s := s.set .PWR_IN_ENERGY_J (min (s.get .PWR_IN_ENERGY_J + rest / joule) (2 ^ 64 - 1))
    let s := if n = 500 then s.set .PWR_IN_P_W (min (sum / (500 * 100000)) 65535) else s
    { s with pwr := { s.pwr with pSum := if n = 500 then 0 else sum, pCount := if n = 500 then 0 else n, jRest := rest % joule } }

/-! ### Regulation (R342, R352 to R354, R373) -/

/-- The factor f of the foldback at an output and a set-point in force, mV (R373). -/
def foldback (vout : Nat) (vset : Rat) : Rat :=
  if vset ≤ 0 then 1
  else
    let x := (vout : Rat) / vset
    if x < 1 / 2 then 3 / 10 + 14 / 10 * x else 1

/-- The per-cycle limit I_lim of a rail, A (R373). -/
def State.railLimit (s : State) (r : Fin 50) : Rat :=
  let peak : Rat := railFig r 4
  if railFig r 5 = 0 then foldback (s.get .PWR_RAIL_VOUT_MV r) (s.rail r).vset * peak else peak

/-- FOLDBACK of a class F rail (R373). -/
def State.railFolded (s : State) (r : Fin 50) : Bool :=
  railFig r 5 == 0 && s.bit .PWR_RAIL_STATUS_ON r && decide ((s.rail r).limitedAgo < 16) &&
    decide (2 * (s.get .PWR_RAIL_VOUT_MV r : Rat) < (s.rail r).vset)

/-- The command in force on a rail after a boundary: a waiting one takes effect, unless a latch ignores it (R344, R347, R372). -/
def State.railBoundary (s : State) (r : Fin 50) : State :=
  let x := s.rail r
  let s := if r = 0 ∧ x.links = 3 then s.count .PWR_CNT_CTRL_FREEZE .PWR_CMD_OVERLAP_COUNT 1 else s
  let x := { x with links := 0 }
  let x := match x.waiting with
    | some c =>
      if x.latched then { x with waiting := none }
      else
        let t : Int := if r = 49 then max (-4000) (min 4000 (dec 16 c.set)) else c.set
        { x with waiting := none, en := if isBoot r then x.en else c.en, hold := c.hold, target := t }
    | none => x
  let x := if x.hold && !s.railProtects r then { x with shed := [], rampOff := none } else x
  let s := s.setRail r x
  if !x.en && s.bit .PWR_RAIL_STATUS_ON r then s.railOff r else s

/-- BWC's limit on the pack side, W: 30 A in each phase that runs, at the stack's voltage (R37, R395). -/
def State.bwcPackW (s : State) : Rat := 30 * ((s.runPhases 49).length : Rat) * (s.get .CEL_STACK_MV : Rat) / 1000

/-- BWC's power in force: the lines of R448 and R498 override the command, and the pack side's limit holds it, with R395's nominal
efficiency of 97% between pack and node (DEDUCED, log entry 66). -/
def State.bwcInForce (s : State) (t : Int) : Rat :=
  let t := if s.bit .CEL_STATUS_COMP_OV then max t 0 else t
  let t := if s.bit .CEL_STATUS_COMP_UV then min t 0 else t
  let top := s.bwcPackW
  if s.hma.bwcZero then 0 else max (-(top / (97 / 100))) (min (top * (97 / 100)) (t : Rat))

/-- One period of the set-point in force: the ramp of R354, or the soft-start reference of R361. -/
def State.railSetPoint (s : State) (r : Fin 50) : State :=
  let x := s.rail r
  let t := s.railPeriod r
  let goal : Rat := x.target
  let x :=
    if r = 49 then { x with vset := s.bwcInForce x.target }
    else if s.bit .PWR_RAIL_STATUS_SOFT_START r then
      let v := min goal (x.ssRef + x.ssRate * t)
      { x with ssRef := v, vset := v }
    else
      let d := (s.get .PWR_RAIL_CFG1_SLEW r : Rat) * t
      { x with vset := if x.vset < goal then min goal (x.vset + d) else max goal (x.vset - d) }
  let past := ((s.now, x.vset) :: x.vsetPast)
  let keep := past.takeWhile (fun e => decide (s.now ≤ e.1 + 20 * us))
  let older := (past.dropWhile (fun e => decide (s.now ≤ e.1 + 20 * us))).take 1
  s.setRail r { x with vsetPast := keep ++ older }

/-- One period of the voltage loop of R353, mV and A. -/
def State.railLoop (s : State) (r : Fin 50) (mv : Nat) : State :=
  let x := s.rail r
  let e : Rat := (x.vset - (mv : Rat)) / 1000
  let peak : Rat := railFig r 4
  let floor : Rat := if s.railDE r then 0 else -peak
  let ic := x.ic + s.param (100 + r.val) 0 * (e - x.ePrev) + s.param (100 + r.val) 1 * e
  s.setRail r { x with ic := max floor (min peak ic), ePrev := e }

/-- The slot of phase `k` of a rail as a fraction of the switching period, from its position in its group (R364). -/
def railSpot (r : Nat) : Nat := ((List.range r).filter (fun i => railFig i 2 == railFig r 2)).length
def State.phaseSlot (s : State) (r : Fin 50) (k : Nat) : Rat :=
  let n := railFig r 0
  (((s.rail r).phaseNow + (128 * k + n) / (2 * n) + 4 * railSpot r) % 64 : Nat) / 64

/-- A rail's slots move toward `PWR_GROUPg.PHASE` by at most 1/64 of a period in a period, the shorter way round (R364). -/
def State.slotStep (s : State) (r : Fin 50) : State :=
  s.modRail r (fun x =>
    let ahead := (s.get .PWR_GROUP_PHASE 0 (railFig r 2) + 64 - x.phaseNow) % 64
    { x with phaseNow := if ahead = 0 then x.phaseNow else if ahead ≤ 32 then (x.phaseNow + 1) % 64 else (x.phaseNow + 63) % 64 })

/-- The rail that feeds a rail (R340), none for the input node, and its input voltage, mV. -/
def railFeed (r : Nat) : Option Nat :=
  if r < 2 ∨ r = 46 ∨ r = 49 then none
  else if r = 47 ∨ r = 48 then some 46
  else if railHelm r < 2 then some 0 else some 1
def State.railVin (s : State) (r : Nat) : Nat :=
  match railFeed r with
  | none => s.get .PWR_IN_V_NODE_MV
  | some f => s.get .PWR_RAIL_VOUT_MV f

/-- The compensation slope m_a of a rail, A/µs: SLOPE ÷ 32 × V_set ÷ L (R352). -/
def State.railSlope (s : State) (r : Fin 50) : Rat :=
  (s.get .PWR_RAIL_CFG1_SLOPE r : Rat) / 32 * (s.rail r).vset / (s.get .PWR_RAIL_CFG1_L_NH r : Rat)

/-- The moment, µs after turn-on, at which a value that starts at `v` and rises by `slope` in a µs reaches `goal`, if it does by
`bound`. -/
def reaches (goal v slope bound : Rat) : Option Rat :=
  if goal ≤ v then some 0
  else if slope ≤ 0 then none
  else if (goal - v) / slope ≤ bound then some ((goal - v) / slope) else none

/-- The command of a phase: that of the voltage loop with the phase's trim; of a phase that is shed, a part that falls to zero over 16
periods (R352, R356). -/
def State.phaseCommand (s : State) (r : Fin 50) (k : Nat) : Rat :=
  let x := s.rail r
  let c := x.ic + ((x.trim.find? (fun e => e.1 == k)).map (·.2)).getD 0
  match x.rampOff with
  | some (j, n) => if j = k then c * (n : Rat) / 16 else c
  | none => c

/-- One on-time of a phase, µs, and whether its current reached the limit: it turns off when sensed current and compensation reach the
command, when the current reaches I_lim, or at 0.85 of the period, after no less than 20 ns; the first period of a soft start has
the duty V_0 ÷ V_in (R352, R361, R373). -/
def State.phaseOn (s : State) (r : Fin 50) (k : Nat) (p : PhaseSense) : Rat × Bool :=
  let t := s.railPeriod r
  let v : Rat := (p.valley : Rat) / 10
  let up : Rat := (p.rise : Rat) / 10
  let most := 85 / 100 * t
  let own :=
    if r = 49 then (p.onNs : Rat) / 1000
    else match (s.rail r).first with
      | some v0 => (v0 : Rat) / (s.railVin r : Rat) * t
      | none => ((reaches (s.phaseCommand r k) v (up + s.railSlope r) most).getD most)
  let base := max (1 / 50) (min own most)
  match reaches (s.railLimit r) v up base with
  | some at' => (max (1 / 50) at', true)
  | none => (base, false)

/-- SWITCHING_PERIOD: the boundary applies a waiting command; a switching rail moves its set-point in force, runs its voltage
loop, turns each phase on at its slot and off again, ends a shed's ramp and counts a limited period (R344, R352 to R354, R356, R361,
R364, R373, R375). `phases` is what phase 0, 1, … senses. -/
def execSwitchingPeriod (rail : Fin 50) (mv : BitVec 16) (phases : List PhaseSense) (s : State) :
    Host.Outcome State Fault Refusal :=
  .next <|
    let s := (s.railBoundary rail).slotStep rail
    if !s.bit .PWR_RAIL_STATUS_ON rail then s
    else if (s.rail rail).decaying && decide ((mv.toNat : Int) > (s.rail rail).target) then s
    else
      let s := s.modRail rail (fun x => { x with decaying := false, half := x.half || decide (x.target ≤ 2 * (mv.toNat : Int)) })
      let s := (s.set .PWR_RAIL_VOUT_MV mv.toNat rail).railSetPoint rail
      let s := if rail = 49 then s else s.railLoop rail mv.toNat
      let on := ((s.runPhases rail).filter (fun k => !(s.rail rail).braking.contains k)).map (fun k =>
        (k, s.phaseOn rail k ((phases[k]?).getD ⟨0, 0, 0⟩)))
      let hit := on.any (fun e => e.2.2)
      let s := s.modRail rail (fun x => { x with onTime := on.map (fun e => (e.1, e.2.1)), first := none })
      let s := match (s.rail rail).rampOff with
        | some (k, n) =>
          if n ≤ 1 then
            (s.modRail rail (fun x => { x with rampOff := none, shed := k :: x.shed })).count .PWR_RAIL_CNT_CTRL_FREEZE
              .PWR_RAIL_SHED_COUNT 1 rail
          else s.modRail rail (fun x => { x with rampOff := some (k, n - 1) })
        | none => s
      let step : Rat := 1 - (s.get .PWR_RAIL_CFG2_STEP rail : Rat) / 200
      let s := s.modRail rail (fun x =>
        { x with
          stepped := x.stepped && decide ((mv.toNat : Rat) < step * x.vset)
          limited := if hit then x.limited + 1 else 0
          limitedAgo := if hit then 0 else min 16 (x.limitedAgo + 1) })
      if hit then s.count .PWR_RAIL_PROT_CNT_CTRL_FREEZE .PWR_RAIL_LIMITED_COUNT 1 rail else s

/-- The regulation bit of `MOD_READY` of a rail's group (Table 3-7). -/
def railReady (r : Nat) : Option Nat :=
  if r < 2 then some rIB else if r < 10 then some rCORE else if r < 42 then some rQUAYR else if r < 46 then some rNETR
  else if r < 49 then some rBOOT else none

/-- RAIL_REGULATION_ENTER (R342). -/
def execRailRegulationEnter (rail : Fin 50) (s : State) : Host.Outcome State Fault Refusal :=
  .next <|
    if s.bit .PWR_RAIL_STATUS_ON rail && !s.bit .PWR_RAIL_STATUS_IN_REG rail then
      (s.setBit .PWR_RAIL_STATUS_IN_REG true rail).modRail rail (fun x => { x with regSince := some s.now })
    else s

/-- What hangs on a rail that leaves regulation: its die or quay returns to reset hold, its port drops link (R23, R374). -/
def State.railLost (s : State) (r : Nat) : State :=
  if r < 2 then s
  else if r < 10 then (s.holdDomain (8 + (r - 2))).fabricLost (r - 2)
  else if r < 42 then
    let s := s.holdDomain (16 + (r - 10) % 8)
    if r < 18 then s.fabricLost (8 + (r - 10)) else s
  else if r < 46 then
    let s := if r < 44 then s.fabricLost (16 + (r - 42)) else s
    let p : Fin 2 := Fin.ofNat 2 r
    (List.range 8).foldl (fun s k => s.subDown p k) s
  else s

/-- RAIL_REGULATION_LEAVE (R342, R23, R374). -/
def execRailRegulationLeave (rail : Fin 50) (s : State) : Host.Outcome State Fault Refusal :=
  .next <|
    if !s.bit .PWR_RAIL_STATUS_IN_REG rail then s
    else
      let s := (s.setBit .PWR_RAIL_STATUS_IN_REG false rail).modRail rail (fun x => { x with regSince := none })
      let s := match railReady rail with
        | some b => s.setReady b false
        | none => s
      s.railLost rail

/-! ### Phase balance, shedding and load steps (R355 to R358) -/

/-- PHASE_BALANCE: the trims of the active phases move toward their temperature-weighted shares; currents in 0.1 A are the means of
16 periods (R355). -/
def execPhaseBalance (rail : Fin 50) (meansX10 : List Int) (s : State) : Host.Outcome State Fault Refusal :=
  .next <|
    let ks := s.runPhases rail
    if ks.isEmpty || s.railStopped rail then s
    else
      let temp := fun (k : Nat) => (s.get .PWR_RAIL_PH_INFO_TEMP rail k : Rat)
      let mean := fun (k : Nat) => (((meansX10[k]?).getD 0 : Int) : Rat) / 10
      let avg := (ks.map temp).sum / (ks.length : Rat)
      let kt : Rat := (s.get .PWR_RAIL_BAL_KT rail : Rat) / 1000
      let w := fun (k : Nat) => max (-3 / 20) (min (3 / 20) (kt * (temp k - avg)))
      let total := (ks.map mean).sum
      let norm := (ks.map (fun k => 1 - w k)).sum
      let share := fun (k : Nat) => total * (1 - w k) / norm
      let lim := railRated rail / 4
      let kb := s.param (100 + rail.val) 2
      let old := fun (k : Nat) => (((s.rail rail).trim.find? (fun e => e.1 == k)).map (·.2)).getD 0
      let trim := ks.map (fun k => (k, max (-lim) (min lim (old k + kb * (share k - mean k)))))
      let s := s.modRail rail (fun x => { x with trim := trim })
      ks.foldl (fun s k => s.set .PWR_RAIL_PH_INFO_SHARE (enc 9 (-(w k) * 1000).floor) rail k) s

/-- PHASE_SHED: the hottest active phase starts to ramp off (R356). -/
def execPhaseShed (rail : Fin 50) (s : State) : Host.Outcome State Fault Refusal :=
  .next <|
    let ks := s.runPhases rail
    let x := s.rail rail
    let light := decide (s.railAmps rail / (ks.length : Rat) < (s.get .PWR_RAIL_CFG2_SHED_LO rail : Rat) / 100 * railRated rail)
    if s.bit .PWR_RAIL_CTRL_SHED_EN rail && decide (railFig rail 1 < ks.length) && light && !x.hold && x.rampOff.isNone &&
        x.braking.isEmpty && !s.railRamp rail && !s.bit .PWR_RAIL_STATUS_SOFT_START rail && !s.railProtects rail then
      let hot := ks.foldl (fun a k => if s.get .PWR_RAIL_PH_INFO_TEMP rail k > s.get .PWR_RAIL_PH_INFO_TEMP rail a then k else a)
        (ks.headD 0)
      s.setRail rail { x with rampOff := some (hot, 16) }
    else s

/-- PHASE_ADD: the most recently shed phase runs again (R356). -/
def execPhaseAdd (rail : Fin 50) (s : State) : Host.Outcome State Fault Refusal :=
  .next <|
    let ks := s.runPhases rail
    let heavy := decide (s.railAmps rail / (ks.length : Rat) > (s.get .PWR_RAIL_CFG2_ADD_HI rail : Rat) / 100 * railRated rail)
    if heavy && !ks.isEmpty && !s.railStopped rail then s.modRail rail (fun x => { x with shed := x.shed.drop 1 }) else s

/-- Every share of a rail is equal, and no phase is trimmed (R357; log entry 66). -/
def State.equalShares (s : State) (r : Fin 50) : State :=
  (railPhases r).foldl (fun s k => s.set .PWR_RAIL_PH_INFO_SHARE 0 r k) (s.modRail r (fun x => { x with trim := [] }))

/-- LOAD_STEP: the output is STEP × 0.5% below the set-point in force; every shed phase runs, a shed in progress aborts
(R357). -/
def execLoadStep (rail : Fin 50) (mv : BitVec 16) (s : State) : Host.Outcome State Fault Refusal :=
  .next <|
    let x := s.rail rail
    let low : Rat := (1 - (s.get .PWR_RAIL_CFG2_STEP rail : Rat) / 200) * x.vset
    if s.bit .PWR_RAIL_STATUS_ON rail && decide ((mv.toNat : Rat) < low) && !s.railStopped rail then
      let s := if x.rampOff.isSome then s.count .PWR_RAIL_CNT_CTRL_FREEZE .PWR_RAIL_SHED_ABORT_COUNT 1 rail else s
      (s.setRail rail { x with shed := [], rampOff := none, stepped := true }).equalShares rail
    else s

/-! ### Braking (R359) -/

/-- BRAKE_START: the output is BRAKE × 0.5% above the set-point in force; every switch turns off. -/
def execBrakeStart (rail : Fin 50) (mv : BitVec 16) (s : State) : Host.Outcome State Fault Refusal :=
  .next <|
    let x := s.rail rail
    let high : Rat := (1 + (s.get .PWR_RAIL_CFG2_BRAKE rail : Rat) / 200) * x.vset
    if rail ≠ 49 && s.bit .PWR_RAIL_CTRL_BRAKE_EN rail && s.bit .PWR_RAIL_STATUS_ON rail && decide (high < (mv.toNat : Rat)) &&
        !s.bit .PWR_RAIL_STATUS_SOFT_START rail && x.braking.isEmpty && !s.railProtects rail then
      (s.setRail rail { x with braking := s.runPhases rail }).count .PWR_RAIL_CNT_CTRL_FREEZE .PWR_RAIL_BRAKE_COUNT 1 rail
    else s

/-- BRAKE_END: a phase resumes, its current at zero or the output below 1.01 of the set-point. -/
def execBrakeEnd (rail : Fin 50) (phase : Fin 16) (s : State) : Host.Outcome State Fault Refusal :=
  .next (s.modRail rail (fun x => { x with braking := x.braking.filter (· != phase.val) }))

/-! ### Start (R361, R347) -/

/-- A rail may start: enabled, off, in no state that stops it, and checked where HS_CHECK asks it (R361, R372, R381). -/
def State.railMayStart (s : State) (r : Fin 50) : Bool :=
  (s.rail r).en && !s.bit .PWR_RAIL_STATUS_ON r && !s.railStopped r &&
    (!s.bit .PWR_RAIL_PROT_CFG_HS_CHECK r || isBoot r || (s.rail r).checked)

/-- RAIL_START: soft start from the measured output, or a wait for it to decay (R361). -/
def execRailStart (rail : Fin 50) (mv : BitVec 16) (s : State) : Host.Outcome State Fault Refusal :=
  .next <|
    if !s.railMayStart rail then s
    else
      let x := s.rail rail
      let soft := rail ≠ 49 ∧ (mv.toNat : Int) < x.target
      let s := ((s.setBit .PWR_RAIL_STATUS_ON true rail).setBit .PWR_RAIL_STATUS_SOFT_START (decide soft) rail).set
        .PWR_RAIL_VOUT_MV mv.toNat rail
      s.setRail rail
        { x with
          ssRef := mv.toNat, ssRate := (x.target : Rat) / (100 * (s.get .PWR_RAIL_CFG1_SS_TIME rail : Rat)), ssStart := s.now, vset := if soft then (mv.toNat : Rat) else if rail = 49 then s.bwcInForce x.target else x.target
          first := if soft then some mv.toNat else none
          half := !decide soft || decide (x.target ≤ 2 * (mv.toNat : Int))
          decaying := rail ≠ 49 ∧ ¬ (mv.toNat : Int) < x.target
          vsetPast := [], shed := [], rampOff := none, checked := false, ic := 0, ePrev := 0, limited := 0, limitedAgo := 16 }

/-- SOFT_START_DONE: the reference reaches the set-point (R361). -/
def execSoftStartDone (rail : Fin 50) (s : State) : Host.Outcome State Fault Refusal :=
  .next <|
    if s.bit .PWR_RAIL_STATUS_SOFT_START rail then
      (s.setBit .PWR_RAIL_STATUS_SOFT_START false rail).modRail rail (fun x => { x with vset := x.target, ssRef := x.target })
    else s

/-! ### Synchronisation (R364 to R367) -/

/-- Nominal group frequencies, kHz (Table 13-1). -/
def groupNom (g : Nat) : Nat := if g = 0 ∨ g = 5 then 500 else 800

/-- Every group starts to move from its present frequency. -/
def State.slew (s : State) (goal : Fin 6 → Rat) : State :=
  { s with pwr := { s.pwr with
    slewFrom := Vector.ofFn (fun g : Fin 6 => s.groupKhz g), slewTo := Vector.ofFn goal, slewAt := s.now } }

/-- The groups leave SYNC_IN for the internal timebase (R365, R366). -/
def State.syncLeave (s : State) : State :=
  let s := s.slew (fun g => (groupNom g : Rat))
  let s := (List.range 6).foldl (fun s g => s.set .PWR_GROUP_DIV 0 0 g) s
  s.set .PWR_SYNC_STATUS_STATE 3

/-- SYNC_IN_LOST: two consecutive missing edges; event 0x1301 where SYNC_IN was locked (R365, R366). -/
def execSyncInLost (s : State) : Host.Outcome State Fault Refusal :=
  .next <|
    let st := s.get .PWR_SYNC_STATUS_STATE
    let s := s.setBit .PWR_SYNC_STATUS_PRESENT false
    if st = 2 then s.syncLeave.raise 0x1301
    else if st = 1 then s.syncLeave
    else s

/-- TIMEBASE_SLEW_DONE: 200 µs have passed; a move to the internal timebase ends, one to SYNC_IN goes on to alignment. -/
def execTimebaseSlewDone (s : State) : Host.Outcome State Fault Refusal :=
  .next <|
    let s : State := { s with pwr := { s.pwr with slewFrom := s.pwr.slewTo } }
    if s.get .PWR_SYNC_STATUS_STATE = 3 then s.set .PWR_SYNC_STATUS_STATE 0 else s

/-- SYNC_IN_STABLE: the groups start to move to f_SYNC ÷ N_g (R364, R366). -/
def execSyncInStable (khz : BitVec 16) (s : State) : Host.Outcome State Fault Refusal :=
  .next <|
    let f := khz.toNat
    let s := (s.setBit .PWR_SYNC_STATUS_PRESENT true).set .PWR_SYNC_STATUS_FREQ_KHZ f
    if s.bit .PWR_SYNC_CFG_ENABLE && s.get .PWR_SYNC_STATUS_STATE == 0 && decide (3200 ≤ f) && decide (f ≤ 6400) then
      let div := fun (g : Nat) => (2 * f + groupNom g) / (2 * groupNom g)
      let s := (List.range 6).foldl (fun s g => s.set .PWR_GROUP_DIV (div g) 0 g) s
      (s.slew (fun g => (f : Rat) / (div g : Rat))).set .PWR_SYNC_STATUS_STATE 1
    else s

/-- SYNC_LOCKED: every group is aligned (R366). -/
def execSyncLocked (s : State) : Host.Outcome State Fault Refusal :=
  .next <|
    if s.get .PWR_SYNC_STATUS_STATE = 1 then
      ({ s with pwr := { s.pwr with slewFrom := s.pwr.slewTo } } : State).set .PWR_SYNC_STATUS_STATE 2 |>.raise 0x1302
    else s

/-- A write of 0 to `PWR_SYNC_CFG.ENABLE` keeps the internal timebase (Table 13-7). -/
def State.syncDisable (s : State) : State :=
  if s.get .PWR_SYNC_STATUS_STATE = 1 ∨ s.get .PWR_SYNC_STATUS_STATE = 2 then s.syncLeave else s

/-! ### Counters -/

def State.pwrRailClear (s : State) (r : Fin 50) : State :=
  s.clearCnt [.PWR_RAIL_SHED_COUNT, .PWR_RAIL_SHED_ABORT_COUNT, .PWR_RAIL_BRAKE_COUNT] r
def State.pwrClear (s : State) : State := s.clearCnt [.PWR_CMD_ERR_CRC, .PWR_CMD_ERR_REPEAT, .PWR_CMD_OVERLAP_COUNT] 0

end Sys2Proof.Machine
end

