-- ==== Sys2Proof/Machine/RailProt.lean ====
section
/-! DEFINITION. Rail protection, input undervoltage and overvoltage, and the storing of fault records (chapter 14). -/

namespace Sys2Proof.Machine

/-! ### Rail fault records (R384, R387, Tables 14-2 to 14-4) -/

/-- STATE of a rail record (Table 14-3). -/
def State.railMode (s : State) (r : Fin 50) : Nat :=
  if s.bit .PWR_RAIL_STATUS_SOFT_START r then 1
  else if s.railRamp r then 2
  else if (s.rail r).rampOff.isSome then 3
  else if !(s.rail r).braking.isEmpty then 4
  else if s.railDE r then 5 else 0

/-- Bytes 0x13 to 0x37 of a rail record (Table 14-3). -/
def State.railBody (s : State) (r : Fin 50) (cause phase : Nat) : List Nat :=
  let mask := (s.runPhases r).foldl (fun a k => a + 2 ^ k) 0
  let hot := (railPhases r).foldl (fun a k => max a (s.get .PWR_RAIL_PH_INFO_TEMP r k)) 0
  [cause, 0, s.get .PWR_RAIL_PROT_STATUS_RETRIES r, s.railMode r, phase] ++ toLe (natOf (s.rail r).vset) 2 ++
    toLe (s.get .PWR_RAIL_VOUT_MV r) 2 ++ toLe (s.railVin r) 2 ++ toLe (s.get .PWR_RAIL_IOUT_A_X10 r) 2 ++ toLe mask 2 ++
    [hot, 0] ++ toLe (s.rail r).limited 2

/-- The record number of a rail. -/
def recOf (r : Fin 50) : Fin 51 := Fin.castLE (by decide) r

/-- Queue the record of a cause. -/
def State.railRec (s : State) (r : Fin 50) (cause phase : Nat) (latched : Bool) : State :=
  s.queueRec (recOf r) (s.recBytes r 0 latched false (s.railBody r cause phase))

/-- The newest record of a writer: what it is writing, else the newest slot of the active pilot's flash. -/
def State.recNewest (s : State) (rec : Fin 51) : Option (List Nat) :=
  let x := s.pwr.recs[rec]
  match x.next, x.writing with
  | some b, _ => some b
  | none, some b => some b
  | none, none => (x.slots[s.act]).head?

/-- A further protection event of a latched rail: its cause becomes SECONDARY of the latch record, rewritten once (R384). -/
def State.railSecond (s : State) (r : Fin 50) (cause : Nat) : State :=
  let x := s.pwr.recs[recOf r]
  if x.secondary then s
  else match s.recNewest (recOf r) with
    | none => s
    | some b =>
      let b := putAt b 0x14 [cause]
      let b := putAt b 0x12 [Nat.lor (nth b 0x12) 4]
      let s : State := { s with pwr := { s.pwr with recs := s.pwr.recs.set (recOf r) { x with secondary := true } } }
      s.queueRec (recOf r) b

/-- The bytes of the current record, as the register windows show them (R386, R389): none as delivered. -/
def State.recWord (s : State) (rec : Fin 51) (i : Nat) : Nat :=
  match (s.pwr.recs[rec].slots[s.act]).head? with
  | some b => leAt b (4 * i) 4
  | none =>
    (if rec.val < 50 then Config.flash .PWR_RAIL_REC_BYTES rec i else Config.flash .PWR_MOD_REC_BYTES 0 i) % 2 ^ 32

/-- FAULT_RECORD_STORED: the record in writing is in the flash of the active pilot and, from the state copy, of the standby
(R384, R386); one that cannot be stored records 0x140B. -/
def execFaultRecordStored (rec : Fin 51) (ok : Bool) (s : State) : Host.Outcome State Fault Refusal :=
  .next <|
    let x := s.pwr.recs[rec]
    match x.writing with
    | none => s
    | some b =>
      let both := (s.pilot (otherPilot s.act)).role = .standby
      let sealed := sealRec b ((x.seq + 1) % 2 ^ 32)
      let add := fun (l : List (List Nat)) => sealed :: l.take 1
      let slots := x.slots.set s.act (add x.slots[s.act])
      let slots := if both then slots.set (otherPilot s.act) (add slots[otherPilot s.act]) else slots
      let x := if ok then { x with seq := (x.seq + 1) % 2 ^ 32, slots := slots } else x
      let s : State := { s with pwr := { s.pwr with recs := s.pwr.recs.set rec { x with writing := x.next, next := none } } }
      if ok then
        let s := s.snoop 6 sealed true
        if rec = 50 ∧ s.get .HPL_STATE_STATE = 5 then { s with hpl := { s.hpl with recorded := true } } else s
      else s.raise 0x140B (if rec.val < 50 then rec else 0xFF)

/-- `PWR_REC_CTRL.CLEAR` with its key: every record of both flashes is erased (R386). -/
def State.recClear (s : State) (key : Nat) : State :=
  if key = 0x5EC0 then
    { s with pwr := { s.pwr with recs := s.pwr.recs.map (fun x : RecSt => { x with seq := 0, slots := Vector.replicate 2 [] }) } }
  else s

/-- A read of record word 0 latches words 1 to 15 for its source (R389). -/
def State.recLatchTake (s : State) (src : Source) (rec : Fin 51) : State :=
  let words := (List.range 15).map (fun i => s.recWord rec (i + 1))
  { s with pwr := { s.pwr with
    recLatch := (src, rec.val, s.now, words) :: s.pwr.recLatch.filter (fun e => !(e.1 == src && e.2.1 == rec.val)) } }

/-- The latch ends, at the read of word 15 or after 1 ms (R389). -/
def State.recLatchDrop (s : State) (src : Source) (rec : Nat) : State :=
  { s with pwr := { s.pwr with recLatch := s.pwr.recLatch.filter (fun e => !(e.1 == src && e.2.1 == rec)) } }

/-- RECORD_READ_LATCH_EXPIRY (R389). -/
def execRecordReadLatchExpiry (src : Source) (rec : Fin 51) (s : State) : Host.Outcome State Fault Refusal :=
  .next (s.recLatchDrop src rec)

/-- A record word as a source reads it: the latched one while a latch holds. -/
def State.recRead (s : State) (src : Source) (rec : Fin 51) (i : Nat) : Nat :=
  match s.pwr.recLatch.find? (fun e => e.1 == src && e.2.1 == rec.val) with
  | some e => if i = 0 then s.recWord rec 0 else nth e.2.2.2 (i - 1)
  | none => s.recWord rec i

/-! ### Trips and latches (R372, R375 to R379) -/

/-- Latch a rail with a cause: off, its record written, its EN taken back by the active pilot; a latched one only records the
cause (R379, R384). -/
def State.latchRail (s : State) (r : Fin 50) (cause phase code : Nat) : State :=
  if (s.rail r).latch.isSome then (s.set .PWR_RAIL_PROT_STATUS_CAUSE cause r).railSecond r cause
  else
    let s : State := { s with pwr := { s.pwr with
      recs := s.pwr.recs.set (recOf r) { s.pwr.recs[recOf r] with secondary := false } } }
    let s := (s.railRec r cause phase true).railOff r
    let s := s.modRail r (fun x => { x with latch := some cause, waiting := none })
    let s := (s.set .PWR_RAIL_PROT_STATUS_CAUSE cause r).setBit .PWR_RAIL_PROT_STATUS_HICCUP_OFF false r
    let s := s.count .PWR_RAIL_PROT_CNT_CTRL_FREEZE .PWR_RAIL_LATCHES_COUNT 1 r
    (s.setWanted r { s.wanted r with en := false }).raise code r

/-- A trip: off for OFF_MS, or latched at the retry limit (R375). `thermal`: a stop of every phase by its stages (R377). -/
def State.tripRail (s : State) (r : Fin 50) (thermal : Bool) : State :=
  let n := s.get .PWR_RAIL_PROT_STATUS_RETRIES r
  let s := s.count .PWR_RAIL_PROT_CNT_CTRL_FREEZE .PWR_RAIL_TRIPS_COUNT 1 r
  if n ≥ s.get .PWR_RAIL_PROT_CFG_RETRY_MAX r then s.latchRail r 2 0xFF 0x1407
  else
    let s := if n = 0 && !thermal then s.railRec r 1 0xFF false else s
    let s := s.railOff r
    let s := if thermal then s.modRail r (fun x => { x with thermalOff := true })
      else (s.setBit .PWR_RAIL_PROT_STATUS_HICCUP_OFF true r).set .PWR_RAIL_PROT_STATUS_CAUSE 1 r
    if railFig r 5 = 1 then s.raise 0x1405 r else s

/-- CLASS_H_TRIP: N_LIMIT consecutive limited periods (R375). -/
def execClassHTrip (rail : Fin 50) (s : State) : Host.Outcome State Fault Refusal :=
  .next <|
    if railFig rail 5 = 1 && s.bit .PWR_RAIL_STATUS_ON rail && decide (s.get .PWR_RAIL_PROT_CFG_N_LIMIT rail ≤ (s.rail rail).limited) then
      s.tripRail rail false
    else s

/-- HICCUP_RETRY: the off time ends; the restart counts as a retry (R375). -/
def execHiccupRetry (rail : Fin 50) (s : State) : Host.Outcome State Fault Refusal :=
  .next <|
    if !s.bit .PWR_RAIL_PROT_STATUS_HICCUP_OFF rail then s
    else
      let s := s.setBit .PWR_RAIL_PROT_STATUS_HICCUP_OFF false rail
      if (s.rail rail).en then s.tally .PWR_RAIL_PROT_STATUS_RETRIES 1 rail else s

/-- RETRY_COUNT_CLEAR: 1 s in regulation without interruption (R375). -/
def execRetryCountClear (rail : Fin 50) (s : State) : Host.Outcome State Fault Refusal :=
  .next (if s.bit .PWR_RAIL_STATUS_IN_REG rail then s.set .PWR_RAIL_PROT_STATUS_RETRIES 0 rail else s)

/-- SOFT_START_LATCH: a class F rail that has not reached 50% of its set-point 2 × SS_TIME after the start of its soft start, be the
reference there or not (R376). -/
def execSoftStartLatch (rail : Fin 50) (mv : BitVec 16) (s : State) : Host.Outcome State Fault Refusal :=
  .next <|
    if railFig rail 5 = 0 && s.bit .PWR_RAIL_STATUS_ON rail && !(s.rail rail).half && decide (2 * (mv.toNat : Int) < (s.rail rail).target) then
      (s.set .PWR_RAIL_VOUT_MV mv.toNat rail).latchRail rail 3 0xFF 0x1407
    else s

/-- STAGE_THERMAL_STOP: a stage at 150 °C turns its phase off; with fewer than N_MIN left, the rail stops (R377). -/
def execStageThermalStop (rail : Fin 50) (phase : Fin 16) (temp : Nat) (s : State) : Host.Outcome State Fault Refusal :=
  .next <|
    if temp < 150 || decide (railFig rail 0 ≤ phase.val) || (s.rail rail).thermal.contains phase.val then s
    else
      let s := s.modRail rail (fun x =>
        { x with thermal := phase.val :: x.thermal, braking := x.braking.filter (· != phase.val)
                 rampOff := if x.rampOff.map (·.1) = some phase.val then none else x.rampOff })
      let s := s.count .PWR_RAIL_PROT_CNT_CTRL_FREEZE .PWR_RAIL_THERM_STOP_COUNT 1 rail
      if (s.rail rail).latched then (s.railSecond rail 6).raise 0x1406 rail phase.val
      else
        let s := ((s.railRec rail 6 phase false).set .PWR_RAIL_PROT_STATUS_CAUSE 6 rail).raise 0x1406 rail phase.val
        let can := railFig rail 0 - (s.rail rail).thermal.length
        if can < railFig rail 1 && s.bit .PWR_RAIL_STATUS_ON rail then s.tripRail rail true else s

/-- STAGE_REJOIN: a stage at 125 °C or less (R377); once N_MIN phases have cooled, the rail may restart, as a retry. -/
def execStageRejoin (rail : Fin 50) (phase : Fin 16) (temp : Nat) (s : State) : Host.Outcome State Fault Refusal :=
  .next <|
    if 125 < temp || !(s.rail rail).thermal.contains phase.val then s
    else
      let s := s.modRail rail (fun x => { x with thermal := x.thermal.filter (· != phase.val) })
      let can := railFig rail 0 - (s.rail rail).thermal.length
      if (s.rail rail).thermalOff && decide (railFig rail 1 ≤ can) then
        (s.modRail rail (fun x => { x with thermalOff := false })).tally .PWR_RAIL_PROT_STATUS_RETRIES 1 rail
      else s

/-- The overvoltage reference: the higher of the set-points in force now and 20 µs ago (R378). -/
def State.ovRef (s : State) (r : Fin 50) : Rat :=
  let x := s.rail r
  match x.vsetPast.find? (fun e => decide (e.1 + 20 * us ≤ s.now)) with
  | some e => max x.vset e.2
  | none => match x.vsetPast.getLast? with
    | some e => max x.vset e.2
    | none => x.vset

/-- OVERVOLTAGE_LATCH: above 115% of the reference for 1 µs while on (R378). BWC has a command of its own (R398). -/
def execOvervoltageLatch (rail : Fin 50) (mv : BitVec 16) (s : State) : Host.Outcome State Fault Refusal :=
  .next <|
    if rail ≠ 49 && s.bit .PWR_RAIL_STATUS_ON rail && !(s.rail rail).decaying &&
        decide (s.ovRef rail * 115 / 100 < (mv.toNat : Rat)) then
      (s.set .PWR_RAIL_VOUT_MV mv.toNat rail).latchRail rail 4 0xFF 0x140A
    else s

/-- `PWR_RAIL_PROT_CTRL.UNLATCH` (R379): refused, with LOCK_ERR, while EN is 1, with another value, or for a boot rail. -/
def State.railUnlatch (s : State) (r : Fin 50) (key : Nat) : State :=
  if key ≠ 0x1A7C || s.bit .PWR_RAIL_CTRL_EN r || isBoot r then s.setBit .PWR_RAIL_STATUS_LOCK_ERR true r
  else if (s.rail r).latch.isNone then s
  else
    let s := s.modRail r (fun x => { x with latch := none, waiting := none, en := false })
    (s.set .PWR_RAIL_PROT_STATUS_RETRIES 0 r).endLatch 0x14 r

/-! ### Input low and the high-side check (R380, R381) -/

/-- INPUT_LOW_STOP: a rail whose input is below its minimum stops switching; event 0x1408 once (R380). -/
def execInputLowStop (rail : Fin 50) (s : State) : Host.Outcome State Fault Refusal :=
  .next <|
    if s.bit .PWR_RAIL_PROT_STATUS_INPUT_LOW rail then s
    else ((s.railOff rail).setBit .PWR_RAIL_PROT_STATUS_INPUT_LOW true rail).raise 0x1408 rail

/-- INPUT_LOW_RECOVER: back above its minimum for 100 µs, the rail may soft-start (R380). -/
def execInputLowRecover (rail : Fin 50) (s : State) : Host.Outcome State Fault Refusal :=
  .next (s.setBit .PWR_RAIL_PROT_STATUS_INPUT_LOW false rail)

/-- HS_SHORT_CHECK: the check before a soft start; a shorted high side latches the rail (R381). -/
def execHsShortCheck (rail : Fin 50) (shorted : Option (Fin 16)) (s : State) : Host.Outcome State Fault Refusal :=
  .next <|
    if !s.bit .PWR_RAIL_PROT_CFG_HS_CHECK rail || isBoot rail || !(s.rail rail).en || s.bit .PWR_RAIL_STATUS_ON rail ||
        s.railStopped rail then s
    else match shorted with
      | none => s.modRail rail (fun x => { x with checked := true })
      | some k => s.latchRail rail 5 k 0x1409

/-! ### The input (R382, R383) -/

/-- Loss of input: event 0x1404 and the surprise-removal sequence (R383, Table 20-2). -/
def State.inputLost (s : State) : State :=
  if s.bit .PWR_IN_PROT_STATUS_INPUT_LOST then s
  else ((s.setBit .PWR_IN_PROT_STATUS_INPUT_LOST true).raise 0x1404).surprise 3

/-- A surprise-removal sequence runs: the FET and the limiter are off already (R511, R561). -/
def State.inSurprise (s : State) : Bool := decide (5 ≤ s.get .HPL_STATE_STATE)

/-- An input condition becomes active: the FET opens, BWC carries the load, or the input is lost at once without it. One that
arrives during a surprise-removal sequence changes nothing (R561). -/
def State.inputBad (s : State) (flag cnt : Fld) (code : Nat) : State :=
  if s.bit flag || s.inSurprise then s
  else
    let s := (((s.setBit flag true).tally cnt).hotSwapOpen).raise code
    let s := s.setBit .PWR_IN_PROT_STATUS_RIDING true
    let s : State := if s.pwr.uvSince.isNone then { s with pwr := { s.pwr with uvSince := some s.now } } else s
    if s.ready rBWR then s else s.inputLost

/-- An input condition ends; once both have ended the FET may close again, event 0x1403. -/
def State.inputGood (s : State) (flag : Fld) : State :=
  if !s.bit flag then s
  else
    let s := s.setBit flag false
    if s.bit .PWR_IN_PROT_STATUS_UV || s.bit .PWR_IN_PROT_STATUS_OV then s
    else
      let s : State := { s with pwr := { s.pwr with uvSince := none } }
      let s := s.setBit .PWR_IN_PROT_STATUS_RIDING false
      if s.bit .PWR_IN_PROT_STATUS_INPUT_LOST then s else s.raise 0x1403

/-- INPUT_UV_START and INPUT_UV_END (R382). -/
def execInputUvStart (s : State) : Host.Outcome State Fault Refusal :=
  .next (s.inputBad .PWR_IN_PROT_STATUS_UV .PWR_IN_PROT_CNT_UV 0x1401)
def execInputUvEnd (s : State) : Host.Outcome State Fault Refusal := .next (s.inputGood .PWR_IN_PROT_STATUS_UV)

/-- INPUT_OV_START: AO holds the inrush limiter off too (R561). -/
def execInputOvStart (s : State) : Host.Outcome State Fault Refusal :=
  .next <|
    let s := s.inputBad .PWR_IN_PROT_STATUS_OV .PWR_IN_PROT_CNT_OV 0x1402
    { s with pins := { s.pins with limiter := s.pins.limiter && !s.bit .PWR_IN_PROT_STATUS_OV } }

/-- INPUT_OV_END: AO enables the limiter again, unless a removal sequence has turned it off (R561). -/
def execInputOvEnd (s : State) : Host.Outcome State Fault Refusal :=
  .next <|
    let was := s.bit .PWR_IN_PROT_STATUS_OV
    let s := s.inputGood .PWR_IN_PROT_STATUS_OV
    if was && !s.hpl.limiterOff && !s.pins.presentN then { s with pins := { s.pins with limiter := true } } else s

/-- `PWR_RAIL_PROT_CNT_CTRL.CLEAR` (R389). -/
def State.railProtClear (s : State) (r : Fin 50) : State :=
  s.clearCnt [.PWR_RAIL_LIMITED_COUNT, .PWR_RAIL_TRIPS_COUNT, .PWR_RAIL_LATCHES_COUNT, .PWR_RAIL_THERM_STOP_COUNT] r

end Sys2Proof.Machine
end

