-- ==== Sys2Proof/Machine/Breakwater.lean ====
section
/-! DEFINITION. The breakwater outside its loops (chapter 15): pack isolation, BWC overvoltage, the look-ahead of HINT, the
tide table's anchors, its loss, and ballast in waits. -/

namespace Sys2Proof.Machine

/-! ### Measured powers, W (R351, R400) -/

/-- Measured input power: node voltage times input current. -/
def State.pIn (s : State) : Rat := (s.get .PWR_IN_V_NODE_MV * s.get .PWR_IN_I_A_X100 : Nat) / 100000

/-- Measured node-side power of BWC, positive from the pack. -/
def State.pBwc (s : State) : Rat := (dec 16 (s.get .BWR_BWC_MEAS_W) : Rat)

/-- Demand: what the loads draw from the input node. -/
def State.demand (s : State) : Rat := s.pIn + s.pBwc

/-- The effective cap in force, W. -/
def State.capNow (s : State) : Rat := (s.get .CAP_EFF_W : Rat)

/-- A power as the unsigned field of a register, W. -/
def wattsOf (x : Rat) : Nat := min (natOf x) 65535

/-! ### The pack (R391, R393, R394) -/

def State.cells (s : State) : Nat := s.get .BWR_PACK_CELLS

/-- Readings of the pack's cells, 100 µV (R438, R446). -/
def State.cellV (s : State) : List Nat := (List.range s.cells).map (fun k => s.get .CEL_CELL_V 0 k)

/-- E_use of a pack, J: N × 4.8 × C (R391). -/
def State.eUse (s : State) : Rat := (s.cells * s.get .BWR_PACK_CELL_F : Nat) * 48 / 10

/-- Is CELL_F valid for the cell count (R391). -/
def State.cellFOk (s : State) : Bool := decide (s.cells ≠ 0) && decide (20000 ≤ s.eUse) && decide (s.eUse ≤ 120000)

/-- Stored energy E, J (R394). -/
def State.packEnergy (s : State) : Rat :=
  let c : Rat := s.get .BWR_PACK_CELL_F
  (s.cellV.map (fun (v : Nat) =>
    let x : Rat := max ((v : Rat) / 10000) (22 / 10)
    c / 2 * (x * x - 484 / 100))).sum

/-- The reserve R_E, J (R394). -/
def State.reserve (s : State) : Rat := max (s.eUse / 10) 4000

/-- Every cell reads within two bounds, 100 µV. -/
def State.cellsIn (s : State) (lo hi : Nat) : Bool := s.cellV.all (fun v => decide (lo ≤ v) && decide (v ≤ hi))

/-! ### Isolation (R392, Table 15-1) -/

def State.iso (s : State) : Nat := s.get .BWR_STATUS_ISO

/-- The closing conditions other than the cell window and CELL_F. -/
def State.isoBase (s : State) : Bool :=
  s.ready rCEL && decide (s.cells ≠ 0) && (s.get .CEL_PACK_ID_DECODE == 1 || s.get .CEL_PACK_ID_DECODE == 2) && s.bit .CEL_ILK_CLOSED && s.pins.ilkClosed && s.ready rIB

/-- The closing conditions that must go on holding while CLOSED: all but the cell window (R392, R453). -/
def State.isoHolds (s : State) : Bool :=
  s.isoBase && s.cellFOk && decide (s.get .CEL_PACK_ID_DECODE = (if s.cells = 12 then 1 else 2))

/-- Every closing condition (R392). -/
def State.isoMay (s : State) : Bool := s.isoBase && s.cellFOk && s.cellsIn 15000 38500

/-- No loss of input and no removal sequence is in progress. -/
def State.isoFree (s : State) : Bool := !s.bit .PWR_IN_PROT_STATUS_INPUT_LOST && decide (s.get .HPL_STATE_STATE < 3)

/-- BWC is commanded to 0 and P_set follows demand, up to the cap, without slew; event 0x150A (R411). -/
def State.bwrLost (s : State) : State :=
  let s := (s.setReady rBWR false).setBit .BWR_STATUS_REGULATING false
  let s := (s.set .BWR_BWC_CMD_W 0).setWanted 49 { s.wanted 49 with set := 0 }
  let p := min s.demand s.capNow
  let s : State := { s with outs := { s.outs with pset := p, cmd := 0 } }
  (s.set .BWR_PIN_SET_W (wattsOf p)).raise 0x150A

/-- BREAKWATER_LOST: the control engine or CEL stopped, or isolation left CLOSED (R411). -/
def execBreakwaterLost (s : State) : Host.Outcome State Fault Refusal :=
  .next (if s.bit .BWR_STATUS_REGULATING || s.ready rBWR then s.bwrLost else s)

/-- Isolation opens from whatever state it is in; leaving CLOSED loses the breakwater (Table 15-1, R411). -/
def State.isoOpen (s : State) : State :=
  if s.iso = 0 then s
  else
    let closed := s.iso = 2
    let s := s.set .BWR_STATUS_ISO 0
    let s := s.setWanted 49 { s.wanted 49 with en := false, set := 0 }
    if closed then s.bwrLost else s

/-- A closing condition other than the cell window fails while isolation is not OPEN (Table 15-1). -/
def State.isoCheck (s : State) : State :=
  if s.iso = 2 ∧ !s.isoHolds then s.isoOpen.raise 0x1502
  else if s.iso = 1 ∧ !(s.isoMay && s.isoHolds) then s.isoOpen
  else s

/-- ISOLATION_PRECHARGE: BWC charges its pack-side capacitance; a pack whose CELL_F or cells do not fit is refused with 0x1509
(R391, R392, R412). -/
def execIsolationPrecharge (s : State) : Host.Outcome State Fault Refusal :=
  .next <|
    if s.iso ≠ 0 ∨ !s.isoBase ∨ !s.isoFree then s
    else if !s.isoMay then
      if s.bwr.refusedPack then s
      else ({ s with bwr := { s.bwr with refusedPack := true } } : State).raise 0x1509
    else if s.now < s.bwr.retryAt ∨ (s.rail 49).latched then s
    else
      let s : State := { s with bwr := { s.bwr with precharge := s.now, refusedPack := false } }
      (s.set .BWR_STATUS_ISO 1).setWanted 49 { s.wanted 49 with en := true, set := 0 }

/-- Every latched function of a chapter returns to service (R521). -/
def State.endLatches (s : State) (chapter : Nat) : State :=
  (s.log.latches.filter (fun l => l.chapter == chapter)).foldl (fun s l => s.endLatch l.chapter l.unit) s

/-- ISOLATION_CLOSE: within 0.5 V of the stack the FETs turn on, event 0x1501; the pack is in recovery while a cell reads below
2.20 V (R392, R393). The closing returns the breakwater's functions to service (R521). -/
def execIsolationClose (packMv : BitVec 16) (s : State) : Host.Outcome State Fault Refusal :=
  .next <|
    let d : Int := (packMv.toNat : Int) - s.get .CEL_STACK_MV
    if s.iso ≠ 1 ∨ d.natAbs > 500 ∨ !s.isoMay ∨ !s.isoFree then s
    else
      let low := !s.cellsIn 22000 65535
      let s := (s.set .BWR_STATUS_ISO 2).setBit .BWR_STATUS_RECOVERY low
      let s : State := { s with bwr := { s.bwr with recovered := !low, beyond := 0 } }
      (((s.raise 0x1501).endLatches 0x15).endLatches 0x17).tapIsolate

/-- ISOLATION_PRECHARGE_TIMEOUT: 20 ms without that; retried after 1 s (R392). -/
def execIsolationPrechargeTimeout (s : State) : Host.Outcome State Fault Refusal :=
  .next (if s.iso = 1 then
    let s := s.isoOpen
    { s with bwr := { s.bwr with retryAt := s.now + second } } else s)

/-- A hard cell or pack limit: BWC off, isolation open, event 0x1507 (R399, R452). -/
def State.hardLimit (s : State) : State := if s.iso = 2 then s.isoOpen.raise 0x1507 else s

/-- BWC_OVERVOLTAGE: node above 58.0 V or pack side above N × 3.90 V for 1 µs: latched, every switch off, isolation open
(R378, R398). -/
def execBwcOvervoltage (nodeMv packMv : BitVec 16) (s : State) : Host.Outcome State Fault Refusal :=
  .next <|
    if s.bit .PWR_RAIL_STATUS_ON 49 && (decide (58000 < nodeMv.toNat) || (decide (s.cells ≠ 0) && decide (s.cells * 3900 < packMv.toNat))) then
      (s.latchRail 49 4 0xFF 0x1508).isoOpen
    else s

/-- BWC carries the input node: while loss of input is ridden, and in a surprise removal with hold-up (R383, R403, R511). -/
def State.riding (s : State) : Bool :=
  let st := s.get .HPL_STATE_STATE
  if st = 5 then !s.hpl.noHoldup else s.bit .PWR_IN_PROT_STATUS_RIDING && decide (st < 5)

/-- The node voltage that BWC holds from the pack then, mV. -/
def State.nodeHold (s : State) : Option Nat := if s.riding && s.iso == 2 then some 44000 else none

/-- LOSS_OF_INPUT: an input condition has been ridden for RIDE_MS, or until the pack reached the reserve (R383). -/
def execLossOfInput (s : State) : Host.Outcome State Fault Refusal :=
  let long : Bool := match s.pwr.uvSince with
    | some t => decide (t + s.get .PWR_IN_PROT_RIDE_MS * ms ≤ s.now)
    | none => false
  .next (if s.bit .PWR_IN_PROT_STATUS_RIDING && (long || decide (s.packEnergy ≤ s.reserve)) then s.inputLost else s)

/-! ### HINT (R405) -/

/-- The rails whose HOLD a pending announcement of a die sets: its VC rail, the IB rail that feeds it, and BWC. -/
def hintRails (die : Nat) : List Nat := [2 + die, if die < 4 then 0 else 1, 49]

/-- HOLD of the rails that announcements hold follows the pending ones (R405). -/
def State.syncHolds (s : State) (die : Nat) : State :=
  (hintRails die).foldl (fun s r =>
    s.setWanted r { s.wanted r with hold := s.bwr.hints.any (fun h => h.held && (hintRails h.die).contains r) }) s

/-- The expected added power of a die's announcement, W: learned, seeded, or by class (R405). -/
def State.hintPower (s : State) (b : Fin 8) (id pclass : Nat) : Nat :=
  match (s.berth b).desc with
  | none => 0
  | some y =>
    let e := (y.hints[id]?).getD ⟨false, false, 0, 0⟩
    let seed := if e.valid && e.seedW != 0 then e.seedW else nth y.classW pclass
    match s.cap.learned.find? (fun l => l.1 == (b.val, id)) with
    | some l => if e.valid && e.learn then natOf l.2.1 else seed
    | none => seed

/-- The run time, ps, of a time of the module's clock that has passed, ns. -/
def State.psOf (s : State) (ns : Nat) : Nat := s.now - 1000 * (s.timeNs - ns)

/-- A HINT event of issue time `time`, ns, reaches the engine: an announcement with its HOLDs, or a withdrawal (R162, R405, R462). -/
def State.hintEvent (s : State) (d : Fin 8) (lead pclass id time : Nat) : State :=
  if lead = 0 then
    let s : State := { s with bwr := { s.bwr with hints := s.bwr.hints.filter (fun h => !(h.die == d.val && h.id == id)) } }
    s.syncHolds d
  else match (s.die d).berth with
    | none => s
    | some b =>
      let e := (((s.berth b).desc.bind (fun y => y.hints[id]?))).getD ⟨false, false, 0, 0⟩
      let start := s.psOf time + lead * us
      let h : HintPlan := ⟨d.val, id, start, if e.valid then e.durUs else 0, s.hintPower b id pclass, true⟩
      let s : State := { s with bwr := { s.bwr with hints := s.bwr.hints ++ [h] } }
      let s := s.syncHolds d
      if e.valid && e.learn then
        let old := s.cap.runs.find? (fun r => r.berth == b.val && r.id == id && !r.done)
        let run : LearnRun := match old with
          | some r => { r with dies := if r.dies.contains d then r.dies else r.dies ++ [d] }
          | none => ⟨b.val, id, start, [d], 0, false⟩
        { s with cap := { s.cap with
          runs := run :: s.cap.runs.filter (fun r => !(r.berth == b.val && r.id == id && !r.done)) } }
      else s

/-- ff_hint at this moment: each announcement adds its power from 20 µs before its start and fades over 200 µs after it (R405). -/
def State.ffHint (s : State) : Rat :=
  (s.bwr.hints.map (fun h =>
    if s.now + 20 * us < h.start then (0 : Rat)
    else if s.now ≤ h.start then (h.power : Rat)
    else
      let t := s.now - h.start
      if 200 * us ≤ t then 0 else (h.power : Rat) * (((200 * us - t : Nat) : Rat) / ((200 * us : Nat) : Rat)))).sum

/-- HINT_HOLD_CLEAR: the HOLDs of an announcement clear (R405). -/
def execHintHoldClear (die : Fin 8) (id : Fin 256) (s : State) : Host.Outcome State Fault Refusal :=
  .next <|
    let hints := s.bwr.hints.filterMap (fun h : HintPlan =>
      if h.die = die.val ∧ h.id = id.val then
        (if h.start + 200 * us ≤ s.now then none else some { h with held := false })
      else some h)
    ({ s with bwr := { s.bwr with hints := hints } } : State).syncHolds die

/-! ### The tide table's period (R406) -/

def State.tideLocked (s : State) : Bool := s.bit .BWR_TIDE_STATUS_LOCKED

/-- The tide table unlocks, event 0x1505 (R406). -/
def State.tideUnlock (s : State) : State :=
  if s.tideLocked then
    let s : State := { s with outs := { s.outs with ffTide := 0 } }
    (s.setBit .BWR_TIDE_STATUS_LOCKED false).raise 0x1505 0xFF 0
  else s

/-- The ripple of the input over the period that ends, 0.1% of its mean (R407). -/
def State.tideRipple (s : State) : State :=
  match s.bwr.ripple with
  | none => s
  | some (lo, hi, sum, n) =>
    let mean := sum / (n : Rat)
    let s := if 0 < mean then s.set .BWR_TIDE_STATUS_RIPPLE (min 127 (natOf ((hi - lo) / mean * 1000))) else s
    { s with bwr := { s.bwr with ripple := none } }

/-- TIDE_ANCHOR: an anchor SYNCPT of the source die measures an interval (R406). -/
def execTideAnchor (die : Fin 8) (syncStep : BitVec 32) (s : State) : Host.Outcome State Fault Refusal :=
  .next <|
    if die.val ≠ s.get .BWR_TIDE_CFG_SRC_DIE ∨ syncStep.toNat % s.get .BWR_TIDE_CFG_STEP_DIV ≠ 0 ∨
        !s.bit .BWR_TIDE_CFG_ENABLE then s
    else
      let last := s.bwr.lastAnchor
      let s : State := { s with bwr := { s.bwr with lastAnchor := some s.now } }
      let s := s.tideRipple
      match last with
      | none => s
      | some t0 =>
        let dt := s.now - t0
        let l := (dt :: s.bwr.anchors).take 8
        let s : State := { s with bwr := { s.bwr with anchors := l } }
        let t := l.sum / l.length
        let within := fun (x pct : Nat) => decide (t * (100 - pct) ≤ x * 100) && decide (x * 100 ≤ t * (100 + pct))
        let s := s.set .BWR_TIDE_STATUS_PERIOD_US (min (t / us) (2 ^ 24 - 1))
        if s.tideLocked then (if within dt 10 then s else s.tideUnlock)
        else if l.length = 8 ∧ l.all (fun x => within x 2) ∧ 10 * ms ≤ t ∧ t ≤ 10 * second then
          let far := match s.bwr.lockedT with
            | some u => decide (t * 100 < u * 90) || decide (u * 110 < t * 100)
            | none => false
          let s : State := { s with bwr := { s.bwr with lockedT := some t, tide := if far then [] else s.bwr.tide } }
          (s.setBit .BWR_TIDE_STATUS_LOCKED true).raise 0x1505 0xFF 1
        else s

/-- TIDE_ANCHOR_TIMEOUT: 2 × T without an anchor (R406). -/
def execTideAnchorTimeout (s : State) : Host.Outcome State Fault Refusal := .next s.tideUnlock

/-! ### Ballast (R169, R408, R409) -/

/-- The conditions of R408 at this moment. -/
def State.ballastMay (s : State) : Bool :=
  let floor : Rat := s.get .BWR_FLOOR_W
  let soc := s.get .BWR_SOC_PCT_X100
  let own : Rat := s.get .BWR_BALLAST_STATUS_W
  s.bit .BWR_BALLAST_CFG_ENABLE && decide (0 < floor) && decide (floor ≤ s.capNow) && decide (s.outs.pset = floor) &&
    decide (s.demand - own < floor) && (if s.bwr.stopBallast then decide (9500 ≤ soc) else decide (9300 ≤ soc)) &&
    !s.bit .BWR_STATUS_DRAIN && s.iso == 2

/-- Ballast stops on every gang (R408). -/
def State.ballastStop (s : State) : State :=
  let s := forFin 8 s (fun s d => s.modDie d (fun x => { x with ballast := [] }))
  let s : State := { s with bwr := { s.bwr with stopBallast := true } }
  ((s.setBit .BWR_STATUS_BALLAST false).set .BWR_BALLAST_STATUS_TILES 0).set .BWR_BALLAST_STATUS_W 0

/-- A gang may run ballast: its image permits it, it lies in a window or a long wait of R169, its die is below 95 °C and its berth
is below its limit (R409). -/
def State.gangBallast (s : State) (d : Fin 8) (g : Nat) : Bool :=
  let x := s.die d
  let permitted := ((x.gang? g).map (·.ballast)).getD false
  let window := x.inWindow g || decide (256 ≤ x.waitStall)
  let cool := (List.range 24).all (fun k => !s.sensorValid d k || decide (dec 16 (s.get .CDC_TEMP_TEMP d k) < 760))
  let room := match x.berth with
    | some b => match (s.berth b).desc with
      | some y => decide (0 < y.ballastMaxW) && decide (((s.berthDies b).map (fun e : Fin 8 => s.bwr.ballastW[e])).sum ≤ (y.ballastMaxW : Rat))
      | none => false
    | none => false
  permitted && window && cool && room

/-- BALLAST_IN_WAIT: from the 257th stall cycle of a wait, ballast may run on a gang (R169, R408, R409). -/
def execBallastInWait (die : Fin 8) (gang : Fin 128) (s : State) : Host.Outcome State Fault Refusal :=
  .next <|
    let x := s.die die
    if decide (256 ≤ x.waitStall) && s.gangBallast die gang && s.ballastMay && !x.ballast.contains gang.val then
      (s.setDie die { x with ballast := gang.val :: x.ballast }).setBit .BWR_STATUS_BALLAST true
    else s

/-- `BWR_CNT_CTRL.CLEAR` (Table 15-3). -/
def State.bwrClear (s : State) : State :=
  s.clearCnt [.BWR_BALLAST_J_J, .BWR_CHG_J_J, .BWR_DIS_J_J, .BWR_FLOOR_BREAK_COUNT, .BWR_SLEW_BREAK_COUNT,
    .BWR_RESERVE_HITS_COUNT] 0

end Sys2Proof.Machine
end

