-- ==== Sys2Proof/Machine/Cell.lean ====
section
/-! DEFINITION. The cell monitor (chapter 17): scans, balancing, open sense wires, comparators, the sleep check, thermistors,
pack identification, the interlock and self-tests. Cells are numbered from 0 here: cell `k` lies between taps CSk and
CS(k + 1); events carry the spec's number, k + 1. -/

namespace Sys2Proof.Machine

/-! ### Readings (R437 to R440, R446) -/

/-- Is tap CSj declared open. -/
def State.tapOpen (s : State) (j : Nat) : Bool := bitAt (s.get .CEL_OW_TAPS) j

/-- Is cell `k` substituted: a tap beside it is open (R446). -/
def State.substituted (s : State) (k : Nat) : Bool := s.tapOpen k || s.tapOpen (k + 1)

/-- What a substituted or plain cell reports from the measured cells and the stack, 100 µV; nothing where two open taps meet,
for which R446 gives no value. -/
def State.reported (s : State) (raw : List Nat) (stackMv k : Nat) : Option Nat :=
  let alone := some (stackMv * 10 - (raw.sum - nth raw k))
  match s.tapOpen k, s.tapOpen (k + 1) with
  | false, false => some (nth raw k)
  | true, true => none
  | true, false => if k = 0 then alone else some ((nth raw (k - 1) + nth raw k) / 2)
  | false, true => if k + 1 = raw.length then alone else some ((nth raw k + nth raw (k + 1)) / 2)

/-- Keep the readings of a valid scan in the registers; cells above N read 0 (R438, R446). -/
def State.keepCells (s : State) (raw : List Nat) (stackMv : Nat) : State :=
  let s := (List.range 16).foldl (fun s (k : Nat) =>
    let sub := decide (k < raw.length) && s.substituted k
    let s := s.setBit .CEL_CELL_SUBST sub 0 k
    if raw.length ≤ k then s.set .CEL_CELL_V 0 0 k
    else match s.reported raw stackMv k with
      | some v => s.set .CEL_CELL_V (min v 65535) 0 k
      | none =>
        let (v, s) := s.freeNat 50
        s.set .CEL_CELL_V v 0 k) s
  (s.set .CEL_STACK_MV stackMv).set .CEL_STACK_SUM_MV (min (s.cellV.sum / 10) 65535)

/-- Stack and cell sum disagree in 3 scans: MISMATCH and event 0x1701; it clears after 100 scans in tolerance (R439). -/
def State.stackCheck (s : State) : State :=
  let off := ((s.get .CEL_STACK_MV * 10 : Nat) - (s.cellV.sum : Nat) : Int).natAbs
  if s.get .CEL_STACK_TOL_MV * 10 < off then
    let n := s.cel.mismatch + 1
    let s : State := { s with cel := { s.cel with mismatch := min n 3, matched := 0 } }
    if n = 3 then (s.setBit .CEL_STATUS_MISMATCH true).raise 0x1701 else s
  else
    let n := min (s.cel.matched + 1) 100
    let s : State := { s with cel := { s.cel with mismatch := 0, matched := n } }
    if n = 100 then s.setBit .CEL_STATUS_MISMATCH false else s

/-! ### Balancing (R441) -/

/-- Is a thermistor valid, and its reading, 0.1 °C (R450). -/
def State.tempOk (s : State) (i : Nat) : Bool := !s.bit .CEL_TEMP_FAILED 0 i
def State.tempOf (s : State) (i : Nat) : Int := dec 16 (s.get .CEL_TEMP_T 0 i)
/-- Readings of the valid thermistors, 0.1 °C. -/
def State.tempsValid (s : State) : List Int := ((List.range 4).filter (fun i => s.tempOk i)).map (fun (i : Nat) => s.tempOf i)

/-- Cells by falling reading, the lower index first among equals. -/
def byReading (v : List Nat) : List Nat :=
  (List.range v.length).foldl (fun (acc : List Nat) (k : Nat) =>
    let hi := acc.takeWhile (fun j => decide (nth v k ≤ nth v j))
    hi ++ [k] ++ acc.drop hi.length) []

/-- Eligibility after a scan: entered at START_MV and DELTA_MV, left at DELTA_MV ÷ 2 or START_MV − 20 mV (R441). -/
def State.eligibleNow (s : State) : List Nat :=
  let v := s.cellV
  let low := v.foldl min 65535
  let start := s.get .CEL_BAL_CFG_START_MV * 10
  let delta := s.get .CEL_BAL_CFG_DELTA_MV * 10
  (List.range v.length).filter (fun k =>
    let x := nth v k
    if bitAt s.cel.eligible k then decide (low + delta / 2 < x) && decide (start - 200 ≤ x)
    else decide (start ≤ x) && decide (low + delta ≤ x))

/-- The cells that balancing takes: highest first, none beside another, none substituted, at most MAX_CELLS (R441). -/
def State.balanceTake (s : State) : List Nat :=
  (byReading s.cellV).foldl (fun (acc : List Nat) (k : Nat) =>
    if s.eligibleNow.contains k && !s.substituted k && !acc.contains (k + 1) && !acc.any (fun j => j + 1 == k) &&
      decide (acc.length < s.get .CEL_BAL_CFG_MAX_CELLS) then acc ++ [k] else acc) []

/-- BALANCE_SELECT at the end of a scan; each cell chosen until now has balanced for a millisecond (R441, Table 17-3). -/
def State.balance (s : State) : State :=
  let was := ((List.range 16).filter (fun k => s.bit .CEL_CELL_BAL 0 k)).length
  let s := if was = 0 then s else s.count .CEL_CNT_CTRL_FREEZE .CEL_BAL_MS_COUNT was
  let may := s.bit .CEL_BAL_CFG_ENABLE && s.ready rCEL && s.tempsValid.all (fun (t : Int) => decide (t < 600))
  let take := if may then s.balanceTake else []
  let s : State := { s with cel := { s.cel with eligible := s.eligibleNow.foldl (fun a k => a + 2 ^ k) 0 } }
  (List.range 16).foldl (fun s (k : Nat) => s.setBit .CEL_CELL_BAL (take.contains k) 0 k) s

/-! ### What the breakwater makes of a scan (R393, R399) -/

/-- Cells beyond a hard limit, one bit each; the low limit acts outside recovery only (R399). -/
def State.beyondNow (s : State) : Nat :=
  let v := s.cellV
  let rec_ := s.bit .BWR_STATUS_RECOVERY
  (List.range v.length).foldl (fun a k => if decide (38500 < nth v k) || (!rec_ && decide (nth v k < 21000)) then a + 2 ^ k else a) 0

/-- HARD_CELL_LIMIT, RECOVERY_END and the taper band, while isolation is CLOSED. -/
def State.packCheck (s : State) : State :=
  if s.iso ≠ 2 then s
  else
    let now := s.beyondNow
    let twice := (List.range 16).any (fun k => bitAt now k && bitAt s.bwr.beyond k)
    let inBand := decide (s.cells ≠ 0) && !s.cellsIn 23000 37500
    let first := inBand && !s.bwr.taperBand
    let healed := s.bit .BWR_STATUS_RECOVERY && s.cellsIn 22000 65535
    let s : State := { s with bwr := { s.bwr with beyond := now, taperBand := inBand, recovered := s.bwr.recovered || healed } }
    let s := if healed then s.setBit .BWR_STATUS_RECOVERY false else s
    let s := if first then s.raise 0x1506 else s
    if twice then s.hardLimit else s

/-- Does a check reference lie outside 2.500 V ± 3 mV (100 µV units, R440). -/
def refBad (r : BitVec 16) : Bool := decide (r.toNat < 24970) || decide (25030 < r.toNat)

/-- CELL_SCAN: one scan outside an open-wire test window: cells in 100 µV, the stack in mV, both check references (R437 to
R442, R393, R399). -/
def execCellScan (cells : Vector (BitVec 16) 16) (stackMv refA refB : BitVec 16) (s : State) :
    Host.Outcome State Fault Refusal :=
  .next <|
    if !s.bit .CEL_STATUS_SCANNING then s
    else if refBad refA || refBad refB then
      let n := s.cel.badScans + 1
      let s : State := { s with cel := { s.cel with badScans := min n 3 } }
      let s := s.count .CEL_CNT_CTRL_FREEZE .CEL_BAD_SCANS_COUNT 1
      if n = 3 then s.raise 0x1703 else s
    else
      let raw := (cells.toList.map (·.toNat)).take s.cells
      let s : State := { s with cel := { s.cel with
        badScans := 0, raw := Vector.ofFn (fun k : Fin 16 => nth raw k.val) } }
      let s := s.count .CEL_CNT_CTRL_FREEZE .CEL_SCANS_COUNT 1
      (((s.keepCells raw stackMv.toNat).stackCheck.balance).packCheck).isoCheck

/-! ### Open sense wires (R444 to R446) -/

/-- Is cell `k` low in a test scan: below 0.50 V there, 1.00 V or more in the last scan outside a window (R445). -/
def State.lowIn (s : State) (test : List Nat) (k : Nat) : Bool :=
  decide (k < test.length) && decide (nth test k < 5000) && decide (10000 ≤ nth (s.cel.raw.toList) k)

/-- Does cell `k` read above its pair sum with cell `k - 1`, less 0.30 V (R445). -/
def State.raisedIn (s : State) (test : List Nat) (k : Nat) : Bool :=
  let raw := s.cel.raw.toList
  decide (k < test.length) && decide (nth raw (k - 1) + nth raw k < nth test k + 3000)

/-- Taps that a test scan names candidates (R445). -/
def State.tapCandidates (s : State) (test : List Nat) : List Nat :=
  let n := test.length
  (List.range (n + 1)).filter (fun j =>
    if j = 0 then s.lowIn test 0 && !s.raisedIn test 1
    else if j = n then s.lowIn test (n - 1) && !(decide (2 ≤ n) && s.lowIn test (n - 2))
    else s.lowIn test (j - 1) && s.raisedIn test j)

/-- Low cells of a test scan that name no tap (R445). -/
def State.lowUnnamed (s : State) (test : List Nat) : List Nat :=
  let c := s.tapCandidates test
  (List.range test.length).filter (fun k =>
    s.lowIn test k && !(c.contains (k + 1) || (k == 0 && c.contains 0)))

/-- TAP_OPEN_DECLARED: a candidate of two consecutive test scans is open, one that has not been a candidate in 10 closes again
(R445, R446). -/
def State.tapStep (s : State) (cand : List Nat) (j : Nat) : State :=
  if s.tapOpen j then
    let n := if cand.contains j then 0 else (((s.cel.clear.find? (fun e => e.1 == j)).map (·.2)).getD 0) + 1
    let rest := s.cel.clear.filter (fun e => e.1 != j)
    if n < 10 then { s with cel := { s.cel with clear := (j, n) :: rest } }
    else
      let s : State := { s with cel := { s.cel with clear := rest } }
      s.set .CEL_OW_TAPS (putBit (s.get .CEL_OW_TAPS) j false)
  else if cand.contains j && bitAt s.cel.candidates j then
    (s.set .CEL_OW_TAPS (putBit (s.get .CEL_OW_TAPS) j true)).raise 0x1702 j
  else s

/-- OPEN_WIRE_WINDOW: the test scan of a window of two scans (R444 to R446). One that judges nothing names no candidate, so a tap needs
two more (log entry 70). -/
def execOpenWireWindow (cells : Vector (BitVec 16) 16) (stackMv : BitVec 16) (s : State) : Host.Outcome State Fault Refusal :=
  .next <|
    if !s.bit .CEL_STATUS_SCANNING then s
    else
      let s := (s.count .CEL_CNT_CTRL_FREEZE .CEL_OW_TESTS_COUNT 1).count .CEL_CNT_CTRL_FREEZE .CEL_SCANS_COUNT 2
      let test := (cells.toList.map (·.toNat)).take s.cells
      let off := ((stackMv.toNat * 10 : Nat) - (s.cel.raw.toList.sum : Nat) : Int).natAbs
      if s.cells = 0 ∨ s.get .CEL_STACK_TOL_MV * 10 < off then { s with cel := { s.cel with candidates := 0 } }
      else
        let cand := s.tapCandidates test
        let odd := s.lowUnnamed test
        let s := (List.range (s.cells + 1)).foldl (fun s (j : Nat) => s.tapStep cand j) s
        let s : State := { s with cel := { s.cel with candidates := cand.foldl (fun a j => a + 2 ^ j) 0 } }
        let s := s.setBit .CEL_STATUS_OPEN_WIRE (decide (s.get .CEL_OW_TAPS ≠ 0))
        odd.foldl (fun s (k : Nat) => s.raise 0x1703 (k + 1)) s

/-! ### Comparators and the sleep check (R447 to R449) -/

/-- The comparator flags of `CEL_STATUS` follow the cells' (Table 17-3). -/
def State.compFlags (s : State) : State :=
  let any := fun (f : Fld) => (List.range 16).any (fun k => s.bit f 0 k)
  (s.setBit .CEL_STATUS_COMP_OV (any .CEL_CELL_OV_TRIP)).setBit .CEL_STATUS_COMP_UV (any .CEL_CELL_UV_TRIP)

/-- CELL_COMPARATOR_TRIP: with a 16-cell pack, overvoltage inhibits charging and opens isolation, event 0x1704; undervoltage
inhibits discharge, event 0x1705 (R447, R448). -/
def execCellComparatorTrip (cell : Fin 16) (ov : Bool) (s : State) : Host.Outcome State Fault Refusal :=
  .next <|
    if s.cells ≠ 16 then s
    else if ov then
      (((s.setBit .CEL_CELL_OV_TRIP true 0 cell).compFlags).isoOpen).raise 0x1704 (cell.val + 1)
    else ((s.setBit .CEL_CELL_UV_TRIP true 0 cell).compFlags).raise 0x1705 (cell.val + 1)

/-- CELL_COMPARATOR_RELEASE: the inhibit lifts; isolation closes again only through Table 15-1 (R447, R448). -/
def execCellComparatorRelease (cell : Fin 16) (ov : Bool) (s : State) : Host.Outcome State Fault Refusal :=
  .next (s.setBit (if ov then .CEL_CELL_OV_TRIP else .CEL_CELL_UV_TRIP) false 0 cell).compFlags

/-- SLEEP_CHECK: with a 12-cell pack and VAUX out of regulation, a cell out of window asserts WAKE_N and is logged (R449). -/
def execSleepCheck (cellsMv : Vector (BitVec 16) 12) (s : State) : Host.Outcome State Fault Refusal :=
  .next <|
    if s.cells ≠ 12 ∨ s.bit .PWR_RAIL_STATUS_IN_REG 46 then s
    else
      let out := fun (k : Nat) =>
        let v := nth (cellsMv.toList.map (·.toNat)) k
        decide (v < s.get .CEL_SLEEP_CFG_LO_MV) || decide (s.get .CEL_SLEEP_CFG_HI_MV < v)
      match (List.range 12).find? out with
      | none => s
      | some k =>
        let s := (s.set .CEL_SLEEP_LOG_CELL k).set .CEL_SLEEP_LOG_MV (min (nth (cellsMv.toList.map (·.toNat)) k) 4095)
        let s := s.setBit .CEL_SLEEP_LOG_VALID true
        { s with pins := { s.pins with wake := true } }

/-! ### Thermistors (R450, R452) -/

/-- ln of `x`, by halving or doubling into [2/3, 4/3] and the series of artanh. -/
def lnSeries (x : Rat) : Rat :=
  let z := (x - 1) / (x + 1)
  2 * ([0, 1, 2, 3, 4, 5, 6, 7, 8].map (fun (i : Nat) => z ^ (2 * i + 1) / ((2 * i + 1 : Nat) : Rat))).sum
def ln2 : Rat := 693147180559945309417 / 1000000000000000000000
def lnRat : Nat → Rat → Rat
  | 0, x => lnSeries x
  | n + 1, x => if x < 2 / 3 then lnRat n (2 * x) - ln2 else if 4 / 3 < x then lnRat n (x / 2) + ln2 else lnSeries x

/-- The temperature of a 10 kΩ NTC behind 10 kΩ to 3.3 V at V mV, °C; none where R has no logarithm (R52, R450). -/
def ntcTemp (mv : Nat) : Option Rat :=
  if mv = 0 ∨ 3300 ≤ mv then none
  else
    let r : Rat := (mv : Rat) / ((3300 - mv : Nat) : Rat)
    some (1 / (100 / 29815 + lnRat 14 r / 3435) - 27315 / 100)

/-- A temperature in steps of 0.1 °C, to the nearest. -/
def tenths (t : Rat) : Int := (t * 10 + 1 / 2).floor

/-- One thermistor's conversion: the reading, and failed outside −50 °C to 120 °C with event 0x1707 (R450). -/
def State.thermConvert (s : State) (i mv : Nat) : State :=
  let t := ntcTemp mv
  let bad := match t with
    | some x => decide (x < -50) || decide (120 < x)
    | none => true
  let s := match t with
    | some x => s.set .CEL_TEMP_T (enc 16 (max (-32768) (min 32767 (tenths x)))) 0 i
    | none =>
      let (v, s) := s.freeNat 51
      s.set .CEL_TEMP_T v 0 i
  let was := s.bit .CEL_TEMP_FAILED 0 i
  let s := s.setBit .CEL_TEMP_FAILED bad 0 i
  if bad && !was then s.raise 0x1707 i else s

/-- THERMISTOR_CONVERT: every 10 ms; above 75 °C in two consecutive readings is a hard pack limit, event 0x1708 (R450, R452). -/
def execThermistorConvert (mv : Vector (BitVec 16) 4) (s : State) : Host.Outcome State Fault Refusal :=
  .next <|
    let s := (List.range 4).foldl (fun s (i : Nat) => s.thermConvert i (nth (mv.toList.map (·.toNat)) i)) s
    let hot := fun (i : Nat) => s.tempOk i && decide (750 < s.tempOf i)
    let above := (List.range 4).find? (fun i => hot i && bitAt s.cel.hot i)
    let first := above.isSome && !s.cel.packOver
    let s : State := { s with cel := { s.cel with
      hot := ofBits ((List.range 4).map hot), packOver := above.isSome } }
    let s := if first then s.raise 0x1708 (above.getD 0) else s
    if above.isSome then s.hardLimit else s

/-! ### Identification, interlock and self-test (R39, R40, R453 to R455) -/

/-- PACK_ID's decoding: 0 no pack, 1 12-cell, 2 16-cell, 3 short, 4 invalid (Table 2-4). -/
def packDecode (ohms : Nat) : Nat :=
  if ohms < 1000 then 3
  else if 9000 ≤ ohms ∧ ohms ≤ 11000 then 1
  else if 18000 ≤ ohms ∧ ohms ≤ 22000 then 2
  else if 200000 < ohms then 0
  else 4

/-- PACK_ID_DECODE: a change while isolation is OPEN starts a new pack; while it is not OPEN, another decode fails the closing
condition (R40, R453). -/
def execPackIdDecode (ohms : Nat) (s : State) : Host.Outcome State Fault Refusal :=
  .next <|
    let d := packDecode ohms
    let was := s.get .CEL_PACK_ID_DECODE
    let s := (s.set .CEL_PACK_ID_OHM_X10 (min (ohms / 10) 65535)).set .CEL_PACK_ID_DECODE d
    let s := if (d = 3 ∨ d = 4) ∧ was ≠ d then s.raise 0x0203 else s
    let s : State := { s with cel := { s.cel with idDecoded := true } }
    if s.iso = 0 then
      let n := if d = 1 then 12 else if d = 2 then 16 else 0
      if d = was ∧ n = s.cells then s
      else
        let s := (s.set .BWR_PACK_CELLS n).set .CEL_OW_TAPS 0
        let s := s.setBit .CEL_STATUS_OPEN_WIRE false
        let s := (List.range 16).foldl (fun s (k : Nat) => s.setBit .CEL_CELL_SUBST false 0 k) s
        { s with cel := { s.cel with candidates := 0, clear := [] } }
    else s.isoCheck

/-- INTERLOCK_CLOSED: the loop has read closed, at 4 mA or more, for 100 ms (R39, R454). -/
def execInterlockClosed (s : State) : Host.Outcome State Fault Refusal :=
  .next <|
    let (v, s) := s.freeNat 52
    let s := (s.setBit .CEL_ILK_CLOSED true).set .CEL_ILK_MA_X10 (40 + v % 216)
    { s with pins := { s.pins with ilkClosed := true } }

/-- INTERLOCK_OPEN: hardware opens isolation; a level-3 fault if it was CLOSED; a surprise sequence goes on without hold-up
(R39, R454, R513). -/
def execInterlockOpen (s : State) : Host.Outcome State Fault Refusal :=
  .next <|
    let (v, s) := s.freeNat 52
    let s := (s.setBit .CEL_ILK_CLOSED false).set .CEL_ILK_MA_X10 (v % 40)
    let closed := s.iso = 2
    let s : State := { s with pins := { s.pins with ilkClosed := false } }
    let s := if closed then s.loseHoldup else s
    if closed then s.isoOpen.raise 0x170A else s.isoOpen

/-- CAFE_SELF_TEST: passed, scans run; failed, they stop and CEL is not ready, event 0x1709 (R455). -/
def execCafeSelfTest (ok : Bool) (s : State) : Host.Outcome State Fault Refusal :=
  .next <|
    if ok then
      if s.bit .CEL_STATUS_SELFTEST_FAIL then s else s.setBit .CEL_STATUS_SCANNING true
    else
      let s := (s.setBit .CEL_STATUS_SCANNING false).setBit .CEL_STATUS_SELFTEST_FAIL true
      ((s.setReady rCEL false).raise 0x1709).isoCheck

/-- `CEL_CNT_CTRL.CLEAR` (Table 17-3). -/
def State.celClear (s : State) : State :=
  s.clearCnt [.CEL_SCANS_COUNT, .CEL_BAD_SCANS_COUNT, .CEL_OW_TESTS_COUNT, .CEL_BAL_MS_COUNT] 0

end Sys2Proof.Machine
end

