-- ==== Sys2Proof/Machine/Thermal.lean ====
section
/-! DEFINITION. What chapter 18 does outside the control loops: local thermal pacing, the bollard, coolant trips, sentinel
measurements and the stored age state. -/

namespace Sys2Proof.Machine

/-! ### Sentinels (R111, R478) -/

/-- SENTINEL_MEASUREMENT: a requested measurement of a die's sentinels takes place where R111 allows it. -/
def execSentinelMeasurement (d : Fin 8) (vals : Vector (BitVec 24) 32) (s : State) : Host.Outcome State Fault Refusal :=
  .next <|
    if !bitAt s.cap.measuring d || !s.mayMeasure d then s
    else
      let s := (List.range 32).foldl (fun s (k : Nat) =>
        (s.set .CDC_SENT_VAL_VALUE (nth (vals.toList.map (·.toNat)) k) d k).setBit .CDC_SENT_VAL_VALID true d k) s
      { s with cap := { s.cap with
        measuring := putBit s.cap.measuring d false, measured := putBit s.cap.measured d true
        measureAt := s.cap.measureAt.set d s.now } }

/-! ### Local thermal pacing (R470) -/

/-- The highest valid hotspot of a die, 1/8 °C. -/
def State.hottest (s : State) (d : Fin 8) : Option Int :=
  if (s.tempMax d).1 = 0x8000 then none else some (dec 16 (s.tempMax d).1)

/-- LOCAL_THERMAL_PACING: a die's hotspot at 105 °C or 110 °C asks duty 4/8 or 1/8 on every die of its berth; the entry is
counted, event 0x1803 (R470). -/
def execLocalThermalPacing (d : Fin 8) (s : State) : Host.Outcome State Fault Refusal :=
  .next <|
    match (s.die d).berth, s.hottest d with
    | some b, some t =>
      if t < 840 then s
      else
        let k := if 880 ≤ t then 1 else 4
        let ds := s.berthDies b
        let entry := ds.all (fun e => (s.die e).duThermal == 0)
        let deeper := ds.any (fun e => (s.die e).duThermal == 0 || decide (k < (s.die e).duThermal))
        let s := ds.foldl (fun s (e : Fin 8) => s.modDie e (fun x =>
          { x with duThermal := if x.duThermal = 0 then k else min k x.duThermal })) s
        let s := if entry then s.count .CAP_CNT_CTRL_FREEZE .CAP_THERM_PACE_COUNT 1 else s
        if deeper then s.raise 0x1803 d else s
    | _, _ => s

/-- THERMAL_PACING_WITHDRAW: every hotspot of a berth below 102 °C; in a domain the request waits for RATE (R310, R470). -/
def execThermalPacingWithdraw (b : Fin 8) (s : State) : Host.Outcome State Fault Refusal :=
  .next <|
    if !s.cooler b 816 then s
    else if s.noDomain b then (s.berthDies b).foldl (fun s (d : Fin 8) => s.modDie d (fun x => { x with duThermal := 0 })) s
    else s.localWithdraw b (s.rhdOf b).domRate

/-! ### The bollard (R471, R472) -/

/-- The VC rail of a die. -/
def vcRail (d : Fin 8) : Fin 50 := Fin.ofNat 50 (2 + d.val)

/-- A compute die returns to reset hold when its VC rail is lost (R23). -/
def State.dieLost (s : State) (d : Fin 8) : State := if s.inReset (8 + d.val) then s else s.holdDomain (8 + d.val)

/-- BOLLARD_TRIP: a comparator at 115 °C turns all eight VC rails off and latches them, event 0x1804; every die returns to reset
hold (R471). -/
def execBollardTrip (sites : BitVec 8) (s : State) : Host.Outcome State Fault Refusal :=
  .next <|
    if sites = 0#8 then s
    else
      let s := s.set .CAP_STATUS_BOLLARD (Nat.lor (s.get .CAP_STATUS_BOLLARD) sites.toNat)
      let s := s.count .CAP_CNT_CTRL_FREEZE .CAP_BOLLARD_TRIPS_COUNT 1
      let s := forFin 8 s (fun s d =>
        (s.railOff (vcRail d)).modRail (vcRail d) (fun x => { x with bollard := true, waiting := none }))
      let s := forFin 8 s (fun s d => s.dieLost d)
      let hot := Vector.ofFn (fun d : Fin 8 => if sites.getLsb d then 2 ^ 24 - 1 else s.cap.sitesHot[d])
      let s : State := { s with cap := { s.cap with sitesHot := hot } }
      s.raise 0x1804

/-- A trip of chapter 18 has ended: its function returns to service unless the other trip still stands (R521). -/
def State.tripOver (s : State) : State :=
  if s.bit .CAP_STATUS_COOL_TRIP || s.get .CAP_STATUS_BOLLARD != 0 then s else s.endLatch 0x18 0xFF

/-- 0xB0A7 written to `CAP_BOLLARD.CLEAR` by an owner session: the latch clears while every site is below 100 °C, else the write
is refused by lock (R472). -/
def State.bollardClear (s : State) (key : Nat) : State :=
  if key ≠ 0xB0A7 ∨ s.cap.sitesHot.toList.any (fun m => m != 0) then s.setBit .CAP_STATUS_LOCK_ERR true
  else
    let s := forFin 8 s (fun s d => s.modRail (vcRail d) (fun x => { x with bollard := false }))
    (s.set .CAP_STATUS_BOLLARD 0).tripOver

/-- The coolant flow in 0.01 L/min: the COOL_FLOW edges of the last 500 ms by `CAP_FLOW_CFG.K_FACTOR` (R53). -/
def State.flow (s : State) : Nat :=
  let n := (s.pins.flowPulses.filter (fun t => decide (s.now < t + 500 * ms))).length
  min 65535 (12000 * n / max 1 (s.get .CAP_FLOW_CFG_K_FACTOR))

/-! ### Coolant trip (R474) -/

/-- COOLANT_TRIP: flow below 2.0 L/min for 2 s: streams stop, the VC rails are commanded off, the dies return to reset hold,
event 0x1806. -/
def execCoolantTrip (s : State) : Host.Outcome State Fault Refusal :=
  .next <|
    if s.bit .CAP_STATUS_COOL_TRIP || decide (200 ≤ s.flow) then s
    else
      let s := s.setBit .CAP_STATUS_COOL_TRIP true
      let s := forFin 8 s (fun s d => if s.running d then s.streamStop d else s)
      let s := s.railsDown ((List.range 8).map (· + 2))
      let s := forFin 8 s (fun s d => s.dieLost d)
      s.raise 0x1806

/-- COOLANT_TRIP_END: flow at 4.0 L/min or more for 10 s: EN = 1 is sent for the VC rails; the dies' streams stay stopped. -/
def execCoolantTripEnd (s : State) : Host.Outcome State Fault Refusal :=
  .next <|
    if !s.bit .CAP_STATUS_COOL_TRIP || decide (s.flow < 400) then s
    else
      let s := s.setBit .CAP_STATUS_COOL_TRIP false
      let s := forFin 8 s (fun s d => s.setWanted (vcRail d) { s.wanted (vcRail d) with en := true })
      s.tripOver

/-! ### The age state (R481) -/

/-- AGE_STATE_STORE: a changed age state is stored in both flashes. -/
def execAgeStateStore (s : State) : Host.Outcome State Fault Refusal :=
  .next <|
    if !s.cap.ageDirty || s.flashHalted s.act then s
    else { s with cap := { s.cap with
      ageDirty := false, ageStored := (allFin 8).map (fun d : Fin 8 => (d.val, s.get .CAP_AGE_STEP 0 d, s.cap.reduction[d])) } }

/-- `CAP_CNT_CTRL.CLEAR` (Table 18-5). -/
def State.capClear (s : State) : State :=
  s.clearCnt [.CAP_THERM_PACE_COUNT, .CAP_BOLLARD_TRIPS_COUNT, .CAP_PARKS_COUNT] 0

end Sys2Proof.Machine
end

