-- ==== Sys2Proof/Machine/Engine.lean ====
section
/-! DEFINITION. The control engine (chapter 16): the schedule and its snapshots, late samples, plausibility and manual hold,
parameter sets and the customer package. -/

namespace Sys2Proof.Machine

/-! ### Loops -/

def State.loop (s : State) (i : Nat) : LoopSt := s.cte.loops[(Fin.ofNat 32 i : Fin 32)]
def State.modLoop (s : State) (i : Nat) (f : LoopSt → LoopSt) : State :=
  { s with cte := { s.cte with loops := s.cte.loops.set (Fin.ofNat 32 i : Fin 32) (f (s.loop i)) } }

/-- A loop's mode: 0 idle, 1 automatic, 2 manual hold, 3 faulted (Table 16-6). -/
def State.loopModeOf (s : State) (i : Nat) : Nat := s.get .CTE_LOOP_STATE_MODE 0 i

/-- A loop's period in control cycles (R416). -/
def State.loopCycles (s : State) (i : Nat) : Nat := 10 ^ s.get .CTE_LOOP_CFG_CLASS 0 i

/-- Has the function that a loop serves started (R426): a regulated pack for CL00, CL05 and CL06, an effective cap for CL04 and
CL07, the cell monitor for CL12 and CL16. -/
def State.served (s : State) (i : Nat) : Bool :=
  if i = 0 ∨ i = 5 ∨ i = 6 then s.iso == 2
  else if i = 4 ∨ i = 7 then decide (s.outs.capEff ≠ 0)
  else if i = 12 ∨ i = 16 then s.ready rCEL
  else true

/-- A word of a loop's block of the active set (R427). -/
def State.loopWord (s : State) (i w : Nat) : BitVec 32 := BitVec.ofNat 32 (s.get .CTE_PARAM_ACTIVE_VALUE 0 (32 * i + w))

/-- The bytes of the active customer package, and a field of them (Table 16-2). -/
def State.custField (s : State) (off n : Nat) : Nat := leAt (s.cte.custActive.getD []) off n

/-- The cycles within which a sample must make its output operation (R420). -/
def State.deadline (s : State) (i : Nat) : Nat :=
  let p := s.loopCycles i * 4000
  if i = 31 then min p (s.custField 0x1C 4) else p

/-- A loop's sample has ended. -/
def State.dropReady (s : State) (i : Nat) : State :=
  { s with cte := { s.cte with ready := s.cte.ready.filter (· != i), snaps := s.cte.snaps.filter (fun n => n.loop != i) } }

/-! ### Manual hold (R423, Table 16-1) -/

/-- The hold action of a loop; `entry`: the hold begins in this sample. -/
def State.holdAct (s : State) (i : Nat) (entry : Bool) : State :=
  match i with
  | 0 =>
    let s : State := { s with bwr := { s.bwr with ref := s.pIn } }
    if entry then s.bwrLost else s
  | 4 =>
    let p := min s.demand s.capNow
    let s : State := { s with outs := { s.outs with pset := p } }
    s.set .BWR_PIN_SET_W (wattsOf p)
  | 5 =>
    let s : State := { s with outs := { s.outs with ffTide := 0 } }
    s.tideUnlock
  | 6 => s.ballastStop
  | 12 =>
    let s : State := { s with outs := { s.outs with pDis := 0, pChg := 0 } }
    (s.set .BWR_LIMITS_DIS_W 0).set .BWR_LIMITS_CHG_W 0
  | _ => s

/-- A loop enters manual hold with a cause, counted, and with the event of its cause (R421 to R423). -/
def State.loopHold (s : State) (i cause code : Nat) : State :=
  let was := s.loopModeOf i
  let s := (s.set .CTE_LOOP_STATE_MODE 2 0 i).set .CTE_LOOP_STATE_CAUSE cause 0 i
  let s := s.setBit .CTE_LOOP_STATE_RAMP false 0 i
  let s := (s.count .CTE_CNT_CTRL_FREEZE .CTE_LOOP_HOLDS_COUNT 1 0 i).modLoop i (fun x => { x with fresh := 0, autoAsked := false })
  let s := if code = 0 then s else s.raise code i
  if was = 1 then s.holdAct i true else s

/-- A loop enters automatic operation; its next automatic sample is its first (R425). -/
def State.loopAuto (s : State) (i : Nat) : State :=
  let s := (s.set .CTE_LOOP_STATE_MODE 1 0 i).set .CTE_LOOP_STATE_CAUSE 0 0 i
  s.modLoop i (fun x => { x with first := true, above := 0, fresh := 0, autoAsked := false })

/-- `CTE_LOOP_CTRL.AUTO` on the selected loop: ignored in automatic operation (R423, R433). -/
def State.cteAuto (s : State) (i : Nat) : State :=
  if s.loopModeOf i = 2 ∨ s.loopModeOf i = 3 then s.modLoop i (fun x => { x with autoAsked := true }) else s

/-- `CTE_LOOP_CTRL.HOLD` (R423). A loop that is absent, held or faulted stays as it is. -/
def State.cteHold (s : State) (i : Nat) : State :=
  if s.bit .CTE_LOOP_CFG_PRESENT 0 i && decide (s.loopModeOf i < 2) then s.loopHold i 4 0 else s

/-! ### Late samples (R420, R421) -/

/-- A late sample is aborted and counted; the third in a row holds the loop. -/
def State.lateSample (s : State) (i : Nat) : State :=
  let s := (s.dropReady i).count .CTE_CNT_CTRL_FREEZE .CTE_LOOP_OVR_COUNT 1 0 i
  let n := s.get .CTE_LOOP_STATE_CONSEC 0 i + 1
  let s := s.set .CTE_LOOP_STATE_CONSEC (min n 3) 0 i
  if n ≤ 2 then s.raise 0x1601 i
  else if n = 3 then
    if s.loopModeOf i = 1 then s.loopHold i 3 0x1602 else s.raise 0x1602 i
  else s

/-- LOOP_DEADLINE (R420). -/
def execLoopDeadline (loop : Fin 32) (s : State) : Host.Outcome State Fault Refusal :=
  .next (if s.cte.ready.contains loop.val then s.lateSample loop else s)

/-! ### Plausibility (R415, R422) -/

def f32Neg (a : BitVec 32) : BitVec 32 := a ^^^ 0x80000000#32
def f32Abs (a : BitVec 32) : BitVec 32 := a &&& 0x7FFFFFFF#32
def f32Bad (a : BitVec 32) : Bool := a &&& 0x7F800000#32 == 0x7F800000#32

/-- The model's residual in a sample: r_f of the snapshot's parameters, and whether the sample fails plausibility (R415, R422). -/
def State.residual (s v : State) (i : Nat) (m : LoopSample) : BitVec 32 × Bool :=
  let x := s.loop i
  let pred := f32Add (f32Add (f32Mul (v.loopWord i 24) x.yPrev) (f32Mul (v.loopWord i 25) x.uPrev)) (v.loopWord i 26)
  let rf := BitVec.ofNat 32 (s.get .CTE_LOOP_RESID_R_F 0 i)
  let rf := f32Add rf (f32Mul (f32Add (f32Abs (f32Add m.y (f32Neg pred))) (f32Neg rf)) 0x3E000000#32)
  let th := v.loopWord i 27
  (rf, f32Bad m.u || (decide ((ofF32 th).rat ≠ 0) && f32Lt th rf))

/-- PLAUS_N of a loop (R427). -/
def State.plausN (s : State) (i : Nat) : Nat := max 1 (natOf (ofF32 (s.loopWord i 28)).rat)

/-- The model, the ways out of manual hold and the ways into it, before the law of a sample (R422, R423, R426). -/
def State.sampleMode (s v : State) (i : Nat) (m : LoopSample) (bad : Bool) : State :=
  let (rf, fail) := s.residual v i m
  let fail := fail || bad
  let s := (s.set .CTE_LOOP_RESID_R_F rf.toNat 0 i).modLoop i (fun x =>
    { x with above := if fail then x.above + 1 else 0, fresh := if m.stale then 0 else min 16 (x.fresh + 1) })
  let s :=
    match s.loopModeOf i with
    | 0 => s.loopAuto i
    | 1 => s
    | 3 => if (s.loop i).autoAsked then (s.loopAuto i).raise 0x1607 i else s
    | _ =>
      let out := if s.get .CTE_LOOP_STATE_CAUSE 0 i = 2 then decide (16 ≤ (s.loop i).fresh) else (s.loop i).autoAsked
      if out then (s.loopAuto i).raise 0x1607 i else s
  if s.loopModeOf i ≠ 1 then s
  else if m.stale then s.loopHold i 2 0x1604
  else if v.plausN i ≤ (s.loop i).above then s.loopHold i 1 0x1603
  else s

/-- The first output of CL00 after a takeover ends the gap (R491). -/
def State.gapEnd (s : State) : State :=
  match s.hma.gapFrom with
  | none => s
  | some t =>
    let g := min ((s.now - t) / 100000) 65535
    let s : State := { s with hma := { s.hma with gapFrom := none } }
    (s.set .PLT_GAP_LAST g).set .PLT_GAP_MAX (max g (s.get .PLT_GAP_MAX))

/-- A sample that ended by its deadline: delay, runs, and what the next model step needs (R419, R421). -/
def State.sampleDone (s : State) (i : Nat) (m : LoopSample) : State :=
  let s := (s.set .CTE_LOOP_LAT_LAST (min m.delay 65535) 0 i).set .CTE_LOOP_LAT_MAX (min 65535 (max m.delay (s.get .CTE_LOOP_LAT_MAX 0 i))) 0 i
  let s := (s.count .CTE_CNT_CTRL_FREEZE .CTE_LOOP_RUNS_COUNT 1 0 i).set .CTE_LOOP_STATE_CONSEC 0 0 i
  let s := if i = 0 then s.gapEnd else s
  s.modLoop i (fun x => { x with yPrev := m.y, uPrev := m.u })

/-- One sample of a loop. `law v s first`: the law on its snapshot `v`, in state `s`; a vendor loop whose output is NaN or
infinite writes nothing (R415). `bad`: the sample fails plausibility for another reason. A loop without a ready sample does
nothing. -/
def State.sampled (s : State) (i : Nat) (m : LoopSample) (law : State → State → Bool → State) (bad : Bool := false) : State :=
  match s.cte.snaps.find? (fun n => n.loop == i) with
  | none => s
  | some n =>
    if s.deadline i < m.delay then s.lateSample i
    else
      let s := s.dropReady i
      let v : State := { s with regs := n.regs, outs := n.outs, pins := n.pins, now := n.time }
      let s := s.sampleMode v i m bad
      let s :=
        if s.loopModeOf i = 2 then s.holdAct i false
        else if s.loopModeOf i ≠ 1 || (i ≠ 31 && f32Bad m.u) then s
        else
          let first := (s.loop i).first
          (law v s first).modLoop i (fun x => { x with first := false })
      s.sampleDone i m

/-! ### Control cycles (R416 to R418, R428) -/

/-- A SYNCPT event reaches the engine: the die's power in the step that it ends (R161, R462). -/
def State.stepDone (s : State) (d : Fin 8) (time : Nat) : State :=
  let a := s.cap.stepAcc[d]
  { s with cap := { s.cap with
    stepSums := if a.2 = 0 then s.cap.stepSums else s.cap.stepSums.set d ((a :: s.cap.stepSums[d]).take 8)
    stepAcc := s.cap.stepAcc.set d (0, 0), lastSync := s.cap.lastSync.set d (some time) } }

/-- The die event queues are consumed (R161). -/
def State.drainEvents (s : State) : State := forFin 8 s (fun s d =>
  let ev := (s.die d).events
  let s := s.modDie d (fun x => { x with events := [] })
  ev.foldl (fun s (e : DieEvent) => match e with
    | .hint lead c id t => s.hintEvent d lead c id t
    | .syncpt _ t => s.stepDone d t) s)

/-- CP_SET of the active set (R429). -/
def State.cpSet (s : State) : Nat :=
  ofLe (Config.shake256 ((List.range 1024).flatMap (fun w => toLe (s.get .CTE_PARAM_ACTIVE_VALUE 0 w) 4)) 64 |>.take 4)

/-- Words of the staged or active set that differ from the delivered ones, as entries of a field. -/
def State.paramEntries (s : State) (f : Fld) : List (RKey × Nat) := s.regs.filter (fun e => e.1.f == f)

/-- The staged set, as it stood at the COMMIT (R11), becomes active at the boundary after it: CP_SET, the manifest tags and the store follow (R428, R429, R203). -/
def State.paramPromote (s : State) : State :=
  match s.cte.commit with
  | none => s
  | some staged =>
    let act := staged.map (fun e => (({ e.1 with f := .CTE_PARAM_ACTIVE_VALUE } : RKey), e.2))
    let s : State := { s with
      regs := act ++ s.regs.filter (fun e => e.1.f != .CTE_PARAM_ACTIVE_VALUE), cte := { s.cte with commit := none } }
    let s := (s.set .CTE_CP_SET_ID s.cpSet).raise 0x1608
    (s.setBit .CTE_PARAM_STATUS_STORING true).retag

/-- The sample of a loop starts at this boundary: one still running is late; a loop whose function has not started is idle
(R416, R420, R426). -/
def State.sampleStart (s : State) (i : Nat) : State :=
  let s := if s.cte.ready.contains i then s.lateSample i else s
  if s.served i then
    { s with cte := { s.cte with
      ready := i :: s.cte.ready, snaps := ⟨i, s.regs, s.outs, s.pins, s.now⟩ :: s.cte.snaps } }
  else if s.loopModeOf i = 1 then (s.set .CTE_LOOP_STATE_MODE 0 0 i).modLoop i (fun x => { x with first := true })
  else s

/-- CONTROL_CYCLE_BOUNDARY: events are consumed, a committed set becomes active, and the loops whose samples start take the
snapshot (R416 to R418, R428). -/
def execControlCycleBoundary (s : State) : Host.Outcome State Fault Refusal :=
  .next <|
    if !s.engineUp then s
    else
      let c := s.cte.cycle
      let s : State := { s with cte := { s.cte with cycle := c + 1 } }
      let s := s.drainEvents.paramPromote
      let due := (List.range 32).filter (fun i =>
        s.bit .CTE_LOOP_CFG_PRESENT 0 i && decide (c % s.loopCycles i = s.get .CTE_LOOP_CFG_OFFSET 0 i))
      due.foldl (fun s (i : Nat) => s.sampleStart i) s

/-! ### Parameter sets (R427, R428) -/

/-- `CTE_PARAM_CTRL.COMMIT`: refused while a store is in progress. -/
def State.paramCommit (s : State) : State :=
  if s.bit .CTE_PARAM_STATUS_STORING then s.setBit .CTE_STATUS_LOCK_ERR true
  else { s with cte := { s.cte with commit := some (s.paramEntries .CTE_PARAM_STAGED_VALUE) } }

/-- `CTE_PARAM_CTRL.DEFAULT`: the staged set takes the firmware's defaults. -/
def State.paramDefaults (s : State) : State :=
  { s with regs := (List.range 1024).map (fun w => ((⟨.CTE_PARAM_STAGED_VALUE, 0, w⟩ : RKey), if paramNone w then 0 else (Config.paramDefault w).toNat)) ++
    s.regs.filter (fun e => e.1.f != .CTE_PARAM_STAGED_VALUE) }

/-- A write of `CTE_PARAM_STAGED`: outside the word's range it is ignored. -/
def State.paramStage (s : State) (w : Nat) (v : BitVec 32) : State :=
  let lo := ofF32 (paramLow w)
  let hi := ofF32 (paramHigh w)
  if f32Bad v || (ofF32 v).lt lo || hi.lt (ofF32 v) then s else s.set .CTE_PARAM_STAGED_VALUE v.toNat 0 w

/-- PARAM_STORE_DONE: the active set is in both flashes, or could not be stored, event 0x1609. -/
def execParamStoreDone (ok : Bool) (s : State) : Host.Outcome State Fault Refusal :=
  .next <|
    if !s.bit .CTE_PARAM_STATUS_STORING then s
    else
      let s := s.setBit .CTE_PARAM_STATUS_STORING false
      if ok then
        let words := (s.paramEntries .CTE_PARAM_ACTIVE_VALUE).map (fun e => (e.1.item, e.2))
        { s with cte := { s.cte with paramFlash := Vector.replicate 2 words } }
      else (s.setBit .CTE_PARAM_STATUS_STORE_FAIL true).raise 0x1609

def cteCntFlds : List Fld := [.CTE_LOOP_LAT_MAX, .CTE_LOOP_OVR_COUNT, .CTE_LOOP_HOLDS_COUNT, .CTE_LOOP_RUNS_COUNT]
/-- `CTE_CNT_CTRL.CLEAR`, on every loop (Table 16-6). -/
def State.cteClear (s : State) : State := s.clearAll cteCntFlds

/-! ### The customer package (R432 to R434) -/

def State.custState (s : State) : Nat := s.get .CTE_CUST_STATUS_STATE
def State.custFail (s : State) (code : Nat) : State := (s.set .CTE_CUST_STATUS_STATE 5).set .CTE_CUST_STATUS_ERR code

/-- A command while a package is stored is refused with code 0x01 (Table 16-3). -/
def State.custBusy (s : State) (f : State → State) : State := if s.custState = 3 then s.set .CTE_CUST_STATUS_ERR 1 else f s

/-- OPEN. -/
def State.custOpen (s : State) : State :=
  s.custBusy (fun s => if s.custState = 1 then s else
    let s : State := { s with cte := { s.cte with staging := [], custVerified := none } }
    s.set .CTE_CUST_STATUS_STATE 1)

/-- A data write: 4 bytes at the staging address, which advances; beyond 72 KiB it is ignored, code 0x07. -/
def State.custData (s : State) (data : Nat) : State :=
  let a := s.get .CTE_CUST_ADDR_OFFSET
  if 73728 < a + 4 then s.set .CTE_CUST_STATUS_ERR 7
  else
    let s : State := { s with cte := { s.cte with staging := (a, data % 2 ^ 32) :: s.cte.staging.filter (fun e => e.1 != a) } }
    s.set .CTE_CUST_ADDR_OFFSET (a + 4)

/-- The first `n` bytes of a staging area of words; bytes not written read 0. -/
def stagedBytes (words : List (Nat × Nat)) (n : Nat) : List Nat :=
  (List.range n).map (fun i => ((words.find? (fun e => e.1 == i / 4 * 4)).map (fun e => e.2 / 256 ^ (i % 4) % 256)).getD 0)

/-- The checks of VERIFY in Table 16-3's order; 0 when all pass. -/
def State.custCode (s : State) (bs : List Nat) : Nat :=
  let f := leAt bs
  let headOk := f 0 4 == 0x7C1E0C31 && f 4 2 == 1 && decide (1 ≤ f 6 1) && decide (f 6 1 ≤ 3) && f 7 1 == 0 && f 8 4 == bs.length &&
    decide (4 ≤ f 0x10 4) && decide (f 0x10 4 ≤ 49152) && f 0x10 4 % 4 == 0 && decide (f 0x14 4 ≤ 16384) && f 0x14 4 % 4 == 0 &&
    decide (f 0x18 2 ≤ 512) && f 0x1A 2 == 0 && f 0x38 8 == 0 && f 0x2C 4 == 0x8A01 &&
    f 8 4 == 64 + f 0x10 4 + f 0x14 4 + 128
  if !headOk then 2
  else match s.ownerKey with
    | none => 4
    | some k =>
      if f 0x0C 4 < s.rbNow rbCustomer then 5
      else if !sigOk k bs then 3
      else if 2000 * 10 ^ f 6 1 < f 0x1C 4 ∨ 2048 ≤ f 0x28 4 then 6
      else 0

/-- VERIFY. -/
def State.custVerify (s : State) : State :=
  s.custBusy (fun s =>
    if s.custState ≠ 1 then s
    else
      let n := leAt (stagedBytes s.cte.staging 12) 8 4
      if 73728 < n then s.custFail 2
      else
        let bs := stagedBytes s.cte.staging n
        let c := s.custCode bs
        if c ≠ 0 then s.custFail c
        else ({ s with cte := { s.cte with custVerified := some bs } } : State).set .CTE_CUST_STATUS_STATE 2)

/-- ACTIVATE. -/
def State.custActivate (s : State) : State :=
  s.custBusy (fun s => if s.custState = 2 then s.set .CTE_CUST_STATUS_STATE 3 else s)

/-- CL31 runs a package from its next sample start: class, core C3, offset half its period; INIT has run (R433, R434). -/
def State.custStart (s : State) (bs : List Nat) : State :=
  let s := s.dropReady 31
  let s : State := { s with cte := { s.cte with custActive := some bs } }
  let c := leAt bs 6 1
  let s := (s.setBit .CTE_LOOP_CFG_PRESENT true 0 31).set .CTE_LOOP_CFG_CLASS c 0 31
  let s := (s.set .CTE_LOOP_CFG_CORE 3 0 31).set .CTE_LOOP_CFG_OFFSET (10 ^ c / 2) 0 31
  let s := ((s.set .CTE_LOOP_STATE_MODE 0 0 31).set .CTE_LOOP_STATE_CAUSE 0 0 31).set .CTE_LOOP_STATE_CONSEC 0 0 31
  (s.set .CTE_LOOP_RESID_R_F 0 0 31).modLoop 31 (fun _ => {})

/-- CL31 stops; its destinations keep their last values. -/
def State.custStop (s : State) : State :=
  let s := s.dropReady 31
  let s : State := { s with cte := { s.cte with custActive := none } }
  (s.setBit .CTE_LOOP_CFG_PRESENT false 0 31).set .CTE_LOOP_STATE_MODE 0 0 31

/-- CUST_PACKAGE_STORED: both copies are stored and the loop starts, or the package could not be stored, code 0x08. -/
def execCustPackageStored (ok : Bool) (s : State) : Host.Outcome State Fault Refusal :=
  .next <|
    if s.custState ≠ 3 then s
    else match ok, s.cte.custVerified with
      | true, some bs =>
        let s : State := { s with cte := { s.cte with custFlash := Vector.replicate 2 (some bs) } }
        ((s.custStart bs).rbRaise rbCustomer (leAt bs 0x0C 4)).set .CTE_CUST_STATUS_STATE 4
      | _, _ => s.custFail 8

/-- DISABLE. -/
def State.custDisable (s : State) : State :=
  s.custBusy (fun s =>
    if s.custState ≠ 4 then s
    else
      let s : State := { s with cte := { s.cte with custFlash := Vector.replicate 2 none } }
      s.custStop.set .CTE_CUST_STATUS_STATE 0)

/-- One destination of the customer loop takes a value: an output word, or a management write of the breakwater's, which ignores
a value outside its range (R433). A NaN or infinite word is not written (R415). -/
def State.custOut (s : State) (k : Nat) (v : BitVec 32) : State :=
  if k < 8 then (if f32Bad v then s else s.set .CTE_CUST_OUT_VALUE v.toNat 0 k)
  else if k = 8 then (if v.toNat ≤ 4000 then s.set .BWR_FLOOR_W v.toNat else s)
  else if k = 9 then (if 10 ≤ v.toNat ∧ v.toNat ≤ 50000 then s.set .BWR_SLEW_W_PER_S v.toNat else s)
  else (if 20 ≤ v.toNat ∧ v.toNat ≤ 90 then s.set .BWR_SOC_CFG_SOC_TARGET v.toNat else s)

/-- CL31 as its program ended: its outputs, or the fault that ends a sample with nothing written, event 0x1606 (R433). -/
def State.custLaw (s : State) (e : CustEnd) : State :=
  let fault := (s.set .CTE_LOOP_STATE_MODE 3 0 31).set .CTE_LOOP_STATE_CAUSE 5 0 31 |>.raise 0x1606 31
  match e with
  | .outside => fault
  | .output ws =>
    if ws.all (fun w => decide (w.1 < 11) && bitAt (s.custField 0x28 4) w.1) then
      ws.foldl (fun s (w : Nat × BitVec 32) => s.custOut w.1 w.2) s
    else fault

/-- CL31_SAMPLE: the customer loop (R433). -/
def execCl31Sample (m : LoopSample) (e : CustEnd) (s : State) : Host.Outcome State Fault Refusal :=
  .next (s.sampled 31 m (fun _ s _ => s.custLaw e) (match e with
    | .output ws => ws.any (fun w => decide (w.1 < 8) && f32Bad w.2)
    | .outside => false))

end Sys2Proof.Machine
end

