-- ==== Sys2Proof/Machine/Loops.lean ====
section
/-! DEFINITION. The breakwater's loops and the rail commands: CL00, CL01, CL04 to CL07, CL12 and CL16 (chapters 13, 15 and 17).
A law reads its snapshot `v` and acts on `s`. -/

namespace Sys2Proof.Machine

def clamp (lo hi x : Rat) : Rat := max lo (min hi x)

/-- A value that runs linearly from `y0` at `x0` to `y1` at `x1`, and stays at the ends outside. -/
def between (x0 y0 x1 y1 x : Rat) : Rat :=
  if x ≤ x0 then y0 else if x1 ≤ x then y1 else y0 + (y1 - y0) * (x - x0) / (x1 - x0)

/-- Add a rest and a new amount, J; whole J go to a counter that saturates. -/
def State.addJoules (s : State) (f : Fld) (rest x : Rat) : State × Rat :=
  let t := rest + x
  (s.count .BWR_CNT_CTRL_FREEZE f (natOf t), t - ((natOf t : Nat) : Rat))

/-! ### Commands to the rails (R343, R345) -/

/-- Send a helm command on the active pilot's link: the next ALIVE, the CRC appended (Table 13-2). -/
def State.sendHelm (s : State) (r : Fin 50) (c : HelmCmd) : State :=
  let p := s.act
  let a := s.pwr.cmdAlive[r]
  let body := [r.val, c.en.toNat + 2 * c.hold.toNat] ++ toLe c.set 2 ++ [a % 16, 0]
  let bs := body ++ toLe (crc16 body) 2
  let s : State := { s with pwr := { s.pwr with
    cmdAlive := s.pwr.cmdAlive.set r ((a + 1) % 16), cmdSent := (r.val, c) :: s.pwr.cmdSent.filter (fun e => e.1 != r.val) } }
  let s := s.snoop 5 bs true
  if (s.pilot p).linkEn && (s.pilot p).linkOut then s.out (.helm p.val r bs) else s

/-- Set-points of the rails at their start, mV (Table 13-1); a VC rail starts at its die's table voltage (R477). -/
def State.startMv (s : State) (r : Nat) : Nat :=
  match railFam r with
  | 0 => 8000
  | 1 => s.vtApplied (r - 2) (s.die (Fin.ofNat 8 (r - 2))).code
  | 2 => 750
  | 3 => 1100
  | 4 => 400
  | 5 => 1800
  | 6 => 800
  | 7 => 1200
  | 8 => 3300
  | 9 => 900
  | _ => 0

/-- May the pilot turn a rail on: IB rails once the hot-swap FET is closed, the others once the IB rails are ready (Table 3-6), VC
rails not during a coolant trip (R474), none in a removal. -/
def State.railWanted (v : State) (r : Nat) : Bool :=
  decide (v.get .HPL_STATE_STATE ≤ 2) &&
    (if r < 2 then v.bit .PWR_IN_STATUS_HS_ON && v.ready rFWV && v.pins.pwrEn
     else v.ready rIB && !(railFam r == 1 && v.bit .CAP_STATUS_COOL_TRIP))

/-- The rails that start now are commanded on; the boot rails' commands carry their set-points (R347). -/
def State.railsUp (v s : State) : State :=
  let s := (allFin 50).foldl (fun s (r : Fin 50) =>
    let c := s.wanted r
    if r.val < 46 then
      if !c.en && v.railWanted r && !(s.rail r).latched then s.setWanted r { c with en := true, set := s.startMv r } else s
    else if r.val < 49 && decide (c.set ≠ s.startMv r) then s.setWanted r { c with en := true, set := s.startMv r }
    else s) s
  s

/-- One helm controller's commands in a cycle: every rail whose command changed, else one rail resent in turn (R345). BWC's are
CL00's while that loop is automatic (R419). -/
def State.helmRefresh (s : State) (h : Fin 4) : State :=
  let rs := (allFin 50).filter (fun r : Fin 50 => railHelm r == h.val && !(r == 49 && s.loopModeOf 0 == 1))
  let changed := rs.filter (fun r : Fin 50 => (s.pwr.cmdSent.find? (fun e => e.1 == r.val)).map (·.2) != some (s.wanted r))
  match changed, rs with
  | [], r0 :: _ =>
    let r := (rs.find? (fun r : Fin 50 => decide (s.pwr.refreshed[h] < r.val))).getD r0
    let s := s.sendHelm r (s.wanted r)
    { s with pwr := { s.pwr with refreshed := s.pwr.refreshed.set h r.val } }
  | _, _ => changed.foldl (fun s (r : Fin 50) => s.sendHelm r (s.wanted r)) s

/-- CL01_SAMPLE: rail commands (R345, R306, R307, R405). -/
def execCl01Sample (m : LoopSample) (s : State) : Host.Outcome State Fault Refusal :=
  .next (s.sampled 1 m (fun v s _ => forFin 4 (State.railsUp v s) (fun s h => s.helmRefresh h)))

/-! ### The input limiter (R401 to R403, R425) -/

/-- The input's target: 0 while BWC holds the node, the lower CAP_FAST_N level at once, else P_set (R401, R403). -/
def State.inputTarget (v : State) : Rat :=
  if v.riding || decide (5 ≤ v.get .HPL_STATE_STATE) then 0
  else if !v.pins.capFastN then min v.outs.pset (v.get .CAP_FAST_LEVEL_W : Nat)
  else v.outs.pset

/-- The set-point in force after one cycle, and whether it still ramps (R425). -/
def State.limiterRef (v s : State) (first : Bool) : Rat × Bool :=
  let goal := v.inputTarget
  let ramp := (ofF32 (v.loopWord 0 29)).rat
  if ramp ≤ 0 || !(first || s.bit .CTE_LOOP_STATE_RAMP 0 0) then (goal, false)
  else
    let r : Rat := if first then v.pIn
      else if s.bwr.ref < goal then min goal (s.bwr.ref + ramp / 100000) else max goal (s.bwr.ref - ramp / 100000)
    (r, decide (r ≠ goal))

/-- A power as a signed command, cut toward 0, W. -/
def wattsCmd (x : Rat) : Int := if 0 ≤ x then x.floor else -((-x).floor)

/-- CL00's law: the command that makes the input draw its set-point, clamped to R397's limits; the integrator stops at a limit, and
a clamp that holds asks CL04 to re-base (R401, R402, R424, R425). -/
def State.limiterLaw (v s : State) (first : Bool) : State :=
  let (ref, ramps) := State.limiterRef v s first
  let err := v.pIn - ref
  let hint := v.ffHint
  let ff := v.demand + v.outs.ffTide + hint - ref
  let kp := v.param 0 0
  let ki := v.param 0 1
  let held : Rat := ((s.rail 49).target : Rat)
  let acc := if first then held - (ff + kp * err) else if s.bwr.atLimit then s.bwr.acc else s.bwr.acc + ki * err
  let raw := ff + kp * err + acc
  let cmd := clamp (-v.outs.pChg) v.outs.pDis raw
  let s : State := { s with
    bwr := { s.bwr with acc := acc, ref := ref, atLimit := decide (cmd = -v.outs.pChg) || decide (cmd = v.outs.pDis) }
    outs := { s.outs with cmd := cmd, ffHint := hint, rebase := decide (raw < -v.outs.pChg) || decide (v.outs.pDis < raw) || first } }
  let s := (s.setBit .CTE_LOOP_STATE_RAMP ramps 0 0).setBit .BWR_STATUS_REGULATING true
  let s := (s.set .BWR_BWC_CMD_W (enc 16 (wattsCmd cmd))).set .BWR_DEMAND_W (wattsOf v.demand)
  let s := s.setWanted 49 { s.wanted 49 with set := enc 16 (wattsCmd cmd) }
  s.sendHelm 49 (s.wanted 49)

/-- CL00_SAMPLE. -/
def execCl00Sample (m : LoopSample) (s : State) : Host.Outcome State Fault Refusal := .next (s.sampled 0 m State.limiterLaw)

/-! ### The input set-point (R400, R402, R411) -/

/-- The tide bin of a moment (R407). -/
def State.tideBin (s : State) (t : Nat) : Nat :=
  let n := s.bwr.anchors.length
  match s.bwr.lastAnchor with
  | some a => if n = 0 ∨ s.bwr.anchors.sum = 0 then 0 else 1024 * ((t - a) * n) / s.bwr.anchors.sum % 1024
  | none => 0

/-- A tide value, W. -/
def State.tideAt (s : State) (b : Nat) : Rat := ((s.bwr.tide.find? (fun e => e.1 == b)).map (·.2)).getD 0

/-- SOC, %. -/
def State.soc (s : State) : Rat := (s.get .BWR_SOC_PCT_X100 : Rat) / 100

/-- CL04's law. Without a pack that is regulated P_set follows demand up to the cap; the filter starts at the demand of its first sample
(log entry 18). -/
def State.setPointLaw (v s : State) (first : Bool) : State :=
  let d := v.demand
  let cap := v.outs.capEff
  let pin := v.pIn
  let floor : Rat := v.get .BWR_FLOOR_W
  let slew : Rat := (v.get .BWR_SLEW_W_PER_S : Rat) / 10000
  let dp := if v.tideLocked && v.bit .BWR_TIDE_CFG_ENABLE then s.tideAt (s.tideBin v.now) else 0
  let df := if first then d - dp else v.outs.df + (d - dp - v.outs.df) / (10 * (v.get .BWR_FILTER_MS : Rat))
  let goalSoc : Rat := if v.bit .BWR_STATUS_DRAIN then 30 else (v.get .BWR_SOC_CFG_SOC_TARGET : Rat)
  let t := min (max (df + (v.get .BWR_SOC_CFG_G_SOC : Rat) * (goalSoc - v.soc)) floor) cap
  let base := if first || v.outs.rebase then pin else s.outs.pset
  let pset :=
    if v.riding || decide (5 ≤ v.get .HPL_STATE_STATE) then 0
    else if v.iso ≠ 2 || !v.bit .BWR_STATUS_REGULATING then min d cap
    else if cap < base then cap
    else base + clamp (-slew) slew (t - base)
  let moved := pin - s.bwr.pinPrev
  let broke := v.outs.rebase && !first && decide (slew < (if moved < 0 then -moved else moved))
  let s := if broke then s.count .BWR_CNT_CTRL_FREEZE .BWR_SLEW_BREAK_COUNT 1 else s
  let s : State := { s with
    outs := { s.outs with pset := pset, df := df, rebase := false }, bwr := { s.bwr with pinPrev := pin } }
  let s := ((s.set .BWR_PIN_SET_W (wattsOf pset)).set .BWR_DEMAND_DF_W (wattsOf df)).set .BWR_DEMAND_W (wattsOf d)
  s.setBit .BWR_STATUS_FLOOR_HELD (decide (0 < floor) && decide (pset = floor))

/-- CL04_SAMPLE. -/
def execCl04Sample (m : LoopSample) (s : State) : Host.Outcome State Fault Refusal := .next (s.sampled 4 m State.setPointLaw)

/-! ### The tide table (R407) -/

/-- CL05's law: the bins that the phase has passed since the last sample learn, and ff_tide looks 20 µs ahead. -/
def State.tideLaw (v s : State) (_first : Bool) : State :=
  let pin := v.pIn
  let rip := match s.bwr.ripple with
    | none => (pin, pin, pin, 1)
    | some (lo, hi, sum, n) => (min lo pin, max hi pin, sum + pin, n + 1)
  let s : State := { s with bwr := { s.bwr with ripple := some rip } }
  if !v.tideLocked || !v.bit .BWR_TIDE_CFG_ENABLE then
    { s with outs := { s.outs with ffTide := 0 }, bwr := { s.bwr with lastBin := s.tideBin v.now } }
  else
    let b := s.tideBin v.now
    let n := (b + 1024 - s.bwr.lastBin) % 1024
    let x := v.demand - v.outs.df
    let tide := (List.range n).foldl (fun (l : List (Nat × Rat)) (j : Nat) =>
      let i := (s.bwr.lastBin + 1 + j) % 1024
      let old := ((l.find? (fun e => e.1 == i)).map (·.2)).getD 0
      (i, old + (x - old) / 8) :: l.filter (fun e => e.1 != i)) s.bwr.tide
    let s : State := { s with bwr := { s.bwr with tide := tide, lastBin := b } }
    let ff := s.tideAt (s.tideBin (v.now + 20 * us)) - s.tideAt b
    { s with outs := { s.outs with ffTide := ff } }

/-- CL05_SAMPLE. -/
def execCl05Sample (m : LoopSample) (s : State) : Host.Outcome State Fault Refusal := .next (s.sampled 5 m State.tideLaw)

/-! ### Ballast (R408 to R410) -/

/-- Power of the eight VC rails, W. -/
def State.vcPower (v : State) : Vector Rat 8 :=
  Vector.ofFn (fun d : Fin 8 =>
    ((v.get .PWR_RAIL_VOUT_MV (2 + d) : Nat) : Rat) * (dec 16 (v.get .PWR_RAIL_IOUT_A_X10 (2 + d)) : Rat) / 10000)

/-- Gangs of a die that may run ballast now and do not. -/
def State.gangsFree (s : State) (d : Fin 8) : List Nat :=
  (List.range 128).filter (fun g => ((s.die d).gang? g).isSome && s.gangBallast d g && !(s.die d).ballast.contains g)

/-- Tiles that run ballast. -/
def State.ballastTiles (s : State) : Nat :=
  ((allFin 8).map (fun d : Fin 8 => ((s.die d).ballast.map (fun (g : Nat) => (((s.die d).gang? g).map (fun x => x.tiles.length)).getD 0)).sum)).sum

/-- CL06's law: gangs are enabled or withdrawn one die at a time until the measured rise of VC power meets the target; the floor that
ballast cannot hold is counted, event 0x1504 once for each occurrence. -/
def State.ballastLaw (v s : State) (_first : Bool) : State :=
  let running := (allFin 8).any (fun d : Fin 8 => !(s.die d).ballast.isEmpty)
  let vc := v.vcPower
  let s : State := if running then s else { s with bwr := { s.bwr with vcBase := vc } }
  let rise : Vector Rat 8 := if running then Vector.ofFn (fun d : Fin 8 => max 0 (vc[d] - s.bwr.vcBase[d])) else Vector.replicate 8 0
  let s : State := { s with bwr := { s.bwr with ballastW := rise } }
  let own := rise.toList.sum
  let floor : Rat := v.get .BWR_FLOOR_W
  let short := floor - v.demand - v.outs.pChg
  let may := v.ballastMay
  let d : Fin 8 := Fin.ofNat 8 s.bwr.rotate
  let more := (allFin 8).any (fun e : Fin 8 => !(s.gangsFree e).isEmpty)
  let s :=
    if !may then (if running then s.ballastStop else s)
    else
      let s : State := { s with bwr := { s.bwr with stopBallast := false, rotate := (s.bwr.rotate + 1) % 8 } }
      let s := s.modDie d (fun x => { x with ballast := x.ballast.filter (fun g => s.gangBallast d g) })
      if 0 < short then s.modDie d (fun x => { x with ballast := x.ballast ++ s.gangsFree d })
      else if short < 0 then s.modDie d (fun x => { x with ballast := [] })
      else s
  let miss := decide (0 < floor) && decide (floor ≤ v.capNow) && decide (v.outs.pChg = 0) && decide (v.demand < floor) &&
    decide (v.pIn < floor) && decide (v.outs.pset = floor) && !(may && more)
  let first := miss && !s.bwr.floorMissed
  let s : State := { s with bwr := { s.bwr with floorMissed := miss } }
  let s := if miss then s.count .BWR_CNT_CTRL_FREEZE .BWR_FLOOR_BREAK_COUNT 1 else s
  let s := if first then s.raise 0x1504 else s
  let (s, rest) := s.addJoules .BWR_BALLAST_J_J s.bwr.jRest (own / 10000)
  let s : State := { s with bwr := { s.bwr with jRest := rest } }
  let s := (s.set .BWR_BALLAST_STATUS_TILES s.ballastTiles).set .BWR_BALLAST_STATUS_W (min 8191 (natOf own))
  s.setBit .BWR_STATUS_BALLAST (decide (s.ballastTiles ≠ 0))

/-- CL06_SAMPLE. -/
def execCl06Sample (m : LoopSample) (s : State) : Host.Outcome State Fault Refusal := .next (s.sampled 6 m State.ballastLaw)

/-! ### Reserve pacing (R402) -/

/-- Put the pacing duty `k` of 8 on every running die (8 withdraws it), and the berths' requests with it (R25, R402). -/
def State.paceReserve (s : State) (k : Nat) : State :=
  let s := forFin 8 s (fun s d => s.modDie d (fun x => { x with duReserve := if k = 8 ∨ !s.running d then 0 else k }))
  let s := s.setBit .BWR_STATUS_RESERVE_PACE (decide (k ≠ 8))
  let s : State := { s with bwr := { s.bwr with duty := k, dutyAt := s.now } }
  forFin 8 s (fun s b =>
    if (s.berth b).desc.isNone then s
    else if k = 8 then s.unaskRate b 2
    else s.askRate b 2 (codeOfRank (max 1 (rankOf (s.berthCode b) * k / 8))))

/-- CL07's law: duty 7/8 when the input would exceed the cap, one step down each 100 µs, one up each 10 ms. -/
def State.reserveLaw (v s : State) (_first : Bool) : State :=
  let d := v.demand
  let room := v.outs.capEff + v.outs.pDis
  let k := s.bwr.duty
  if room < d then
    if k = 8 then (s.paceReserve 7).count .BWR_CNT_CTRL_FREEZE .BWR_RESERVE_HITS_COUNT 1
    else s.paceReserve (max 1 (k - 1))
  else if k = 8 then s
  else if d < room - v.outs.capEff / 20 && decide (s.bwr.dutyAt + 10 * ms ≤ s.now) then s.paceReserve (k + 1)
  else s

/-- CL07_SAMPLE. -/
def execCl07Sample (m : LoopSample) (s : State) : Host.Outcome State Fault Refusal := .next (s.sampled 7 m State.reserveLaw)

/-! ### State of charge and limits (R394, R397, R393) -/

/-- The discharge limit's factor for the energy: the reserve counts only while loss of input is ridden or a removal runs (R394). -/
def State.energyFactor (v : State) : Rat :=
  let e := v.packEnergy
  let spend := v.riding || decide (3 ≤ v.get .HPL_STATE_STATE)
  if spend then (if 0 < e then 1 else 0)
  else if v.eUse = 0 then 0 else clamp 0 1 ((e - v.reserve) / (v.eUse / 100))

/-- P_dis and P_chg (R397), 0 without a closed isolation; in recovery BWC only charges, at 10 A on the pack side (R393). -/
def State.bwcLimits (v : State) : Rat × Rat :=
  if v.iso ≠ 2 ∨ v.cells = 0 then (0, 0)
  else
    let low : Rat := ((v.cellV.foldl min 65535 : Nat) : Rat) / 10000
    let high : Rat := ((v.cellV.foldl max 0 : Nat) : Rat) / 10000
    let full := decide (v.eUse ≤ v.packEnergy)
    let chg := if full then 0 else 4000 * clamp 0 1 ((38 / 10 - high) * 20) * v.outs.chgFactor
    let dis := 4000 * clamp 0 1 ((low - 22 / 10) * 10) * v.energyFactor * v.outs.disFactor
    if v.bit .BWR_STATUS_RECOVERY then (0, min chg ((v.get .CEL_STACK_MV : Rat) / 100)) else (dis, chg)

/-- CL12's law: energy, SOC, limits, the charge and discharge meters, the estimate of R394, and event 0x1503. -/
def State.limitsLaw (v s : State) (_first : Bool) : State :=
  let e := v.packEnergy
  let use := v.eUse
  let soc := if use = 0 ∨ v.bit .BWR_STATUS_RECOVERY then 0 else e / use * 100
  let (dis, chg) := v.bwcLimits
  let band := v.iso == 2 && decide (use ≠ 0) && decide (e ≤ v.reserve + use / 100)
  let first := band && !s.bwr.reserveBand
  let s : State := { s with
    outs := { s.outs with pDis := dis, pChg := chg, energy := e }, bwr := { s.bwr with reserveBand := band } }
  let s := (s.set .BWR_SOC_PCT_X100 (min 16383 (natOf (soc * 100)))).set .BWR_SOC_RES_X100
    (if use = 0 then 0 else min 16383 (natOf (v.reserve / use * 10000)))
  let s := (s.set .BWR_ENERGY_J (natOf e)).set .BWR_E_USE_J (natOf use)
  let s := (s.set .BWR_LIMITS_DIS_W (wattsOf dis)).set .BWR_LIMITS_CHG_W (wattsOf chg)
  let s := (s.setBit .BWR_STATUS_AT_RESERVE band).setBit .BWR_STATUS_FULL (decide (chg = 0))
  let (s, dr) := s.addJoules .BWR_DIS_J_J s.bwr.disRest (max 0 v.pBwc / 1000)
  let (s, cr) := s.addJoules .BWR_CHG_J_J s.bwr.chgRest (max 0 (-v.pBwc) / 1000)
  let s : State := { s with bwr := { s.bwr with disRest := dr, chgRest := cr } }
  let s := if v.iso = 2 then
      let (x, s) := s.freeNat 53
      s.set .BWR_CAP_EST_F x
    else s
  if first then s.raise 0x1503 else s

/-- CL12_SAMPLE. -/
def execCl12Sample (m : LoopSample) (s : State) : Host.Outcome State Fault Refusal := .next (s.sampled 12 m State.limitsLaw)

/-! ### Pack temperature (R451) -/

/-- The discharge and charge factors of Table 17-1; 0.25 both without a valid thermistor. -/
def packFactors (temps : List Int) : Rat × Rat :=
  match temps with
  | [] => (1 / 4, 1 / 4)
  | t :: ts =>
    let hi : Rat := ((ts.foldl max t : Int) : Rat) / 10
    let lo : Rat := ((ts.foldl min t : Int) : Rat) / 10
    (between 60 1 70 0 hi * between (-30) 0 (-20) 1 lo,
     between 55 1 65 0 hi * (if lo < -20 then 0 else between (-20) (1 / 4) 0 1 lo))

/-- CL16's law: DERATE and event 0x170B once for each occurrence. -/
def State.derateLaw (v s : State) (_first : Bool) : State :=
  let (dis, chg) := packFactors v.tempsValid
  let on := decide (dis < 1) || decide (chg < 1)
  let once := on && !s.cel.derated
  let s : State := { s with
    outs := { s.outs with disFactor := dis, chgFactor := chg }, cel := { s.cel with derated := on } }
  let s := (s.setBit .CEL_STATUS_DERATE on).set .CEL_DERATE_DIS_PCT (natOf (dis * 100))
  let s := s.set .CEL_DERATE_CHG_PCT (natOf (chg * 100))
  if once then s.raise 0x170B else s

/-- CL16_SAMPLE. -/
def execCl16Sample (m : LoopSample) (s : State) : Host.Outcome State Fault Refusal := .next (s.sampled 16 m State.derateLaw)

end Sys2Proof.Machine
end

