-- ==== Sys2Proof/Machine/CapLoops.lean ====
section
/-! DEFINITION. The capping, thermal and ageing loops of chapter 18: CL03, CL13, CL14, CL15, CL17 and CL20. -/

namespace Sys2Proof.Machine

/-! ### The load model (R460) -/

/-- η as `CAP_ETA` holds it; 0.90 before the first second has been measured. -/
def State.eta (s : State) : Rat := if s.get .CAP_ETA_PERMIL = 0 then 9 / 10 else (s.get .CAP_ETA_PERMIL : Rat) / 1000

/-- Output power of a rail, mean over the last 1 ms, W. -/
def State.railMean (s : State) (r : Nat) : Rat := s.pwr.pMean[(Fin.ofNat 50 r : Fin 50)]

/-- Total output power of the rails that feed loads (VC to VAUX). -/
def State.totalOut (s : State) : Rat := ((List.range 45).map (fun (i : Nat) => s.railMean (2 + i))).sum

/-- The quay load of a quay. -/
def State.quayLoad (s : State) (q : Nat) : Rat := s.railMean (10 + q) + s.railMean (18 + q) + s.railMean (26 + q) + s.railMean (34 + q)

/-- The quay load attributed to a berth: its GiB of the 48 GiB of each quay's stacks. -/
def State.berthQuays (s : State) (b : Fin 8) : Rat :=
  match (s.berth b).desc with
  | none => 0
  | some y => ((List.range 8).map (fun (q : Nat) =>
      let g := ((y.hbm[2 * q]?).getD (0, 0)).2 + ((y.hbm[2 * q + 1]?).getD (0, 0)).2
      s.quayLoad q * (g : Rat) / 48)).sum

/-- L_b and the common load. -/
def State.berthLoad (s : State) (b : Fin 8) : Rat :=
  ((s.berthDies b).map (fun d : Fin 8 => s.railMean (2 + d.val))).sum + s.berthQuays b
def State.commonLoad (s : State) : Rat := s.totalOut - ((allFin 8).map (fun b : Fin 8 => s.berthLoad b)).sum

/-! ### The effective cap (R458, R459, R475) -/

/-- The hottest power stage, °C. -/
def State.hotStage (v : State) : Nat :=
  (v.regs.filter (fun e => e.1.f == .PWR_RAIL_PH_INFO_TEMP)).foldl (fun a e => max a e.2) 0

/-- The thermal term: outlet and stage (R475). -/
def State.thermalTerm (v : State) : Rat :=
  let t : Rat := if v.pins.toutFailed then 60 else (dec 16 (v.get .CAP_COOL_TOUT_X10) : Rat) / 10
  let outlet := if 65 < t then 1000 else between 55 4000 65 2000 t
  min outlet (between 130 4000 145 2500 (v.hotStage : Rat))

/-- The berth-cap term, present when every existing berth has a cap (Table 18-1). -/
def State.berthTerm (v : State) : Option Rat :=
  let bs := (allFin 8).filter (fun b : Fin 8 => (v.berth b).desc.isSome)
  if bs.isEmpty || bs.any (fun b : Fin 8 => v.get .BTH_B_CAP_WATTS b == 0) then none
  else some ((((bs.map (fun b : Fin 8 => v.get .BTH_B_CAP_WATTS b)).sum : Nat) : Rat) + v.commonLoad / v.eta)

/-- The terms that are present, with their codes, in the order of Table 18-1. -/
def State.capTerms (v : State) : List (Nat × Rat) :=
  [(0, ((v.get .CAP_MOD_LIMIT_W : Nat) : Rat))] ++
    (if v.get .CAP_RACK_W = 0 then [] else [(1, ((v.get .CAP_RACK_W : Nat) : Rat))]) ++
    (match v.berthTerm with | some x => [(2, x)] | none => []) ++
    (if v.pins.capFastN then [] else [(3, ((v.get .CAP_FAST_LEVEL_W : Nat) : Rat))]) ++
    [(4, v.outs.coolTerm), (5, v.thermalTerm)]

/-- The lowest of some terms, the first among equals. -/
def lowestTerm (l : List (Nat × Rat)) : Nat × Rat := l.foldl (fun a t => if t.2 < a.2 then t else a) (0, 100000)

/-- CL03's law. -/
def State.capLaw (v s : State) (_first : Bool) : State :=
  let low := lowestTerm v.capTerms
  let under := decide (low.2 < 700)
  let eff := clamp 700 4000 low.2
  let once := under && !s.cap.floorTerm
  let s : State := { s with outs := { s.outs with capEff := eff }, cap := { s.cap with floorTerm := under } }
  let s := (s.set .CAP_EFF_W (natOf eff)).set .BWR_PIN_CAP_W (natOf eff)
  let s := (s.set .CAP_STATUS_LIMIT_SRC (if under then 6 else low.1)).set .CAP_TERMS_THERM_W (natOf v.thermalTerm)
  let s := s.set .CAP_TERMS_BERTH_W (min 8191 (natOf (v.berthTerm.getD 0)))
  if once then s.raise 0x180D else s

/-- CL03_SAMPLE. -/
def execCl03Sample (m : LoopSample) (s : State) : Host.Outcome State Fault Refusal := .next (s.sampled 3 m State.capLaw)

/-! ### The phase learner (R462) -/

def meanOf (l : List Rat) : Rat := if l.isEmpty then 0 else l.sum / ((l.length : Nat) : Rat)

/-- Mean power of a die between two times. -/
def State.powerMean (s : State) (d : Fin 8) (lo hi : Nat) : Rat :=
  meanOf (((s.cap.hist[d]).filter (fun e => decide (lo ≤ e.1) && decide (e.1 < hi))).map (·.2))

/-- An observation enters a learned value with weight 1/8; the first replaces it. -/
def learnIn (old x : Rat) (first : Bool) : Rat := if first then x else old + (x - old) / 8

/-- Put a learned value. -/
def CapSt.learn (c : CapSt) (k : Nat × Nat) (v : Rat × Rat) : CapSt := { c with learned := (k, v) :: c.learned.filter (fun e => e.1 != k) }

/-- One announcement's step: the added power 200 µs after its start, then the duration once power is back within 10%. -/
def State.learnStep (s : State) (r : LearnRun) : State :=
  let key := (r.berth, r.id)
  let old := (s.cap.learned.find? (fun e => e.1 == key)).map (·.2)
  let rest := s.cap.runs.filter (fun x => !(x == r))
  if !r.done then
    if s.now < r.start + 200 * us then s
    else
      let pre := meanOf (r.dies.map (fun d : Fin 8 => s.powerMean d (r.start - 200 * us) r.start))
      let post := meanOf (r.dies.map (fun d : Fin 8 => s.powerMean d r.start (r.start + 200 * us)))
      let o := old.getD (0, 0)
      let c := s.cap.learn key (learnIn o.1 (post - pre) old.isNone, o.2)
      { s with cap := { c with runs := { r with pre := pre, done := true } :: rest } }
  else
    let now := meanOf (r.dies.map (fun d : Fin 8 => (((s.cap.hist[d]).head?).map (·.2)).getD 0))
    let dur := (s.now - r.start) / us
    if now ≤ r.pre * 11 / 10 ∨ 65535 ≤ dur then
      let o := old.getD (0, 0)
      let c := s.cap.learn key (o.1, learnIn o.2 ((min dur 65535 : Nat) : Rat) (decide (o.2 = 0)))
      { s with cap := { c with runs := rest } }
    else s

/-- CL13's law: the learned entries, and each die's mean over the last 10 ms. -/
def State.learnLaw (_v s : State) (_first : Bool) : State :=
  let s := s.cap.runs.foldl (fun s (r : LearnRun) => s.learnStep r) s
  { s with cap := { s.cap with
    tenMs := Vector.ofFn (fun d : Fin 8 => (s.railMean (2 + d.val) :: s.cap.tenMs[d]).take 10) } }

/-- CL13_SAMPLE. -/
def execCl13Sample (m : LoopSample) (s : State) : Host.Outcome State Fault Refusal := .next (s.sampled 13 m State.learnLaw)

/-- P̄ of a die: its mean over the last 8 steps, or over the last 10 ms without a SYNCPT. -/
def State.stepMean (s : State) (d : Fin 8) : Rat :=
  let l := s.cap.stepSums[d]
  let n := (l.map (·.2)).sum
  let recent : Bool := match s.cap.lastSync[d] with
    | some t => decide (s.now < t + 10 * ms)
    | none => false
  if recent && decide (n ≠ 0) then (l.map (·.1)).sum / (n : Rat) else meanOf s.cap.tenMs[d]

/-! ### Thermal and memory-bound requests (R466, R469) -/

/-- A hotspot of a die reads at or above `t`, 1/8 °C. -/
def State.dieHot (v : State) (d : Fin 8) (t : Int) : Bool :=
  (List.range 24).any (fun k => v.sensorValid d k && decide (t ≤ dec 16 (v.get .CDC_TEMP_TEMP d k)))

/-- A code some ranks below another, at least a rank. -/
def belowCode (c n least : Nat) : Nat := codeOfRank (max least (rankOf c - n))

/-- The REASON 0 request of a berth (R469). -/
def State.hotAsk (v s : State) (b : Fin 8) : State :=
  let hot := (s.berthDies b).any (fun d : Fin 8 => v.dieHot d 760)
  let put := fun (s : State) (x : Option (Nat × Option Nat)) => ({ s with cap := { s.cap with hotReq := s.cap.hotReq.set b x } } : State)
  match s.cap.hotReq[b] with
  | none =>
    if hot then
      let c := belowCode (s.berthCode b) 8 1
      (put s (some (c, none))).askRate b 0 c
    else s
  | some (c, since) =>
    if v.cooler b 736 then (put s none).unaskRate b 0
    else if rankOf c < rankOf (s.berthCode b) then put s (some (c, none))
    else match since with
      | none => put s (some (c, some s.now))
      | some t =>
        if hot && decide (t + 10 * ms ≤ s.now) then
          let c := belowCode c 8 1
          (put s (some (c, none))).askRate b 0 c
        else s

/-- The REASON 3 request of a berth in a domain (R466). -/
def State.memAsk (v s : State) (b : Fin 8) : State :=
  let on := v.bit .CAP_MEMB_ENABLE && !s.noDomain b
  let ratio := (s.rhdOf b).memRatio
  let th := v.get .CAP_MEMB_RATIO
  let since := if on && decide (th < ratio) then some (s.cap.memSince[b].getD s.now) else none
  let s : State := { s with cap := { s.cap with memSince := s.cap.memSince.set b since } }
  let put := fun (s : State) (x : Bool) => ({ s with cap := { s.cap with memReq := s.cap.memReq.set b x } } : State)
  if s.cap.memReq[b] then
    if on && decide (th ≤ ratio + 6554) then s else (put s false).unaskRate b 3
  else match since with
    | some t => if t + 10 * ms ≤ s.now then (put s true).askRate b 3 (belowCode (s.berthCode b) 4 9) else s
    | none => s

/-- CL14's law: HOT of each die with event 0x1802, then the requests of each berth. -/
def State.requestLaw (v s : State) (_first : Bool) : State :=
  let s := forFin 8 s (fun s d =>
    let hot := v.dieHot d 760
    let was := bitAt (s.get .CAP_STATUS_HOT) d
    let s := s.set .CAP_STATUS_HOT (putBit (s.get .CAP_STATUS_HOT) d hot)
    if hot && !was then s.raise 0x1802 d else s)
  forFin 8 s (fun s b => if (s.berth b).desc.isNone then s else State.memAsk v (State.hotAsk v s b) b)

/-- CL14_SAMPLE. -/
def execCl14Sample (m : LoopSample) (s : State) : Host.Outcome State Fault Refusal := .next (s.sampled 14 m State.requestLaw)

/-! ### Sharing the cap (R461, R463) -/

/-- f_eff of a code, MHz (R104). -/
def codeMhz (c : Nat) : Rat := if c < 0x80 then (800 + 25 * c : Nat) else ((100 * (c - 0x80) : Nat) : Rat)

/-- Relative power of a die at a code: f_eff × V². -/
def State.codePower (s : State) (d : Fin 8) (c : Nat) : Rat :=
  codeMhz c * ((s.vtApplied d c : Nat) : Rat) * ((s.vtApplied d c : Nat) : Rat)

/-- L_b(c). -/
def State.loadAt (s : State) (b : Fin 8) (c : Nat) : Rat :=
  s.berthQuays b + ((s.berthDies b).map (fun d : Fin 8 =>
    s.stepMean d * s.codePower d c / s.codePower d (s.die d).code)).sum

/-- The code sought: the highest permitted whose predicted load meets the share, else 0x81. -/
def State.codeSought (s : State) (b : Fin 8) (share : Rat) : Nat :=
  let top := rankOf (s.berthMax b)
  let ranks := (List.range top).map (fun i => top - i)
  ((ranks.find? (fun r => decide (s.loadAt b (codeOfRank r) ≤ share))).map codeOfRank).getD 0x81

/-- The sharing of R461 among (berth, weight, want): shares by berth. -/
def shareOut : Nat → List (Fin 8 × Nat × Rat) → Rat → List (Fin 8 × Rat)
  | 0, _, _ => []
  | n + 1, open_, budget =>
    let x := budget / (((open_.map (fun e => e.2.1)).sum : Nat) : Rat)
    let done := open_.filter (fun e => decide (e.2.2 ≤ x * (e.2.1 : Rat)))
    if done.isEmpty then open_.map (fun e => (e.1, x * (e.2.1 : Rat)))
    else
      done.map (fun e => (e.1, e.2.2)) ++
        shareOut n (open_.filter (fun e => !decide (e.2.2 ≤ x * (e.2.1 : Rat)))) (budget - (done.map (fun e => e.2.2)).sum)

/-- Shares of the berths with a running die. -/
def State.shares (v s : State) : List (Fin 8 × Rat) :=
  let bs := (allFin 8).filter (fun b : Fin 8 => (s.berthDies b).any (fun d => s.running d))
  let want := fun (b : Fin 8) =>
    let l := s.loadAt b (s.berthMax b)
    let w := v.get .BTH_B_CAP_WATTS b
    if w = 0 then l else min l ((w : Rat) * v.eta)
  shareOut 9 (bs.map (fun b : Fin 8 => (b, ((s.berth b).desc.map (·.capWeight)).getD 0, want b))) (v.outs.capEff * v.eta - s.commonLoad)

/-! ### Stages (R467, R468) -/

/-- Give every die of a berth a demotion request (R467, R141). -/
def State.demoteBerth (s : State) (b : Fin 8) (k : Nat) : State :=
  let s : State := { s with cap := { s.cap with demote := s.cap.demote.set b k } }
  (s.berthDies b).foldl (fun s (d : Fin 8) => s.set .CDC_DEMOTE_REQ k d) s

/-- Move a berth to a stage, with what entering or leaving it does (Table 18-2). -/
def State.toStage (s : State) (b : Fin 8) (st : Nat) : State :=
  let was := s.get .CAP_SHARE_STAGE 0 b
  let s := s.set .CAP_SHARE_STAGE st 0 b
  let s : State := { s with cap := { s.cap with
    stageMove := s.cap.stageMove.set b s.now, exitSince := s.cap.exitSince.set b none
    overSince := s.cap.overSince.set b (if st = 3 ∧ was = 2 then some s.now else none) } }
  if st = 3 ∧ was = 2 then (s.demoteBerth b 1).raise 0x1808 b
  else if st = 4 then
    let s := (s.berthDies b).foldl (fun s (d : Fin 8) => s.askPark d .cap) s
    (s.count .CAP_CNT_CTRL_FREEZE .CAP_PARKS_COUNT 1).raise 0x1809 b
  else if st = 3 then s.endLatch 0x18 b
  else if st = 2 ∧ was = 3 then s.demoteBerth b 0
  else s

/-- One step of a berth's stages: at most one move in 10 ms (R468). -/
def State.stageStep (v s : State) (b : Fin 8) (share : Rat) (code : Nat) : State :=
  let st := s.get .CAP_SHARE_STAGE 0 b
  let load := s.berthLoad b
  let ds := s.berthDies b
  let runs := ds.any (fun d => s.running d)
  let above := decide (share < load) && runs
  let slow := ds.all (fun d : Fin 8 => s.get .CDC_PACE_DUTY d == 1)
  let timed := if st = 2 then above && slow else above
  let since := if timed then some (s.cap.overSince[b].getD s.now) else none
  let exit : Bool := match st with
    | 1 => !runs || decide (v.demand < v.outs.capEff)
    | 2 => !runs || decide (8 ≤ rankOf code)
    | 3 => !runs || decide (load ≤ share * 9 / 10)
    | 4 => runs && !ds.any (fun d => s.streamState d == 2 || s.bit .CDC_STREAM_STATE_PARK_REQ d)
    | _ => false
  let exitAt := if exit then some (s.cap.exitSince[b].getD s.now) else none
  let s : State := { s with cap := { s.cap with
    overSince := s.cap.overSince.set b since, exitSince := s.cap.exitSince.set b exitAt } }
  let long := fun (o : Option Nat) (t : Nat) => match o with | some x => decide (x + t ≤ s.now) | none => false
  let may := decide (s.cap.stageMove[b] + 10 * ms ≤ s.now)
  let k := s.cap.demote[b]
  if st = 3 && long since (10 * ms) && decide (k < 2) then
    let s : State := { s with cap := { s.cap with overSince := s.cap.overSince.set b (some s.now) } }
    s.demoteBerth b (k + 1)
  else if st = 3 && long exitAt (100 * ms) && decide (1 < k) then
    let s : State := { s with cap := { s.cap with exitSince := s.cap.exitSince.set b (some s.now) } }
    s.demoteBerth b (k - 1)
  else if !may then s
  else if decide (1 ≤ st) && long exitAt (100 * ms) then s.toStage b (st - 1)
  else match st with
    | 0 => if runs && decide (v.outs.capEff < v.demand) then s.toStage b 1 else s
    | 1 => if runs && decide (rankOf code < 8) then s.toStage b 2 else s
    | 2 => if long since (10 * ms) then s.toStage b 3 else s
    | 3 => if k = 2 && long since (10 * ms) then s.toStage b 4 else s
    | _ => s

/-! ### CL15 -/

/-- The means of the last 1 ms: rail powers, die powers and energies, and η each second (R460, R337). -/
def State.takeMeans (v s : State) : State :=
  let mean := Vector.ofFn (fun r : Fin 50 =>
    let a := s.pwr.pAcc[r]
    if a.2 = 0 then s.pwr.pMean[r] else ((a.1 : Int) : Rat) / 10000 / ((a.2 : Nat) : Rat))
  let s : State := { s with pwr := { s.pwr with pMean := mean, pAcc := Vector.replicate 50 (0, 0) } }
  let s := forFin 8 s (fun s d =>
    let p := max 0 (s.railMean (2 + d.val))
    let t := s.cap.jRest[d] + p / 1000
    let s := (s.set .CAP_DIE_P_W (min 8191 (natOf p)) 0 d).tally .CAP_DIE_J_J (natOf t) 0 d
    { s with cap := { s.cap with jRest := s.cap.jRest.set d (t - ((natOf t : Nat) : Rat)) } })
  let rails := s.cap.etaRails + s.totalOut
  let dem := s.cap.etaDemand + v.demand
  let n := s.cap.etaN + 1
  if n < 1000 then { s with cap := { s.cap with etaRails := rails, etaDemand := dem, etaN := n } }
  else
    let s : State := { s with cap := { s.cap with etaRails := 0, etaDemand := 0, etaN := 0 } }
    if 0 < dem then s.set .CAP_ETA_PERMIL (min 1023 (natOf (rails / dem * 1000))) else s

/-- The code against which a berth's share asks: the domain's RATE, or its own target in no domain (R464, R465). -/
def State.rateNow (s : State) (b : Fin 8) : Nat :=
  if s.noDomain b then (s.berthDies b).foldl (fun a (d : Fin 8) =>
    let c := s.limitCode d (s.die d).target
    if rankOf a < rankOf c then c else a) 0x81
  else (s.rhdOf b).domRate

/-- The REASON 1 request of a berth, event 0x1801 when it begins (R464, R465). -/
def State.capAsk (s : State) (b : Fin 8) (code : Nat) : State :=
  let put := fun (s : State) (x : Bool) => ({ s with cap := { s.cap with capReq := s.cap.capReq.set b x } } : State)
  if rankOf code < rankOf (s.rateNow b) then
    let s := if s.cap.capReq[b] then s else (put s true).raise 0x1801 b
    s.askRate b 1 code
  else if s.cap.capReq[b] then (put s false).unaskRate b 1
  else s

/-- CL15's law: means, shares, codes sought, requests and stages; while demoted no higher code is sought (R461 to R468, R484). -/
def State.shareLaw (v s : State) (_first : Bool) : State :=
  let s := State.takeMeans v s
  let shares := State.shares v s
  forFin 8 s (fun s b =>
    if (s.berth b).desc.isNone then
      let s := ((s.set .CAP_SHARE_W 0 0 b).set .CAP_SHARE_CODE 0 0 b).set .CAP_SHARE_STAGE 0 0 b
      { s with cap := { s.cap with demote := s.cap.demote.set b 0, capReq := s.cap.capReq.set b false } }
    else match shares.find? (fun e => e.1 == b) with
      | none => State.stageStep v ((s.set .CAP_SHARE_W 0 0 b).unaskRate b 1) b 0 0
      | some e =>
        let c := s.codeSought b e.2
        let c := if s.cap.demote[b] = 0 then c else lowerCode c (s.get .CAP_SHARE_CODE 0 b)
        let s := (s.set .CAP_SHARE_W (min 8191 (natOf e.2)) 0 b).set .CAP_SHARE_CODE c 0 b
        State.stageStep v (s.capAsk b c) b e.2 c)

/-- CL15_SAMPLE. -/
def execCl15Sample (m : LoopSample) (s : State) : Host.Outcome State Fault Refusal := .next (s.sampled 15 m State.shareLaw)

/-! ### Coolant (R473) -/

/-- The inlet term and the flow term of Table 18-3: COOL_TIN in °C, flow in L/min. -/
def inletTerm (t : Rat) : Rat := if 40 < t then 1500 else between 35 4000 40 3000 t
def flowTerm (f : Rat) : Rat := if f < 4 then between 2 1000 4 3600 f else between 4 3600 (55 / 10) 4000 f

/-- CL17's law; a failed COOL_TIN is taken as 40 °C (R52). -/
def State.coolantLaw (v s : State) (_first : Bool) : State :=
  let tin : Rat := if v.pins.tinFailed then 40 else (dec 16 (v.get .CAP_COOL_TIN_X10) : Rat) / 10
  let term := min (inletTerm tin) (flowTerm ((v.flow : Rat) / 100))
  let derate := decide (term < 4000)
  let hot := decide (40 < tin)
  let one := derate && !s.cap.coolDerate
  let two := hot && !s.cap.inletHot
  let s : State := { s with
    outs := { s.outs with coolTerm := term }, cap := { s.cap with coolDerate := derate, inletHot := hot } }
  let s := s.set .CAP_EFF_COOL_W (natOf term)
  let s := if one then s.raise 0x1805 else s
  if two then s.raise 0x1807 else s

/-- CL17_SAMPLE. -/
def execCl17Sample (m : LoopSample) (s : State) : Host.Outcome State Fault Refusal := .next (s.sampled 17 m State.coolantLaw)

/-! ### Ageing (R477 to R480) -/

/-- The highest code of a die by its table, its age step and its ageing reduction (R477, R480). -/
def State.topCodeOf (s : State) (d : Fin 8) : Nat :=
  let vmax := Config.vtMax s.vtPackage d % 0x31
  let top := (List.range (vmax + 1)).foldl (fun a c => if s.vtApplied d c ≤ 950 then c else a) 0
  top - s.cap.reduction[d]

/-- The worst loss of a die by its last measurement, mV (R478). -/
def State.worstLoss (s : State) (d : Fin 8) : Rat :=
  (List.range 32).foldl (fun (a : Rat) (k : Nat) =>
    let lost : Int := (s.get .CDC_SENT_BASE_VALUE d k : Int) - (s.get .CDC_SENT_VAL_VALUE d k : Int)
    max a (Config.vtCoeff s.vtPackage d k (baseCode (s.die d).code) * (lost : Rat))) 0

/-- A die whose highest code fell below its code in force moves down (R477). -/
def State.ageFollow (s : State) (d : Fin 8) : State :=
  let c := s.dieMax d
  let now := match (s.die d).ratePend with | some p => p.code | none => (s.die d).code
  if rankOf c < rankOf now then s.ratePrepare d c 0 s.now true else s

/-- AGE_STEP_RAISE: the required step of a measured die; beyond 9 its highest code falls by 2 for each step (R479, R480). -/
def State.agePlan (s : State) (d : Fin 8) : State :=
  let need := (s.worstLoss d / 5).ceil.toNat
  let old := s.get .CAP_AGE_STEP 0 d
  let s : State := { s with cap := { s.cap with measured := putBit s.cap.measured d false } }
  let s :=
    if old < min need 9 then
      let s := (s.set .CAP_AGE_STEP (min need 9) 0 d).raise 0x180A d
      let s := s.wantVc d (s.die d).code
      { s with cap := { s.cap with ageDirty := true } }
    else s
  let red := 2 * (need - 9)
  let s :=
    if s.cap.reduction[d] < red then
      let s : State := { s with cap := { s.cap with reduction := s.cap.reduction.set d red, ageDirty := true } }
      (s.setBit .CAP_AGE_LOWERED true 0 d).raise 0x180B d
    else s
  let s := s.set .CAP_AGE_MAX_CODE (min (s.dieMax d) (s.topCodeOf d)) 0 d
  s.ageFollow d

/-- CL20's law: a measurement of each running die every PERIOD_H hours, a die in reset hold being measured after its release; one overdue for 24 h is recorded; measured dies are
planned anew. -/
def State.sentinelLaw (v s : State) (_first : Bool) : State :=
  let hour := 3600 * second
  forFin 8 s (fun s d =>
    let s := if bitAt s.cap.measured d then s.agePlan d else s
    if bitAt s.cap.measuring d then
      if !bitAt s.cap.overdue d && decide (s.cap.measureReq[d] + 24 * hour ≤ s.now) then
        ({ s with cap := { s.cap with overdue := putBit s.cap.overdue d true } } : State).raise 0x180E d
      else s
    else if (s.running d || s.inReset (8 + d.val)) && decide (s.cap.measureReq[d] + v.get .CAP_AGE_CFG_PERIOD_H * hour ≤ s.now) then
      { s with cap := { s.cap with
        measuring := putBit s.cap.measuring d true, overdue := putBit s.cap.overdue d false
        measureReq := s.cap.measureReq.set d s.now } }
    else s)

/-- CL20_SAMPLE. -/
def execCl20Sample (m : LoopSample) (s : State) : Host.Outcome State Fault Refusal := .next (s.sampled 20 m State.sentinelLaw)

end Sys2Proof.Machine
end

