-- ==== Sys2Proof/Machine/Pilot.lean ====
section
/-! DEFINITION. The redundant pilots and the harbourmaster (chapter 19): grants, heartbeats, the state copy, switch-overs,
handovers and takeovers. -/

namespace Sys2Proof.Machine

/-! ### Synchronisation (R489) -/

/-- The pilot that stands by, if any does. -/
def State.standby (s : State) : Option (Fin 2) := (allFin 2).find? (fun p : Fin 2 => (s.pilot p).role == Role.standby)

/-- A pilot is a synchronised standby: 32 copies accepted, the last within 3 control cycles of the active pilot. -/
def State.synced (s : State) (p : Fin 2) : Bool :=
  let x := s.pilot p
  x.role == Role.standby && decide (32 ≤ x.accepted) && decide (x.sinceCopy ≤ 3)

/-- Keep the time since which a pilot has been synchronised. -/
def State.syncMark (s : State) (p : Fin 2) : State :=
  let v := s.synced p
  s.modPilot p (fun x => { x with syncedSince := if v then some (x.syncedSince.getD s.now) else none })

/-- HMA works: its oscillator and outputs have not been found wrong (R499). -/
def State.hmaOk (s : State) : Bool := s.bit .PLT_STATUS_HMA_OK

/-- A pilot enters STANDBY, not synchronised yet. -/
def State.enterStandby (s : State) (p : Fin 2) : State :=
  s.modPilot p (fun x => { x with role := .standby, accepted := 0, lastAlive := none, lastCycle := none, sinceCopy := 4, syncedSince := none })

/-! ### Grants and enables (R486) -/

/-- HMA grants a pilot and raises its enable in the same cycle; the line that holds BWC at 0 is released (R498). -/
def State.grant (s : State) (p : Fin 2) : State :=
  let s : State := { s with hma := { s.hma with grant := some p, bwcZero := false, noGrant := none } }
  s.modPilot p (fun x => { x with role := .active, linkEn := true, cycleTx := 0, syncedSince := none })

/-- Samples in progress end with the pilot that ran them. -/
def State.dropSamples (s : State) : State := { s with cte := { s.cte with ready := [], snaps := [] } }

/-- Which pilot lost control, and why (`PLT_LAST_CAUSE`). -/
def State.lastCause (s : State) (code : Nat) (p : Fin 2) : State :=
  (s.set .PLT_LAST_CAUSE_CODE code).set .PLT_LAST_CAUSE_PILOT p

/-- A PLT counter, which `PLT_CNT_CTRL.FREEZE` holds (R501). -/
def State.pltCount (s : State) (f : Fld) : State := s.count .PLT_CNT_CTRL_FREEZE f 1

/-! ### Takeover (R491, R492) -/

/-- Blocks whose registers the active pilot serves and the state copy carries (log entry 19). -/
def copyBlk (b : Blk) : Bool := b == .bthb || b == .rhd || b == .rhdb || b == .bwr || b == .cte || b == .cap

/-- Fields of those blocks that show what hardware outside the pilots holds or measures: isolation and its open conditions act whatever
pilot is in control (R26), so no copy brings an older value back. -/
def hwFlds : List Fld := [.BWR_STATUS_ISO, .BWR_BWC_MEAS_W, .CAP_STATUS_FAST, .CAP_STATUS_BOLLARD]

/-- A session's own copy of a selector, or what its selector write latched (R14). -/
def sessionCopy (k : RKey) : Bool :=
  ((selectorFlds.contains k.f || manFlds.contains k.f) && k.item != 0 && k.item % 2 == 0) ||
    (k.f == Fld.SEC_MAN_DIGEST_BYTES && 2 ≤ k.item / 16 && k.item / 16 % 2 == 0)

/-- Does the state copy carry a field: those of its blocks, and each session's copies with the session (R14, Table 19-1). -/
def copyKey (k : RKey) : Bool := (copyBlk k.f.info.blk && !hwFlds.contains k.f) || sessionCopy k

/-- The record latches of the Bampor sessions (R14, R389). -/
def State.sessionLatches (s : State) : List (Source × Nat × Nat × List Nat) :=
  s.pwr.recLatch.filter (fun e => match e.1 with | .session _ => true | _ => false)

/-- What the active pilot's next copy carries (Table 19-1). -/
def State.copyLoad (s : State) : CopyLoad :=
  { regs := s.regs.filter (fun e => copyKey e.1), latches := s.sessionLatches, loops := s.cte.loops, outs := s.outs, bwr := s.bwr
    sessions := s.net.sessions, nextSession := s.net.nextSession, rhd := s.rhd, recs := s.pwr.recs }

/-- A session after a takeover from a copy: a reply that the copy does not hold is lost (R282, R496). -/
def Session.continued (c : List Session) (x : Session) : Option Session :=
  (c.find? (fun y => y.id == x.id)).map (fun y => { x with reply := if y.highSeq = x.highSeq then y.reply else none })

/-- The state that the last accepted copy carried is in force again (R492). A breakwater that the copy shows at work while isolation
has left CLOSED since is lost (R411). -/
def State.fromCopy (s : State) (c : CopyLoad) : State :=
  let recs := Vector.ofFn (fun r : Fin 51 => { s.pwr.recs[r] with
    writing := (c.recs[r]).writing, next := (c.recs[r]).next, secondary := (c.recs[r]).secondary })
  let kept := s.pwr.recLatch.filter (fun e => match e.1 with | .session _ => false | _ => true)
  let s : State := { s with
    regs := c.regs ++ s.regs.filter (fun e => !copyKey e.1)
    cte := { s.cte with loops := c.loops }
    outs := c.outs, bwr := c.bwr, rhd := c.rhd
    net := { s.net with sessions := s.net.sessions.filterMap (Session.continued c.sessions) }
    pwr := { s.pwr with recs := recs, recLatch := c.latches ++ kept } }
  if s.iso ≠ 2 ∧ s.bit .BWR_STATUS_REGULATING then s.bwrLost else s

/-- A berth of a domain looks for one again, its code in force kept (R492). -/
def State.reseek (s : State) (b : Fin 8) : State :=
  if 1 ≤ s.rhdState b ∧ s.rhdState b ≤ 5 then s.rhdForget b 1 else s

/-- A cold takeover: loops from the values their destinations hold, an empty tide table, P_set at the measured input power,
sessions closed, berths seeking (R492). -/
def State.coldTakeover (s : State) : State :=
  let s := s.clearAll [.CTE_LOOP_STATE_MODE, .CTE_LOOP_STATE_CAUSE, .CTE_LOOP_STATE_CONSEC, .CTE_LOOP_STATE_RAMP, .CTE_LOOP_RESID_R_F]
  let s : State := { s with
    cte := { s.cte with loops := Vector.replicate 32 {} }
    bwr := { s.bwr with tide := [], lastBin := 0, anchors := [], lastAnchor := none, lockedT := none, ripple := none }
    outs := { s.outs with pset := s.pIn, ffTide := 0 }
    net := { s.net with sessions := [] } }
  let s := (s.setBit .BWR_TIDE_STATUS_LOCKED false).set .BWR_PIN_SET_W (wattsOf s.pIn)
  (forFin 8 s State.reseek).raise 0x1905

/-- A warm takeover: the new pilot starts from its last accepted copy; each loop in automatic operation starts afresh under
R425, a held one stays held (R430, R492). -/
def State.warmTakeover (s : State) : State :=
  let s := match s.copyHeld with
    | some c => s.fromCopy c
    | none => s
  { s with cte := { s.cte with loops := s.cte.loops.map (fun x : LoopSt => { x with first := true, above := 0 }) } }

/-- A customer package being stored, and a vendor package whose standby's copy is not stored, fail with a switch-over (Tables 16-3,
22-4). -/
def State.packagesSwitch (s : State) : State :=
  let s := if s.custState = 3 then s.custFail 8 else s
  if s.get .SEC_PKG_STATUS_STATE = 3 ∧ !s.sec.stored then
    ((s.set .SEC_PKG_STATUS_STATE 5).set .SEC_PKG_STATUS_ERR 7).raise 0x2204 0xFF 7
  else s

/-- The new pilot takes over (R492). -/
def State.takeOver (s : State) (warm : Bool) : State :=
  let s : State := { s with hma := { s.hma with takeover := none } }
  let s := (if warm then s.warmTakeover else s.coldTakeover).dropSamples
  s.imgSwitch.packagesSwitch

/-- Does the state copy fit the new pilot's firmware: COPY_COMPAT of a firmware package that is being activated (R546). -/
def State.copyCompat (s : State) : Bool :=
  if s.get .SEC_PKG_STATUS_STATE = 3 ∧ s.get .SEC_PKG_STATUS_KIND = 1 then bitAt (nth (s.sec.verified.getD []) 7) 0 else true

/-- TAKEOVER: at the new engine's next boundary (Tables 19-3, 19-4). The manifest tags follow the firmware that now runs (R546). -/
def execTakeover (s : State) : Host.Outcome State Fault Refusal :=
  .next <|
    match s.hma.takeover, s.activePilot with
    | some warm, some p => if s.inReset (4 + p.val) then s else (s.takeOver warm).retag
    | _, _ => s

/-! ### First grant (R487, R498) -/

/-- A pilot that HMA may grant: out of reset, its self-test passed, its heartbeat running. -/
def State.grantable (s : State) (p : Fin 2) : Bool :=
  let x := s.pilot p
  (x.role == Role.selfTest || x.role == Role.standby) && !s.inReset (1 + p.val) && x.identityOk && x.firmwareOk && x.hbRunning

/-- The pilot that HMA grants when none holds control: after a cold reset PA, or PB once its heartbeat has run for 5 ms without PA's
(R487); after a loss of control the one whose heartbeat ran first (R498). -/
def State.grantee (s : State) : Option (Fin 2) :=
  match s.grantable 0, s.grantable 1 with
  | true, false => some 0
  | false, true =>
    if s.hma.noGrant.isSome || (!(s.pilot 0).hbRunning && decide ((s.pilot 1).hbSince + 5 * ms ≤ s.now)) then some 1 else none
  | true, true => if s.hma.noGrant.isSome && decide ((s.pilot 1).hbSince < (s.pilot 0).hbSince) then some 1 else some 0
  | false, false => none

/-- FIRST_GRANT: a grant while no pilot holds control, in a cold takeover (R487, R498). -/
def execFirstGrant (s : State) : Host.Outcome State Fault Refusal :=
  .next <|
    match s.hma.grant, s.grantee with
    | none, some p =>
      if !s.hmaOk then s
      else
        let regained := s.hma.noGrant.isSome
        let s := (s.grant p).takeOver false
        if regained then s.raise 0x1906 else s
    | _, _ => s

/-! ### Heartbeats and failures (R490, R493, R498) -/

/-- HEARTBEAT_TOGGLE: an edge of pilot `p`, while its lockstep holds and its engine runs. Each of the active pilot's ends a control
cycle, after which a standby may no longer be synchronised (R489). -/
def execHeartbeatToggle (p : Fin 2) (s : State) : Host.Outcome State Fault Refusal :=
  .next <|
    let x := s.pilot p
    if x.role == Role.out || !x.lockstepOk || s.inReset (1 + p.val) || s.inReset (4 + p.val) then s
    else
      let s := s.setPilot p { x with
        hbRunning := true, hbGap := if x.hbRunning then s.now - x.hbLast else x.hbGap, hbLast := s.now, hbSince := if x.hbRunning then x.hbSince else s.now }
      let q := otherPilot p
      if s.activePilot = some p then (s.modPilot q (fun y => { y with sinceCopy := min 4 (y.sinceCopy + 1) })).syncMark q else s

/-- LOCKSTEP_MISMATCH: the heartbeat stops and the link outputs are gated off (R490). -/
def execLockstepMismatch (p : Fin 2) (s : State) : Host.Outcome State Fault Refusal :=
  .next (s.modPilot p (fun x => { x with lockstepOk := false, hbRunning := false, linkOut := false }))

/-- HMA forces a warm reset of the SUP and CTE halves of a pilot (R493). -/
def State.forceReset (s : State) (p : Fin 2) : State :=
  let s := (s.setCause (6 + p.val)).requestReset (2 ^ (1 + p.val) + 2 ^ (4 + p.val))
  let s := s.pltCount (if p = 0 then .PLT_FORCED_A else .PLT_FORCED_B)
  s.modPilot p (fun x =>
    { x with forced := s.now :: x.forced.filter (fun t => decide (s.now < t + 600 * second)), role := .out })

/-- A pilot forced into reset 3 times within 10 min is held out until the next cold reset (R493). -/
def State.holdOut (s : State) (p : Fin 2) : State :=
  if (s.pilot p).held || decide ((s.pilot p).forced.length < 3) then s
  else (s.modPilot p (fun x => { x with held := true })).raise 0x1903 p

/-- The code of a failure cause (Table 19-2). -/
def failCode : PilotFail → Nat
  | .noEdge => 1
  | .earlyEdge => 2
  | .railOut => 3
  | .clockBad => 4
  | .releaseLine => 5

/-- The sign of each cause: no edge for 12.5 µs, the last two edges less than 7.5 µs apart, the pilot's rail out of regulation, its
clock not good, its engine half in reset (Table 19-2). -/
def State.failSign (s : State) (p : Fin 2) : PilotFail → Bool
  | .noEdge => decide ((s.pilot p).hbLast + 12500 * 1000 ≤ s.now)
  | .earlyEdge => decide ((s.pilot p).hbGap < 7500 * 1000)
  | .railOut => !s.bit .PWR_RAIL_STATUS_IN_REG (47 + p.val)
  | .clockBad => !s.clkGood (1 + p.val)
  | .releaseLine => s.inReset (4 + p.val)

/-- A handover has ended with the old pilot's enable lowered (Table 19-4). -/
def State.handoverDone (s : State) (h : Handover) (tenths : Nat) : State :=
  let s : State := { s with hma := { s.hma with
    handover := none, lastReturn := if h.cause = 7 then some s.now else s.hma.lastReturn } }
  ((s.set .PLT_OVERLAP_LAST (min tenths 65535)).pltCount .PLT_HANDOVERS_COUNT).raise 0x1902 0xFF h.cause

/-- A return to PA that fails within 60 s blocks the automatic return (R495). -/
def State.returnBlocked (s : State) (p : Fin 2) : State :=
  match s.hma.lastReturn with
  | some t => if p = 0 ∧ s.now < t + 60 * second then (s.setBit .PLT_CFG_AUTO_RETURN false).raise 0x1907 else s
  | none => s

/-- The active pilot has failed: the other one is granted if it stands by, or still holds its enable in a handover, with its
heartbeat running (R491); else no pilot holds control (R498). -/
def State.switchOver (s : State) (p : Fin 2) (code : Nat) : State :=
  let q := otherPilot p
  let y := s.pilot q
  let warm := s.synced q || y.role == Role.active
  let edge := (s.pilot p).hbLast
  let s : State := { s.dropSamples with hma := { s.hma with handover := none, grant := none, gapFrom := some edge } }
  let s := s.lastCause code p
  if (y.role == Role.standby || y.role == Role.active) && y.hbRunning then
    let s := (s.grant q).pltCount .PLT_SWITCHOVERS_COUNT
    let s : State := { s with hma := { s.hma with takeover := some warm } }
    s.raise 0x1901 p code
  else
    let s : State := { s with hma := { s.hma with noGrant := some s.now, takeover := none } }
    s.setReady rSUP false

/-- PILOT_FAILURE_JUDGED: the failed pilot's enable falls, control passes if it held it, and it is forced into reset (R490, R491,
R493 to R495). A pilot that shows no sign of the cause, or that is out, in reset and without the grant, is not judged. -/
def execPilotFailureJudged (p : Fin 2) (cause : PilotFail) (s : State) : Host.Outcome State Fault Refusal :=
  .next <|
    let granted := s.hma.grant = some p
    let x := s.pilot p
    if !s.hmaOk || !s.failSign p cause || (!granted && x.role != Role.standby && x.role != Role.active) then s
    else
      let s := (s.forceReset p).modPilot p (fun x => { x with linkEn := false, hbRunning := false })
      let s :=
        if granted then (s.switchOver p (failCode cause)).returnBlocked p
        else match s.hma.handover with
          | some h => match h.granted with
            | some t => s.handoverDone h ((s.now - t) / 100000)
            | none => { s with hma := { s.hma with handover := none } }
          | none => s
      s.holdOut p

/-- NO_PILOT_BWC_ZERO: no grant for 1 ms; HMA holds the BWC command at 0 and forces both pilots into a warm reset (R498). -/
def execNoPilotBwcZero (s : State) : Host.Outcome State Fault Refusal :=
  .next <|
    let lapsed : Bool := match s.hma.noGrant with
      | some t => decide (t + ms ≤ s.now)
      | none => false
    if s.hma.grant.isSome || !lapsed || s.hma.bwcZero || !s.hmaOk then s
    else
      let s : State := { s with hma := { s.hma with bwcZero := true } }
      ((s.forceReset 0).forceReset 1).holdOut 0 |>.holdOut 1

/-- PILOT_STANDBY_ENTRY: a pilot out of reset whose self-test passed stands by, while the other holds control (R493). -/
def execPilotStandbyEntry (p : Fin 2) (s : State) : Host.Outcome State Fault Refusal :=
  .next <|
    let x := s.pilot p
    if x.role == Role.selfTest && !x.held && !s.inReset (1 + p.val) && x.identityOk && x.firmwareOk &&
        decide (s.hma.grant = some (otherPilot p)) then s.enterStandby p
    else s

/-! ### The state copy (R488, R489) -/

/-- STATE_COPY_SEND: the active pilot's copy, the last one of a handover with RETURN set, after which it stops commanding (R496). -/
def execStateCopySend (s : State) : Host.Outcome State Fault Refusal :=
  .next <|
    match s.activePilot with
    | none => s
    | some p =>
      if !s.engineUp || !(s.pilot p).linkOut then s
      else
        let x := s.pilot p
        let ret := s.hma.handover.isSome && (s.hma.handover.bind (·.granted)).isNone
        let load := s.copyLoad
        let pay := (Config.copyPayload s.fresh).take 4080 |>.map (· % 256)
        let body := toLe 0x9A1C 2 ++ [x.aliveTx % 256, ret.toNat] ++ toLe x.cycleTx 4 ++ toLe pay.length 2 ++ [0, 0] ++ pay
        let s : State := { s with fresh := s.fresh + 1, copySent := some load }
        let s := (s.snoop 2 (body ++ toLe (crc32c body) 4) true).out (.copy p x.aliveTx x.cycleTx ret)
        let s := s.setPilot p { x with aliveTx := (x.aliveTx + 1) % 256, cycleTx := (x.cycleTx + 1) % 2 ^ 32 }
        if ret then { s.dropSamples with hma := { s.hma with handover := s.hma.handover.map (fun h => { h with sent := true }) } }
        else s

/-- A copy is discarded: the first within 1 ms records event 0x1904. -/
def State.copyDiscard (s : State) (q : Fin 2) (f : Option Fld) : State :=
  let s := match f with
    | some f => s.pltCount f
    | none => s
  let due := match (s.pilot q).copyErrAt with
    | none => true
    | some t => decide (t + ms ≤ s.now)
  if due then (s.modPilot q (fun x => { x with copyErrAt := some s.now })).raise 0x1904 q else s

/-- The standby of a firmware activation takes control by handover once it is synchronised in the new firmware (R546). -/
def State.activationHandover (s : State) (q : Fin 2) : State :=
  if s.get .SEC_PKG_STATUS_STATE = 3 ∧ s.get .SEC_PKG_STATUS_KIND = 1 ∧ s.sec.stored ∧ s.sec.fwRun[q] = s.sec.verified ∧
      s.sec.verified.isSome ∧ s.synced q ∧ s.hma.handover.isNone ∧ s.hmaOk then
    { s with hma := { s.hma with handover := some { cause := 6, old := otherPilot q } } }
  else s

/-- The standby accepts a copy: it holds what the copy carried, the records too (R489, R526). -/
def State.copyAccept (s : State) (q : Fin 2) (alive cycle : Nat) (ret : Bool) : State :=
  let load := s.copySent.getD s.copyLoad
  let s : State := { s with copyHeld := some load }
  let s : State := if s.log.mounted[q] then
      { s with log := { s.log with ring := s.log.ring.set q s.log.ring[otherPilot q] } } else s
  let s := s.modPilot q (fun x =>
    { x with accepted := min 32 (x.accepted + 1), lastAlive := some alive, lastCycle := some cycle, sinceCopy := 0 })
  let s : State := { s with hma := { s.hma with handover := s.hma.handover.map (fun h =>
    if ret && h.sent then { h with accepted := true } else h) } }
  (s.syncMark q).activationHandover q

/-- STATE_COPY_RECEIVE: the standby checks a copy (R489). -/
def execStateCopyReceive (crcOk : Bool) (magic : BitVec 16) (alive : BitVec 8) (cycle : BitVec 32) (ret : Bool) (s : State) :
    Host.Outcome State Fault Refusal :=
  .next <|
    match s.standby with
    | none => s
    | some q =>
      let x := s.pilot q
      if !crcOk then s.copyDiscard q (some .PLT_COPY_ERR_CRC)
      else if magic.toNat ≠ 0x9A1C then s.copyDiscard q none
      else if x.lastAlive = some alive.toNat ∨ x.lastCycle.any (fun c => decide (cycle.toNat ≤ c)) then
        s.copyDiscard q (some .PLT_COPY_ERR_ALIVE)
      else s.copyAccept q alive.toNat cycle.toNat ret

/-! ### Handovers (R495 to R497) -/

/-- HMA starts a handover from the pilot that holds control to the synchronised standby. -/
def State.handoverStart (s : State) (cause : Nat) : State :=
  match s.activePilot with
  | some p => { s with hma := { s.hma with handover := some { cause := cause, old := p } } }
  | none => s

/-- AUTO_RETURN_START: PA has been synchronised for 500 ms while PB holds control (R495). -/
def execAutoReturnStart (s : State) : Host.Outcome State Fault Refusal :=
  let long : Bool := match (s.pilot 0).syncedSince with
    | some t => decide (t + 500 * ms ≤ s.now)
    | none => false
  .next (if s.bit .PLT_CFG_AUTO_RETURN && s.hmaOk && decide (s.hma.grant = some 1) && s.synced 0 && long && s.hma.handover.isNone then
    s.handoverStart 7 else s)

/-- `PLT_CTRL.SWITCH`: 0x5A17 starts a handover to the standby, or is refused (R497). -/
def State.pltSwitch (s : State) (key : Nat) : State :=
  if key ≠ 0x5A17 then s
  else if s.hma.handover.isSome || !(allFin 2).any (fun p : Fin 2 => s.synced p) then s.setBit .PLT_STATUS_SW_REFUSED true
  else if s.hmaOk then s.handoverStart 6 else s

/-- HANDOVER_COPY_ACCEPTED: the new pilot is granted and its enable raised; the old one keeps its enable (R496). -/
def execHandoverCopyAccepted (s : State) : Host.Outcome State Fault Refusal :=
  .next <|
    match s.hma.handover with
    | some h =>
      if h.accepted && h.granted.isNone && s.hmaOk then
        let q := otherPilot h.old
        let warm := s.synced q && s.copyCompat
        let edge := (s.pilot h.old).hbLast
        let s := s.grant q
        let s : State := { s with hma := { s.hma with
          handover := some { h with granted := some s.now }, takeover := some warm, gapFrom := some edge } }
        s.lastCause h.cause h.old
      else s
    | none => s

/-- HANDOVER_ABANDON: the RETURN copy was not accepted; the old pilot keeps control and the 500 ms count restarts (R496). -/
def execHandoverAbandon (s : State) : Host.Outcome State Fault Refusal :=
  .next <|
    match s.hma.handover with
    | some h =>
      if h.sent && !h.accepted then
        let q := otherPilot h.old
        let s : State := { s with hma := { s.hma with handover := none } }
        (s.modPilot q (fun x => { x with syncedSince := none })).syncMark q
      else s
    | none => s

/-- HANDOVER_OVERLAP_END: 10 µs after the grant the old pilot's enable falls and it stands by. In an activation of firmware it
takes its warm reset into the new firmware (R496, R546). -/
def execHandoverOverlapEnd (s : State) : Host.Outcome State Fault Refusal :=
  .next <|
    match s.hma.handover with
    | some h =>
      if h.granted.isSome && s.hmaOk then
        let s := (s.modPilot h.old (fun x => { x with linkEn := false })).enterStandby h.old
        let s := s.handoverDone h 100
        if s.get .SEC_PKG_STATUS_STATE = 3 ∧ s.get .SEC_PKG_STATUS_KIND = 1 ∧ s.sec.stored ∧ s.sec.fwRun[h.old] ≠ s.sec.verified then
          s.requestReset (2 ^ (1 + h.old.val) + 2 ^ (4 + h.old.val))
        else s
      else s
    | none => s

/-! ### The harbourmaster itself (R499, R501) -/

/-- HMA_FAULT: a pilot finds HMA wrong: the grant and the enables stay as they are until the next cold reset. -/
def execHmaFault (p : Fin 2) (s : State) : Host.Outcome State Fault Refusal :=
  .next <|
    if !s.hmaOk || (s.pilot p).role == Role.out then s
    else
      let s := s.setBit .PLT_STATUS_HMA_OK false
      let s := match s.hma.handover with
        | some h => if h.granted.isSome then s.enterStandby h.old else s
        | none => s
      let s : State := { s with hma := { s.hma with handover := none } }
      s.raise 0x1908 p 0 0 0 (decide (p = 1))

/-- `PLT_CNT_CTRL.CLEAR`. -/
def State.pltClear (s : State) : State :=
  s.clearCnt [.PLT_SWITCHOVERS_COUNT, .PLT_HANDOVERS_COUNT, .PLT_COPY_ERR_CRC, .PLT_COPY_ERR_ALIVE, .PLT_FORCED_A, .PLT_FORCED_B] 0

end Sys2Proof.Machine
end

