-- ==== Sys2Proof/Machine/Security.lean ====
section
/-! DEFINITION. Identity, vendor packages, anti-rollback counters and the owner key (chapter 22). -/

namespace Sys2Proof.Machine

/-! ### At the release of a SUP half (R543, R546, R547) -/

/-- A pilot in self-test. -/
def State.inSelfTest (s : State) (p : Fin 2) : Bool := (s.pilot p).role == Role.selfTest && !s.inReset (1 + p.val)

/-- PUF_RECONSTRUCT: the identity key is formed, or the pilot stays OUT and the other one records event 0x2201 (R543). -/
def execPufReconstruct (p : Fin 2) (ok : Bool) (s : State) : Host.Outcome State Fault Refusal :=
  .next <|
    if !s.inSelfTest p then s
    else if ok then (s.modPilot p (fun x => { x with identityOk := true })).endLatch 0x22 p
    else (s.modPilot p (fun x => { x with role := .out, hbRunning := false })).raise 0x2201 p

/-- The firmware package in the current and in the other slot of a pilot's flash. -/
def State.fwSlot (s : State) (p : Fin 2) : List Nat := (s.sec.fwCurrent[p]).getD (Config.pkgDelivered p 1 0)
def State.fwOtherSlot (s : State) (p : Fin 2) : List Nat := (s.sec.fwOther[p]).getD (Config.pkgDelivered p 1 1)

/-- FIRMWARE_BOOT_VERIFY: the current slot runs when it verifies; else the other one when it verifies and its ROLLBACK is not
below the firmware counter, with event 0x2205; with no valid slot the self-test fails (R546). -/
def execFirmwareBootVerify (p : Fin 2) (currentOk otherOk : Bool) (s : State) : Host.Outcome State Fault Refusal :=
  .next <|
    if !s.inSelfTest p then s
    else if currentOk then
      ({ s with sec := { s.sec with fwRun := s.sec.fwRun.set p s.sec.fwCurrent[p] } } : State).modPilot p (fun x => { x with firmwareOk := true })
    else
      let other := s.fwOtherSlot p
      if otherOk && decide (s.rbOf p rbFirmware ≤ leAt other 0x0C 4) then
        let cur := s.fwSlot p
        let s : State := { s with sec := { s.sec with
          fwRun := s.sec.fwRun.set p (some other), fwCurrent := s.sec.fwCurrent.set p (some other)
          fwOther := s.sec.fwOther.set p (some cur) } }
        (s.modPilot p (fun x => { x with firmwareOk := true })).raise 0x2205 0xFF 0 0 0 (decide (p = 1))
      else s.modPilot p (fun x => { x with role := .out, hbRunning := false })

/-- ROLLBACK_REPAIR: each counter takes the higher of the two flashes' values and the lower is rewritten, with event 0x2202 for each
repair. A value whose authentication fails, by flash, is discarded: the other flash's takes its place (R547). Where both fail the
spec names no value, and the counter stays as it is (log entry 71). -/
def execRollbackRepair (badA badB : BitVec 13) (s : State) : Host.Outcome State Fault Refusal :=
  .next <|
    if s.activePilot.isNone || s.flashHalted s.act then s
    else
      let held := fun (p : Fin 2) (i : Nat) => if (if p = 0 then badA else badB).getLsbD i then none else some (s.rbOf p i)
      let bad := (List.range 13).filter (fun i => held 0 i != held 1 i)
      let s := bad.foldl (fun s (i : Nat) =>
        let v := max ((held 0 i).getD 0) ((held 1 i).getD 0)
        ((s.rbWrite 0 i v).rbWrite 1 i v).raise 0x2202 i) s
      s.setBit .SEC_STATUS_RB_OK bad.isEmpty

/-! ### Vendor packages (R545, R546) -/

def State.pkgState (s : State) : Nat := s.get .SEC_PKG_STATUS_STATE
def State.pkgFail (s : State) (code : Nat) : State :=
  ((s.set .SEC_PKG_STATUS_STATE 5).set .SEC_PKG_STATUS_ERR code).raise 0x2204 0xFF code

/-- OPEN (Table 22-4). -/
def State.pkgOpen (s : State) : State :=
  if s.pkgState = 1 ∨ s.pkgState = 3 then s.set .SEC_PKG_STATUS_ERR 1
  else
    let s : State := { s with sec := { s.sec with staging := [], verified := none, stored := false } }
    (s.set .SEC_PKG_STATUS_STATE 1).set .SEC_PKG_STATUS_KIND 0

/-- A data write: 4 bytes at the staging address; beyond 6 MiB it is ignored, code 0x06 (Table 22-6). -/
def State.pkgData (s : State) (data : Nat) : State :=
  let a := s.get .SEC_PKG_ADDR_OFFSET
  if 6 * MiB < a + 4 then s.set .SEC_PKG_STATUS_ERR 6
  else { s with sec := { s.sec with staging := (a, data % 2 ^ 32) :: s.sec.staging.filter (fun e => e.1 != a) } }

/-- The checks of R545 in order: header, DEVICE, SERIAL, counter, signature; 0 when all pass. -/
def State.pkgCode (s : State) (bs : List Nat) : Nat :=
  let f := leAt bs
  let headOk := f 0 4 == 0x5EC07A6E && f 4 2 == 1 && (f 6 1 == 1 || f 6 1 == 2) && decide (f 7 1 ≤ 1) && f 8 4 == bs.length &&
    decide (64 + 128 ≤ bs.length) && f 0x14 4 == 0x8A01 && f 0x18 8 == (if f 6 1 = 1 then 0 else s.get .SEC_SERIAL_SERIAL)
  if !headOk then 2
  else if f 0x0C 4 < s.rbNow (if f 6 1 = 1 then rbFirmware else rbTables) then 4
  else if !sigOk (Config.vendorKey 0) bs then 3
  else 0

/-- VERIFY. -/
def State.pkgVerify (s : State) : State :=
  if s.pkgState ≠ 1 then s
  else
    let n := leAt (stagedBytes s.sec.staging 12) 8 4
    if 6 * MiB < n then s.pkgFail 2
    else
      let bs := stagedBytes s.sec.staging n
      let s := s.set .SEC_PKG_STATUS_KIND (leAt bs 6 1)
      let c := s.pkgCode bs
      if c ≠ 0 then s.pkgFail c
      else ({ s with sec := { s.sec with verified := some bs } } : State).set .SEC_PKG_STATUS_STATE 2

/-- The preconditions of an activation (R546). -/
def State.pkgMay (s : State) : Bool :=
  (allFin 8).all (fun b : Fin 8 => s.rhdState b == 0) && s.imgState != 4 &&
    (s.get .SEC_PKG_STATUS_KIND != 2 ||
      (allFin 8).all (fun d : Fin 8 => s.inReset (8 + d.val) || s.streamState d == 0 || s.streamState d == 2))

/-- ACTIVATE. -/
def State.pkgActivate (s : State) : State :=
  if s.pkgState ≠ 2 then s
  else if !s.pkgMay then (s.set .SEC_PKG_STATUS_ERR 5).raise 0x2204 0xFF 5
  else ({ s with sec := { s.sec with stored := false } } : State).set .SEC_PKG_STATUS_STATE 3

/-- Vendor tables come into force: their voltages, version and highest codes, on which the age state carries over (R477, R546). -/
def State.applyTables (s : State) (bs : List Nat) : State :=
  let s : State := { s with sec := { s.sec with vt := some bs } }
  let s := s.set .CAP_VT_VERSION_VERSION (leAt bs 0x10 4)
  let s := forFin 8 s (fun s d => (List.range 49).foldl (fun s (c : Nat) => s.set .CAP_VT_VENDOR_MV (Config.vtVolt bs d c) 0 (d.val * 64 + c)) s)
  let s := forFin 8 s (fun s d =>
    let s := (s.set .CAP_AGE_MAX_CODE (s.topCodeOf d) 0 d).ageFollow d
    if (s.wanted (2 + d.val)).en then s.wantVc d (s.die d).code else s)
  s.retag

/-- An activation is complete: the counter is raised, then ACTIVE and event 0x2203. -/
def State.pkgDone (s : State) (bs : List Nat) : State :=
  let kind := leAt bs 6 1
  let s := s.rbRaise (if kind = 1 then rbFirmware else rbTables) (leAt bs 0x0C 4)
  let s : State := { s with sec := { s.sec with stored := false } }
  (s.set .SEC_PKG_STATUS_STATE 4).raise 0x2203 0xFF kind (leAt bs 0x10 4)

/-- The slots that hold a new firmware package are current in both flashes, and the standby `q` takes its warm reset into it. -/
def State.pkgStored (s : State) (bs : List Nat) (q : Fin 2) : State :=
  let s : State := { s with sec := { s.sec with
    fwOther := Vector.ofFn (fun p : Fin 2 => some (s.fwSlot p)), fwCurrent := Vector.replicate 2 (some bs), stored := true } }
  s.requestReset (2 ^ (1 + q.val) + 2 ^ (4 + q.val))

/-- VENDOR_ACTIVATION_DONE: the package's copies are stored, and with them voltage tables apply; of firmware, the copies are
stored, and later both pilots run it. Without a standby, or on a flash failure, the activation fails with code 0x07. -/
def execVendorActivationDone (ok : Bool) (s : State) : Host.Outcome State Fault Refusal :=
  .next <|
    match s.pkgState, s.sec.verified with
    | 3, some bs =>
      if !ok then s.pkgFail 7
      else if leAt bs 6 1 = 2 then
        if s.standby.isNone then s.pkgFail 7 else (s.applyTables bs).pkgDone bs
      else if s.sec.stored then
        if s.sec.fwRun[0] = some bs ∧ s.sec.fwRun[1] = some bs then s.pkgDone bs else s
      else match s.standby with
        | some q => s.pkgStored bs q
        | none => s.pkgFail 7
    | _, _ => s

/-! ### The owner key (R548, R549) -/

/-- The new key and its proof of possession as written. -/
def State.ownerNew (s : State) : List Nat := ((List.range 15).flatMap (fun i => toLe (s.get .SEC_OWNER_NEW_BYTES 0 i) 4)).take 57
def State.ownerPop (s : State) : List Nat := ((List.range 29).flatMap (fun i => toLe (s.get .SEC_OWNER_POP_BYTES 0 i) 4)).take 114

/-- Does the proof verify: a signature by the new key with context "owner" over SERIAL, the key and the next counter value. -/
def State.ownerProof (s : State) : Bool :=
  let msg := Config.shake256 (toLe (s.get .SEC_SERIAL_SERIAL) 8 ++ s.ownerNew ++ toLe (s.rbNow rbOwner + 1) 4) 64
  Config.ed448Verify s.ownerNew [0x6F, 0x77, 0x6E, 0x65, 0x72] msg s.ownerPop

/-- The customer loop ends with its owner: a running loop stops and its stored package is erased; a package being loaded fails.
While a package is being stored a DISABLE is refused (Table 16-3). -/
def State.ownerCust (s : State) : State :=
  s.custBusy (fun s =>
    let s := if s.cte.custActive.isSome then
        ({ s with cte := { s.cte with custFlash := Vector.replicate 2 none } } : State).custStop else s
    if s.custState = 4 then s.set .CTE_CUST_STATUS_STATE 0
    else if s.custState = 1 ∨ s.custState = 2 then s.custFail 3
    else s)

/-- `SEC_OWNER_CTRL.KEY` (R549). -/
def State.ownerCommit (s : State) (key : Nat) : State :=
  if key ≠ 0x0E3A then s
  else if s.get .BTH_COMMITTED_BERTHS ≠ 0 then s.set .SEC_OWNER_STATUS_ERR 5
  else if !s.ownerProof then s.set .SEC_OWNER_STATUS_ERR 3
  else
    let c := s.rbNow rbOwner
    let s := ((List.range 15).foldl (fun s (i : Nat) => s.set .SEC_OWNER_KEY_BYTES (leAt s.ownerNew (4 * i) 4) 0 i) s).setBit .SEC_STATUS_OWNED true
    let s := (s.rbRaise rbOwner (c + 1)).set .SEC_OWNER_STATUS_ERR 0
    let s : State := { s with
      img := { s.img with full := Vector.replicate 2 none, partials := Vector.replicate 2 [] }
      net := { s.net with sessions := s.net.sessions.filter (fun x => x.role != 0xFF) } }
    let s := if s.imgState = 0 ∨ s.imgState = 5 ∨ s.imgState = 6 then s else s.imgFail 0x0F
    s.ownerCust.raise 0x2207

end Sys2Proof.Machine
end

