-- ==== Sys2Proof/Machine/Slipway.lean ====
section
/-! DEFINITION. The slipway: drain requests, the drain's states and the end of a surprise removal (chapter 20). -/

namespace Sys2Proof.Machine

def State.hplState (s : State) : Nat := s.get .HPL_STATE_STATE

/-- Enter a slipway state. -/
def State.hplEnter (s : State) (st : Nat) : State :=
  let s : State := { s with hpl := { s.hpl with since := s.now } }
  s.set .HPL_STATE_STATE st

/-- The berths that exist. -/
def State.berthsHere (s : State) : List (Fin 8) := (allFin 8).filter (fun b : Fin 8 => (s.berth b).desc.isSome)

/-! ### Requests (R504 to R506) -/

/-- A drain request from a source of `HPL_STATE.DRAIN_SRC`; the flag says that it was accepted. -/
def State.drainRequest (s : State) (src : Nat) : State × Bool :=
  if s.hplState = 0 ∧ s.ready rSUP then
    let s := ((s.hplEnter 1).set .HPL_STATE_DRAIN_SRC src).raise 0x2001 0xFF src
    (s.berthsHere.foldl (fun s (b : Fin 8) => s.bthQuiesce b) s, true)
  else (s.setBit .HPL_STATE_REFUSED true, false)

/-- A cancel: QUIESCING or DISCHARGING goes back to RUN; holds and departures stay as they are (Table 20-1). -/
def State.drainCancel (s : State) : State × Bool :=
  if s.hplState = 1 ∨ s.hplState = 2 then
    (((s.hplEnter 0).setBit .BWR_STATUS_DRAIN false).raise 0x2006, true)
  else (s.setBit .HPL_STATE_REFUSED true, false)

/-- `HPL_CTRL.KEY`: any other value is ignored (Table 20-7). The flag says that the write was refused. -/
def State.hplKey (s : State) (src : Source) (key : Nat) : State × Bool :=
  let from_ := match src with | .smbus => 3 | _ => 0
  let (s, ok) := if key = 0xD2A1 then s.drainRequest from_ else if key = 0xCA9C then s.drainCancel else (s, true)
  (s, !ok)

/-! ### The drain (Table 20-1) -/

/-- DISCHARGING begins: the breakwater runs toward 30% (R508). -/
def State.discharging (s : State) : State := (s.hplEnter 2).setBit .BWR_STATUS_DRAIN true

/-- A berth belongs to no domain. -/
def State.outOfDomain (s : State) (b : Fin 8) : Bool := decide (s.rhdState b < 3) || decide (s.rhdState b = 6)

/-- DRAIN_QUIESCED. -/
def execDrainQuiesced (s : State) : Host.Outcome State Fault Refusal :=
  .next (if s.hplState = 1 && s.berthsHere.all (fun b : Fin 8 => s.quiesced b && s.outOfDomain b) then s.discharging else s)

/-- DRAIN_BERTH_LEAVE: a member sends LEAVE with REASON 0, a master stops beaconing; the berth enters OFF (R507). -/
def execDrainBerthLeave (b : Fin 8) (s : State) : Host.Outcome State Fault Refusal :=
  .next <|
    let parked := (s.berthDies b).all (fun d : Fin 8 => s.streamState d == 0 || s.streamState d == 2)
    if s.hplState = 1 && (s.rhdState b == 4 || s.rhdState b == 5) && parked then s.rhdOff b 0 else s

/-- The present slipway state has lasted `t` seconds. -/
def State.hplLong (s : State) (t : Nat) : Bool := decide (s.hpl.since + t * second ≤ s.now)

/-- QUIESCE_TIMEOUT: once QUIESCE_S has elapsed, berths that are not quiesced go through reset, event 0x2003 for each (R506). -/
def execQuiesceTimeout (s : State) : Host.Outcome State Fault Refusal :=
  .next <|
    if s.hplState ≠ 1 ∨ !s.hplLong (s.get .HPL_CFG_QUIESCE_S) then s
    else
      let left := s.berthsHere.filter (fun b : Fin 8 => !s.quiesced b)
      (left.foldl (fun s (b : Fin 8) => (s.requestReset (2 ^ (24 + b.val))).raise 0x2003 b) s).discharging

/-- DISCHARGE_END: SOC at or below 30.5%, or the breakwater is not ready (R508). -/
def execDischargeEnd (s : State) : Host.Outcome State Fault Refusal :=
  .next (if s.hplState = 2 && (decide (s.get .BWR_SOC_PCT_X100 ≤ 3050) || !s.ready rBWR) then s.hplEnter 3 else s)

/-- DISCHARGE_TIMEOUT: DISCH_S has elapsed (Table 20-1). -/
def execDischargeTimeout (s : State) : Host.Outcome State Fault Refusal :=
  .next (if s.hplState = 2 && s.hplLong (s.get .HPL_CFG_DISCH_S) then (s.hplEnter 3).raise 0x2004 else s)

/-- DRAIN_STOPPING: the steps of R509, in order: the die rails off and NET held, every session ended; BWC 0 and isolation open; IB0
and IB1 off; the ring flushed; the hot-swap FET open; DRAINED. -/
def execDrainStopping (s : State) : Host.Outcome State Fault Refusal :=
  .next <|
    if s.hplState ≠ 3 then s
    else
      let s := s.railsDown (List.range' 2 44)
      let s := s.holdDomain 6
      let s : State := { s with net := { s.net with sessions := [] } }
      let s := (s.set .BWR_BWC_CMD_W 0).isoOpen
      let s := s.railsDown [0, 1]
      let s := s.startFlush.flushDone s.act
      let s := s.hotSwapOpen
      ((s.hplEnter 4).tally .HPL_COUNT_DRAINS).raise 0x2002

/-! ### The end of a surprise removal (Table 20-3, R513) -/

/-- SURPRISE_HOLD_OPEN: once the ring is flushed and the module record written, BWC goes to 0, isolation opens and the state is
HELD; with isolation open already nothing is waited for. -/
def execSurpriseHoldOpen (s : State) : Host.Outcome State Fault Refusal :=
  .next <|
    if s.hplState = 5 && (decide (s.iso = 0) || (!s.bit .LOG_STATUS_FLUSHING && s.hpl.recorded)) then
      let s := (s.set .BWR_BWC_CMD_W 0).isoOpen
      s.hplEnter 6
    else s

end Sys2Proof.Machine
end

