-- ==== Sys2Proof/Machine/Reset.lean ====
section
/-! DEFINITION. Resets and readiness: sources, requests, entry, release, clocks and the readiness bitmap (chapter 3). -/

namespace Sys2Proof.Machine

/-! ### Sources (Table 3-2) -/

/-- POWER_ON_RESET: VAUX, VPLA and VPLB have been in regulation for 2 ms. -/
def execPowerOnReset (s : State) : Host.Outcome State Fault Refusal := .next (s.requestCold [0])

/-- BROWN_OUT_RESET: the input node has been below 30 V for 50 µs. -/
def execBrownOutReset (s : State) : Host.Outcome State Fault Refusal := .next (s.requestCold [1])

/-- A pilot is unpowered, or a removal sequence has finished: an insertion starts the module (Table 3-2). -/
def State.insertable (s : State) : Bool :=
  s.hplState == 4 || s.hplState == 6 || (!s.bit .PWR_RAIL_STATUS_ON 47 && !s.bit .PWR_RAIL_STATUS_ON 48)

/-- HOT_PLUG_INSERTION: PRESENT_N has fallen, in a slot whose straps read `slot`. AO enables the limiter and a cold reset begins;
while a surprise removal runs the fall waits for the cold reset that ends it (R55, R64, R65, R348, R502). -/
def execHotPlugInsertion (slot : Fin 16) (s : State) : Host.Outcome State Fault Refusal :=
  .next <|
    if !s.pins.presentN then s
    else
      let s : State := { s with pins := { s.pins with presentN := false, slotStraps := slot } }
      if s.insertable then s.requestCold [0, 2] else s

/-- WATCHDOG_RESET: the watchdog of a pilot has expired. -/
def execWatchdogReset (p : Fin 2) (s : State) : Host.Outcome State Fault Refusal :=
  .next ((s.setCause (4 + p.val)).requestReset (2 ^ (1 + p.val) + 2 ^ (4 + p.val)))

/-- The scope of RESET_IN_N: NET, the dies, the quays and the berths. -/
def resetInScope : Nat := 0xFFFFFF40

/-- The reset of RESET_IN_N; with the dies already down in a removal it changes nothing (R514). -/
def State.resetIn (s : State) : State := if 5 ≤ s.hplState then s else (s.setCause 3).requestReset resetInScope

/-- RESET_IN_PULSE: RESET_IN_N was low for `ns`. At least 10 µs requests the reset, less than 1 µs is ignored, and between the two
R48 leaves open which: a free value decides (log entry 56). -/
def execResetInPulse (ns : Nat) (s : State) : Host.Outcome State Fault Refusal :=
  .next <|
    if ns < 1000 then s
    else if 10000 ≤ ns then s.resetIn
    else
      let (v, s) := s.freeNat 70
      if v % 2 = 0 then s else s.resetIn

/-! ### Requests over Bampor (R68, R75) -/

/-- Why R68 refuses a reset of the domains of a mask: the code of Table 3-4 and the lowest domain it names. -/
def State.resetRefused (s : State) (mask : Nat) : Option (Nat × Nat) :=
  let out := (List.range 8).any (fun n => !s.inReset (8 + n))
  if bitAt mask 0 then some (3, 0)
  else if bitAt mask 1 && bitAt mask 2 then some (5, 1)
  else if bitAt mask 3 && out then some (5, 3)
  else if bitAt mask 4 && bitAt mask 5 && out then some (5, 4)
  else none

/-- Record a refusal (Table 3-9). -/
def State.refuse (s : State) (f : Fld) (code domain : Nat) : State :=
  ((s.setBit f true).set .RST_STATUS_REFUSE_CODE code).set .RST_STATUS_REFUSE_DOMAIN domain

/-- `RST_REQ.KEY`; the flag says that the request was refused. -/
def State.rstKey (s : State) (key : Nat) : State × Bool :=
  let mask := s.get .RST_REQ_MAP_MAP
  let low := ((List.range 32).find? (fun d => bitAt mask d)).getD 0
  if key ≠ 0x0A5C then (s.refuse .RST_STATUS_REQ_REFUSED 4 low, true)
  else match s.resetRefused mask with
    | some (c, d) => (s.refuse .RST_STATUS_REQ_REFUSED c d, true)
    | none => ((s.setCause 8).requestReset mask, false)

/-! ### Release (R73 to R75) -/

/-- The place of a domain in the order of release (R73). -/
def releaseStep (d : Nat) : Nat :=
  if d < 3 then 1 else if d = 3 then 2 else if d < 6 then 3 else if d = 6 then 4 else if d < 24 then 5 else 6

/-- The rails of a compute or quay die are in regulation. -/
def State.railsOf (s : State) (d : Nat) : Bool :=
  if d < 16 then s.bit .PWR_RAIL_STATUS_IN_REG (2 + (d - 8))
  else [10, 18, 26, 34].all (fun r => s.bit .PWR_RAIL_STATUS_IN_REG (r + (d - 16)))

/-- The functions that a domain's release requires (Table 3-6). A control engine half is released without FWV while no pilot holds
a grant: the grant that SUP, and so FWV, needs waits for a heartbeat, and that for the engine (R487, R490; log entry 20). -/
def State.releaseNeeds (s : State) (d : Nat) : Bool :=
  if d ≤ 3 then s.ready rBOOT
  else if d < 6 then s.ready rFWV || (s.activePilot.isNone && s.ready rBOOT)
  else if d = 6 then s.ready rNETR
  else if d < 16 then s.railsOf d && s.ready rFWY && s.ready rFWV
  else if d < 24 then s.railsOf d && s.ready rFWY
  else match (s.berth (Fin.ofNat 8 (d - 24))).desc with
    | some y => (List.range 8).all (fun n => !bitAt y.dieMask n || !s.inReset (8 + n))
    | none => false

/-- May a domain be released: in hold, with no request outstanding, its clock good, what it requires ready, not held by
`RST_HOLD`, its pilot not held out (R73, R74, R75, R493). -/
def State.releasable (s : State) (d : Nat) : Bool :=
  d != 0 && d != 7 && decide (d < 32) && s.inReset d && !bitAt s.rst.requested d && s.clkGood d && s.releaseNeeds d &&
    !bitAt (s.get .RST_HOLD_HOLD) d && !((d == 1 || d == 4) && (s.pilot 0).held) && !((d == 2 || d == 5) && (s.pilot 1).held)

/-- A write of `RST_HOLD`: bits written 1 are a reset request, bits that become 0 a release request. A refusal of either changes no
field; the flag says so (R68, R75). -/
def State.holdWrite (s : State) (v : Nat) : State × Bool :=
  let old := s.get .RST_HOLD_HOLD
  let free := (List.range 32).filter (fun d => !bitAt v d && bitAt old d)
  let no := s.resetRefused v
  let bad := free.findSome? (fun d =>
    if d < 3 then some (3, d) else if !s.clkGood d then some (1, d) else if !s.releaseNeeds d then some (2, d) else none)
  match no, bad with
  | some (c, d), _ => (s.refuse .RST_STATUS_REQ_REFUSED c d, true)
  | none, some (c, d) => (s.refuse .RST_STATUS_REL_REFUSED c d, true)
  | none, none =>
    let s := s.set .RST_HOLD_HOLD v
    (if v = 0 then s else (s.setCause 8).requestReset v, false)

/-- The first release of a SUP half after a cold reset: SLOT_ID is sampled (R55, R65). -/
def State.sampleSlot (s : State) : State :=
  if s.rst.cold && s.rst.released % 8 == 0 then s.set .MOD_SLOT_SLOT s.pins.slotStraps else s

/-- What a domain does at its release: SLOT_ID is sampled, engine counters start at 0, port modes and polarities come into force,
fabric ports train, a pending code is taken, a berth is held quiesced, the SMBus selectors start at their Reset values
(Table 3-3, R14, R42, R55, R307, R331). -/
def State.release (s : State) (d : Nat) : State :=
  let s := if d = 1 ∨ d = 2 then s.sampleSlot else s
  let s := s.set .RST_IN_RESET_STATE (putBit (s.get .RST_IN_RESET_STATE) d false)
  let s : State := { s with rst := { s.rst with released := putBit s.rst.released d true } }
  if d = 1 ∨ d = 2 then (if s.activePilot.isNone then s.clearCopies .smbus else s)
  else if d = 4 ∨ d = 5 then
    if s.hma.grant = some (Fin.ofNat 2 (d - 4)) then
      ({ s with cte := { s.cte with cycle := 0 } } : State).cteClear
    else s
  else if d = 6 then
    let s : State := { s with net := { s.net with
      modeNow := Vector.ofFn (fun p : Fin 2 => s.get .NET_P_CFG_MODE p), anNow := Vector.ofFn (fun p : Fin 2 => s.bit .NET_P_CFG_AN p)
      polNow := Vector.ofFn (fun p : Fin 2 => s.get .NET_P_CFG_POL p)
      udpNow := (s.get .NET_UDP_PORTS_BAMPOR, s.get .NET_UDP_PORTS_TIDEMARK) } }
    (s.fwyTrain 16).fwyTrain 17
  else if 8 ≤ d ∧ d < 16 then
    let c : Fin 8 := Fin.ofNat 8 (d - 8)
    let s := s.fwyTrain (d - 8)
    if s.rateAged c then s.rateApply c else s
  else if 16 ≤ d ∧ d < 24 then
    let q : Fin 8 := Fin.ofNat 8 (d - 16)
    (s.modQuay q (fun y => { y with
      tryRate := Vector.replicate 2 (s.get .QDC_HBM_CFG_RATE_MAX q), failed := Vector.replicate 2 false })).fwyTrain (d - 8)
  else if 24 ≤ d then s.bthQuiesce (Fin.ofNat 8 (d - 24))
  else s

/-- The release of a domain keeps the order of R73: no domain of an earlier step that could be released is still in hold, and at
its first release after a cold reset some domain of each earlier step has left reset; of SUP, CTE and the dies one is enough, since a
unit that has failed does not keep the others down (R66, R84; log entry 57). -/
def State.inOrder (s : State) (d : Nat) : Bool :=
  !(List.range 32).any (fun e => decide (releaseStep e < releaseStep d) && s.releasable e) &&
    (bitAt s.rst.released d || (List.range' 1 (releaseStep d - 1)).all (fun k =>
      (List.range 32).any (fun e => decide (e ≠ 0) && decide (releaseStep e = k) && bitAt s.rst.released e)))

/-- DOMAIN_RELEASE: a domain that may be released is, in the order of R73. -/
def execDomainRelease (d : Fin 32) (s : State) : Host.Outcome State Fault Refusal :=
  .next (if s.releasable d && s.inOrder d then s.release d else s)

/-! ### Entry (R70 to R72) -/

/-- RESET_WAIT_END: the flash pulse that held a reset back for `us` has ended (R71). -/
def execResetWaitEnd (_p : Fin 2) (us : Nat) (s : State) : Host.Outcome State Fault Refusal :=
  .next <|
    let s := if s.rst.waiting = 0 then s else s.set .RST_STATUS_LAST_DELAY_US (min us 1200)
    match s.rst.waitCold with
    | some causes => s.coldReset causes
    | none => { s with rst := { s.rst with requested := Nat.lor s.rst.requested s.rst.waiting, waiting := 0 } }

/-- RESET_HOLD_ENTRY: a requested domain enters reset hold (R69, R70). -/
def execResetHoldEntry (d : Fin 32) (s : State) : Host.Outcome State Fault Refusal :=
  .next <|
    if !bitAt s.rst.requested d then s
    else
      let s : State := { s with rst := { s.rst with requested := putBit s.rst.requested d false } }
      s.holdDomain d

/-! ### Clocks (R74) -/

/-- CLOCK_GOOD: a clock has indicated lock for 10 µs within ±0.5%. Domains 0 and 7 have none; a berth's is that of its dies. -/
def execClockGood (d : Fin 32) (s : State) : Host.Outcome State Fault Refusal :=
  .next (if d.val = 0 ∨ d.val = 7 ∨ 24 ≤ d.val then s
    else s.set .RST_CLK_GOOD_GOOD (putBit (s.get .RST_CLK_GOOD_GOOD) d true))

/-- CLOCK_DROP: the domain returns to reset hold and its ready bit clears; with a compute die's clock its berth's drops too. -/
def execClockDrop (d : Fin 32) (s : State) : Host.Outcome State Fault Refusal :=
  .next <|
    if d.val = 0 ∨ d.val = 7 ∨ 24 ≤ d.val then s
    else
      let s := s.set .RST_CLK_GOOD_GOOD (putBit (s.get .RST_CLK_GOOD_GOOD) d false)
      let s := if s.inReset d then s else s.holdDomain d
      let s := if 8 ≤ d.val then s.fabricLost (d.val - 8) else if d.val = 6 then (s.fabricLost 16).fabricLost 17 else s
      if 8 ≤ d.val ∧ d.val < 16 then
        match (s.die (Fin.ofNat 8 (d.val - 8))).berth with
        | some b => if s.inReset (24 + b.val) then s else s.holdDomain (24 + b.val)
        | none => s
      else s

/-! ### Readiness (R78 to R81) -/

/-- Every rail of a list is in regulation. -/
def State.railsIn (s : State) (rs : List Nat) : Bool := rs.all (fun r => s.bit .PWR_RAIL_STATUS_IN_REG r)

/-- The fairway ports of every released die have trained, and one die at least is released (Tables 3-6, 3-7). -/
def State.fwyReady (s : State) : Bool :=
  let up := (List.range 16).filter (fun i => !s.inReset (8 + i)) ++ (if s.inReset 6 then [] else [16, 17])
  !up.isEmpty && up.all (fun i => s.fwy.trained.contains i)

/-- What a function's bit requires (Tables 3-6 to 3-8). -/
def State.readyNeeds (s : State) (bit : Nat) : Bool :=
  match bit with
  | 0 => s.ready rBOOT && s.activePilot.isSome
  | 1 => s.ready rSUP && s.log.mounted[s.act]
  | 2 => s.bit .PWR_IN_STATUS_PRE_DONE && s.railsIn [46, 47, 48]
  | 3 => s.ready rFWV && s.pins.pwrEn && s.bit .PWR_IN_STATUS_HS_ON && s.railsIn [0, 1]
  | 4 => s.ready rIB && s.railsIn [42, 43, 44, 45]
  | 5 => s.ready rIB && s.railsIn (List.range' 10 32)
  | 6 => s.ready rIB && s.railsIn (List.range' 2 8)
  | 7 => s.ready rFWV && s.engineUp
  | 8 => s.ready rSUP && decide (0 < s.get .CEL_SCANS_COUNT) && s.cel.idDecoded
  | 9 => s.ready rCTE && s.ready rCEL && s.ready rIB && s.isoHolds && s.bit .CEL_ILK_CLOSED && decide (s.iso = 2)
  | 10 => s.ready rNETR && s.clkGood 6 && !s.inReset 6
  | 11 => s.ready rNETR && s.clkGood 6 && !s.inReset 6
  | 12 => s.ready (rPORT 0) || s.ready (rPORT 1)
  | 13 => s.fwyReady
  | 14 => s.ready rPTP && s.ready rFWV
  | 15 => s.ready rSUP
  | n =>
    if n < 24 then s.railsOf (n - 8) && s.ready rFWY && s.ready rFWV && !s.inReset (n - 8)
    else if n < 32 then s.railsOf (n - 8) && s.ready rFWY && !s.inReset (n - 8)
    else s.ready (rQD ((n - 32) / 2)) && s.trained (n - 32)

/-- The first readiness of SUP after a cold reset: what flash holds is loaded, `RST_HOLD` is 0, the rate-hold counters start at 0,
and precharge retries noted before are recorded (R13, R75, R325, R368, R428, R481). -/
def State.coldStart (s : State) : State :=
  let p := s.act
  let words := s.cte.paramFlash[p]
  let entry : Fld → List (RKey × Nat) := fun f => words.map (fun e => ((⟨f, 0, e.1⟩ : RKey), e.2))
  let s : State := { s with
    flashLoaded := true
    regs := entry .CTE_PARAM_ACTIVE_VALUE ++ entry .CTE_PARAM_STAGED_VALUE ++ s.flashRegs ++ s.regs
    flashRegs := []
    rst := { s.rst with cold := false }
    cap := { s.cap with reduction := Vector.ofFn (fun d : Fin 8 =>
      ((s.cap.ageStored.find? (fun e => e.1 == d.val)).map (fun e => e.2.2)).getD (Config.ageReduction d)) } }
  let s := if words.isEmpty then s else s.set .CTE_CP_SET_ID s.cpSet
  let s := s.cap.ageStored.foldl (fun s (e : Nat × Nat × Nat) => s.set .CAP_AGE_STEP e.2.1 0 e.1) s
  let s := forFin 8 s (fun s d => s.set .CAP_AGE_MAX_CODE (s.topCodeOf d) 0 d)
  let s := (s.set .RST_HOLD_HOLD 0).clearAll rhdCntFlds
  let n := s.pwr.retriesHeld
  let s : State := { s with pwr := { s.pwr with retriesHeld := 0 } }
  (List.range n).foldl (fun s _ => s.raise 0x1304) s

/-- An age state that fails verification is replaced by step 9 on every die, without a code reduction (R481). -/
def State.ageFallback (s : State) : State :=
  let s : State := { s with cap := { s.cap with reduction := Vector.replicate 8 0 } }
  let s := forFin 8 s (fun s d =>
    let s := s.set .CAP_AGE_STEP 9 0 d
    s.set .CAP_AGE_MAX_CODE (s.topCodeOf d) 0 d)
  (s.setBit .CAP_AGE_STATUS_FALLBACK true).raise 0x180C

/-- The stored customer package is verified again, and CL31 starts (R434). -/
def State.custRestore (s : State) : State :=
  if s.cte.custActive.isSome then s
  else match s.cte.custFlash[s.act] with
    | none => s
    | some bs => if s.custCode bs = 0 then (s.custStart bs).set .CTE_CUST_STATUS_STATE 4 else s.raise 0x1605

/-- What comes with a function's readiness. -/
def State.onReady (s : State) (bit : Nat) : State :=
  match bit with
  | 0 => if s.rst.cold then s.coldStart else s
  | 7 => s.custRestore
  | 8 =>
    let s := if s.pins.wake then ({ s with pins := { s.pins with wake := false } } : State).raise 0x1706 else s
    s.endLatch 0x17 0xFF
  | 12 => { s with pins := { s.pins with ppsOut := true, ppsHeld := none } }
  | n => if 2 ≤ n ∧ n ≤ 6 then { s with pins := { s.pins with syncOut := true } } else s

/-- FUNCTION_READY: a function sets its bit once everything it requires is ready (R78). FWV verifies the vendor tables, whose
failure leaves it clear, and the age state (R481, R546). -/
def execFunctionReady (bit : Fin 48) (tablesOk ageOk : Bool) (s : State) : Host.Outcome State Fault Refusal :=
  .next <|
    if s.ready bit || !s.readyNeeds bit || s.boundMissed bit then s
    else if bit.val = 15 then
      if !tablesOk then s.raise 0x2206
      else
        let s := s.setBit .CAP_AGE_STATUS_TABLE_OK true
        let s := if ageOk then s else s.ageFallback
        s.setReady rFWV true
    else (s.onReady bit).setReady bit true

/-- STARTUP_BOUND_MISSED: a level-3 fault, and the bit stays clear (R84). -/
def execStartupBoundMissed (bit : Fin 48) (s : State) : Host.Outcome State Fault Refusal :=
  .next (if s.ready bit then s else s.raise 0x0301 bit)

/-! ### The always-on domain (R64, R349) -/

/-- AO_POWER_UP: AO leaves reset, once, when its supply first rises (R64, R39, R449, R519). -/
def execAoPowerUp (s : State) : Host.Outcome State Fault Refusal :=
  .next <|
    let s := causeFlds.foldl (fun s (f : Fld) => s.setBit f false) s
    let s := s.setBit .RST_CAUSE_POR true
    let s := (s.set .HPL_COUNT_DRAINS 0).set .HPL_COUNT_SURPRISES 0
    let s := s.set .PWR_IN_STATUS_TRIPS 0
    let s := s.clearAll [.CEL_SLEEP_CFG_LO_MV, .CEL_SLEEP_CFG_HI_MV, .CEL_SLEEP_LOG_CELL, .CEL_SLEEP_LOG_MV, .CEL_SLEEP_LOG_VALID]
    { s with pins := { s.pins with ilkDrive := true, wake := false } }

/-- HOT_SWAP_TRIP_COUNT_CLEAR: PWR_EN has been low for 1 s, or PRESENT_N has broken (R349). -/
def execHotSwapTripCountClear (s : State) : Host.Outcome State Fault Refusal :=
  .next (if !s.pins.pwrEn || s.pins.presentN then s.set .PWR_IN_STATUS_TRIPS 0 else s)

end Sys2Proof.Machine
end

