-- ==== Sys2Proof/Machine/RegRead.lean ====
section
/-! DEFINITION. What a management read shows: the item that a field shows to an access source (R14), the fields that the module
derives from its state, and a register's word (R8, R113). -/

namespace Sys2Proof.Machine

/-! ### Selected items (R14) -/

/-- A source's own copy of a selector field. -/
def State.sel (s : State) (src : Source) (f : Fld) (inst : Nat := 0) : Nat := s.get f inst (srcItem src)

/-- The queue pair, and the group and entry, that a source has selected. -/
def State.selQp (s : State) (src : Source) : Nat := s.sel src .NET_QP_SEL_QP
def State.selGrp (s : State) (src : Source) : Nat := s.sel src .NET_GRP_SEL_GROUP
def State.selLink (s : State) (src : Source) : Nat := s.sel src .FWY_LINK_SEL_LINK
def State.selDir (s : State) (src : Source) : Nat := s.sel src .FWY_LINK_SEL_LINK * 2 + s.sel src .FWY_LINK_SEL_DIR

/-- The item under which a field is stored that a source reaches at place `i` of its array. -/
def State.itemOf (s : State) (src : Source) (f : Fld) (inst i : Nat) : Nat :=
  if selectorFlds.contains f || manFlds.contains f then srcItem src
  else if f = .SEC_MAN_DIGEST_BYTES then 16 * srcItem src + i
  else if f = .CDC_SENT_VAL_VALUE ∨ f = .CDC_SENT_VAL_VALID ∨ f = .CDC_SENT_BASE_VALUE then
    s.sel src .CDC_SENT_SEL_SENTINEL inst
  else if f = .FWY_LINK_STATUS_RETIRED then s.selLink src
  else if f = .FWY_LINK_BERTH_COUNT then s.selDir src * 8 + i
  else if fwyLinkFlds.contains f then s.selDir src
  else if f = .NET_QP_DEST_IP_ADDR then 4 * s.selQp src + i
  else if qpFlds.contains f then s.selQp src
  else if f = .NET_GRP_CFG_SIZE_M1 ∨ f = .NET_GRP_CFG_BERTH ∨ f = .NET_GRP_CFG_TIMEOUT_MS then s.selGrp src
  else if f = .NET_GRP_ENTRY_QP ∨ f = .NET_GRP_ENTRY_MEMBER ∨ f = .NET_GRP_ENTRY_SELF ∨ f = .NET_GRP_ENTRY_VALID then
    s.selGrp src * 16384 + s.sel src .NET_GRP_SEL_POS
  else if f = .PWR_RAIL_PH_INFO_A_X10 ∨ f = .PWR_RAIL_PH_INFO_TEMP ∨ f = .PWR_RAIL_PH_INFO_SHARE then
    s.sel src .PWR_RAIL_PH_SEL_PHASE inst
  else if f.info.blk = .cte ∧ 0x44 ≤ f.info.off ∧ f.info.off ≤ 0x60 then s.sel src .CTE_LOOP_SEL_LOOP
  else if f.info.blk = .cte ∧ 0x104 ≤ f.info.off ∧ f.info.off ≤ 0x110 then s.sel src .CTE_PARAM_SEL_WORD
  else if f = .CAP_VT_VENDOR_MV then s.sel src .CAP_VT_SEL_DIE * 64 + s.sel src .CAP_VT_SEL_CODE
  else i

/-! ### Derived fields -/

/-- Fields of a compute die (Tables 4-5, 5-6, 6-12). -/
def State.cdcShown (s : State) (src : Source) (f : Fld) (d : Fin 8) (i : Nat) : Option Nat :=
  let x := s.die d
  let t := s.sel src .CDC_TILE_SEL_TILE d
  let gid := x.gangOfTile t
  let g := gid.bind (fun k => x.gang? k)
  let at_ := fun (g : Gang) => t - g.nw
  match f with
  | .CDC_STATUS_IMAGE_VALID => some x.image.isSome.toNat
  | .CDC_STATUS_RUNNING => some (s.running d).toNat
  | .CDC_GANGS_COUNT => some x.gangs.length
  | .CDC_TILE_INFO_GANG => some (gid.getD 0)
  | .CDC_TILE_INFO_SHAPE => some (if 96 ≤ t then 0 else (g.map (·.shape)).getD 7)
  | .CDC_TILE_INFO_GY => some ((g.map (fun g => at_ g / 12)).getD 0)
  | .CDC_TILE_INFO_GX => some ((g.map (fun g => at_ g % 12)).getD 0)
  | .CDC_TILE_INFO_BALLAST_OK => some ((g.map (fun g => g.ballast.toNat)).getD 0)
  | .CDC_TEMP_MAX_TEMP => some (s.tempMax d).1
  | .CDC_TEMP_MAX_SENSOR => some (s.tempMax d).2
  | .CDC_INFLIGHT_REQ => some x.inflight
  | .CDC_TALLY_T_LO => some ((x.tallies.toList[2 * i]?).getD 0)
  | .CDC_TALLY_T_HI => some ((x.tallies.toList[2 * i + 1]?).getD 0)
  | .CDC_PACE_DOMAIN => some (decide (x.duDomain ≠ 0)).toNat
  | .CDC_PACE_THERMAL => some (decide (x.duThermal ≠ 0)).toNat
  | .CDC_PACE_RESERVE => some (decide (x.duReserve ≠ 0)).toNat
  | .CDC_FRAME_PERIOD_US => some ((x.berth.map (fun b => s.get .BTH_B_FRAME_PERIOD_US b)).getD 0)
  | .CDC_LOOP_COUNT => some ((x.loops.toList[i]?).getD 0#32).toNat
  | _ => none

/-- While a die is in reset, the fields at offsets 0x000 to 0x1FF read their Reset values, but for the identification and the
sentinel baselines (R112). -/
def State.cdcHeld (s : State) (f : Fld) (d : Nat) : Bool :=
  s.inReset (8 + d) && decide (f.info.off < 0x200) && !(decide (f.info.off = 0) || f == Fld.CDC_SENT_BASE_VALUE)

/-- Fields of a quay die (Table 8-7). A patrol pass runs while the patrol is on and a stack is trained. -/
def State.qdcShown (s : State) (src : Source) (f : Fld) (q : Fin 8) : Option Nat :=
  let t : Fin 32 := Fin.ofNat 32 (s.sel src .QDC_TUG_SEL_TUG q)
  let x := (s.quay q).tugs[t]
  let owner := s.tugOwner q t
  match f with
  | .QDC_STATUS_SCRUB_ACTIVE =>
    some (s.bit .QDC_SCRUB_CFG_ENABLE q && !s.inReset (16 + q.val) && (s.trained (2 * q) || s.trained (2 * q + 1))).toNat
  | .QDC_TUG_INFO_QUEUED =>
    some ((s.tugChans q t).map (fun i => (s.die (Fin.ofNat 8 (i / 16))).chanLoad (i % 16) - x.startedOf i)).sum
  | .QDC_TUG_INFO_OUTSTANDING => some x.outstanding
  | .QDC_TUG_INFO_ACTIVE => some (!x.runs.isEmpty).toNat
  | .QDC_TUG_INFO_OWNED => some owner.isSome.toNat
  | .QDC_TUG_INFO_BERTH => some ((owner.map (fun b => b.val)).getD 0)
  | _ => none

/-- Fields of the fairway (Table 9-4): links 38 to 63 select nothing; UP, FULL and ACTIVE hold their Reset value 0 until both ends
of a link have trained. -/
def State.fwyShown (s : State) (src : Source) (f : Fld) : Option Nat :=
  let k := s.selLink src
  if f = .FWY_STATUS_LINKS_UP then some s.linksUp
  else if f = .FWY_STATUS_DOWN then some s.linkDownSeen.toNat
  else if 0x54 ≤ f.info.off ∧ 38 ≤ k then some 0
  else match f with
    | .FWY_LINK_STATUS_UP => some (s.linkUp k).toNat
    | .FWY_LINK_STATUS_FULL => some (s.linkTrained k && linkFull k).toNat
    | .FWY_LINK_STATUS_ACTIVE => some (if s.linkTrained k then s.linkActive k else 0)
    | _ => none

/-- Fields of a berth's registers in BTH (Table 12-3); those of a berth that does not exist read 0 (R339). -/
def State.bthbShown (s : State) (f : Fld) (b : Fin 8) : Option Nat :=
  match (s.berth b).desc with
  | none => some 0
  | some y =>
    match f with
    | .BTH_B_STATUS_EXISTS => some 1
    | .BTH_B_STATUS_HOLD => some (s.berth b).hold.toNat
    | .BTH_B_STATUS_QUIESCED => some (s.quiesced b).toNat
    | .BTH_B_STATUS_DIES_BUSY => some (s.diesBusy b).toNat
    | .BTH_B_STATUS_TUGS_BUSY => some (s.tugsBusy b).toNat
    | .BTH_B_STATUS_COLL_BUSY => some (s.collBusy b).toNat
    | .BTH_B_STATUS_QP_ACTIVE => some (s.qpActive b).toNat
    | .BTH_B_RES_DIE_MASK => some y.dieMask
    | .BTH_B_RES_QUAY_MASK => some y.quayMask
    | .BTH_B_RES_CAP_WEIGHT => some y.capWeight
    | .BTH_B_QP_BASE_BASE => some y.qpBase
    | .BTH_B_QP_COUNT_COUNT => some y.qpCount
    | .BTH_B_BALLAST_MAX_W => some y.ballastMaxW
    | _ => none

/-- `BTH_FREE`: dies in no berth, and quays with SRAM that no berth holds (Table 12-3; a quay has 320 MiB of it). -/
def State.bthFree (s : State) (f : Fld) : Option Nat :=
  let share := fun (q : Nat) => ((allFin 8).map (fun b : Fin 8 =>
    ((s.berth b).desc.map (fun y => ((y.qsram[q]?).getD (0, 0)).1 + ((y.qsram[q]?).getD (0, 0)).2)).getD 0)).sum
  match f with
  | .BTH_FREE_DIES => some (mapBits 8 (fun d => (s.die (Fin.ofNat 8 d)).berth.isNone))
  | .BTH_FREE_QUAYS => some (mapBits 8 (fun q => decide (share q < 320)))
  | _ => none

/-- The member that a source has selected: of the table of a berth that is MASTER, which holds itself too (R325, R318). -/
def State.memberShown (s : State) (src : Source) (f : Fld) : Option Nat :=
  let b : Fin 8 := Fin.ofNat 8 (s.sel src .RHD_MEMBER_SEL_BERTH)
  let i := s.sel src .RHD_MEMBER_SEL_INDEX
  let own := s.get .RHD_STATE_INDEX b == i
  let m := if s.rhdState b = 5 then (s.rhdOf b).members.find? (fun m => m.index == i) else none
  let isOwn := decide (s.rhdState b = 5) && own
  match f with
  | .RHD_MEMBER_INFO_VALID => some (m.any (fun m => !m.pending) || isOwn).toNat
  | .RHD_MEMBER_INFO_TAG_OK => some ((m.map (fun m => m.tagOk)).getD isOwn).toNat
  | .RHD_MEMBER_INFO_REQUESTING => some ((m.map (fun m => m.req.isSome)).getD (isOwn && (s.rhdOf b).ownReq.isSome)).toNat
  | .RHD_MEMBER_INFO_MISSED => some ((m.map (·.missed)).getD 0)
  | .RHD_MEMBER_INFO_DUTY => some ((m.map (·.duty)).getD 0)
  | .RHD_MEMBER_INFO_RATE => some ((m.map (·.rate)).getD 0)
  | .RHD_MEMBER_SKEW_SKEW => some ((m.map (·.skew)).getD 0)
  | _ => none

/-- Fields of a berth's registers in RHD (Table 11-8). -/
def State.rhdbShown (s : State) (f : Fld) (b : Fin 8) : Option Nat :=
  match f with
  | .RHD_STATE_KEY_SET => some (s.tmKeySet b).toNat
  | .RHD_RATE_RATE => some (s.berthCode b)
  | .RHD_RATE_MAX_CODE => some (s.berthMax b)
  | .RHD_RATE_SWITCH_WAIT => some ((s.berthDies b).any (fun d => (s.die d).ratePend.isSome)).toNat
  | _ => none

/-- Fields of a rail (Tables 13-6 and 14-6). -/
def State.railShown (s : State) (src : Source) (f : Fld) (r : Fin 50) (i : Nat) : Option Nat :=
  let x := s.rail r
  match f with
  | .PWR_RAIL_STATUS_SHEDDING => some x.rampOff.isSome.toNat
  | .PWR_RAIL_STATUS_DE => some (s.bit .PWR_RAIL_STATUS_ON r && s.railDE r).toNat
  | .PWR_RAIL_STATUS_BRAKING => some (!x.braking.isEmpty).toNat
  | .PWR_RAIL_STATUS_RAMP => some (s.railRamp r).toNat
  | .PWR_RAIL_STATUS_ACTIVE => some (if s.bit .PWR_RAIL_STATUS_ON r then (s.runPhases r).length else 0)
  | .PWR_RAIL_VSET_NOW_MV => some (natOf x.vset)
  | .PWR_RAIL_PH_INFO_ACTIVE =>
    some (s.bit .PWR_RAIL_STATUS_ON r && (s.runPhases r).contains (s.sel src .PWR_RAIL_PH_SEL_PHASE r)).toNat
  | .PWR_RAIL_PROT_STATUS_LATCHED => some x.latched.toNat
  | .PWR_RAIL_PROT_STATUS_FOLDBACK => some (s.railFolded r).toNat
  | .PWR_RAIL_PROT_STATUS_OV => some (decide (x.latch = some 4)).toNat
  | .PWR_RAIL_REC_BYTES => some (s.recRead src (recOf r) i)
  | _ => none

/-- Common fields of PWR (Tables 13-7 and 14-7). -/
def State.pwrShown (s : State) (src : Source) (f : Fld) (i : Nat) : Option Nat :=
  match f with
  | .PWR_GROUP_FSW_KHZ => some (natOf (s.groupKhz i))
  | .PWR_IN_STATUS_PRECHARGE => some s.pins.limiter.toNat
  | .PWR_IN_STATUS_PWR_EN => some s.pins.pwrEn.toNat
  | .PWR_MOD_REC_BYTES => some (s.recRead src 50 i)
  | _ => none

/-- Fields of the control engine (Table 16-6). -/
def State.cteShown (s : State) (src : Source) (f : Fld) : Option Nat :=
  let core := s.sel src .CTE_CORE_SEL_CORE
  let load := fun (w : Nat) => some (if s.engineUp then Config.coreLoad core w s.now % 101 else 0)
  match f with
  | .CTE_STATUS_PILOT => some s.act.val
  | .CTE_STATUS_CORE_UP => some (if s.engineUp then 15 else 0)
  | .CTE_CORE_LOAD_PEAK => load 0
  | .CTE_CORE_LOAD_MEAN => load 1
  | .CTE_CUST_ROLLBACK_COUNT => some (s.rbNow rbCustomer)
  | _ => none

/-- Fields of capping (Table 18-5): codes 0x31 to 0x3F of the voltage tables select nothing. -/
def State.capShown (s : State) (src : Source) (f : Fld) (i : Nat) : Option Nat :=
  let learned := (s.cap.learned.find? (fun e => e.1 == (s.sel src .CAP_LEARN_SEL_BERTH, s.sel src .CAP_LEARN_SEL_ID))).map (·.2)
  let die := s.sel src .CAP_VT_SEL_DIE
  let code := s.sel src .CAP_VT_SEL_CODE
  match f with
  | .CAP_STATUS_FAST => some (!s.pins.capFastN).toNat
  | .CAP_FLOW_LPM_X100 => some s.flow
  | .CAP_FLOW_LOW => some (decide (s.flow < 200)).toNat
  | .CAP_LEARN_P_W => some (min 8191 (natOf ((learned.map (·.1)).getD 0)))
  | .CAP_LEARN_DUR_US => some (min 65535 ((learned.map (·.2)).elim 0 natOf))
  | .CAP_AGE_AGE_H => some (min 65535 ((s.now - s.cap.measureAt[(Fin.ofNat 8 i : Fin 8)]) / (3600 * second)))
  | .CAP_VT_VENDOR_MV => if 0x30 < code then some 0 else none
  | .CAP_VT_APPLIED_MV => some (if 0x30 < code then 0 else s.vtApplied die code)
  | _ => none

/-- Fields of the pilots and HMA (Table 19-6). -/
def State.pltShown (s : State) (f : Fld) : Option Nat :=
  let q := otherPilot s.act
  let x := s.pilot q
  match f with
  | .PLT_STATUS_ACTIVE => some s.act.val
  | .PLT_STATUS_STANDBY =>
    some (match x.role with
      | .standby => if s.synced q then 3 else 2
      | .selfTest => 1
      | _ => 0)
  | .PLT_STATUS_REDUNDANT => some (s.synced q).toNat
  | .PLT_STATUS_HANDOVER => some s.hma.handover.isSome.toNat
  | .PLT_STATUS_HELD_A => some (s.pilot 0).held.toNat
  | .PLT_STATUS_HELD_B => some (s.pilot 1).held.toNat
  | .PLT_SYNC_MS_MS => some (min 65535 ((x.syncedSince.map (fun t => (s.now - t) / ms)).getD 0))
  | _ => none

/-- Fields of the logbook (Table 21-6). -/
def State.logShown (s : State) (f : Fld) : Option Nat :=
  let held := s.log.all s.act
  match f with
  | .LOG_OLDEST_SEQ => some ((held.head?.map (·.seq)).getD 0)
  | .LOG_NEWEST_SEQ => some ((held.getLast?.map (·.seq)).getD 0)
  | .LOG_FLUSHED_SEQ => some (((s.log.flash[s.act]).getLast?.map (·.seq)).getD 0)
  | .LOG_QUEUE_DEPTH => some s.log.queue.length
  | .LOG_QUEUE_HANDLING => some ((s.log.handling.map (·.level)).getD 0)
  | .LOG_QUEUE_ACTIVE => some s.log.handling.isSome.toNat
  | .LOG_UNREAD_COUNT => some s.log.unread.length
  | .LOG_LATCHED_COUNT => some (min 255 s.log.latches.length)
  | _ => none

/-- Fields of the security engine (Tables 22-8 and 7-10). -/
def State.secShown (s : State) (src : Source) (f : Fld) (i : Nat) : Option Nat :=
  let n := s.sel src .SEC_RB_SEL_INDEX
  match f with
  | .SEC_STATUS_ID_OK => some ((s.pilot 0).identityOk && (s.pilot 1).identityOk).toNat
  | .SEC_RB_VAL_COUNT => some (if n < 13 then s.rbNow n else 0)
  | .SEC_RB_IMG_FULL_COUNT => some (s.rbNow rbFull)
  | .SEC_RB_IMG_B_COUNT => some (s.rbNow (rbBerth i))
  | _ => none

/-- The value that a field shows to a source: derived, or as the store holds it (R8). -/
def State.shown (s : State) (src : Source) (f : Fld) (inst i : Nat) : Nat :=
  let d8 : Fin 8 := Fin.ofNat 8 inst
  let derived : Option Nat := match f.info.blk with
    | .cdc => if s.cdcHeld f inst then some (f.resetVal inst 0) else s.cdcShown src f d8 i
    | .qdc => s.qdcShown src f d8
    | .fwy => s.fwyShown src f
    | .bthb => s.bthbShown f d8
    | .bth => s.bthFree f
    | .rhd => s.memberShown src f
    | .rhdb => s.rhdbShown f d8
    | .rail => s.railShown src f (Fin.ofNat 50 inst) i
    | .pwr => if f = .PWR_STATUS_HELM_UP then some (if s.inReset 3 then 0 else 15) else s.pwrShown src f i
    | .bwr =>
      (match f with
      | .BWR_STATUS_RIDING => some s.riding.toNat
      | .BWR_PACK_CF_VALID => some s.cellFOk.toNat
      | .BWR_TIDE_BIN_W => some (enc 16 (max (-32768) (min 32767 (s.tideAt (s.sel src .BWR_TIDE_SEL_BIN)).floor)))
      | _ => none)
    | .cte => s.cteShown src f
    | .cap => s.capShown src f i
    | .plt => s.pltShown f
    | .hpl => if f = .HPL_ELAPSED_MS then some (min 65535 ((s.now - s.hpl.since) / ms)) else none
    | .log => s.logShown f
    | .sec => s.secShown src f i
    | .net => if f = .NET_STATUS_SESSIONS then some s.net.sessions.length else none
    | .rst =>
      (match f with
      | .RST_CLK_GOOD_GOOD => some (mapBits 32 (fun d => s.clkGood d))
      | _ => none)
    | .cvuu =>
      (match f with
      | .CVU_U_BIND_MODE => if inst = 1 then some 0 else none
      | _ => none)
    | _ => none
  if f.info.acc = .wo then 0 else derived.getD (s.get f inst (s.itemOf src f inst i)) % 2 ^ f.info.width

/-! ### Words (R5, R7, R113) -/

/-- The place of a field at a register offset of its block: its array place, and 1 for the upper word of a pair. -/
def Fld.placeAt (f : Fld) (off : Nat) : Option (Nat × Nat) :=
  let x := f.info
  if off < x.off then none
  else
    let d := off - x.off
    let (i, rest) := if x.count ≤ 1 then (0, d) else (d / x.stride, d % x.stride)
    if x.count ≤ i ∧ x.count ≠ 0 then none
    else if rest = 0 then some (i, 0)
    else if rest = 4 ∧ 32 < x.width then some (i, 1)
    else none

/-- The fields at a register offset of a block, with their places. -/
def Blk.at (b : Blk) (off : Nat) : List (Fld × Nat × Nat) :=
  b.fields.filterMap (fun f => (f.placeAt off).map (fun p => (f, p)))

/-- The counters that a _LO/_HI pair of registers shows (R113). -/
def pairCounter (f : Fld) : Bool :=
  f.info.width == 64 && f.info.acc == Acc.ro && f != Fld.SEC_MAN_TAG_TAG && f != Fld.SEC_SERIAL_SERIAL &&
    f != Fld.CVU_U_RESULT_VALUE

/-- The part of a word that one field fills. -/
def State.fieldPart (s : State) (src : Source) (inst : Nat) (p : Fld × Nat × Nat) : Nat :=
  let (f, i, half) := p
  let v := s.shown src f inst i
  if half = 1 then
    match if pairCounter f && !(f.info.blk == .cdc && s.inReset (8 + inst)) then lookupKey ⟨f, inst, s.itemOf src f inst i⟩ s.hiLatch else none with
    | some h => h
    | none => v / 2 ^ 32
  else v % 2 ^ 32 * 2 ^ f.info.lo

/-- The word that a register shows to a source; an offset that holds no register reads 0 (R7). -/
def State.wordAt (s : State) (src : Source) (b : Blk) (inst off : Nat) : Nat :=
  ((b.at off).map (fun p => s.fieldPart src inst p)).sum % 2 ^ 32

/-- A read of a counter's _LO latches its _HI; a read of a _HI takes the latched value up (R113). -/
def State.latchHi (s : State) (src : Source) (inst : Nat) (p : Fld × Nat × Nat) : State :=
  let (f, i, half) := p
  if !pairCounter f then s
  else
    let k : RKey := ⟨f, inst, s.itemOf src f inst i⟩
    let rest := s.hiLatch.filter (fun e => e.1 != k)
    if half = 0 then { s with hiLatch := (k, s.shown src f inst i / 2 ^ 32) :: rest } else { s with hiLatch := rest }

end Sys2Proof.Machine
end

