-- ==== Sys2Proof/Machine/RegWrite.lean ====
section
/-! DEFINITION. Register accesses: where an address lies (Table 23-1), what a source may read and write (R58, R283, R436, R549,
R552, R555), locks (R8, R10), the values that a field takes, action fields (R574), and the outcome of an access (R7, R59). -/

namespace Sys2Proof.Machine

/-! ### Addresses (R554, R557) -/

/-- A register's place: block, instance and offset. -/
structure Spot where
  blk : Blk
  inst : Nat := 0
  off : Nat
  deriving DecidableEq, Repr

/-- An offset at which no block holds a register. -/
def holeOff : Nat := 0x10000

/-- The place of an address; none outside every block range. -/
def spotOf (a : Nat) : Option Spot :=
  let o := a % 0x10000
  let n := a / 0x10000
  if n = 0x00 then some ⟨.mod, 0, o⟩
  else if n = 0x01 then some ⟨.rst, 0, o⟩
  else if n = 0x02 then some ⟨.plt, 0, o⟩
  else if n = 0x03 then some ⟨.log, 0, o⟩
  else if n = 0x04 then some (if 0x100 ≤ o ∧ o < 0x300 then ⟨.cvuu, (o - 0x100) / 0x40, (o - 0x100) % 0x40⟩ else ⟨.cvu, 0, o⟩)
  else if n = 0x05 then some ⟨.sec, 0, o⟩
  else if 0x10 ≤ n ∧ n < 0x17 then
    some (if (a - 0x100000) / 0x1000 < 50 then ⟨.rail, (a - 0x100000) / 0x1000, a % 0x1000⟩ else ⟨.pwr, 0, holeOff⟩)
  else if n = 0x17 then some ⟨.pwr, 0, o⟩
  else if n = 0x18 then some ⟨.bwr, 0, o⟩
  else if n = 0x19 then some ⟨.cte, 0, o⟩
  else if n = 0x1A then some ⟨.cel, 0, o⟩
  else if n = 0x1B then some ⟨.cap, 0, o⟩
  else if n = 0x1C then some ⟨.hpl, 0, o⟩
  else if n = 0x20 then some (if 0x100 ≤ o ∧ o < 0x300 then ⟨.bthb, (o - 0x100) / 0x40, (o - 0x100) % 0x40⟩ else ⟨.bth, 0, o⟩)
  else if n = 0x21 then some (if 0x100 ≤ o ∧ o < 0x500 then ⟨.rhdb, (o - 0x100) / 0x80, (o - 0x100) % 0x80⟩ else ⟨.rhd, 0, o⟩)
  else if n = 0x22 then some (if 0x100 ≤ o ∧ o < 0x300 then ⟨.port, (o - 0x100) / 0x100, (o - 0x100) % 0x100⟩ else ⟨.net, 0, o⟩)
  else if 0x30 ≤ n ∧ n < 0x38 then some ⟨.cdc, n - 0x30, o⟩
  else if 0x40 ≤ n ∧ n < 0x48 then some ⟨.qdc, n - 0x40, o⟩
  else if n = 0x50 then some ⟨.fwy, 0, o⟩
  else none

/-! ### What a source may do -/

/-- The rights of an access source (R58, R283, R549). -/
inductive Right where
  | owner
  | provisioning
  | berth (b : Fin 8)
  | smbus
  | internal
  | closed                       -- a session that is not open
  deriving DecidableEq, Repr

/-- An open session (Table 10-7). -/
def State.openSession (s : State) (n : Nat) : Option Session := s.net.sessions.find? (fun x => x.id == n && x.isOpen)

def State.right (s : State) : Source → Right
  | .smbus => .smbus
  | .internal _ => .internal
  | .session n => match s.openSession n with
    | none => .closed
    | some x => if x.provisioning then .provisioning else if x.role = 0xFF then .owner else .berth (Fin.ofNat 8 x.role)

/-- Does a berth's committed descriptor name a compute die, a quay. -/
def State.ownsDie (s : State) (b : Fin 8) (n : Nat) : Bool := ((s.berth b).desc.map (fun y => bitAt y.dieMask n)).getD false
def State.ownsQuay (s : State) (b : Fin 8) (n : Nat) : Bool := ((s.berth b).desc.map (fun y => bitAt y.quayMask n)).getD false

/-- A register's readable sources (Table 23-1, R58, R283). -/
def State.mayRead (s : State) (src : Source) (p : Spot) : Bool :=
  match s.right src with
  | .owner => true
  | .provisioning => true
  | .internal => true
  | .closed => false
  | .smbus => [Blk.mod, .rst, .plt, .log, .rail, .pwr, .bwr, .cel, .cap, .hpl].contains p.blk
  | .berth b =>
    (match p.blk with
    | .cdc => s.ownsDie b p.inst
    | .qdc => s.ownsQuay b p.inst
    | .bth => true
    | .bthb => p.inst == b.val
    | .log => true
    | _ => false)

/-- A group has no members: it is not configured (Table 10-11). -/
def State.grpEmpty (s : State) (g : Nat) : Bool := s.get .NET_GRP_CFG_SIZE_M1 0 g == 0

/-- A berth session's writes to `BTH_IMG_CTRL` (R283). -/
def State.imgCtrlMay (s : State) (b : Fin 8) (data : Nat) : Bool :=
  let mine := decide (s.img.openedBy = some b.val)
  let st := s.imgState
  (!bitAt data 0 || st == 0 || st == 5 || st == 6 || (st == 3 && mine)) &&
  (!bitAt data 1 || (st == 3 && imgKind s.staged == 1 && imgBerth s.staged == b.val)) &&
  (!bitAt data 2 || mine)

/-- A berth session's writes (R283). A group without members is claimed by naming the berth in `NET_GRP_CFG`. -/
def State.berthMayWrite (s : State) (src : Source) (b : Fin 8) (p : Spot) (data : Nat) : Bool :=
  match p.blk with
  | .cdc => s.ownsDie b p.inst
  | .bth => p.off == 0 && s.imgCtrlMay b data
  | .bthb => p.inst == b.val && (p.off == 0 || p.off == 0x18)
  | .net =>
    if p.off = 0x300 ∨ p.off = 0x380 then true
    else if 0x304 ≤ p.off ∧ p.off ≤ 0x33C then s.qpOf b (s.selQp src)
    else if p.off = 0x384 ∨ p.off = 0x388 then
      if s.grpEmpty (s.selGrp src) then p.off == 0x384 && data / 2 ^ 14 % 8 == b.val
      else s.get .NET_GRP_CFG_BERTH 0 (s.selGrp src) == b.val
    else false
  | _ => false

/-- The registers whose writes their chapters reserve for owner sessions (R379, R386, R436, R472, R497, R504, R552). -/
def ownerOnly (p : Spot) : Bool :=
  match p.blk with
  | .cte => [0x0C, 0x10, 0x48].contains p.off || decide (0x100 ≤ p.off ∧ p.off < 0x240)
  | .sec => decide (0x20 ≤ p.off ∧ p.off < 0x100) || decide (0x310 ≤ p.off ∧ p.off < 0x34C)
  | .plt => p.off == 0x08
  | .hpl => p.off == 0x04
  | .cap => p.off == 0x2C
  | .rail => p.off == 0x108
  | .pwr => p.off == 0x110
  | _ => false

/-- The SEC_OWNER registers. -/
def ownerRegs (p : Spot) : Bool :=
  decide (p.blk = .sec) && (decide (0x40 ≤ p.off ∧ p.off < 0x100) || decide (0x310 ≤ p.off ∧ p.off < 0x34C))

/-- May a source write a register (R58, R283, R549, R555). -/
def State.mayWrite (s : State) (src : Source) (p : Spot) (data : Nat) : Bool :=
  match s.right src with
  | .owner => true
  | .provisioning => ownerRegs p
  | .internal => !ownerOnly p
  | .closed => false
  | .smbus => (decide (p.blk = .cap) && p.off != 0x2C) || decide (p.blk = .hpl) || (decide (p.blk = .log) && p.off == 0x14)
  | .berth b => s.berthMayWrite src b p data

/-- A write that a source may not make: `SEC_PKG_*` and `SEC_OWNER_*` set LOCK_ERR, except for SMBus, which does not reach them
(R552, R59). -/
def State.notReached (s : State) (src : Source) (p : Spot) : State :=
  if decide (p.blk = .sec) && ownerOnly p && src != Source.smbus then s.setBit .SEC_STATUS_LOCK_ERR true else s

/-! ### Locks (R8, R10) -/

/-- Where a block shows LOCK_ERR. -/
def lockHome (p : Spot) : Option (Fld × Nat) :=
  match p.blk with
  | .rst => some (.RST_STATUS_LOCK_ERR, 0)
  | .log => some (.LOG_STATUS_LOCK_ERR, 0)
  | .cvu => some (.CVU_STATUS_LOCK_ERR, 0)
  | .cvuu => some (.CVU_STATUS_LOCK_ERR, 0)
  | .sec => some (.SEC_STATUS_LOCK_ERR, 0)
  | .rail => some (.PWR_RAIL_STATUS_LOCK_ERR, p.inst)
  | .pwr => some (.PWR_STATUS_LOCK_ERR, 0)
  | .bwr => some (.BWR_STATUS_LOCK_ERR, 0)
  | .cte => some (.CTE_STATUS_LOCK_ERR, 0)
  | .cel => some (.CEL_STATUS_LOCK_ERR, 0)
  | .cap => some (.CAP_STATUS_LOCK_ERR, 0)
  | .hpl => some (.HPL_STATE_LOCK_ERR, 0)
  | .bth => some (.BTH_IMG_STATUS_LOCK_ERR, 0)
  | .bthb => some (.BTH_IMG_STATUS_LOCK_ERR, 0)
  | .rhd => some (.RHD_STATUS_LOCK_ERR, 0)
  | .rhdb => some (.RHD_STATUS_LOCK_ERR, 0)
  | .net => some (.NET_STATUS_LOCK_ERR, 0)
  | .port => some (.NET_STATUS_LOCK_ERR, 0)
  | .cdc => some (.CDC_STATUS_LOCK_ERR, p.inst)
  | .qdc => some (.QDC_STATUS_LOCK_ERR, p.inst)
  | .mod => none
  | .plt => none
  | .fwy => none

/-- A write is refused by lock: LOCK_ERR sets and nothing else changes (R10). -/
def State.refuseLock (s : State) (p : Spot) : State × Nat :=
  match lockHome p with
  | some (f, i) => (s.setBit f true i, 4)
  | none => (s, 4)

/-- Run an action that may refuse itself by setting LOCK_ERR: the access then has status 4. -/
def State.lockAct (s : State) (p : Spot) (act : State → State) : State × Nat :=
  match lockHome p with
  | none => (act s, 0)
  | some (f, i) =>
    let old := s.bit f i
    let t := act (s.setBit f false i)
    if t.bit f i then (t, 4) else (t.setBit f old i, 0)

/-- The dies and quays of the berths that a commit in progress touches, as they are and as the image names them (R197). -/
def State.commitMask (s : State) (mask : BerthDesc → Nat) (n : Nat) : Bool :=
  s.imgState == 4 &&
    ((s.imgTouched s.staged).any (fun b => ((s.berth b).desc.map (fun y => bitAt (mask y) n)).getD false) ||
      (imgDescs s.staged).any (fun e => bitAt (mask e.2) n))

/-- The net die of a port has no operation in flight: no collective, and no packet of its queue pairs unacknowledged (R8). -/
def State.portIdle (s : State) (p : Nat) : Bool :=
  s.net.colls.isEmpty && s.net.qps.all (fun x => x.unacked.isEmpty || s.get .NET_QP_PORT_PORT 0 x.qp != p)

/-- A quay has no operation in flight: no descriptor of its tugs, no word to write back (R8). -/
def State.quayIdle (s : State) (q : Fin 8) : Bool :=
  (allFin 32).all (fun t : Fin 32 => ((s.quay q).tugs[t]).runs.isEmpty) && (s.quay q).writebacks.isEmpty

/-- Is an RWL field locked: its block runs (R8), as each chapter states (R290, R325, R338, R369, R413, R457, R537, R538), or a
commit touches it (R197). -/
def State.rwlLocked (s : State) (src : Source) (p : Spot) (f : Fld) : Bool :=
  let b : Fin 8 := Fin.ofNat 8 p.inst
  match p.blk with
  | .cdc => (!s.inReset (8 + p.inst) && s.running b) || s.commitMask (·.dieMask) p.inst
  | .qdc => (!s.inReset (16 + p.inst) && !s.quayIdle (Fin.ofNat 8 p.inst)) || s.commitMask (·.quayMask) p.inst
  | .net =>
    if qpFlds.contains f then
      let q := s.selQp src
      2 ≤ s.qpState q || (allFin 8).any (fun b : Fin 8 => s.qpOf b q && s.committing b)
    else if f = .NET_UDP_PORTS_BAMPOR ∨ f = .NET_UDP_PORTS_TIDEMARK then
      !s.inReset 6 && !(s.portIdle 0 && s.portIdle 1)
    else
      let g := s.selGrp src
      s.grpBusy g || (!s.grpEmpty g && s.committing (Fin.ofNat 8 (s.get .NET_GRP_CFG_BERTH 0 g)))
  | .port => !s.inReset 6 && !s.portIdle p.inst
  | .rhdb => s.rhdState b != 0 || s.committing b
  | .bthb => !s.quiesced b || s.committing b
  | .rail => s.bit .PWR_RAIL_STATUS_ON p.inst
  | .bwr => s.iso != 0
  | .cel => s.iso != 0
  | .cvuu => decide (p.inst < 6) || (s.get .CVU_U_BIND_STREAM p.inst != 0 && s.get .CVU_U_BIND_MODE p.inst != 3)
  | _ => false

/-- The value that a word writes to a field at its place. -/
def partVal (p : Fld × Nat × Nat) (data : Nat) : Nat :=
  if p.2.2 = 1 then data % 2 ^ 32 % 2 ^ (p.1.info.width - 32) else data % 2 ^ 32 / 2 ^ p.1.info.lo % 2 ^ min 32 p.1.info.width

/-- The value that a field holds at its place. -/
def State.partNow (s : State) (src : Source) (inst : Nat) (p : Fld × Nat × Nat) : Nat :=
  let v := s.get p.1 inst (s.itemOf src p.1 inst p.2.1)
  if p.2.2 = 1 then v / 2 ^ 32 else v % 2 ^ 32

/-- Does a lock refuse a write: a locked RWL field would change, or the register holds nothing else to write; a key word is
locked like the RWL fields of its berth (R10, R325). -/
def State.writeLocked (s : State) (src : Source) (p : Spot) (ps : List (Fld × Nat × Nat)) (data : Nat) : Bool :=
  let free := ps.any (fun q => [Acc.rw, .rws, .wo].contains q.1.info.acc)
  ps.any (fun q =>
    (decide (q.1.info.acc = .rwl) && s.rwlLocked src p q.1 && (!free || partVal q data != s.partNow src p.inst q)) ||
      (decide (q.1 = .RHD_KEY_KEY) && s.rwlLocked src p q.1))

/-! ### Values that a field takes -/

/-- Does a field take a value: the ranges of the field tables, outside which a write leaves the field (log entry 31); `new` gives
the values that the same word writes. -/
def fieldTakes (new : Fld → Nat) (f : Fld) (v : Nat) : Bool :=
  let within := fun (lo hi : Nat) => decide (lo ≤ v) && decide (v ≤ hi)
  match f with
  | .QDC_HBM_CFG_RATE_MAX => v != 3
  | .QDC_SCRUB_CFG_PERIOD_H => within 6 96
  | .FWY_TIMEOUT_US => decide (10 ≤ v)
  | .FWY_BERTH_WEIGHT_WEIGHT => within 1 16
  | .NET_MGMT_VLAN_VID => decide (v ≤ 4094)
  | .NET_QP_RQ_CFG_RQ_LOG => decide (v ≤ 12)
  | .NET_P_PFC_ENABLE => decide (((List.range 8).filter (fun i => bitAt v i)).length ≤ 4)
  | .RHD_TARGET_CODE => codeValid v
  | .RHD_TIMING_PERIOD_US => within 125 10000
  | .RHD_TIMING_STEP_LEAD => v != 0
  | .BTH_B_FRAME_PERIOD_US => v == 0 || within 100 1000000
  | .PWR_RAIL_CFG1_SS_TIME => v != 0
  | .PWR_RAIL_CFG1_SLEW => v != 0
  | .PWR_RAIL_CFG2_SHED_LO => decide (2 * v ≤ new .PWR_RAIL_CFG2_ADD_HI)
  | .PWR_RAIL_CFG2_ADD_HI => decide (2 * new .PWR_RAIL_CFG2_SHED_LO ≤ v)
  | .PWR_RAIL_CFG2_STEP => v != 0
  | .PWR_RAIL_CFG2_BRAKE => v != 0
  | .PWR_RAIL_PROT_CFG_N_LIMIT => decide (8 ≤ v)
  | .PWR_RAIL_PROT_CFG_OFF_MS => v != 0
  | .PWR_IN_PROT_RIDE_MS => within 10 5000
  | .BWR_SOC_CFG_SOC_TARGET => within 20 90
  | .BWR_SLEW_W_PER_S => within 10 50000
  | .BWR_FLOOR_W => decide (v ≤ 4000)
  | .BWR_FILTER_MS => within 100 60000
  | .BWR_TIDE_CFG_STEP_DIV => v != 0
  | .CTE_CUST_ADDR_OFFSET => v % 4 == 0
  | .CEL_BAL_CFG_MAX_CELLS => within 1 8
  | .CEL_BAL_CFG_DELTA_MV => within 2 100
  | .CEL_BAL_CFG_START_MV => within 3400 3750
  | .CEL_COMP_UV_MV => within 1900 2150
  | .CEL_COMP_OV_MV => within 3900 4100
  | .CEL_STACK_TOL_MV => within 20 255
  | .CEL_SLEEP_CFG_LO_MV => within 1900 2300
  | .CEL_SLEEP_CFG_HI_MV => within 3750 4000
  | .CAP_MOD_LIMIT_W => within 700 4000
  | .CAP_FAST_LEVEL_W => within 700 4000
  | .CAP_FLOW_CFG_K_FACTOR => within 10 1000
  | .CAP_AGE_CFG_PERIOD_H => within 1 24
  | .HPL_CFG_QUIESCE_S => within 1 600
  | .HPL_CFG_DISCH_S => within 10 3600
  | .CVU_U_CFG_FEED_N => within 1 4
  | .SEC_PKG_ADDR_OFFSET => v % 4 == 0
  | _ => true

/-- Values taken as another: watts above 4,000 (R60, R336). -/
def fieldClamp (f : Fld) (v : Nat) : Nat :=
  if f = .CAP_RACK_W ∨ f = .BTH_B_CAP_WATTS then min v 4000 else v

/-- Switches that a rail of one phase has not: writes of 1 to them are ignored there (R363). -/
def phaseFlds : List Fld := [.PWR_RAIL_CTRL_SHED_EN, .PWR_RAIL_CTRL_DE_EN, .PWR_RAIL_CTRL_BRAKE_EN]

/-- A writable field takes its value, with what its write does besides (R8). WO fields act in `fieldAct`. -/
def State.fieldWrite (s : State) (src : Source) (inst : Nat) (new : Fld → Nat) (p : Fld × Nat × Nat) (data : Nat) : State :=
  let (f, i, half) := p
  let v := partVal p data
  let item := s.itemOf src f inst i
  let b : Fin 8 := Fin.ofNat 8 inst
  match f.info.acc with
  | .ro => s
  | .wo => s
  | .w1c => if v = 0 then s else s.set f 0 inst item
  | _ =>
    if !fieldTakes new f v || (phaseFlds.contains f && v != 0 && railFig (Fin.ofNat 50 inst) 0 == 1) then s
    else match f with
      | .NET_QP_CTRL_STATE => s.qpWrite item v
      | .RHD_CFG_ENABLE => if v = 0 then s.rhdEnableOff b else s.rhdEnableOn b
      | .RHD_CFG_PIN => if v = 0 then s.setBit .RHD_CFG_PIN false b else s.rhdPinOn b
      | .CDC_SR_SEED_SEED => (s.set f v inst).modDie b (fun x => { x with seedPend := true })
      | .CTE_PARAM_STAGED_VALUE => s.paramStage item (BitVec.ofNat 32 v)
      | .NET_PTP_CFG_SRC => (s.set f v).ptpSelect v
      | .NET_P_PFC_ENABLE => (s.set f v inst).pfcOff inst
      | .PWR_SYNC_CFG_ENABLE => if v = 0 then (s.set f v).syncDisable else s.set f v
      | .LOG_CURSOR_SEQ => s.logCursor v
      | .SEC_MAN_SEL_BERTH => s.secManSel src data
      | .SEC_MAN_SEL_KIND => s
      | _ =>
        if 32 < f.info.width then
          let now := s.get f inst item
          s.set f (if half = 1 then now % 2 ^ 32 + v * 2 ^ 32 else now / 2 ^ 32 * 2 ^ 32 + v) inst item
        else s.set f (fieldClamp f v) inst item

end Sys2Proof.Machine
end

