-- ==== Sys2Proof/Machine/RegRows.lean ====
section
/-! DEFINITION. What the action fields of registers do, the outcome of a register access, and the commands that are register
accesses. A command that writes an action field leaves the register's other fields as they are. -/

namespace Sys2Proof.Machine

/-! ### Free check-value units (R538, R541) -/

/-- A free unit: 6 or 7, not bound to a stream in a snooping mode. -/
def State.cvuFree (s : State) (u : Fin 8) : Bool :=
  decide (6 ≤ u.val) && (s.get .CVU_U_BIND_STREAM u == 0 || s.get .CVU_U_BIND_MODE u == 3)

/-- START loads INIT. -/
def State.cvuStart (s : State) (u : Fin 8) : State :=
  if s.cvuFree u then
    { s with cvu := s.cvu.set u { s.cvu[u] with crc := (s.cvuCfg u).init % 2 ^ (s.cvuCfg u).width, running := true } }
  else s

/-- A data write feeds its low FEED_N bytes, byte 0 first, and the result shows the finished value. -/
def State.cvuData (s : State) (u : Fin 8) (data : Nat) : State :=
  if s.cvuFree u && s.cvu[u].running then
    let crc := (toLe data (s.get .CVU_U_CFG_FEED_N u)).foldl (crcByte (s.cvuCfg u)) s.cvu[u].crc
    let s : State := { s with cvu := s.cvu.set u { s.cvu[u] with crc := crc } }
    s.set .CVU_U_RESULT_VALUE (crcFinish (s.cvuCfg u) crc) u
  else s

/-- `CVU_CNT_CTRL.CLEAR`: every unit's counters. -/
def State.cvuClear (s : State) : State := s.clearAll [.CVU_U_PASS_COUNT, .CVU_U_FAIL_COUNT, .CVU_U_REPEAT_COUNT]

/-! ### Actions -/

/-- The status of a refusal to which the spec gives none: one of Table 2-8's refusals (log entry 2). -/
def State.freeRefusal (s : State) : State × Nat :=
  let (v, s) := s.freeNat 54
  (s, 1 + v % 6)

/-- An action that may have been refused without a lock. -/
def refusal (r : State × Bool) : State × Nat := if r.2 then r.1.freeRefusal else (r.1, 0)

/-- START: refused while a commit touches the die; in reset hold LOCK_ERR keeps its Reset value (R171, R197, R112). -/
def State.startWrite (s : State) (p : Spot) (d : Fin 8) : State × Nat :=
  if s.inReset (8 + d.val) then (s, 4)
  else if s.commitMask (·.dieMask) d then s.refuseLock p
  else s.lockAct p (fun s => s.streamStart d)

/-- The berth whose session makes an access. -/
def State.berthOfSrc (s : State) (src : Source) : Option Nat :=
  match s.right src with
  | .berth b => some b.val
  | _ => none

/-- What a write of a WO field does; `i` is its array place, `v` its value. -/
def State.fieldAct (s : State) (src : Source) (p : Spot) (f : Fld) (i v : Nat) : State × Nat :=
  let d : Fin 8 := Fin.ofNat 8 p.inst
  let r : Fin 50 := Fin.ofNat 50 p.inst
  let loop := s.sel src .CTE_LOOP_SEL_LOOP
  match f with
  | .RST_REQ_KEY => refusal (s.rstKey v)
  | .CDC_CNT_CTRL_CLEAR => (s.clearCnt cdcCntFlds d, 0)
  | .CDC_FMT_CNT_CTRL_CLEAR => (s.clearCnt cdcFmtCntFlds d, 0)
  | .CDC_STR_CNT_CTRL_CLEAR => ((s.clearCnt cdcStrCntFlds d).set .CDC_INFLIGHT_PEAK (s.die d).inflight d, 0)
  | .CDC_STREAM_CTRL_START => s.startWrite p d
  | .CDC_STREAM_CTRL_STOP => (s.streamStop d, 0)
  | .CDC_STREAM_CTRL_RESUME => s.lockAct p (fun s => s.streamResume d)
  | .BTH_IMG_CTRL_OPEN => (s.imgOpen (s.berthOfSrc src), 0)
  | .BTH_IMG_CTRL_COMMIT => s.lockAct p (fun s => s.imgCommit)
  | .BTH_IMG_CTRL_ABORT => (s.imgAbort, 0)
  | .QDC_CNT_CTRL_CLEAR => (s.qdcClear d, 0)
  | .FWY_CNT_CTRL_CLEAR => (s.fwyClear, 0)
  | .NET_CNT_CTRL_CLEAR => (s.clearAll netCntFlds, 0)
  | .RHD_CNT_CTRL_CLEAR => (s.clearAll rhdCntFlds, 0)
  | .RHD_KEY_KEY => (s.modRhd d (fun x => { x with key := x.key.set (Fin.ofNat 8 i) v }), 0)
  | .BTH_B_CTRL_QUIESCE => (s.bthQuiesce d, 0)
  | .BTH_B_CTRL_RELEASE => (s.bthRelease d, 0)
  | .PWR_RAIL_CNT_CTRL_CLEAR => (s.pwrRailClear r, 0)
  | .PWR_CNT_CTRL_CLEAR => (s.pwrClear, 0)
  | .PWR_RAIL_PROT_CTRL_UNLATCH => s.lockAct p (fun s => s.railUnlatch r v)
  | .PWR_RAIL_PROT_CNT_CTRL_CLEAR => (s.railProtClear r, 0)
  | .PWR_REC_CTRL_CLEAR => (s.recClear v, 0)
  | .BWR_CNT_CTRL_CLEAR => (s.bwrClear, 0)
  | .CTE_CNT_CTRL_CLEAR => (s.cteClear, 0)
  | .CTE_PARAM_CTRL_COMMIT => s.lockAct p (fun s => s.paramCommit)
  | .CTE_PARAM_CTRL_DEFAULT => (s.paramDefaults, 0)
  | .CTE_LOOP_CTRL_AUTO => (s.cteAuto loop, 0)
  | .CTE_LOOP_CTRL_HOLD => (s.cteHold loop, 0)
  | .CTE_CUST_CTRL_OPEN => (s.custOpen, 0)
  | .CTE_CUST_CTRL_VERIFY => (s.custVerify, 0)
  | .CTE_CUST_CTRL_ACTIVATE => (s.custActivate, 0)
  | .CTE_CUST_CTRL_DISABLE => (s.custDisable, 0)
  | .CTE_CUST_DATA_BYTES => (s.custData v, 0)
  | .CEL_CNT_CTRL_CLEAR => (s.celClear, 0)
  | .CAP_CNT_CTRL_CLEAR => (s.capClear, 0)
  | .CAP_BOLLARD_CLEAR => s.lockAct p (fun s => s.bollardClear v)
  | .PLT_CTRL_SWITCH =>
    let t := (s.setBit .PLT_STATUS_SW_REFUSED false).pltSwitch v
    if t.bit .PLT_STATUS_SW_REFUSED then t.freeRefusal else ({ t with regs := s.regs }, 0)
  | .PLT_CNT_CTRL_CLEAR => (s.pltClear, 0)
  | .HPL_CTRL_KEY => let (s, no) := s.hplKey src v; (s, if no then 5 else 0)
  | .LOG_CTRL_FLUSH => (s.logCtrlFlush, 0)
  | .CVU_CNT_CTRL_CLEAR => (s.cvuClear, 0)
  | .CVU_U_CTRL_START => (s.cvuStart d, 0)
  | .CVU_U_DATA_BYTES => (s.cvuData d v, 0)
  | .SEC_PKG_CTRL_OPEN => (s.pkgOpen, 0)
  | .SEC_PKG_CTRL_VERIFY => (s.pkgVerify, 0)
  | .SEC_PKG_CTRL_ACTIVATE => (s.pkgActivate, 0)
  | .SEC_PKG_DATA_BYTES => (s.pkgData v, 0)
  | .SEC_OWNER_CTRL_KEY => (s.ownerCommit v, 0)
  | .SEC_OWNER_NEW_BYTES => (s.set .SEC_OWNER_NEW_BYTES v 0 i, 0)
  | .SEC_OWNER_POP_BYTES => (s.set .SEC_OWNER_POP_BYTES v 0 i, 0)
  | _ => (s, 0)

/-! ### Writes -/

/-- The places of a register whose WO fields a word sets off: an action field written 1, any key or data field (R574). -/
def actsOf (ps : List (Fld × Nat × Nat)) (data : Nat) : List (Fld × Nat × Nat) :=
  ps.filter (fun q => decide (q.1.info.acc = .wo) && (1 < q.1.info.width || partVal q data != 0))

/-- Are writes to a register ignored: a compute die in reset hold, a berth that does not exist (R112, R339). -/
def State.writeIgnored (s : State) (p : Spot) : Bool :=
  (decide (p.blk = .cdc) && s.inReset (8 + p.inst) && decide (p.off < 0x200)) ||
    (decide (p.blk = .bthb) && (s.berth (Fin.ofNat 8 p.inst)).desc.isNone)

/-- A word written to a register that the source may write. -/
def State.wordWrite (s : State) (src : Source) (p : Spot) (data : Nat) : State × Nat :=
  let ps := p.blk.at p.off
  let acts := actsOf ps data
  if s.writeIgnored p then (s, 0)
  else if 1 < acts.length then (s, 6)
  else if p.blk = .rst ∧ p.off = 0x0C then refusal (s.holdWrite data)
  else if s.writeLocked src p ps data then s.refuseLock p
  else
    let new := fun (f : Fld) => match ps.find? (fun q => q.1 == f) with
      | some q => partVal q data
      | none => s.get f p.inst
    let s := ps.foldl (fun s q => s.fieldWrite src p.inst new q data) s
    match acts with
    | [] => (s, 0)
    | q :: _ => s.fieldAct src p q.1 q.2.1 (partVal q data)

/-- A write of a word to a place: its status (R59). -/
def State.writeSpot (s : State) (src : Source) (p : Spot) (data : Nat) (act : State → State × Nat) : State × Nat :=
  if s.mayWrite src p data then act s else (s.notReached src p, 3)

/-- A write of a word to an address (R7, R59). -/
def State.regWrite (s : State) (src : Source) (a data : Nat) : State × Nat :=
  if a % 4 ≠ 0 then (s, 1)
  else match spotOf a with
    | none => (s, 2)
    | some p => s.writeSpot src p data (fun s => s.wordWrite src p data)

/-! ### Reads -/

/-- The fault record that a place's record words show. -/
def recSpot (p : Spot) : Option (Fin 51) :=
  if p.blk = .rail then some (recOf (Fin.ofNat 50 p.inst)) else if p.blk = .pwr then some 50 else none

/-- What a read does before it returns its word: _HI latches and record latches (R113, R389). -/
def State.beforeRead (s : State) (src : Source) (p : Spot) : State :=
  match recSpot p with
  | some rec => if p.off = 0x200 then s.recLatchTake src rec else s
  | none => s

/-- And after: word 15 ends a record latch, a read of LOG_WIN7 moves the window on (R389, R532). -/
def State.afterRead (s : State) (src : Source) (p : Spot) : State :=
  let s := match recSpot p with
    | some rec => if p.off = 0x23C then s.recLatchDrop src rec else s
    | none => s
  let s := (p.blk.at p.off).foldl (fun s q => s.latchHi src p.inst q) s
  let s := if p.blk = .log ∧ p.off = 0x3C then s.logWin7 else s
  { s with fresh := s.fresh + 1 }

/-- A read of a register: state, status, data. -/
def State.readSpot (s : State) (src : Source) (p : Spot) : State × Nat × Nat :=
  if !s.mayRead src p then (s, 3, 0)
  else
    let s := s.beforeRead src p
    (s.afterRead src p, 0, s.wordAt src p.blk p.inst p.off)

/-- A read of an address (R7). -/
def State.regRead (s : State) (src : Source) (a : Nat) : State × Nat × Nat :=
  if a % 4 ≠ 0 then (s, 1, 0)
  else match spotOf a with
    | none => (s, 2, 0)
    | some p => s.readSpot src p

/-! ### The access itself -/

/-- Does the protocol carry an access: SMBus answers once SUP is ready (R56); a message of a session that is not open is discarded
and counted (R282). -/
def State.carried (s : State) (src : Source) : Option State :=
  match src with
  | .smbus => if s.ready rSUP then none else some (s.out .nack)
  | .internal _ => none
  | .session _ => if s.right src = .closed then some (s.netCount .NET_BP_DROP_COUNT 1) else none

/-- A write access: its status goes out, and stays as LAST_STATUS on SMBus (R57). -/
def State.writeAccess (s : State) (src : Source) (act : State → State × Nat) : State :=
  match s.carried src with
  | some t => t
  | none =>
    let r := act s
    let t : State := if src = .smbus then { r.1 with pins := { r.1.pins with smbStatus := r.2 } } else r.1
    t.out (.access src r.2 0)

/-- A read access: its status and data go out. -/
def State.readAccess (s : State) (src : Source) (act : State → State × Nat × Nat) : State :=
  match s.carried src with
  | some t => t
  | none =>
    let r := act s
    r.1.out (.access src r.2.1 r.2.2)

/-- The command that sets one action field of a register, its value `data` placed in the word. -/
def State.actRow (s : State) (src : Source) (p : Spot) (data : Nat) (f : Fld) (i v : Nat) : State :=
  s.writeAccess src (fun s => s.writeSpot src p data (fun s => if s.writeIgnored p then (s, 0) else s.fieldAct src p f i v))

/-- The command that writes one field that the block takes live. -/
def State.fieldRow (s : State) (src : Source) (p : Spot) (data : Nat) (act : State → State) : State :=
  s.writeAccess src (fun s => s.writeSpot src p data (fun s => if s.writeIgnored p then (s, 0) else (act s, 0)))

/-! ### Any register -/

/-- REGISTER_WRITE (R8). -/
def execRegisterWrite (src : Source) (addr data : BitVec 32) (s : State) : Host.Outcome State Fault Refusal :=
  .next (s.writeAccess src (fun s => s.regWrite src addr.toNat data.toNat))

/-- COUNTER_LO_READ (R113). -/
def execCounterLoRead (src : Source) (addr : BitVec 32) (s : State) : Host.Outcome State Fault Refusal :=
  .next (s.readAccess src (fun s => s.regRead src addr.toNat))

/-- PWR_REC0_READ: the word 0 of a rail's record, or of the module's (R389). -/
def execPwrRec0Read (src : Source) (rec : Fin 51) (s : State) : Host.Outcome State Fault Refusal :=
  .next (s.readAccess src (fun s => s.readSpot src (if rec.val < 50 then ⟨.rail, rec, 0x200⟩ else ⟨.pwr, 0, 0x200⟩)))

/-- LOG_WIN7_READ (R532). -/
def execLogWin7Read (src : Source) (s : State) : Host.Outcome State Fault Refusal :=
  .next (s.readAccess src (fun s => s.readSpot src ⟨.log, 0, 0x3C⟩))

/-! ### Resets -/

/-- RST_REQ (R68). -/
def execRstReq (src : Source) (key : BitVec 16) (s : State) : Host.Outcome State Fault Refusal :=
  .next (s.actRow src ⟨.rst, 0, 8⟩ key.toNat .RST_REQ_KEY 0 key.toNat)

/-- A write of `RST_HOLD`. -/
def State.holdRow (s : State) (src : Source) (v : Nat) : State :=
  s.writeAccess src (fun s => s.writeSpot src ⟨.rst, 0, 0x0C⟩ v (fun s => refusal (s.holdWrite v)))

/-- RST_HOLD_SET: the bits of `mask` written 1, the others as they are (R75). -/
def execRstHoldSet (src : Source) (mask : BitVec 32) (s : State) : Host.Outcome State Fault Refusal :=
  .next (s.holdRow src (Nat.lor (s.get .RST_HOLD_HOLD) mask.toNat))

/-- RST_HOLD_RELEASE: the bits of `mask` written 0, the others as they are (R75). -/
def execRstHoldRelease (src : Source) (mask : BitVec 32) (s : State) : Host.Outcome State Fault Refusal :=
  .next (s.holdRow src (Nat.land (s.get .RST_HOLD_HOLD) (2 ^ 32 - 1 - mask.toNat)))

/-! ### Compute dies, quays, fairway -/

/-- CDC_CNT_CLEAR (R113). -/
def execCdcCntClear (src : Source) (die : Fin 8) (s : State) : Host.Outcome State Fault Refusal :=
  .next (s.actRow src ⟨.cdc, die, 0x100⟩ 1 .CDC_CNT_CTRL_CLEAR 0 1)

/-- CDC_FMT_CNT_CLEAR (R143). -/
def execCdcFmtCntClear (src : Source) (die : Fin 8) (s : State) : Host.Outcome State Fault Refusal :=
  .next (s.actRow src ⟨.cdc, die, 0x300⟩ 1 .CDC_FMT_CNT_CTRL_CLEAR 0 1)

/-- CDC_STR_CNT_CLEAR (R173). -/
def execCdcStrCntClear (src : Source) (die : Fin 8) (s : State) : Host.Outcome State Fault Refusal :=
  .next (s.actRow src ⟨.cdc, die, 0x224⟩ 1 .CDC_STR_CNT_CTRL_CLEAR 0 1)

/-- CDC_STREAM_START (R171, R197, R328). -/
def execCdcStreamStart (src : Source) (die : Fin 8) (s : State) : Host.Outcome State Fault Refusal :=
  .next (s.actRow src ⟨.cdc, die, 0x200⟩ 1 .CDC_STREAM_CTRL_START 0 1)

/-- CDC_STREAM_STOP (R171). -/
def execCdcStreamStop (src : Source) (die : Fin 8) (s : State) : Host.Outcome State Fault Refusal :=
  .next (s.actRow src ⟨.cdc, die, 0x200⟩ 2 .CDC_STREAM_CTRL_STOP 0 1)

/-- CDC_STREAM_RESUME (R171, R328). -/
def execCdcStreamResume (src : Source) (die : Fin 8) (s : State) : Host.Outcome State Fault Refusal :=
  .next (s.actRow src ⟨.cdc, die, 0x200⟩ 4 .CDC_STREAM_CTRL_RESUME 0 1)

/-- QDC_CNT_CLEAR (R234). -/
def execQdcCntClear (src : Source) (quay : Fin 8) (s : State) : Host.Outcome State Fault Refusal :=
  .next (s.actRow src ⟨.qdc, quay, 0x80⟩ 1 .QDC_CNT_CTRL_CLEAR 0 1)

/-- FWY_CNT_CLEAR (R255). -/
def execFwyCntClear (src : Source) (s : State) : Host.Outcome State Fault Refusal :=
  .next (s.actRow src ⟨.fwy, 0, 4⟩ 1 .FWY_CNT_CTRL_CLEAR 0 1)

/-! ### Queue pairs (R271): a write of `NET_QP_CTRL.STATE` of a queue pair that the source has selected -/

/-- A write of STATE of queue pair `qp`, which the source has selected just before. -/
def State.qpRow (s : State) (src : Source) (qp : Fin 65536) (v : Nat) : State :=
  s.writeAccess src (fun s =>
    let s := if s.mayWrite src ⟨.net, 0, 0x300⟩ qp then s.set .NET_QP_SEL_QP qp 0 (srcItem src) else s
    s.writeSpot src ⟨.net, 0, 0x304⟩ v (fun s => (s.qpWrite qp v, 0)))

/-- QP_TO_INIT. -/
def execQpToInit (src : Source) (qp : Fin 65536) (s : State) : Host.Outcome State Fault Refusal := .next (s.qpRow src qp 1)
/-- QP_TO_RTR. -/
def execQpToRtr (src : Source) (qp : Fin 65536) (s : State) : Host.Outcome State Fault Refusal := .next (s.qpRow src qp 2)
/-- QP_TO_RTS. -/
def execQpToRts (src : Source) (qp : Fin 65536) (s : State) : Host.Outcome State Fault Refusal := .next (s.qpRow src qp 3)
/-- QP_TO_ERROR. -/
def execQpToError (src : Source) (qp : Fin 65536) (s : State) : Host.Outcome State Fault Refusal := .next (s.qpRow src qp 4)
/-- QP_TO_RESET. -/
def execQpToReset (src : Source) (qp : Fin 65536) (s : State) : Host.Outcome State Fault Refusal := .next (s.qpRow src qp 0)

/-! ### Rate hold and berths -/

/-- RHD_ENABLE (R296). -/
def execRhdEnable (src : Source) (b : Fin 8) (s : State) : Host.Outcome State Fault Refusal :=
  .next (s.fieldRow src ⟨.rhdb, b, 0⟩ 1 (fun s => s.rhdEnableOn b))

/-- RHD_DISABLE (R296). -/
def execRhdDisable (src : Source) (b : Fin 8) (s : State) : Host.Outcome State Fault Refusal :=
  .next (s.fieldRow src ⟨.rhdb, b, 0⟩ 0 (fun s => s.rhdEnableOff b))

/-- RHD_PIN (R311). -/
def execRhdPin (src : Source) (b : Fin 8) (s : State) : Host.Outcome State Fault Refusal :=
  .next (s.fieldRow src ⟨.rhdb, b, 0⟩ 16 (fun s => s.rhdPinOn b))

/-- RHD_CNT_CLEAR (R325). -/
def execRhdCntClear (src : Source) (s : State) : Host.Outcome State Fault Refusal :=
  .next (s.actRow src ⟨.rhd, 0, 4⟩ 1 .RHD_CNT_CTRL_CLEAR 0 1)

/-- BTH_QUIESCE (R328). -/
def execBthQuiesce (src : Source) (b : Fin 8) (s : State) : Host.Outcome State Fault Refusal :=
  .next (s.actRow src ⟨.bthb, b, 0⟩ 1 .BTH_B_CTRL_QUIESCE 0 1)

/-- BTH_RELEASE (R330). -/
def execBthRelease (src : Source) (b : Fin 8) (s : State) : Host.Outcome State Fault Refusal :=
  .next (s.actRow src ⟨.bthb, b, 0⟩ 2 .BTH_B_CTRL_RELEASE 0 1)

/-- BTH_IMG_OPEN (R192). -/
def execBthImgOpen (src : Source) (s : State) : Host.Outcome State Fault Refusal :=
  .next (s.actRow src ⟨.bth, 0, 0⟩ 1 .BTH_IMG_CTRL_OPEN 0 1)

/-- BTH_IMG_COMMIT (R194). -/
def execBthImgCommit (src : Source) (s : State) : Host.Outcome State Fault Refusal :=
  .next (s.actRow src ⟨.bth, 0, 0⟩ 2 .BTH_IMG_CTRL_COMMIT 0 1)

/-- BTH_IMG_ABORT (R192). -/
def execBthImgAbort (src : Source) (s : State) : Host.Outcome State Fault Refusal :=
  .next (s.actRow src ⟨.bth, 0, 0⟩ 4 .BTH_IMG_CTRL_ABORT 0 1)

/-- SEC_MAN_SEL_WRITE (R205). -/
def execSecManSelWrite (src : Source) (value : BitVec 32) (s : State) : Host.Outcome State Fault Refusal :=
  .next (s.fieldRow src ⟨.sec, 0, 0x100⟩ value.toNat (fun s => s.secManSel src value.toNat))

/-! ### Power -/

/-- PWR_RAIL_CNT_CLEAR (R370). -/
def execPwrRailCntClear (src : Source) (rail : Fin 50) (s : State) : Host.Outcome State Fault Refusal :=
  .next (s.actRow src ⟨.rail, rail, 0x3C⟩ 1 .PWR_RAIL_CNT_CTRL_CLEAR 0 1)

/-- PWR_CNT_CLEAR (R371). -/
def execPwrCntClear (src : Source) (s : State) : Host.Outcome State Fault Refusal :=
  .next (s.actRow src ⟨.pwr, 0, 4⟩ 1 .PWR_CNT_CTRL_CLEAR 0 1)

/-- PWR_RAIL_UNLATCH (R379). -/
def execPwrRailUnlatch (src : Source) (rail : Fin 50) (key : BitVec 16) (s : State) : Host.Outcome State Fault Refusal :=
  .next (s.actRow src ⟨.rail, rail, 0x108⟩ key.toNat .PWR_RAIL_PROT_CTRL_UNLATCH 0 key.toNat)

/-- PWR_REC_CLEAR (R386). -/
def execPwrRecClear (src : Source) (key : BitVec 16) (s : State) : Host.Outcome State Fault Refusal :=
  .next (s.actRow src ⟨.pwr, 0, 0x110⟩ key.toNat .PWR_REC_CTRL_CLEAR 0 key.toNat)

/-- PWR_RAIL_PROT_CNT_CLEAR (R389). -/
def execPwrRailProtCntClear (src : Source) (rail : Fin 50) (s : State) : Host.Outcome State Fault Refusal :=
  .next (s.actRow src ⟨.rail, rail, 0x10C⟩ 1 .PWR_RAIL_PROT_CNT_CTRL_CLEAR 0 1)

/-- BWR_CNT_CLEAR (R413). -/
def execBwrCntClear (src : Source) (s : State) : Host.Outcome State Fault Refusal :=
  .next (s.actRow src ⟨.bwr, 0, 0x60⟩ 1 .BWR_CNT_CTRL_CLEAR 0 1)

/-- CEL_CNT_CLEAR (R457). -/
def execCelCntClear (src : Source) (s : State) : Host.Outcome State Fault Refusal :=
  .next (s.actRow src ⟨.cel, 0, 4⟩ 1 .CEL_CNT_CTRL_CLEAR 0 1)

/-- CAP_BOLLARD_CLEAR (R472). -/
def execCapBollardClear (src : Source) (key : BitVec 16) (s : State) : Host.Outcome State Fault Refusal :=
  .next (s.actRow src ⟨.cap, 0, 0x2C⟩ key.toNat .CAP_BOLLARD_CLEAR 0 key.toNat)

/-- CAP_CNT_CLEAR (R483). -/
def execCapCntClear (src : Source) (s : State) : Host.Outcome State Fault Refusal :=
  .next (s.actRow src ⟨.cap, 0, 4⟩ 1 .CAP_CNT_CTRL_CLEAR 0 1)

/-! ### The control engine -/

/-- CTE_LOOP_AUTO (R423). -/
def execCteLoopAuto (src : Source) (s : State) : Host.Outcome State Fault Refusal :=
  .next (s.actRow src ⟨.cte, 0, 0x48⟩ 1 .CTE_LOOP_CTRL_AUTO 0 1)

/-- CTE_LOOP_HOLD (R423). -/
def execCteLoopHold (src : Source) (s : State) : Host.Outcome State Fault Refusal :=
  .next (s.actRow src ⟨.cte, 0, 0x48⟩ 2 .CTE_LOOP_CTRL_HOLD 0 1)

/-- CTE_PARAM_COMMIT (R428). -/
def execCteParamCommit (src : Source) (s : State) : Host.Outcome State Fault Refusal :=
  .next (s.actRow src ⟨.cte, 0, 0x0C⟩ 1 .CTE_PARAM_CTRL_COMMIT 0 1)

/-- CTE_PARAM_DEFAULT (R428). -/
def execCteParamDefault (src : Source) (s : State) : Host.Outcome State Fault Refusal :=
  .next (s.actRow src ⟨.cte, 0, 0x0C⟩ 2 .CTE_PARAM_CTRL_DEFAULT 0 1)

/-- CTE_CNT_CLEAR (R436). -/
def execCteCntClear (src : Source) (s : State) : Host.Outcome State Fault Refusal :=
  .next (s.actRow src ⟨.cte, 0, 4⟩ 1 .CTE_CNT_CTRL_CLEAR 0 1)

/-- CTE_CUST_OPEN (R434). -/
def execCteCustOpen (src : Source) (s : State) : Host.Outcome State Fault Refusal :=
  .next (s.actRow src ⟨.cte, 0, 0x200⟩ 1 .CTE_CUST_CTRL_OPEN 0 1)

/-- CTE_CUST_DATA (R434). -/
def execCteCustData (src : Source) (data : BitVec 32) (s : State) : Host.Outcome State Fault Refusal :=
  .next (s.actRow src ⟨.cte, 0, 0x20C⟩ data.toNat .CTE_CUST_DATA_BYTES 0 data.toNat)

/-- CTE_CUST_VERIFY (R434). -/
def execCteCustVerify (src : Source) (s : State) : Host.Outcome State Fault Refusal :=
  .next (s.actRow src ⟨.cte, 0, 0x200⟩ 2 .CTE_CUST_CTRL_VERIFY 0 1)

/-- CTE_CUST_ACTIVATE (R434). -/
def execCteCustActivate (src : Source) (s : State) : Host.Outcome State Fault Refusal :=
  .next (s.actRow src ⟨.cte, 0, 0x200⟩ 4 .CTE_CUST_CTRL_ACTIVATE 0 1)

/-- CTE_CUST_DISABLE (R434). -/
def execCteCustDisable (src : Source) (s : State) : Host.Outcome State Fault Refusal :=
  .next (s.actRow src ⟨.cte, 0, 0x200⟩ 8 .CTE_CUST_CTRL_DISABLE 0 1)

/-! ### Pilots, slipway, logbook, check-value units -/

/-- PLT_SWITCH (R497). -/
def execPltSwitch (src : Source) (key : BitVec 16) (s : State) : Host.Outcome State Fault Refusal :=
  .next (s.actRow src ⟨.plt, 0, 8⟩ key.toNat .PLT_CTRL_SWITCH 0 key.toNat)

/-- PLT_CNT_CLEAR (R501). -/
def execPltCntClear (src : Source) (s : State) : Host.Outcome State Fault Refusal :=
  .next (s.actRow src ⟨.plt, 0, 0x0C⟩ 1 .PLT_CNT_CTRL_CLEAR 0 1)

/-- HPL_DRAIN: a write of `HPL_CTRL.KEY` (R504). -/
def execHplDrain (src : Source) (key : BitVec 16) (s : State) : Host.Outcome State Fault Refusal :=
  .next (s.actRow src ⟨.hpl, 0, 4⟩ key.toNat .HPL_CTRL_KEY 0 key.toNat)

/-- HPL_CANCEL: a write of `HPL_CTRL.KEY` (R505). -/
def execHplCancel (src : Source) (key : BitVec 16) (s : State) : Host.Outcome State Fault Refusal :=
  .next (s.actRow src ⟨.hpl, 0, 4⟩ key.toNat .HPL_CTRL_KEY 0 key.toNat)

/-- LOG_CTRL_FLUSH (R529). -/
def execLogCtrlFlush (src : Source) (s : State) : Host.Outcome State Fault Refusal :=
  .next (s.actRow src ⟨.log, 0, 4⟩ 1 .LOG_CTRL_FLUSH 0 1)

/-- LOG_CURSOR_WRITE (R532). -/
def execLogCursorWrite (src : Source) (seq : BitVec 32) (s : State) : Host.Outcome State Fault Refusal :=
  .next (s.fieldRow src ⟨.log, 0, 0x14⟩ seq.toNat (fun s => s.logCursor seq.toNat))

/-- CVU_START (R538). -/
def execCvuStart (src : Source) (u : Fin 8) (s : State) : Host.Outcome State Fault Refusal :=
  .next (s.actRow src ⟨.cvuu, u, 0x18⟩ 1 .CVU_U_CTRL_START 0 1)

/-- CVU_DATA (R538). -/
def execCvuData (src : Source) (u : Fin 8) (data : BitVec 32) (s : State) : Host.Outcome State Fault Refusal :=
  .next (s.actRow src ⟨.cvuu, u, 0x1C⟩ data.toNat .CVU_U_DATA_BYTES 0 data.toNat)

/-- CVU_CNT_CLEAR (R541). -/
def execCvuCntClear (src : Source) (s : State) : Host.Outcome State Fault Refusal :=
  .next (s.actRow src ⟨.cvu, 0, 4⟩ 1 .CVU_CNT_CTRL_CLEAR 0 1)

/-! ### Security -/

/-- SEC_PKG_OPEN (R545). -/
def execSecPkgOpen (src : Source) (s : State) : Host.Outcome State Fault Refusal :=
  .next (s.actRow src ⟨.sec, 0, 0x20⟩ 1 .SEC_PKG_CTRL_OPEN 0 1)

/-- SEC_PKG_DATA (R545). -/
def execSecPkgData (src : Source) (data : BitVec 32) (s : State) : Host.Outcome State Fault Refusal :=
  .next (s.actRow src ⟨.sec, 0, 0x2C⟩ data.toNat .SEC_PKG_DATA_BYTES 0 data.toNat)

/-- SEC_PKG_VERIFY (R545). -/
def execSecPkgVerify (src : Source) (s : State) : Host.Outcome State Fault Refusal :=
  .next (s.actRow src ⟨.sec, 0, 0x20⟩ 2 .SEC_PKG_CTRL_VERIFY 0 1)

/-- SEC_PKG_ACTIVATE (R546). -/
def execSecPkgActivate (src : Source) (s : State) : Host.Outcome State Fault Refusal :=
  .next (s.actRow src ⟨.sec, 0, 0x20⟩ 4 .SEC_PKG_CTRL_ACTIVATE 0 1)

/-- SEC_OWNER_COMMIT (R549). -/
def execSecOwnerCommit (src : Source) (key : BitVec 16) (s : State) : Host.Outcome State Fault Refusal :=
  .next (s.actRow src ⟨.sec, 0, 0x40⟩ key.toNat .SEC_OWNER_CTRL_KEY 0 key.toNat)

end Sys2Proof.Machine
end

