-- ==== Sys2Proof/Machine/Pins.lean ====
section
/-! DEFINITION. Pins and the SMBus sideband (chapter 2): presence, input enable, the fast cap, coolant sensors, the button, SMBus
commands, the test access port and PPS_IN. -/

namespace Sys2Proof.Machine

/-! ### Presence and input enable -/

/-- The module runs: a SUP half is out of reset. -/
def State.moduleRuns (s : State) : Bool := !s.inReset 1 || !s.inReset 2

/-- PRESENT_N_REMOVAL: PRESENT_N has been high for 20 µs: AO clears its trip count and feeds the input no more; a module that runs
starts the surprise-removal sequence (R34, R348, R349, R510). -/
def execPresentNRemoval (s : State) : Host.Outcome State Fault Refusal :=
  .next <|
    if s.pins.presentN then s
    else
      let s : State := { s with pins := { s.pins with presentN := true, limiter := false } }
      let s := s.set .PWR_IN_STATUS_TRIPS 0
      if s.moduleRuns then s.surprise 0 else s

/-- PWR_EN_LOW: PWR_EN has been low for 100 µs: with the hot-swap FET closed the surprise-removal sequence starts (R49). -/
def execPwrEnLow (s : State) : Host.Outcome State Fault Refusal :=
  .next <|
    let s : State := { s with pins := { s.pins with pwrEn := false } }
    if s.bit .PWR_IN_STATUS_HS_ON then s.surprise 1 else s

/-! ### The fast cap (R50) -/

/-- CAP_FAST_N_FALL: the level enters the effective cap; CL00 and CL03 read the pin (R401, R459). -/
def execCapFastNFall (s : State) : Host.Outcome State Fault Refusal :=
  .next { s with pins := { s.pins with capFastN := false } }

/-- CAP_FAST_N_RELEASE: the level leaves the effective cap. -/
def execCapFastNRelease (s : State) : Host.Outcome State Fault Refusal :=
  .next { s with pins := { s.pins with capFastN := true } }

/-! ### Coolant sensors (R52, R53) -/

/-- A thermistor reading outside −20 °C to 100 °C, in 0.1 °C. -/
def coolBad (t : Int) : Bool := decide (t < -200) || decide (1000 < t)

/-- COOLANT_MEASURE, in 0.1 °C: an open or shorted sensor raises event 0x0202 when it is found (R52). -/
def execCoolantMeasure (tin tout : Int) (s : State) : Host.Outcome State Fault Refusal :=
  .next <|
    let newIn := coolBad tin && !s.pins.tinFailed
    let newOut := coolBad tout && !s.pins.toutFailed
    let s := (s.set .CAP_COOL_TIN_X10 (enc 16 tin)).set .CAP_COOL_TOUT_X10 (enc 16 tout)
    let s : State := { s with pins := { s.pins with tinFailed := coolBad tin, toutFailed := coolBad tout } }
    let s := if newIn then s.raise 0x0202 else s
    if newOut then s.raise 0x0202 else s

/-- COOL_FLOW_PULSE: a rising edge is counted into the sliding 500 ms window (R53). -/
def execCoolFlowPulse (s : State) : Host.Outcome State Fault Refusal :=
  .next { s with pins := { s.pins with
    flowPulses := s.now :: s.pins.flowPulses.filter (fun t => decide (s.now < t + 500 * ms)) } }

/-! ### The attention button (R54, R504, R517) -/

/-- ATTN_BTN_PRESS: a drain request while RUN; in another state it is ignored; with BTN_EN 0 event 0x2001 with IGNORED. -/
def execAttnBtnPress (s : State) : Host.Outcome State Fault Refusal :=
  .next <|
    if !s.ready rSUP then s
    else if !s.bit .HPL_CFG_BTN_EN then s.raise 0x2001 0xFF 2 0 1
    else if s.hplState = 0 then (s.drainRequest 2).1
    else s

/-! ### SMBus (R56 to R60) -/

/-- The SMBus address (R56). -/
def State.smbAddr (s : State) : Nat := 0x60 + s.get .MOD_SLOT_SLOT

/-- The commands of Table 2-7. -/
inductive SmbCmd where
  | regRead
  | regWrite
  | lastStatus
  | readReady
  | readFault
  | rackCap
  | inputPower
  | drain
  deriving DecidableEq, Repr

/-- The command that a code names; no other code is accepted (R57, Table 2-7). -/
def smbCmd : Nat → Option SmbCmd
  | 0x01 => some .regRead
  | 0x02 => some .regWrite
  | 0x03 => some .lastStatus
  | 0x10 => some .readReady
  | 0x11 => some .readFault
  | 0x20 => some .rackCap
  | 0x21 => some .inputPower
  | 0x30 => some .drain
  | _ => none

/-- How many data bytes a command writes, whether a byte count goes before them, whether it returns bytes, and whether a byte count
goes before those (Table 2-7, SMBus 3.0). -/
def SmbCmd.shape : SmbCmd → Nat × Bool × Bool × Bool
  | .regRead => (4, true, true, true)
  | .regWrite => (8, true, false, false)
  | .lastStatus => (0, false, true, false)
  | .readReady => (0, false, true, true)
  | .readFault => (0, false, true, true)
  | .rackCap => (2, false, false, false)
  | .inputPower => (0, false, true, false)
  | .drain => (1, false, false, false)

/-- The status that LAST_STATUS returns. -/
def State.smbSet (s : State) (status : Nat) : State := { s with pins := { s.pins with smbStatus := status } }

/-- What a command does on the bytes written to it, and the bytes it returns. Of a refused read the data bytes are free values; so
are level and code of READ_FAULT with nothing unread (log entry 2). -/
def State.smbAct (s : State) (c : SmbCmd) (data : List Nat) : State × List Nat :=
  match c with
  | .regRead =>
    let (s, status, v) := s.regRead .smbus (ofLe data)
    let (junk, s) := s.freeNat 55
    (s, status :: toLe (if status = 0 then v else junk) 4)
  | .regWrite =>
    let (s, status) := s.regWrite .smbus (ofLe (data.take 4)) (ofLe (data.drop 4))
    (s.smbSet status, [])
  | .lastStatus => (s, [s.pins.smbStatus])
  | .readReady => (s, toLe s.modReady 4)
  | .readFault =>
    let (r, s) := s.readFault
    let s : State := { s with pins := { s.pins with alert := false } }
    (match r with
    | some r => (s, r.level :: toLe r.code 2 ++ [min 255 s.log.unread.length])
    | none =>
      let (junk, s) := s.freeNat 55
      (s, toLe junk 3 ++ [0]))
  | .rackCap => ((s.set .CAP_RACK_W (min (ofLe data) 4000)).smbSet 0, [])
  | .inputPower => (s, toLe (s.get .PWR_IN_P_W) 2)
  | .drain =>
    if data ≠ [0xA5] then (s.smbSet 6, [])
    else
      let (s, ok) := s.drainRequest 1
      (s.smbSet (if ok then 0 else 5), [])

/-- A transaction at a 7-bit address, with a command code and written bytes: before SUP is ready, at another address, with an
unlisted code or another number of bytes it is not acknowledged; nor is it, with no effect, when it writes and its PEC byte is
missing or wrong. Returned bytes are followed by the PEC of the whole transaction (R56, R57). -/
def State.smb (s : State) (dev code : Nat) (data : List Nat) (pec : Option (BitVec 8)) : State :=
  match smbCmd code with
  | none => s.out .nack
  | some c =>
    let (n, counted, returns, countedBack) := c.shape
    let sent := 2 * dev :: code :: (if counted then data.length :: data else data)
    if !s.ready rSUP || dev != s.smbAddr || data.length != n || (!returns && pec != some (BitVec.ofNat 8 (crc8 sent))) then s.out .nack
    else
      let (s, back) := s.smbAct c data
      if !returns then s
      else
        let body := if countedBack then back.length :: back else back
        s.out (.smbus (back ++ [crc8 (sent ++ (2 * dev + 1) :: body)]))

/-- SMB_REG_READ: status and four data bytes. -/
def execSmbRegRead (dev : BitVec 7) (addr : BitVec 32) (s : State) : Host.Outcome State Fault Refusal :=
  .next (s.smb dev.toNat 0x01 (toLe addr.toNat 4) none)

/-- SMB_REG_WRITE. -/
def execSmbRegWrite (dev : BitVec 7) (addr data : BitVec 32) (pec : Option (BitVec 8)) (s : State) :
    Host.Outcome State Fault Refusal :=
  .next (s.smb dev.toNat 0x02 (toLe addr.toNat 4 ++ toLe data.toNat 4) pec)

/-- SMB_LAST_STATUS. -/
def execSmbLastStatus (dev : BitVec 7) (s : State) : Host.Outcome State Fault Refusal := .next (s.smb dev.toNat 0x03 [] none)

/-- SMB_READ_READY: the word of `MOD_READY`. -/
def execSmbReadReady (dev : BitVec 7) (s : State) : Host.Outcome State Fault Refusal := .next (s.smb dev.toNat 0x10 [] none)

/-- SMB_READ_FAULT: level, code and queued count; the record counts as read and ALERT_N is released (R46, R534). -/
def execSmbReadFault (dev : BitVec 7) (s : State) : Host.Outcome State Fault Refusal := .next (s.smb dev.toNat 0x11 [] none)

/-- SMB_RACK_CAP: the rack cap message, at most 4,000 W; 0 withdraws it (R60). -/
def execSmbRackCap (dev : BitVec 7) (watts : BitVec 16) (pec : Option (BitVec 8)) (s : State) : Host.Outcome State Fault Refusal :=
  .next (s.smb dev.toNat 0x20 (toLe watts.toNat 2) pec)

/-- SMB_INPUT_POWER: the 1 ms average, W (R351). -/
def execSmbInputPower (dev : BitVec 7) (s : State) : Host.Outcome State Fault Refusal := .next (s.smb dev.toNat 0x21 [] none)

/-- SMB_DRAIN: 0xA5 requests a drain, refused with 0x05 outside RUN; any other value with 0x06 (R504, Table 2-7). -/
def execSmbDrain (dev : BitVec 7) (value : BitVec 8) (pec : Option (BitVec 8)) (s : State) : Host.Outcome State Fault Refusal :=
  .next (s.smb dev.toNat 0x30 [value.toNat] pec)

/-- SMB_ALERT_RESPONSE: with ALERT_N asserted the module answers with its address and releases ALERT_N (R46). -/
def execSmbAlertResponse (s : State) : Host.Outcome State Fault Refusal :=
  .next <|
    if s.ready rSUP && s.pins.alert then
      ({ s with pins := { s.pins with alert := false } } : State).out (.smbus [s.smbAddr])
    else s.out .nack

/-- SMB_CLOCK_LOW_TIMEOUT: the transaction ends without effect (R56); a transaction that completes is one command here. -/
def execSmbClockLowTimeout (s : State) : Host.Outcome State Fault Refusal := .next s

/-! ### Boundary scan (R61, R62) -/

/-- TAP_INSTRUCTION_LOAD, into each device of the chain, with the level of TRST_N: low keeps the port in Test-Logic-Reset. While the
hot-swap FET or pack isolation is closed EXTEST loads as BYPASS, with event 0x0201 from each device. Nothing but the instruction
registers changes: no instruction reaches memory, registers, keys or flash. -/
def execTapInstructionLoad (trstN : Bool) (is : Vector TapInstr 9) (s : State) : Host.Outcome State Fault Refusal :=
  .next <|
    let s : State := { s with pins := { s.pins with trstN := trstN } }
    if !trstN then s.tapReset
    else
      let s : State := { s with pins := { s.pins with tap := is } }
      if s.tapLive then s.tapIsolate else s

/-! ### PPS_IN (R43, R277) -/

/-- PPS_IN_EDGE: once PTP is ready and the module time is phased from PPS_IN, the edge marks the nearest whole second. -/
def execPpsInEdge (s : State) : Host.Outcome State Fault Refusal :=
  .next <|
    if s.ready rPTP && decide (s.get .NET_PTP_STATUS_SRC = 2) then
      let run : Int := (s.now / 1000 : Nat)
      let t := run + s.net.ptpBase
      let whole := (t + 500000000) / 1000000000 * 1000000000
      { s with net := { s.net with ptpBase := whole - run }, pins := { s.pins with ppsSeen := s.now } }
    else s

end Sys2Proof.Machine
end

