-- ==== Sys2Proof/Machine/Bampor.lean ====
section
/-! DEFINITION. The Bampor protocol: sessions, requests and their replies, and the attestation report (R279 to R285, R549 to
R551). A request is answered by one entry of the trace, whose body is the payload with the tag after it. -/

namespace Sys2Proof.Machine

/-- `n` bytes of a list, missing ones 0. -/
def fixLen (bs : List Nat) (n : Nat) : List Nat := sliceAt bs 0 n

/-! ### Messages (Table 10-5) -/

/-- A header as sent. -/
def bpHeader (magic version type session seq len status flags : Nat) : List Nat :=
  toBe magic 2 ++ [version, type] ++ toBe session 4 ++ toBe seq 8 ++ toBe len 2 ++ [status, flags]

/-- The tag of a message under a key (R280). -/
def bpTag (key msg : List Nat) : List Nat := Config.kmac256 key msg (ascii "bampor msg") 32

/-- A tagged reply: payload and tag. -/
def bpBody (x : Session) (type status seq : Nat) (payload : List Nat) : List Nat :=
  payload ++ bpTag x.km (bpHeader 0xBA40 1 type x.id seq payload.length status 1 ++ payload)

/-- A message's reply goes back over the sub-port that it came in on, to its sender, from the identity of its role: the management
identity (0xFF) or a berth's; UDP port of R278, TC7. -/
def State.bpWire (s : State) (v : BpVia) (role : Nat) : Wire :=
  if role < 8 then s.berthWire (Fin.ofNat 8 role) v.port v.sub v.peer s.net.udpNow.1 7 7
  else s.mgmtWire v.port v.sub v.peer s.net.udpNow.1 7 7
def State.bpSend (s : State) (v : BpVia) (role : Nat) (f : Frame) : State := s.put (s.bpWire v role) f

/-- MAGIC and VERSION are right. -/
def bpKnown (v : BpVia) : Bool := v.magic == 0xBA40 && v.version == 1

/-- Messages reach the module while NET is out of reset and a pilot is active whose link works. -/
def State.bpUp (s : State) : Bool := !s.inReset 6 && s.pilotTalks

/-- A message is discarded and counted (R282). -/
def State.bpDrop (s : State) : State := s.netCount .NET_BP_DROP_COUNT 1

/-- Close a session: its keys, counters and selector copies go (R281, R551). -/
def State.closeSession (s : State) (id : Nat) : State :=
  let s : State := { s with net := { s.net with sessions := s.net.sessions.filter (fun x => x.id != id) } }
  s.clearCopies (.session id)

/-- Change a session. -/
def State.modSession (s : State) (id : Nat) (f : Session → Session) : State :=
  { s with net := { s.net with sessions := s.net.sessions.map (fun x => if x.id = id then f x else x) } }

/-! ### Opening a session (R280, R281) -/

/-- No room: 16 sessions, or 2 of a berth role. -/
def State.bpFull (s : State) (role : Nat) : Bool :=
  decide (16 ≤ s.net.sessions.length) || (decide (role < 8) && decide (2 ≤ (s.net.sessions.filter (fun x => x.role == role)).length))

/-- A valid ROLE at that role's identity: the management identity (0xFF) or an existing berth's. -/
def State.bpRoleOk (s : State) (role identity : Nat) : Bool :=
  role == identity && (role == 0xFF || (decide (role < 8) && (s.berth (Fin.ofNat 8 role)).desc.isSome))

/-- BP_HELLO: a session in CHALLENGED, answered by CHALLENGE with the module's nonce and key, both free values (R551), or an
untagged refusal, from the identity that was asked. -/
def execBpHello (via : BpVia) (role : BitVec 8) (identity : Nat) (nc xc : List Nat) (s : State) :
    Host.Outcome State Fault Refusal :=
  .next <|
    let r := role.toNat
    let up := s.bpUp
    let s := if s.netHeld then s else s.received via.port 5 92
    if !up then s
    else if !bpKnown via then s.bpDrop
    else if s.bpFull r then s.bpSend via identity (.bampor 0 1 0x0A 0 [])
    else if !s.bpRoleOk r identity then s.bpSend via identity (.bampor 0 1 0x03 0 [])
    else
      let (nonce, s) := s.freeNat 56
      let (secret, s) := s.freeNat 57
      let id := s.net.nextSession
      let nm := toLe nonce 32
      let own := toLe secret 56
      let hello := [r, 0, 0, 0] ++ fixLen nc 32 ++ fixLen xc 56
      let half := toBe id 4 ++ nm ++ fixLen (Config.x448 own (5 :: List.replicate 55 0)) 56
      let sig := fixLen (Config.ed448Sign s.act (ascii "bampor") (Config.shake256 (hello ++ half) 64)) 114
      let km := Config.kmac256 (Config.x448 own (fixLen xc 56)) (fixLen nc 32 ++ nm ++ toBe id 4) (ascii "bampor keys") 64
      let x : Session :=
        { id := id, role := r, isOpen := false, kc := km.take 32, km := km.drop 32, setup := hello ++ half ++ sig, since := s.now }
      let s : State := { s with net := { s.net with sessions := s.net.sessions ++ [x], nextSession := id + 1 } }
      s.bpSend via r (.challenge id (half ++ sig))

/-- The key that verifies a PROVE: the owner's, the vendor enrollment key of an unowned module, or the berth's BAMPOR_KEY. -/
def State.proveKey (s : State) (role : Nat) : Option (List Nat) :=
  if role = 0xFF then some ((s.ownerKey).getD (Config.vendorKey 1))
  else (s.berth (Fin.ofNat 8 role)).desc.map (fun y => y.bamporKey)

/-- BP_PROVE (R280, R549). -/
def execBpProve (via : BpVia) (session : Nat) (sig : List Nat) (s : State) : Host.Outcome State Fault Refusal :=
  .next <|
    let up := s.bpUp
    let s := if s.netHeld then s else s.received via.port 5 sig.length
    if !up then s
    else if !bpKnown via then s.bpDrop
    else match s.net.sessions.find? (fun x => x.id == session && !x.isOpen) with
      | none => s.bpDrop
      | some x =>
        let ok := match s.proveKey x.role with
          | some k => Config.ed448Verify k (ascii "bampor") (Config.shake256 x.setup 64) sig
          | none => false
        if ok then
          let prov := decide (x.role = 0xFF) && s.ownerKey.isNone
          let s := s.modSession session (fun x => { x with isOpen := true, provisioning := prov, since := s.now })
          (s.clearCopies (.session session)).bpSend via x.role (.bampor session 3 0 0 (bpBody x 3 0 0 []))
        else (s.closeSession session).bpSend via x.role (.bampor session 3 0x0B 0 [])

/-- BP_CHALLENGE_TIMEOUT: 1 s without PROVE. -/
def execBpChallengeTimeout (session : Nat) (s : State) : Host.Outcome State Fault Refusal :=
  .next (if s.net.sessions.any (fun x => x.id == session && !x.isOpen) then s.closeSession session else s)

/-- BP_SESSION_IDLE_TIMEOUT: 60 s without an accepted request. -/
def execBpSessionIdleTimeout (session : Nat) (s : State) : Host.Outcome State Fault Refusal :=
  .next (if s.net.sessions.any (fun x => x.id == session && x.isOpen) then s.closeSession session else s)

/-! ### Requests (R282) -/

/-- The types of Table 10-6, and the payload length of each request: that of a REG_WRITE follows from its COUNT. -/
def bpDefined (type : Nat) : Bool := [0x01, 0x02, 0x03, 0x10, 0x11, 0x20, 0x30, 0x40, 0x7F].contains type
def bpLengthOk (type : Nat) (payload : List Nat) : Bool :=
  match type with
  | 0x10 => payload.length == 8
  | 0x11 => payload.length == 8 + 4 * nth payload 4
  | 0x20 => payload.length == 4096
  | 0x30 => payload.length == 8
  | 0x40 => payload.length == 32
  | _ => payload.isEmpty

/-- TYPE and payload of a request as it came: the command's own, but for an undefined TYPE or a payload of a wrong length. -/
def bpType (h : BpHdr) (type : Nat) : Nat :=
  match h.badType with
  | some t => if bpDefined t.toNat then type else t.toNat
  | none => type
def bpPayload (h : BpHdr) (type : Nat) (payload : List Nat) : List Nat :=
  match h.badPayload with
  | some p => if bpLengthOk type p then payload else p
  | none => payload

/-- Is a request one of Table 10-6, its payload of the right length (R284). -/
def bpWellFormed (h : BpHdr) (type : Nat) (payload : List Nat) : Bool :=
  bpDefined (bpType h type) && bpLengthOk type (bpPayload h type payload)

/-- The bytes of a request and whether its tag verifies. -/
def bpBytes (h : BpHdr) (type : Nat) (payload : List Nat) : List Nat :=
  let p := bpPayload h type payload
  bpHeader h.via.magic h.via.version (bpType h type) h.session h.seq p.length 0 0 ++ p
def bpTagOk (x : Session) (h : BpHdr) (type : Nat) (payload : List Nat) : Bool :=
  bpKnown h.via && h.tag == bpTag x.kc (bpBytes h type payload)

/-- A request: discarded, answered again, refused with 0x07 where Table 10-6 does not know it, or executed by `act`, which gives status
and reply payload. -/
def State.bpRequest (s : State) (h : BpHdr) (type : Nat) (payload : List Nat) (act : State → Session → State × Nat × List Nat) :
    State :=
  let up := s.bpUp
  let s := if s.netHeld then s else s.received h.via.port 5 (bpPayload h type payload).length
  if !up then s
  else match s.openSession h.session with
    | none => s.bpDrop
    | some x =>
      let bytes := bpBytes h type payload
      let ty := bpType h type
      let send := fun (s : State) (status : Nat) (body : List Nat) =>
        s.bpSend h.via x.role (.bampor x.id ty status h.seq (bpBody x ty status h.seq body))
      if !bpTagOk x h type payload then s.bpDrop
      else
        let newer := match x.highSeq with
          | none => true
          | some q => decide (q < h.seq)
        if newer then
          let r := if bpWellFormed h type payload then act s x else (s, 7, [])
          let t := r.1.modSession x.id (fun y => { y with
            highSeq := some h.seq, lastReq := bytes, reply := some (ty, r.2.1, r.2.2), since := s.now })
          send t r.2.1 r.2.2
        else if x.highSeq = some h.seq ∧ x.lastReq = bytes then
          match x.reply with
          | some (_, status, body) => send s status body
          | none => send s 0x08 []
        else s.bpDrop

/-- The accesses of a REG_READ from `a`: state, words read, status of the refusal that stopped it. -/
def State.bpReads (s : State) (src : Source) (a : Nat) : Nat → State × List Nat × Nat
  | 0 => (s, [], 0)
  | n + 1 =>
    let (s, status, w) := s.regRead src (a % 2 ^ 32)
    if status ≠ 0 then (s, [], status)
    else
      let (s, ws, status) := s.bpReads src (a + 4) n
      (s, w :: ws, status)

/-- The accesses of a REG_WRITE: state, writes done, status. -/
def State.bpWrites (s : State) (src : Source) (a : Nat) : List Nat → State × Nat × Nat
  | [] => (s, 0, 0)
  | w :: ws =>
    let (s, status) := s.regWrite src (a % 2 ^ 32) w
    if status ≠ 0 then (s, 0, status)
    else
      let (s, n, status) := s.bpWrites src (a + 4) ws
      (s, n + 1, status)

/-- BP_REG_READ (R284): COUNT is 1 to 64, else status 0x06 (log entry 33). -/
def execBpRegRead (h : BpHdr) (addr : BitVec 32) (count : BitVec 8) (s : State) : Host.Outcome State Fault Refusal :=
  .next <| s.bpRequest h 0x10 (toBe addr.toNat 4 ++ [count.toNat, 0, 0, 0]) (fun s x =>
    if count.toNat = 0 ∨ 64 < count.toNat then (s, 6, [0, 0, 0, 0])
    else
      let (s, ws, status) := s.bpReads (.session x.id) addr.toNat count.toNat
      (s, status, [ws.length, 0, 0, 0] ++ ws.flatMap (fun w => toBe w 4)))

/-- BP_REG_WRITE (R284). -/
def execBpRegWrite (h : BpHdr) (addr : BitVec 32) (data : List (BitVec 32)) (s : State) : Host.Outcome State Fault Refusal :=
  let ws := data.map (fun w : BitVec 32 => w.toNat)
  .next <| s.bpRequest h 0x11 (toBe addr.toNat 4 ++ [ws.length % 256, 0, 0, 0] ++ ws.flatMap (fun w => toBe w 4)) (fun s x =>
    if ws.length = 0 ∨ 64 < ws.length then (s, 6, [0, 0, 0, 0])
    else
      let (s, n, status) := s.bpWrites (.session x.id) addr.toNat ws
      (s, status, [n, 0, 0, 0]))

/-- May a session deliver frames: an owner; a berth for a load that a session of its berth opened; a provisioning session never
(R283, R549). -/
def State.mayFrame (s : State) (x : Session) : Bool :=
  if x.provisioning then false else x.role == 0xFF || decide (s.img.openedBy = some x.role)

/-- BP_IMG_FRAME (R191): the code of Table 7-8 and the frames received; status 0x09 unless the frame was accepted. -/
def execBpImgFrame (h : BpHdr) (frame : List Nat) (s : State) : Host.Outcome State Fault Refusal :=
  .next <| s.bpRequest h 0x20 frame (fun s x =>
    let reply := fun (s : State) (code : Nat) => [code] ++ toBe (s.get .BTH_IMG_FRAMES_RECEIVED) 2 ++ [0]
    if !s.mayFrame x then (s, 3, reply s 0)
    else
      let (code, s) := s.imgFrame frame
      (s, if code = 0 then 0 else 9, reply s code))

/-- BP_LOG_READ (R533). -/
def execBpLogRead (h : BpHdr) (cursor : BitVec 32) (count : BitVec 8) (s : State) : Host.Outcome State Fault Refusal :=
  .next <| s.bpRequest h 0x30 (toBe cursor.toNat 4 ++ [count.toNat, 0, 0, 0]) (fun s x =>
    let c := cursor.toNat
    if x.provisioning then (s, 3, toBe c 4 ++ [0, 0, 0, 0])
    else if count.toNat = 0 ∨ 32 < count.toNat then (s, 6, toBe c 4 ++ [0, 0, 0, 0])
    else
      let rs := s.logRead c count.toNat
      let next := match rs.getLast? with
        | some r => (r.seq + 1) % 2 ^ 32
        | none => c
      (s.flashRead rs, 0, toBe next 4 ++ [rs.length, 0, 0, 0] ++ rs.flatMap (fun r => r.bytes)))

/-! ### Attestation (R550, Table 22-7) -/

/-- FLAGS of the report. -/
def State.attFlags (s : State) (view : Option (Fin 8)) : Nat :=
  ofBits [s.bit .SEC_STATUS_OWNED, s.bit .CAP_AGE_STATUS_FALLBACK, s.synced (otherPilot s.act), s.cte.custActive.isSome, view.isSome,
    s.net.ptpValid]

/-- The structure digests: of every berth, or of the session's own alone. -/
def State.attDigests (s : State) (view : Option (Fin 8)) : List Nat :=
  (allFin 8).flatMap (fun b : Fin 8 =>
    let shown := (view.isNone || view == some b) && (s.berth b).desc.isSome
    if shown then fixLen (s.berth b).digestS 64 else List.replicate 64 0)

/-- Bytes 0x000 to 0x39F. -/
def State.attReport (s : State) (view : Option (Fin 8)) (nonce : List Nat) : List Nat :=
  let age := (allFin 8).flatMap (fun d : Fin 8 =>
    [s.get .CAP_AGE_STEP 0 d, s.get .CAP_AGE_MAX_CODE 0 d, s.get .CAP_AGE_LOWERED 0 d % 2, 0])
  toLe 0xA77E5CA2 4 ++ toLe 1 2 ++ [s.act.val, s.attFlags view] ++ toLe (s.get .SEC_SERIAL_SERIAL) 8 ++ fixLen nonce 32 ++
    toLe s.timeNs 8 ++ toLe s.fwVersion 4 ++ toLe s.vtVersion 4 ++ toLe (s.get .CTE_CP_SET_ID) 4 ++
    [s.get .BTH_COMMITTED_BERTHS, 0, 0, 0] ++ fixLen (digestD (s.fwPackage s.act)) 64 ++ fixLen (digestD s.vtPackage) 64 ++
    (match s.cte.custActive with | some bs => fixLen (digestD bs) 64 | none => List.replicate 64 0) ++
    (match s.ownerKey with | some k => fixLen k 57 | none => List.replicate 57 0) ++ List.replicate 7 0 ++
    s.attDigests view ++ age ++ (List.range 13).flatMap (fun i => toLe (s.rbNow i) 4) ++ List.replicate 4 0

/-- The whole report, signed by the active pilot. -/
def State.attest (s : State) (view : Option (Fin 8)) (nonce : List Nat) : List Nat :=
  let body := s.attReport view nonce
  body ++ fixLen (Config.ed448Sign s.act (ascii "attest") (Config.shake256 body 64)) 114 ++ List.replicate 14 0

/-- BP_ATTEST. -/
def execBpAttest (h : BpHdr) (nonce : List Nat) (s : State) : Host.Outcome State Fault Refusal :=
  .next <| s.bpRequest h 0x40 nonce (fun s x =>
    if x.provisioning then (s, 3, [])
    else (s, 0, s.attest (if x.role = 0xFF then none else some (Fin.ofNat 8 x.role)) nonce))

/-- BP_CLOSE: the session ends after its reply (R281). -/
def execBpClose (h : BpHdr) (s : State) : Host.Outcome State Fault Refusal :=
  .next <|
    let had := s.openSession h.session
    let t := s.bpRequest h 0x7F [] (fun s _ => (s, 0, []))
    match had with
    | some x => if s.bpUp && bpTagOk x h 0x7F [] && bpWellFormed h 0x7F [] && (match x.highSeq with | none => true | some q => decide (q < h.seq))
        then t.closeSession h.session else t
    | none => t

end Sys2Proof.Machine
end

