-- ==== Sys2Proof/Machine/Slots.lean ====
section
/-! DEFINITION. Slots laid down by themselves (Tables 6-3, 6-6 to 6-9): each acts in the present stream cycle of its die, under the
checks and the waits of a bundle that holds it alone. -/

namespace Sys2Proof.Machine

/-- A slot is about to act: the die is not stalled, and a wait has ended. -/
def State.slotGo (s : State) (d : Fin 8) : State :=
  (s.setBit .CDC_STREAM_STATE_STALLED false d).modDie d (fun x => { x with waitStall := 0 })

/-- One enabled cycle's try of a slot on a die out of reset: it stalls for a pending LDT write or for `why`, a stall cause with its
counter; runs a busy cycle while a resource or register it needs is taken; faults the stream if illegal; else it acts (R145,
R153, R156, R165, R172). -/
def State.slotRow (s : State) (d : Fin 8) (regs : List (Nat × Nat)) (takes : List (Nat × Nat × Nat × Nat))
    (why : Option (Fld × Bool)) (code : Nat) (act : State → State) : State :=
  let x := s.die d
  let busy := x.busy takes || regs.any x.pendFixed
  if s.inReset (8 + d.val) then s
  else if regs.any x.pendLdt then (s.stalled d ((why.map (·.2)).getD false)).strCount d .CDC_STALL_BUSY_COUNT 1
  else
    match why with
    | some (f, wait) => (s.stalled d wait).strCount d (if busy then .CDC_STALL_BUSY_COUNT else f) 1
    | none =>
      if busy then s.busyCycle d
      else if code ≠ 0 then s.streamFault d code 0 (s.get .CDC_PC_INDEX d)
      else act (s.slotGo d)

/-! ### MAT, VEC, RTE and scalar slots -/

/-- A MAT operation laid down by itself, on repeat `rep`. -/
def State.matRow (s : State) (d : Fin 8) (op : Nat) (g : Fin 128) (desc : Fin 4096) (rep : Nat) : State :=
  let x := s.die d
  let raw := s.opEntry d desc
  let takes := if op = 0xE then [] else x.matTakes op g (eBuf raw rep) raw
  s.slotRow d [] takes none (x.matCode op g rep raw (advEntry 1 raw rep)) (fun s => s.matAct d op g desc rep 0)

/-- WLOAD: load a weight block into buffer BUF (R88, R154, Table 6-6). -/
def execMatWload (die : Fin 8) (gang : Fin 128) (desc : Fin 4096) (rep : Fin 256) (s : State) :
    Host.Outcome State Fault Refusal := .next (s.matRow die 0 gang desc rep)

/-- WPASS: stream M activation rows through buffer BUF (R88, R154). -/
def execMatWpass (die : Fin 8) (gang : Fin 128) (desc : Fin 4096) (rep : Fin 256) (s : State) :
    Host.Outcome State Fault Refusal := .next (s.matRow die 1 gang desc rep)

/-- WPASSA: a pass in accumulate form, partial sums from ADDR_B (R88, R154). -/
def execMatWpassa (die : Fin 8) (gang : Fin 128) (desc : Fin 4096) (rep : Fin 256) (s : State) :
    Host.Outcome State Fault Refusal := .next (s.matRow die 2 gang desc rep)

/-- OSACC: accumulate K elements into set BUF from 0 (R89). -/
def execMatOsacc (die : Fin 8) (gang : Fin 128) (desc : Fin 4096) (rep : Fin 256) (s : State) :
    Host.Outcome State Fault Refusal := .next (s.matRow die 3 gang desc rep)

/-- OSACCA: accumulate continuing from the set's value (R89). -/
def execMatOsacca (die : Fin 8) (gang : Fin 128) (desc : Fin 4096) (rep : Fin 256) (s : State) :
    Host.Outcome State Fault Refusal := .next (s.matRow die 4 gang desc rep)

/-- OSDRAIN: drain set BUF to ADDR_C (R89). -/
def execMatOsdrain (die : Fin 8) (gang : Fin 128) (desc : Fin 4096) (rep : Fin 256) (s : State) :
    Host.Outcome State Fault Refusal := .next (s.matRow die 5 gang desc rep)

/-- IDLE: declare the gang's matrix engine idle for 16 × DESC stream cycles (R169). -/
def execMatIdle (die : Fin 8) (gang : Fin 128) (desc : Fin 4096) (s : State) :
    Host.Outcome State Fault Refusal := .next (s.matRow die 0xE gang desc 0)


/-- A VEC operation laid down by itself, on repeat `rep`; a gather or scatter waits for the limit of R166. -/
def State.vecRow (s : State) (d : Fin 8) (op : Nat) (g : Fin 128) (desc : Fin 4096) (rep : Nat) : State :=
  let raw := s.opEntry d desc
  let rows := if op = 6 ∨ op = 7 then s.rowsOf d g raw else 0
  s.slotRow d [] [(g, 4, 0, 0)] (if (s.die d).overLimit rows then some (.CDC_STALL_MEM_COUNT, false) else none)
    ((s.die d).vecCode op g raw (advEntry 2 raw rep)) (fun s => s.vecAct d op g desc rep 0)

/-- VLD: load COUNT vector registers from tile SRAM (R155). -/
def execVecVld (die : Fin 8) (gang : Fin 128) (desc : Fin 4096) (rep : Fin 256) (s : State) :
    Host.Outcome State Fault Refusal := .next (s.vecRow die 0 gang desc rep)

/-- VST: store COUNT vector registers to tile SRAM (R155). -/
def execVecVst (die : Fin 8) (gang : Fin 128) (desc : Fin 4096) (rep : Fin 256) (s : State) :
    Host.Outcome State Fault Refusal := .next (s.vecRow die 1 gang desc rep)

/-- VALU: add, multiply, fused multiply-add, minimum, maximum or select (R91, Table 6-6). -/
def execVecValu (die : Fin 8) (gang : Fin 128) (desc : Fin 4096) (rep : Fin 256) (s : State) :
    Host.Outcome State Fault Refusal := .next (s.vecRow die 2 gang desc rep)

/-- VSFU: a special function of Table 4-3 (R91). -/
def execVecVsfu (die : Fin 8) (gang : Fin 128) (desc : Fin 4096) (rep : Fin 256) (s : State) :
    Host.Outcome State Fault Refusal := .next (s.vecRow die 3 gang desc rep)

/-- VCVT: convert a register to a format (R132, R133). -/
def execVecVcvt (die : Fin 8) (gang : Fin 128) (desc : Fin 4096) (rep : Fin 256) (s : State) :
    Host.Outcome State Fault Refusal := .next (s.vecRow die 4 gang desc rep)

/-- VCVTMX: convert a register to an MX format with eight block scales (R138). -/
def execVecVcvtmx (die : Fin 8) (gang : Fin 128) (desc : Fin 4096) (rep : Fin 256) (s : State) :
    Host.Outcome State Fault Refusal := .next (s.vecRow die 5 gang desc rep)

/-- VGATHER: request COUNT rows of 64 bytes from berth addresses into each tile (R155, R223). -/
def execVecVgather (die : Fin 8) (gang : Fin 128) (desc : Fin 4096) (rep : Fin 256) (s : State) :
    Host.Outcome State Fault Refusal := .next (s.vecRow die 6 gang desc rep)

/-- VSCATTER: write COUNT rows of 64 bytes from each tile to berth addresses (R155, R223). -/
def execVecVscatter (die : Fin 8) (gang : Fin 128) (desc : Fin 4096) (rep : Fin 256) (s : State) :
    Host.Outcome State Fault Refusal := .next (s.vecRow die 7 gang desc rep)

/-- RSEND: each edge tile sends COUNT lines to its linked tile (R95, R155). -/
def execRteRsend (die : Fin 8) (gang : Fin 128) (desc : Fin 4096) (rep : Fin 256) (s : State) :
    Host.Outcome State Fault Refusal :=
  .next <|
    let raw := s.opEntry die desc
    s.slotRow die [] [(gang.val, 5, nth raw 0 % 4, 0)] none ((s.die die).rteCode gang raw (advEntry 3 raw rep))
      (fun s => s.rteAct die gang desc rep 0)


/-- A scalar operation laid down by itself; its lane takes no other in the present stream cycle (R156). -/
def State.sclRow (s : State) (d : Fin 8) (op : Nat) (lane : Fin 4) (rd ra rb : Fin 64) : State :=
  let code := if sclEncCode op rd ra rb ≠ 0 then sclEncCode op rd ra rb else (s.die d).sclCode op lane ra rb
  s.slotRow d (sclRegs op lane rd ra rb) [] none code (fun s =>
    (s.sclAct d (s.die d) op lane rd ra rb).modDie d (fun x => { x with scoreboard := (5, lane.val, x.cycle + 1) :: x.scoreboard }))

/-- ADD: SRD ← SRA + SRB (Table 6-7). -/
def execSclAdd (die : Fin 8) (lane : Fin 4) (rd ra rb : Fin 64) (s : State) : Host.Outcome State Fault Refusal :=
  .next (s.sclRow die 0x00 lane rd ra rb)

/-- SUB: SRD ← SRA − SRB (Table 6-7). -/
def execSclSub (die : Fin 8) (lane : Fin 4) (rd ra rb : Fin 64) (s : State) : Host.Outcome State Fault Refusal :=
  .next (s.sclRow die 0x01 lane rd ra rb)

/-- AND: SRD ← SRA and SRB (Table 6-7). -/
def execSclAnd (die : Fin 8) (lane : Fin 4) (rd ra rb : Fin 64) (s : State) : Host.Outcome State Fault Refusal :=
  .next (s.sclRow die 0x02 lane rd ra rb)

/-- OR: SRD ← SRA or SRB (Table 6-7). -/
def execSclOr (die : Fin 8) (lane : Fin 4) (rd ra rb : Fin 64) (s : State) : Host.Outcome State Fault Refusal :=
  .next (s.sclRow die 0x03 lane rd ra rb)

/-- XOR: SRD ← SRA xor SRB (Table 6-7). -/
def execSclXor (die : Fin 8) (lane : Fin 4) (rd ra rb : Fin 64) (s : State) : Host.Outcome State Fault Refusal :=
  .next (s.sclRow die 0x04 lane rd ra rb)

/-- SHL: shift left by SRB[5:0] (Table 6-7). -/
def execSclShl (die : Fin 8) (lane : Fin 4) (rd ra rb : Fin 64) (s : State) : Host.Outcome State Fault Refusal :=
  .next (s.sclRow die 0x05 lane rd ra rb)

/-- SHR: logical shift right by SRB[5:0] (Table 6-7). -/
def execSclShr (die : Fin 8) (lane : Fin 4) (rd ra rb : Fin 64) (s : State) : Host.Outcome State Fault Refusal :=
  .next (s.sclRow die 0x06 lane rd ra rb)

/-- SAR: arithmetic shift right by SRB[5:0] (Table 6-7). -/
def execSclSar (die : Fin 8) (lane : Fin 4) (rd ra rb : Fin 64) (s : State) : Host.Outcome State Fault Refusal :=
  .next (s.sclRow die 0x07 lane rd ra rb)

/-- MUL: low 64 bits of SRA × SRB (Table 6-7). -/
def execSclMul (die : Fin 8) (lane : Fin 4) (rd ra rb : Fin 64) (s : State) : Host.Outcome State Fault Refusal :=
  .next (s.sclRow die 0x08 lane rd ra rb)

/-- ADDI: SRA plus the sign-extended RB field (Table 6-7). -/
def execSclAddi (die : Fin 8) (lane : Fin 4) (rd ra imm : Fin 64) (s : State) : Host.Outcome State Fault Refusal :=
  .next (s.sclRow die 0x09 lane rd ra imm)

/-- LDI: the sign-extended 12-bit immediate RA:RB (Table 6-7). -/
def execSclLdi (die : Fin 8) (lane : Fin 4) (rd ra rb : Fin 64) (s : State) : Host.Outcome State Fault Refusal :=
  .next (s.sclRow die 0x0A lane rd ra rb)

/-- SHLI12: (SRD << 12) or RA:RB (Table 6-7). -/
def execSclShli12 (die : Fin 8) (lane : Fin 4) (rd ra rb : Fin 64) (s : State) : Host.Outcome State Fault Refusal :=
  .next (s.sclRow die 0x0B lane rd ra rb)

/-- CMPEQ: P[RD] ← SRA = SRB (Table 6-7). -/
def execSclCmpeq (die : Fin 8) (lane : Fin 4) (rd ra rb : Fin 64) (s : State) : Host.Outcome State Fault Refusal :=
  .next (s.sclRow die 0x0C lane rd ra rb)

/-- CMPLT: P[RD] ← SRA < SRB, signed (Table 6-7). -/
def execSclCmplt (die : Fin 8) (lane : Fin 4) (rd ra rb : Fin 64) (s : State) : Host.Outcome State Fault Refusal :=
  .next (s.sclRow die 0x0D lane rd ra rb)

/-- CMPLTU: P[RD] ← SRA < SRB, unsigned (Table 6-7). -/
def execSclCmpltu (die : Fin 8) (lane : Fin 4) (rd ra rb : Fin 64) (s : State) : Host.Outcome State Fault Refusal :=
  .next (s.sclRow die 0x0E lane rd ra rb)

/-- PLOGIC: a predicate from two predicates (Table 6-7). -/
def execSclPlogic (die : Fin 8) (lane : Fin 4) (rd ra rb : Fin 64) (s : State) : Host.Outcome State Fault Refusal :=
  .next (s.sclRow die 0x0F lane rd ra rb)

/-- FADD: FP32 addition (Table 6-7). -/
def execSclFadd (die : Fin 8) (lane : Fin 4) (rd ra rb : Fin 64) (s : State) : Host.Outcome State Fault Refusal :=
  .next (s.sclRow die 0x10 lane rd ra rb)

/-- FMUL: FP32 multiplication (Table 6-7). -/
def execSclFmul (die : Fin 8) (lane : Fin 4) (rd ra rb : Fin 64) (s : State) : Host.Outcome State Fault Refusal :=
  .next (s.sclRow die 0x11 lane rd ra rb)

/-- FFMA: FP32 SRD + SRA × SRB (Table 6-7). -/
def execSclFfma (die : Fin 8) (lane : Fin 4) (rd ra rb : Fin 64) (s : State) : Host.Outcome State Fault Refusal :=
  .next (s.sclRow die 0x12 lane rd ra rb)

/-- FMIN: FP32 minimum (Table 6-7). -/
def execSclFmin (die : Fin 8) (lane : Fin 4) (rd ra rb : Fin 64) (s : State) : Host.Outcome State Fault Refusal :=
  .next (s.sclRow die 0x13 lane rd ra rb)

/-- FMAX: FP32 maximum (Table 6-7). -/
def execSclFmax (die : Fin 8) (lane : Fin 4) (rd ra rb : Fin 64) (s : State) : Host.Outcome State Fault Refusal :=
  .next (s.sclRow die 0x14 lane rd ra rb)

/-- FCMPLT: P[RD] ← SRA < SRB, FP32 (Table 6-7). -/
def execSclFcmplt (die : Fin 8) (lane : Fin 4) (rd ra rb : Fin 64) (s : State) : Host.Outcome State Fault Refusal :=
  .next (s.sclRow die 0x15 lane rd ra rb)

/-- FTOI: FP32 to a saturated 64-bit integer (Table 6-7). -/
def execSclFtoi (die : Fin 8) (lane : Fin 4) (rd ra : Fin 64) (s : State) : Host.Outcome State Fault Refusal :=
  .next (s.sclRow die 0x16 lane rd ra 0)

/-- ITOF: 64-bit integer to FP32 (Table 6-7). -/
def execSclItof (die : Fin 8) (lane : Fin 4) (rd ra : Fin 64) (s : State) : Host.Outcome State Fault Refusal :=
  .next (s.sclRow die 0x17 lane rd ra 0)

/-- LDP: 8 bytes of die pool scratch (Table 6-7). -/
def execSclLdp (die : Fin 8) (lane : Fin 4) (rd ra rb : Fin 64) (s : State) : Host.Outcome State Fault Refusal :=
  .next (s.sclRow die 0x18 lane rd ra rb)

/-- STP: stores 8 bytes of die pool scratch (Table 6-7). -/
def execSclStp (die : Fin 8) (lane : Fin 4) (rd ra rb : Fin 64) (s : State) : Host.Outcome State Fault Refusal :=
  .next (s.sclRow die 0x19 lane rd ra rb)

/-- LDT: starts an external read of tile SRAM (Table 6-7). -/
def execSclLdt (die : Fin 8) (lane : Fin 4) (rd ra rb : Fin 64) (s : State) : Host.Outcome State Fault Refusal :=
  .next (s.sclRow die 0x1A lane rd ra rb)

/-- STT: an external store to tile SRAM (Table 6-7). -/
def execSclStt (die : Fin 8) (lane : Fin 4) (rd ra rb : Fin 64) (s : State) : Host.Outcome State Fault Refusal :=
  .next (s.sclRow die 0x1B lane rd ra rb)

/-- SETL: L[RD[1:0]] ← SRA[31:0] (Table 6-7). -/
def execSclSetl (die : Fin 8) (lane : Fin 4) (rd ra : Fin 64) (s : State) : Host.Outcome State Fault Refusal :=
  .next (s.sclRow die 0x1C lane rd ra 0)

/-- GETSTEP: SRD ← the current step number (Table 6-7). -/
def execSclGetstep (die : Fin 8) (lane : Fin 4) (rd : Fin 64) (s : State) : Host.Outcome State Fault Refusal :=
  .next (s.sclRow die 0x1D lane rd 0 0)

/-- MOV: SRD ← SRA (Table 6-7). -/
def execSclMov (die : Fin 8) (lane : Fin 4) (rd ra : Fin 64) (s : State) : Host.Outcome State Fault Refusal :=
  .next (s.sclRow die 0x1E lane rd ra 0)

/-! ### NOP, TUG, SYNC, HINT and FLOW slots -/

/-- NOP: nothing (Table 6-3). -/
def execSlotNop (die : Fin 8) (s : State) : Host.Outcome State Fault Refusal := .next (s.slotRow die [] [] none 0 id)

/-- An ISSUE or DEFER laid down by itself; on a full channel the die stalls (R157). -/
def State.tugSlot (s : State) (d : Fin 8) (defer : Bool) (tally chan : Fin 16) (desc : Fin 4096) (rep : Nat) : State :=
  s.slotRow d [] [] (if 16 ≤ (s.die d).chanLoad chan then some (.CDC_STALL_BUSY_COUNT, false) else none)
    (if (s.chanMap d chan).isNone then 9 else 0) (fun s => s.tugAct d defer tally chan desc rep)

/-- TUG ISSUE (R157). -/
def execTugIssue (die : Fin 8) (tally chan : Fin 16) (desc : Fin 4096) (rep : Fin 256) (s : State) :
    Host.Outcome State Fault Refusal := .next (s.tugSlot die false tally chan desc rep)

/-- TUG DEFER (R157, R160, R221). -/
def execTugDefer (die : Fin 8) (tally chan : Fin 16) (desc : Fin 4096) (rep : Fin 256) (s : State) :
    Host.Outcome State Fault Refusal := .next (s.tugSlot die true tally chan desc rep)

/-- TUG COLL: post a collective (R157, R159, R272). -/
def execTugColl (die : Fin 8) (handle : Fin 16) (desc : Fin 4096) (rep : Fin 256) (s : State) :
    Host.Outcome State Fault Refusal :=
  .next (s.slotRow die [] [] none (if (s.die die).handles.any (fun h => h.id == handle.val) then 0xC else 0)
    (fun s => s.collAct die handle desc rep))

/-- SYNCPT ends a step; with a full event queue the die stalls (R160, R161). Its bundle has no further repeat. -/
def execSyncpt (die : Fin 8) (fromReg : Bool) (reg : Fin 64) (s : State) : Host.Outcome State Fault Refusal :=
  .next <|
    s.slotRow die (if fromReg then [(0, reg.val)] else []) []
      (if 64 ≤ (s.die die).events.length then some (.CDC_STALL_EVQ_COUNT, false) else none) 0
      (fun s => (s.syncptAct die (if fromReg then some ((s.die die).sreg 0 reg) else none)).afterSyncpt die)

/-- TWAIT: stalls until the tally is at least n (R159). -/
def execSyncTwait (die : Fin 8) (tally : Fin 16) (n : Fin 4096) (pd : Fin 16) (s : State) :
    Host.Outcome State Fault Refusal :=
  .next <| s.slotRow die [(4, pd.val)] []
    (if (s.die die).tallies[tally] < n.val then some (.CDC_STALL_MEM_COUNT, true) else none) 0
    (fun s => s.modDie die (fun x => x.twaitAct tally n pd))

/-- CWAIT: stalls until the collective on the handle completes (R159). -/
def execSyncCwait (die : Fin 8) (handle pd : Fin 16) (s : State) : Host.Outcome State Fault Refusal :=
  .next <| s.slotRow die [(4, pd.val)] []
    (if (s.die die).handles.any (fun h => h.id == handle.val && h.status.isNone) then some (.CDC_STALL_COLL_COUNT, true) else none)
    (if (s.die die).handles.any (fun h => h.id == handle.val) then 0 else 0xC)
    (fun s => s.modDie die (fun x => x.cwaitAct handle pd))

/-- FENCE: stalls until nothing of the die is outstanding (R157). -/
def execSyncFence (die : Fin 8) (s : State) : Host.Outcome State Fault Refusal :=
  .next <| s.slotRow die [] [] (if (s.die die).fenceOk then none else some (.CDC_STALL_MEM_COUNT, true)) 0 id

/-- TSET (R157). -/
def execSyncTset (die : Fin 8) (tally : Fin 16) (value : Fin 4096) (s : State) : Host.Outcome State Fault Refusal :=
  .next (s.slotRow die [] [] none 0 (fun s => s.modDie die (fun x => x.tsetAct tally value)))

/-- HINT (R161, R162). -/
def execHint (die : Fin 8) (lead : Fin 4096) (pclass : Fin 8) (id : Fin 256) (s : State) :
    Host.Outcome State Fault Refusal := .next (s.slotRow die [] [] none 0 (fun s => s.hintAct die lead pclass id))

/-- BR, after the last repeat of a bundle with WAIT 0 (R163, R164). -/
def execFlowBr (die : Fin 8) (target : Fin 1048576) (s : State) : Host.Outcome State Fault Refusal :=
  .next (s.slotRow die [] [] none (if (s.die die).lastBundle < 4 * target.val then 7 else 0)
    (fun s => s.flowAct die 0 target (s.get .CDC_PC_INDEX die) 0))

/-- LOOP on a counter (R163). -/
def execFlowLoop (die : Fin 8) (counter : Fin 4) (target : Fin 1048576) (s : State) : Host.Outcome State Fault Refusal :=
  .next (s.slotRow die [] [] none (if (s.die die).lastBundle < 4 * target.val then 7 else 0)
    (fun s => s.flowAct die (counter.val + 1) target (s.get .CDC_PC_INDEX die) 0))

/-- HALT (R163). -/
def execFlowHalt (die : Fin 8) (s : State) : Host.Outcome State Fault Refusal :=
  .next (s.slotRow die [] [] none 0 (fun s => s.flowAct die 5 0 (s.get .CDC_PC_INDEX die) 0))

/-- STREAM_HALTED: after HALT the stream stops once every occupancy of the die has ended (R163). -/
def execStreamHalted (die : Fin 8) (s : State) : Host.Outcome State Fault Refusal :=
  .next <|
    if (s.die die).ended && (s.die die).taken.all (fun t => decide (t.until_ ≤ (s.die die).cycle)) then
      (s.modDie die (fun x => { x with ended := false })).setStream die 0
    else s

end Sys2Proof.Machine
end

