-- ==== Sys2Proof/Machine/Dispatch.lean ====
section
/-! DEFINITION. The meaning of each command: one arm per constructor of `Instr`, each a direct call. -/

namespace Sys2Proof.Machine

/-- The effect of a command on everything but the queue of waiting commands. -/
def exec (i : Instr) (s : State) : Host.Outcome State Fault Refusal :=
  match i with
  | .registerWrite src addr data => Sys2Proof.Machine.execRegisterWrite src addr data s
  | .counterLoRead src addr => Sys2Proof.Machine.execCounterLoRead src addr s
  | .hotPlugInsertion slot => Sys2Proof.Machine.execHotPlugInsertion slot s
  | .presentNRemoval => Sys2Proof.Machine.execPresentNRemoval s
  | .interlockOpen => Sys2Proof.Machine.execInterlockOpen s
  | .resetInPulse ns => Sys2Proof.Machine.execResetInPulse ns s
  | .pwrEnLow => Sys2Proof.Machine.execPwrEnLow s
  | .capFastNFall => Sys2Proof.Machine.execCapFastNFall s
  | .capFastNRelease => Sys2Proof.Machine.execCapFastNRelease s
  | .coolantMeasure tin tout => Sys2Proof.Machine.execCoolantMeasure tin tout s
  | .coolFlowPulse => Sys2Proof.Machine.execCoolFlowPulse s
  | .attnBtnPress => Sys2Proof.Machine.execAttnBtnPress s
  | .smbRegRead dev addr => Sys2Proof.Machine.execSmbRegRead dev addr s
  | .smbRegWrite dev addr data pec => Sys2Proof.Machine.execSmbRegWrite dev addr data pec s
  | .smbLastStatus dev => Sys2Proof.Machine.execSmbLastStatus dev s
  | .smbReadReady dev => Sys2Proof.Machine.execSmbReadReady dev s
  | .smbReadFault dev => Sys2Proof.Machine.execSmbReadFault dev s
  | .smbRackCap dev watts pec => Sys2Proof.Machine.execSmbRackCap dev watts pec s
  | .smbInputPower dev => Sys2Proof.Machine.execSmbInputPower dev s
  | .smbDrain dev value pec => Sys2Proof.Machine.execSmbDrain dev value pec s
  | .smbAlertResponse => Sys2Proof.Machine.execSmbAlertResponse s
  | .smbClockLowTimeout => Sys2Proof.Machine.execSmbClockLowTimeout s
  | .tapInstructionLoad trstN is => Sys2Proof.Machine.execTapInstructionLoad trstN is s
  | .ppsInEdge => Sys2Proof.Machine.execPpsInEdge s
  | .powerOnReset => Sys2Proof.Machine.execPowerOnReset s
  | .brownOutReset => Sys2Proof.Machine.execBrownOutReset s
  | .watchdogReset p => Sys2Proof.Machine.execWatchdogReset p s
  | .rstReq src key => Sys2Proof.Machine.execRstReq src key s
  | .rstHoldSet src mask => Sys2Proof.Machine.execRstHoldSet src mask s
  | .rstHoldRelease src mask => Sys2Proof.Machine.execRstHoldRelease src mask s
  | .resetWaitEnd p us => Sys2Proof.Machine.execResetWaitEnd p us s
  | .resetHoldEntry d => Sys2Proof.Machine.execResetHoldEntry d s
  | .clockGood d => Sys2Proof.Machine.execClockGood d s
  | .clockDrop d => Sys2Proof.Machine.execClockDrop d s
  | .domainRelease d => Sys2Proof.Machine.execDomainRelease d s
  | .functionReady bit tablesOk ageOk => Sys2Proof.Machine.execFunctionReady bit tablesOk ageOk s
  | .startupBoundMissed bit => Sys2Proof.Machine.execStartupBoundMissed bit s
  | .hotspotReading die sensor raw => Sys2Proof.Machine.execHotspotReading die sensor raw s
  | .sentinelMeasurement die vals => Sys2Proof.Machine.execSentinelMeasurement die vals s
  | .extAccessForced die errs => Sys2Proof.Machine.execExtAccessForced die errs s
  | .cdcCntClear src die => Sys2Proof.Machine.execCdcCntClear src die s
  | .cdcFmtCntClear src die => Sys2Proof.Machine.execCdcFmtCntClear src die s
  | .cdcStrCntClear src die => Sys2Proof.Machine.execCdcStrCntClear src die s
  | .bundleIssue die errs => Sys2Proof.Machine.execBundleIssue die errs s
  | .slotNop die => Sys2Proof.Machine.execSlotNop die s
  | .matWload die gang desc rep => Sys2Proof.Machine.execMatWload die gang desc rep s
  | .matWpass die gang desc rep => Sys2Proof.Machine.execMatWpass die gang desc rep s
  | .matWpassa die gang desc rep => Sys2Proof.Machine.execMatWpassa die gang desc rep s
  | .matOsacc die gang desc rep => Sys2Proof.Machine.execMatOsacc die gang desc rep s
  | .matOsacca die gang desc rep => Sys2Proof.Machine.execMatOsacca die gang desc rep s
  | .matOsdrain die gang desc rep => Sys2Proof.Machine.execMatOsdrain die gang desc rep s
  | .matIdle die gang desc => Sys2Proof.Machine.execMatIdle die gang desc s
  | .vecVld die gang desc rep => Sys2Proof.Machine.execVecVld die gang desc rep s
  | .vecVst die gang desc rep => Sys2Proof.Machine.execVecVst die gang desc rep s
  | .vecValu die gang desc rep => Sys2Proof.Machine.execVecValu die gang desc rep s
  | .vecVsfu die gang desc rep => Sys2Proof.Machine.execVecVsfu die gang desc rep s
  | .vecVcvt die gang desc rep => Sys2Proof.Machine.execVecVcvt die gang desc rep s
  | .vecVcvtmx die gang desc rep => Sys2Proof.Machine.execVecVcvtmx die gang desc rep s
  | .vecVgather die gang desc rep => Sys2Proof.Machine.execVecVgather die gang desc rep s
  | .vecVscatter die gang desc rep => Sys2Proof.Machine.execVecVscatter die gang desc rep s
  | .rteRsend die gang desc rep => Sys2Proof.Machine.execRteRsend die gang desc rep s
  | .sclAdd die lane rd ra rb => Sys2Proof.Machine.execSclAdd die lane rd ra rb s
  | .sclSub die lane rd ra rb => Sys2Proof.Machine.execSclSub die lane rd ra rb s
  | .sclAnd die lane rd ra rb => Sys2Proof.Machine.execSclAnd die lane rd ra rb s
  | .sclOr die lane rd ra rb => Sys2Proof.Machine.execSclOr die lane rd ra rb s
  | .sclXor die lane rd ra rb => Sys2Proof.Machine.execSclXor die lane rd ra rb s
  | .sclShl die lane rd ra rb => Sys2Proof.Machine.execSclShl die lane rd ra rb s
  | .sclShr die lane rd ra rb => Sys2Proof.Machine.execSclShr die lane rd ra rb s
  | .sclSar die lane rd ra rb => Sys2Proof.Machine.execSclSar die lane rd ra rb s
  | .sclMul die lane rd ra rb => Sys2Proof.Machine.execSclMul die lane rd ra rb s
  | .sclAddi die lane rd ra imm => Sys2Proof.Machine.execSclAddi die lane rd ra imm s
  | .sclLdi die lane rd ra rb => Sys2Proof.Machine.execSclLdi die lane rd ra rb s
  | .sclShli12 die lane rd ra rb => Sys2Proof.Machine.execSclShli12 die lane rd ra rb s
  | .sclCmpeq die lane rd ra rb => Sys2Proof.Machine.execSclCmpeq die lane rd ra rb s
  | .sclCmplt die lane rd ra rb => Sys2Proof.Machine.execSclCmplt die lane rd ra rb s
  | .sclCmpltu die lane rd ra rb => Sys2Proof.Machine.execSclCmpltu die lane rd ra rb s
  | .sclPlogic die lane rd ra rb => Sys2Proof.Machine.execSclPlogic die lane rd ra rb s
  | .sclFadd die lane rd ra rb => Sys2Proof.Machine.execSclFadd die lane rd ra rb s
  | .sclFmul die lane rd ra rb => Sys2Proof.Machine.execSclFmul die lane rd ra rb s
  | .sclFfma die lane rd ra rb => Sys2Proof.Machine.execSclFfma die lane rd ra rb s
  | .sclFmin die lane rd ra rb => Sys2Proof.Machine.execSclFmin die lane rd ra rb s
  | .sclFmax die lane rd ra rb => Sys2Proof.Machine.execSclFmax die lane rd ra rb s
  | .sclFcmplt die lane rd ra rb => Sys2Proof.Machine.execSclFcmplt die lane rd ra rb s
  | .sclFtoi die lane rd ra => Sys2Proof.Machine.execSclFtoi die lane rd ra s
  | .sclItof die lane rd ra => Sys2Proof.Machine.execSclItof die lane rd ra s
  | .sclLdp die lane rd ra rb => Sys2Proof.Machine.execSclLdp die lane rd ra rb s
  | .sclStp die lane rd ra rb => Sys2Proof.Machine.execSclStp die lane rd ra rb s
  | .sclLdt die lane rd ra rb => Sys2Proof.Machine.execSclLdt die lane rd ra rb s
  | .ldtResult die errs => Sys2Proof.Machine.execLdtResult die errs s
  | .sclStt die lane rd ra rb => Sys2Proof.Machine.execSclStt die lane rd ra rb s
  | .sclSetl die lane rd ra => Sys2Proof.Machine.execSclSetl die lane rd ra s
  | .sclGetstep die lane rd => Sys2Proof.Machine.execSclGetstep die lane rd s
  | .sclMov die lane rd ra => Sys2Proof.Machine.execSclMov die lane rd ra s
  | .tugIssue die tally chan desc rep => Sys2Proof.Machine.execTugIssue die tally chan desc rep s
  | .tugDefer die tally chan desc rep => Sys2Proof.Machine.execTugDefer die tally chan desc rep s
  | .tugColl die handle desc rep => Sys2Proof.Machine.execTugColl die handle desc rep s
  | .syncpt die fromReg reg => Sys2Proof.Machine.execSyncpt die fromReg reg s
  | .syncTwait die tally n pd => Sys2Proof.Machine.execSyncTwait die tally n pd s
  | .syncCwait die handle pd => Sys2Proof.Machine.execSyncCwait die handle pd s
  | .syncFence die => Sys2Proof.Machine.execSyncFence die s
  | .syncTset die tally value => Sys2Proof.Machine.execSyncTset die tally value s
  | .hint die lead pclass id => Sys2Proof.Machine.execHint die lead pclass id s
  | .flowBr die target => Sys2Proof.Machine.execFlowBr die target s
  | .flowLoop die counter target => Sys2Proof.Machine.execFlowLoop die counter target s
  | .flowHalt die => Sys2Proof.Machine.execFlowHalt die s
  | .streamHalted die => Sys2Proof.Machine.execStreamHalted die s
  | .cdcStreamStart src die => Sys2Proof.Machine.execCdcStreamStart src die s
  | .cdcStreamStop src die => Sys2Proof.Machine.execCdcStreamStop src die s
  | .cdcStreamResume src die => Sys2Proof.Machine.execCdcStreamResume src die s
  | .frameBoundary b => Sys2Proof.Machine.execFrameBoundary b s
  | .frameRestored b => Sys2Proof.Machine.execFrameRestored b s
  | .pacingDutyChange die => Sys2Proof.Machine.execPacingDutyChange die s
  | .ballastInWait die gang => Sys2Proof.Machine.execBallastInWait die gang s
  | .tugDescriptorStart quay tug => Sys2Proof.Machine.execTugDescriptorStart quay tug s
  | .tugCompletion quay tug errs => Sys2Proof.Machine.execTugCompletion quay tug errs s
  | .gatherCompletion die n errs => Sys2Proof.Machine.execGatherCompletion die n errs s
  | .hbmTrainingDone stack rate ok => Sys2Proof.Machine.execHbmTrainingDone stack rate ok s
  | .hbmStackFailed stack => Sys2Proof.Machine.execHbmStackFailed stack s
  | .hbmTempReport stack temp => Sys2Proof.Machine.execHbmTempReport stack temp s
  | .hbmCorrectedWriteback stack => Sys2Proof.Machine.execHbmCorrectedWriteback stack s
  | .patrolScrub quay errs => Sys2Proof.Machine.execPatrolScrub quay errs s
  | .qsramPatrol quay errs => Sys2Proof.Machine.execQsramPatrol quay errs s
  | .qdcCntClear src quay => Sys2Proof.Machine.execQdcCntClear src quay s
  | .flitReplay link dir sub => Sys2Proof.Machine.execFlitReplay link dir sub s
  | .sublinkRetire link sub => Sys2Proof.Machine.execSublinkRetire link sub s
  | .linkDown link => Sys2Proof.Machine.execLinkDown link s
  | .requestTimeout req => Sys2Proof.Machine.execRequestTimeout req s
  | .saturationWindow => Sys2Proof.Machine.execSaturationWindow s
  | .fwyCntClear src => Sys2Proof.Machine.execFwyCntClear src s
  | .subportLinkUp port sub partner => Sys2Proof.Machine.execSubportLinkUp port sub partner s
  | .subportLinkDown port sub => Sys2Proof.Machine.execSubportLinkDown port sub s
  | .netFrameReceive port sub f corrected uncorrected => Sys2Proof.Machine.execNetFrameReceive port sub f corrected uncorrected s
  | .pfcXoffSend port sub prio useKib => Sys2Proof.Machine.execPfcXoffSend port sub prio useKib s
  | .pfcFrameReceive port sub prio xoff => Sys2Proof.Machine.execPfcFrameReceive port sub prio xoff s
  | .cePacketReceive qp => Sys2Proof.Machine.execCePacketReceive qp s
  | .cnpReceive qp => Sys2Proof.Machine.execCnpReceive qp s
  | .ccRateStep qp => Sys2Proof.Machine.execCcRateStep qp s
  | .rdmaWriteIn qp rkey va data => Sys2Proof.Machine.execRdmaWriteIn qp rkey va data s
  | .rdmaReadIn qp rkey va len => Sys2Proof.Machine.execRdmaReadIn qp rkey va len s
  | .sendIn qp put data => Sys2Proof.Machine.execSendIn qp put data s
  | .nakReceive qp psn => Sys2Proof.Machine.execNakReceive qp psn s
  | .qpAckTimeout qp => Sys2Proof.Machine.execQpAckTimeout qp s
  | .qpToInit src qp => Sys2Proof.Machine.execQpToInit src qp s
  | .qpToRtr src qp => Sys2Proof.Machine.execQpToRtr src qp s
  | .qpToRts src qp => Sys2Proof.Machine.execQpToRts src qp s
  | .qpToError src qp => Sys2Proof.Machine.execQpToError src qp s
  | .qpToReset src qp => Sys2Proof.Machine.execQpToReset src qp s
  | .qpSubportDownTimeout qp => Sys2Proof.Machine.execQpSubportDownTimeout qp s
  | .collectiveComplete die handle peers memStatus => Sys2Proof.Machine.execCollectiveComplete die handle peers memStatus s
  | .collectiveTimeout die handle => Sys2Proof.Machine.execCollectiveTimeout die handle s
  | .ptpMessage port m locked => Sys2Proof.Machine.execPtpMessage port m locked s
  | .ptpSourceSwitch port => Sys2Proof.Machine.execPtpSourceSwitch port s
  | .bpHello via role identity nc xc => Sys2Proof.Machine.execBpHello via role identity nc xc s
  | .bpProve via session sig => Sys2Proof.Machine.execBpProve via session sig s
  | .bpChallengeTimeout session => Sys2Proof.Machine.execBpChallengeTimeout session s
  | .bpSessionIdleTimeout session => Sys2Proof.Machine.execBpSessionIdleTimeout session s
  | .bpRegRead h addr count => Sys2Proof.Machine.execBpRegRead h addr count s
  | .bpRegWrite h addr data => Sys2Proof.Machine.execBpRegWrite h addr data s
  | .bpImgFrame h frame => Sys2Proof.Machine.execBpImgFrame h frame s
  | .bpLogRead h cursor count => Sys2Proof.Machine.execBpLogRead h cursor count s
  | .bpAttest h nonce => Sys2Proof.Machine.execBpAttest h nonce s
  | .bpClose h => Sys2Proof.Machine.execBpClose h s
  | .tmBeaconRx b h rate pending effStep timeNs manifest periodUs members => Sys2Proof.Machine.execTmBeaconRx b h rate pending effStep timeNs manifest periodUs members s
  | .tmRateReqRx b h code reason step skew => Sys2Proof.Machine.execTmRateReqRx b h code reason step skew s
  | .tmStatusRx b h rate duty step skew memRatio manifest => Sys2Proof.Machine.execTmStatusRx b h rate duty step skew memRatio manifest s
  | .tmJoinRx b h manifest reqIndex => Sys2Proof.Machine.execTmJoinRx b h manifest reqIndex s
  | .tmJoinReplyRx b h result index fromEpoch => Sys2Proof.Machine.execTmJoinReplyRx b h result index fromEpoch s
  | .tmLeaveRx b h reason => Sys2Proof.Machine.execTmLeaveRx b h reason s
  | .tmClaimRx b h manifest => Sys2Proof.Machine.execTmClaimRx b h manifest s
  | .beaconSend b => Sys2Proof.Machine.execBeaconSend b s
  | .beaconMissed b => Sys2Proof.Machine.execBeaconMissed b s
  | .statusSend b => Sys2Proof.Machine.execStatusSend b s
  | .rateReqSend b => Sys2Proof.Machine.execRateReqSend b s
  | .requestHoldExpiry b index => Sys2Proof.Machine.execRequestHoldExpiry b index s
  | .seekingTimeout b => Sys2Proof.Machine.execSeekingTimeout b s
  | .joiningTimeout b => Sys2Proof.Machine.execJoiningTimeout b s
  | .claimSend b => Sys2Proof.Machine.execClaimSend b s
  | .electionWon b => Sys2Proof.Machine.execElectionWon b s
  | .memberLost b index => Sys2Proof.Machine.execMemberLost b index s
  | .quorumLost b => Sys2Proof.Machine.execQuorumLost b s
  | .rhdEnable src b => Sys2Proof.Machine.execRhdEnable src b s
  | .rhdDisable src b => Sys2Proof.Machine.execRhdDisable src b s
  | .rhdPin src b => Sys2Proof.Machine.execRhdPin src b s
  | .rhdCntClear src => Sys2Proof.Machine.execRhdCntClear src s
  | .standbyPllLocked die => Sys2Proof.Machine.execStandbyPllLocked die s
  | .vcRampDone die => Sys2Proof.Machine.execVcRampDone die s
  | .pendingTakenStopped die => Sys2Proof.Machine.execPendingTakenStopped die s
  | .rateCeilingLift b reason => Sys2Proof.Machine.execRateCeilingLift b reason s
  | .bthQuiesce src b => Sys2Proof.Machine.execBthQuiesce src b s
  | .bthRelease src b => Sys2Proof.Machine.execBthRelease src b s
  | .bthImgOpen src => Sys2Proof.Machine.execBthImgOpen src s
  | .bthImgCommit src => Sys2Proof.Machine.execBthImgCommit src s
  | .bthImgAbort src => Sys2Proof.Machine.execBthImgAbort src s
  | .imageReceiveTimeout => Sys2Proof.Machine.execImageReceiveTimeout s
  | .imageVerifyDone => Sys2Proof.Machine.execImageVerifyDone s
  | .imageCopiesStored storedA storedB => Sys2Proof.Machine.execImageCopiesStored storedA storedB s
  | .imageSlotCurrent => Sys2Proof.Machine.execImageSlotCurrent s
  | .berthRestore b => Sys2Proof.Machine.execBerthRestore b s
  | .secManSelWrite src value => Sys2Proof.Machine.execSecManSelWrite src value s
  | .helmCommand helm link bytes => Sys2Proof.Machine.execHelmCommand helm link bytes s
  | .helmTelemetry rail mv amps temps => Sys2Proof.Machine.execHelmTelemetry rail mv amps temps s
  | .helmAutonomous helm => Sys2Proof.Machine.execHelmAutonomous helm s
  | .bootSequencer => Sys2Proof.Machine.execBootSequencer s
  | .prechargeDone => Sys2Proof.Machine.execPrechargeDone s
  | .prechargeTimeout => Sys2Proof.Machine.execPrechargeTimeout s
  | .prechargeRetry => Sys2Proof.Machine.execPrechargeRetry s
  | .hotSwapClose pwrEn => Sys2Proof.Machine.execHotSwapClose pwrEn s
  | .hotSwapTrip => Sys2Proof.Machine.execHotSwapTrip s
  | .idealDiodeBlock => Sys2Proof.Machine.execIdealDiodeBlock s
  | .inputMeasure j1Mv nodeMv aX100 => Sys2Proof.Machine.execInputMeasure j1Mv nodeMv aX100 s
  | .switchingPeriod rail mv phases => Sys2Proof.Machine.execSwitchingPeriod rail mv phases s
  | .railRegulationEnter rail => Sys2Proof.Machine.execRailRegulationEnter rail s
  | .railRegulationLeave rail => Sys2Proof.Machine.execRailRegulationLeave rail s
  | .phaseBalance rail meansX10 => Sys2Proof.Machine.execPhaseBalance rail meansX10 s
  | .phaseShed rail => Sys2Proof.Machine.execPhaseShed rail s
  | .phaseAdd rail => Sys2Proof.Machine.execPhaseAdd rail s
  | .loadStep rail mv => Sys2Proof.Machine.execLoadStep rail mv s
  | .brakeStart rail mv => Sys2Proof.Machine.execBrakeStart rail mv s
  | .brakeEnd rail phase => Sys2Proof.Machine.execBrakeEnd rail phase s
  | .railStart rail mv => Sys2Proof.Machine.execRailStart rail mv s
  | .softStartDone rail => Sys2Proof.Machine.execSoftStartDone rail s
  | .syncInLost => Sys2Proof.Machine.execSyncInLost s
  | .timebaseSlewDone => Sys2Proof.Machine.execTimebaseSlewDone s
  | .syncInStable khz => Sys2Proof.Machine.execSyncInStable khz s
  | .syncLocked => Sys2Proof.Machine.execSyncLocked s
  | .pwrRailCntClear src rail => Sys2Proof.Machine.execPwrRailCntClear src rail s
  | .pwrCntClear src => Sys2Proof.Machine.execPwrCntClear src s
  | .classHTrip rail => Sys2Proof.Machine.execClassHTrip rail s
  | .hiccupRetry rail => Sys2Proof.Machine.execHiccupRetry rail s
  | .retryCountClear rail => Sys2Proof.Machine.execRetryCountClear rail s
  | .softStartLatch rail mv => Sys2Proof.Machine.execSoftStartLatch rail mv s
  | .stageThermalStop rail phase temp => Sys2Proof.Machine.execStageThermalStop rail phase temp s
  | .stageRejoin rail phase temp => Sys2Proof.Machine.execStageRejoin rail phase temp s
  | .overvoltageLatch rail mv => Sys2Proof.Machine.execOvervoltageLatch rail mv s
  | .pwrRailUnlatch src rail key => Sys2Proof.Machine.execPwrRailUnlatch src rail key s
  | .inputLowStop rail => Sys2Proof.Machine.execInputLowStop rail s
  | .inputLowRecover rail => Sys2Proof.Machine.execInputLowRecover rail s
  | .hsShortCheck rail shorted => Sys2Proof.Machine.execHsShortCheck rail shorted s
  | .inputUvStart => Sys2Proof.Machine.execInputUvStart s
  | .inputUvEnd => Sys2Proof.Machine.execInputUvEnd s
  | .inputOvStart => Sys2Proof.Machine.execInputOvStart s
  | .inputOvEnd => Sys2Proof.Machine.execInputOvEnd s
  | .lossOfInput => Sys2Proof.Machine.execLossOfInput s
  | .faultRecordStored rec ok => Sys2Proof.Machine.execFaultRecordStored rec ok s
  | .pwrRecClear src key => Sys2Proof.Machine.execPwrRecClear src key s
  | .pwrRec0Read src rec => Sys2Proof.Machine.execPwrRec0Read src rec s
  | .pwrRailProtCntClear src rail => Sys2Proof.Machine.execPwrRailProtCntClear src rail s
  | .isolationPrecharge => Sys2Proof.Machine.execIsolationPrecharge s
  | .isolationClose packMv => Sys2Proof.Machine.execIsolationClose packMv s
  | .isolationPrechargeTimeout => Sys2Proof.Machine.execIsolationPrechargeTimeout s
  | .bwcOvervoltage nodeMv packMv => Sys2Proof.Machine.execBwcOvervoltage nodeMv packMv s
  | .hintHoldClear die id => Sys2Proof.Machine.execHintHoldClear die id s
  | .tideAnchor die syncStep => Sys2Proof.Machine.execTideAnchor die syncStep s
  | .tideAnchorTimeout => Sys2Proof.Machine.execTideAnchorTimeout s
  | .breakwaterLost => Sys2Proof.Machine.execBreakwaterLost s
  | .bwrCntClear src => Sys2Proof.Machine.execBwrCntClear src s
  | .controlCycleBoundary => Sys2Proof.Machine.execControlCycleBoundary s
  | .cl00Sample m => Sys2Proof.Machine.execCl00Sample m s
  | .cl01Sample m => Sys2Proof.Machine.execCl01Sample m s
  | .cl03Sample m => Sys2Proof.Machine.execCl03Sample m s
  | .cl04Sample m => Sys2Proof.Machine.execCl04Sample m s
  | .cl05Sample m => Sys2Proof.Machine.execCl05Sample m s
  | .cl06Sample m => Sys2Proof.Machine.execCl06Sample m s
  | .cl07Sample m => Sys2Proof.Machine.execCl07Sample m s
  | .cl12Sample m => Sys2Proof.Machine.execCl12Sample m s
  | .cl13Sample m => Sys2Proof.Machine.execCl13Sample m s
  | .cl14Sample m => Sys2Proof.Machine.execCl14Sample m s
  | .cl15Sample m => Sys2Proof.Machine.execCl15Sample m s
  | .cl16Sample m => Sys2Proof.Machine.execCl16Sample m s
  | .cl17Sample m => Sys2Proof.Machine.execCl17Sample m s
  | .cl20Sample m => Sys2Proof.Machine.execCl20Sample m s
  | .cl31Sample m e => Sys2Proof.Machine.execCl31Sample m e s
  | .loopDeadline loop => Sys2Proof.Machine.execLoopDeadline loop s
  | .cteLoopAuto src => Sys2Proof.Machine.execCteLoopAuto src s
  | .cteLoopHold src => Sys2Proof.Machine.execCteLoopHold src s
  | .cteParamCommit src => Sys2Proof.Machine.execCteParamCommit src s
  | .cteParamDefault src => Sys2Proof.Machine.execCteParamDefault src s
  | .paramStoreDone ok => Sys2Proof.Machine.execParamStoreDone ok s
  | .cteCntClear src => Sys2Proof.Machine.execCteCntClear src s
  | .cteCustOpen src => Sys2Proof.Machine.execCteCustOpen src s
  | .cteCustData src data => Sys2Proof.Machine.execCteCustData src data s
  | .cteCustVerify src => Sys2Proof.Machine.execCteCustVerify src s
  | .cteCustActivate src => Sys2Proof.Machine.execCteCustActivate src s
  | .custPackageStored ok => Sys2Proof.Machine.execCustPackageStored ok s
  | .cteCustDisable src => Sys2Proof.Machine.execCteCustDisable src s
  | .cellScan cells stackMv refA refB => Sys2Proof.Machine.execCellScan cells stackMv refA refB s
  | .openWireWindow cells stackMv => Sys2Proof.Machine.execOpenWireWindow cells stackMv s
  | .cellComparatorTrip cell ov => Sys2Proof.Machine.execCellComparatorTrip cell ov s
  | .cellComparatorRelease cell ov => Sys2Proof.Machine.execCellComparatorRelease cell ov s
  | .sleepCheck cellsMv => Sys2Proof.Machine.execSleepCheck cellsMv s
  | .thermistorConvert mv => Sys2Proof.Machine.execThermistorConvert mv s
  | .packIdDecode ohms => Sys2Proof.Machine.execPackIdDecode ohms s
  | .interlockClosed => Sys2Proof.Machine.execInterlockClosed s
  | .cafeSelfTest ok => Sys2Proof.Machine.execCafeSelfTest ok s
  | .celCntClear src => Sys2Proof.Machine.execCelCntClear src s
  | .localThermalPacing die => Sys2Proof.Machine.execLocalThermalPacing die s
  | .thermalPacingWithdraw b => Sys2Proof.Machine.execThermalPacingWithdraw b s
  | .bollardTrip sites => Sys2Proof.Machine.execBollardTrip sites s
  | .capBollardClear src key => Sys2Proof.Machine.execCapBollardClear src key s
  | .coolantTrip => Sys2Proof.Machine.execCoolantTrip s
  | .coolantTripEnd => Sys2Proof.Machine.execCoolantTripEnd s
  | .ageStateStore => Sys2Proof.Machine.execAgeStateStore s
  | .capCntClear src => Sys2Proof.Machine.execCapCntClear src s
  | .firstGrant => Sys2Proof.Machine.execFirstGrant s
  | .heartbeatToggle p => Sys2Proof.Machine.execHeartbeatToggle p s
  | .lockstepMismatch p => Sys2Proof.Machine.execLockstepMismatch p s
  | .pilotFailureJudged p cause => Sys2Proof.Machine.execPilotFailureJudged p cause s
  | .takeover => Sys2Proof.Machine.execTakeover s
  | .stateCopySend => Sys2Proof.Machine.execStateCopySend s
  | .stateCopyReceive crcOk magic alive cycle ret => Sys2Proof.Machine.execStateCopyReceive crcOk magic alive cycle ret s
  | .pilotStandbyEntry p => Sys2Proof.Machine.execPilotStandbyEntry p s
  | .autoReturnStart => Sys2Proof.Machine.execAutoReturnStart s
  | .pltSwitch src key => Sys2Proof.Machine.execPltSwitch src key s
  | .handoverCopyAccepted => Sys2Proof.Machine.execHandoverCopyAccepted s
  | .handoverAbandon => Sys2Proof.Machine.execHandoverAbandon s
  | .handoverOverlapEnd => Sys2Proof.Machine.execHandoverOverlapEnd s
  | .noPilotBwcZero => Sys2Proof.Machine.execNoPilotBwcZero s
  | .hmaFault p => Sys2Proof.Machine.execHmaFault p s
  | .pltCntClear src => Sys2Proof.Machine.execPltCntClear src s
  | .hplDrain src key => Sys2Proof.Machine.execHplDrain src key s
  | .hplCancel src key => Sys2Proof.Machine.execHplCancel src key s
  | .drainQuiesced => Sys2Proof.Machine.execDrainQuiesced s
  | .drainBerthLeave b => Sys2Proof.Machine.execDrainBerthLeave b s
  | .quiesceTimeout => Sys2Proof.Machine.execQuiesceTimeout s
  | .dischargeEnd => Sys2Proof.Machine.execDischargeEnd s
  | .dischargeTimeout => Sys2Proof.Machine.execDischargeTimeout s
  | .drainStopping => Sys2Proof.Machine.execDrainStopping s
  | .surpriseHoldOpen => Sys2Proof.Machine.execSurpriseHoldOpen s
  | .eventRaised code unit arg0 arg1 => Sys2Proof.Machine.execEventRaised code unit arg0 arg1 s
  | .eventHandlingDone => Sys2Proof.Machine.execEventHandlingDone s
  | .latchEnd chapter unit => Sys2Proof.Machine.execLatchEnd chapter unit s
  | .logFlushDone p => Sys2Proof.Machine.execLogFlushDone p s
  | .logFlashFail p => Sys2Proof.Machine.execLogFlashFail p s
  | .logMount p => Sys2Proof.Machine.execLogMount p s
  | .logCtrlFlush src => Sys2Proof.Machine.execLogCtrlFlush src s
  | .logCursorWrite src seq => Sys2Proof.Machine.execLogCursorWrite src seq s
  | .logWin7Read src => Sys2Proof.Machine.execLogWin7Read src s
  | .logWindowLatched => Sys2Proof.Machine.execLogWindowLatched s
  | .cvuStart src u => Sys2Proof.Machine.execCvuStart src u s
  | .cvuData src u data => Sys2Proof.Machine.execCvuData src u data s
  | .cvuCntClear src => Sys2Proof.Machine.execCvuCntClear src s
  | .pufReconstruct p ok => Sys2Proof.Machine.execPufReconstruct p ok s
  | .firmwareBootVerify p currentOk otherOk => Sys2Proof.Machine.execFirmwareBootVerify p currentOk otherOk s
  | .rollbackRepair badA badB => Sys2Proof.Machine.execRollbackRepair badA badB s
  | .secPkgOpen src => Sys2Proof.Machine.execSecPkgOpen src s
  | .secPkgData src data => Sys2Proof.Machine.execSecPkgData src data s
  | .secPkgVerify src => Sys2Proof.Machine.execSecPkgVerify src s
  | .secPkgActivate src => Sys2Proof.Machine.execSecPkgActivate src s
  | .vendorActivationDone ok => Sys2Proof.Machine.execVendorActivationDone ok s
  | .secOwnerCommit src key => Sys2Proof.Machine.execSecOwnerCommit src key s
  | .aoPowerUp => Sys2Proof.Machine.execAoPowerUp s
  | .hotSwapTripCountClear => Sys2Proof.Machine.execHotSwapTripCountClear s
  | .recordReadLatchExpiry src rec => Sys2Proof.Machine.execRecordReadLatchExpiry src rec s

end Sys2Proof.Machine
end

