-- ==== Sys2Proof/Machine/Tick.lean ====
section
/-! DEFINITION. What time alone does while no command waits: the pilot clock's cycle is the model's tick (log entry 9). -/

namespace Sys2Proof.Machine

/-- A die with a fairway port is out of reset: the fabric clock is counted. -/
def State.fabricUp (s : State) : Bool := !(s.inReset 6 && (List.range 16).all (fun i => s.inReset (8 + i)))

/-- One idle pilot cycle of 1.25 ns. Fairway runs at 2.4 GHz beside it, with no fixed relation between the two clocks: of its cycles
two, three or four begin in a pilot cycle, a free value says how many (R28, R237, R255; log entry 9). The collective engines take
what was posted (R274). -/
def State.tick (s : State) : State :=
  let s : State := State.collStarts { s with now := s.now + 1250 }
  if s.fabricUp then
    let (v, s) := s.freeNat 71
    State.fabricCycles (2 + v % 3) (s.count .FWY_CNT_CTRL_FREEZE .FWY_CYCLES_COUNT (2 + v % 3))
  else s

end Sys2Proof.Machine
end

