-- ==== Sys2Proof/WellFormed.lean ====
section
/-! DEFINITION. Well-formed commands: every operand that its Lean type leaves unbounded lies within the width that the spec gives
it. The operands of the other commands are bounded by their types. -/

namespace Sys2Proof

/-- A list of byte values. -/
def areBytes (bs : List Nat) : Bool := bs.all (fun b => decide (b < 256))

/-- Exactly `n` byte values. -/
def bytesOf (n : Nat) (bs : List Nat) : Bool := areBytes bs && decide (bs.length = n)

/-- An access source: a session identifier has 32 bits (Table 10-5). -/
def Source.wf : Source → Bool
  | .smbus => true
  | .internal _ => true
  | .session id => decide (id < 2 ^ 32)

/-- A MAC of 48 bits, an IPv4 address of 32 or an IPv6 address of 128 (R260). -/
def Addr.wf (a : Addr) : Bool := decide (a.mac < 2 ^ 48) && decide (a.ip < 2 ^ (if a.v6 then 128 else 32))

/-- A VLAN identifier has 12 bits (R261). -/
def vlanWf (v : Option Nat) : Bool := v.all (fun v => decide (v < 2 ^ 12))

/-- A Bampor header (Table 10-5): field widths, and a tag of 32 bytes (R280). -/
def BpVia.wf (v : BpVia) : Bool := decide (v.magic < 2 ^ 16) && decide (v.version < 2 ^ 8) && v.peer.wf
def BpHdr.wf (h : BpHdr) : Bool :=
  h.via.wf && h.badPayload.all areBytes && decide (h.session < 2 ^ 32) && decide (h.seq < 2 ^ 64) && bytesOf 32 h.tag

/-- A Tidemark header (Table 10-9): field widths; the tag is there under AUTH only (R287). -/
def TmHdr.wf (h : TmHdr) : Bool :=
  h.src.wf && decide (h.magic < 2 ^ 16) && decide (h.version < 2 ^ 8) && decide (h.length < 2 ^ 16) && decide (h.domain < 2 ^ 16) && decide (h.sender < 2 ^ 16) &&
    decide (h.epoch < 2 ^ 32) && decide (h.alive < 2 ^ 16) && decide (h.flags < 2 ^ 8) && areBytes h.tag && decide (h.crc < 2 ^ 32)

/-- A received frame (R260). -/
def EthFrame.wf (f : EthFrame) : Bool := f.src.wf && f.dst.wf && vlanWf f.vlan

/-- A PTP message: IEEE 1588 gives the domain 8 bits, a port identity 80 and a sequence number 16. -/
def PtpMsg.wf (m : PtpMsg) : Bool :=
  decide (m.domain < 2 ^ 8) && decide (m.sender < 2 ^ 80) && decide (m.seq < 2 ^ 16) && vlanWf m.vlan

/-- Outputs of a customer program: bits 0 to 10 of OUT_MASK (R433). -/
def CustEnd.wf : CustEnd → Bool
  | .output ws => ws.all (fun w => decide (w.1 ≤ 10))
  | .outside => true

/-- The operands of a command lie within the widths that the spec gives them. -/
def Instr.wf : Instr → Bool
  | .registerWrite src _ _ => src.wf
  | .counterLoRead src _ => src.wf
  | .coolantMeasure tin tout => decide (-32768 ≤ tin ∧ tin < 32768 ∧ -32768 ≤ tout ∧ tout < 32768)
  | .rstReq src _ => src.wf
  | .rstHoldSet src _ => src.wf
  | .rstHoldRelease src _ => src.wf
  | .resetWaitEnd _ us => decide (us ≤ 1200)
  | .cdcCntClear src _ => src.wf
  | .cdcFmtCntClear src _ => src.wf
  | .cdcStrCntClear src _ => src.wf
  | .cdcStreamStart src _ => src.wf
  | .cdcStreamStop src _ => src.wf
  | .cdcStreamResume src _ => src.wf
  | .qdcCntClear src _ => src.wf
  | .fwyCntClear src => src.wf
  | .netFrameReceive _ _ f _ _ => f.wf
  | .rdmaReadIn _ _ _ len => decide (len < 2 ^ 32)
  | .nakReceive _ psn => decide (psn < 2 ^ 24)
  | .qpToInit src _ => src.wf
  | .qpToRtr src _ => src.wf
  | .qpToRts src _ => src.wf
  | .qpToError src _ => src.wf
  | .qpToReset src _ => src.wf
  | .collectiveComplete _ _ peers memStatus => peers.all areBytes && decide (memStatus < 256)
  | .ptpMessage _ m _ => m.wf
  | .bpHello via _ identity nc xc =>
    via.wf && decide (identity < 256) && bytesOf 32 nc && bytesOf 56 xc
  | .bpProve via session sig => via.wf && decide (session < 2 ^ 32) && bytesOf 114 sig
  | .bpChallengeTimeout session => decide (session < 2 ^ 32)
  | .bpSessionIdleTimeout session => decide (session < 2 ^ 32)
  | .bpRegRead h _ _ => h.wf
  | .bpRegWrite h _ data => h.wf && decide (data.length < 256)
  | .bpImgFrame h frame => h.wf && areBytes frame && decide (frame.length < 2 ^ 16)
  | .bpLogRead h _ _ => h.wf
  | .bpAttest h nonce => h.wf && areBytes nonce && decide (nonce.length < 2 ^ 16)
  | .bpClose h => h.wf
  | .tmBeaconRx _ h _ _ _ timeNs _ _ _ => h.wf && decide (timeNs < 2 ^ 48 * 1000000000)
  | .tmRateReqRx _ h _ _ _ _ => h.wf
  | .tmStatusRx _ h _ _ _ _ _ _ => h.wf
  | .tmJoinRx _ h _ _ => h.wf
  | .tmJoinReplyRx _ h _ _ _ => h.wf
  | .tmLeaveRx _ h _ => h.wf
  | .tmClaimRx _ h _ => h.wf
  | .requestHoldExpiry _ index => decide (index < 16384)
  | .memberLost _ index => decide (index < 16384)
  | .rhdEnable src _ => src.wf
  | .rhdDisable src _ => src.wf
  | .rhdPin src _ => src.wf
  | .rhdCntClear src => src.wf
  | .bthQuiesce src _ => src.wf
  | .bthRelease src _ => src.wf
  | .bthImgOpen src => src.wf
  | .bthImgCommit src => src.wf
  | .bthImgAbort src => src.wf
  | .secManSelWrite src _ => src.wf
  | .helmTelemetry _ _ amps temps => decide (amps.length ≤ 16) && decide (temps.length ≤ 16)
  | .switchingPeriod _ _ phases => decide (phases.length ≤ 16)
  | .phaseBalance _ means => decide (means.length ≤ 16)
  | .pwrRailCntClear src _ => src.wf
  | .pwrCntClear src => src.wf
  | .pwrRailUnlatch src _ _ => src.wf
  | .pwrRecClear src _ => src.wf
  | .pwrRec0Read src _ => src.wf
  | .pwrRailProtCntClear src _ => src.wf
  | .bwrCntClear src => src.wf
  | .cl31Sample _ e => e.wf
  | .cteLoopAuto src => src.wf
  | .cteLoopHold src => src.wf
  | .cteParamCommit src => src.wf
  | .cteParamDefault src => src.wf
  | .cteCntClear src => src.wf
  | .cteCustOpen src => src.wf
  | .cteCustData src _ => src.wf
  | .cteCustVerify src => src.wf
  | .cteCustActivate src => src.wf
  | .cteCustDisable src => src.wf
  | .celCntClear src => src.wf
  | .capBollardClear src _ => src.wf
  | .capCntClear src => src.wf
  | .pltSwitch src _ => src.wf
  | .pltCntClear src => src.wf
  | .hplDrain src _ => src.wf
  | .hplCancel src _ => src.wf
  | .logCtrlFlush src => src.wf
  | .logCursorWrite src _ => src.wf
  | .logWin7Read src => src.wf
  | .cvuStart src _ => src.wf
  | .cvuData src _ _ => src.wf
  | .cvuCntClear src => src.wf
  | .secPkgOpen src => src.wf
  | .secPkgData src _ => src.wf
  | .secPkgVerify src => src.wf
  | .secPkgActivate src => src.wf
  | .secOwnerCommit src _ => src.wf
  | .recordReadLatchExpiry src _ => src.wf
  | .hotPlugInsertion _ | .presentNRemoval | .interlockOpen | .resetInPulse _ | .pwrEnLow | .capFastNFall | .capFastNRelease
  | .coolFlowPulse | .attnBtnPress | .smbRegRead _ _ | .smbRegWrite _ _ _ _ | .smbLastStatus _ | .smbReadReady _
  | .smbReadFault _ | .smbRackCap _ _ _ | .smbInputPower _ | .smbDrain _ _ _ | .smbAlertResponse | .smbClockLowTimeout
  | .tapInstructionLoad _ _ | .ppsInEdge | .powerOnReset | .brownOutReset | .watchdogReset _ | .resetHoldEntry _
  | .clockGood _ | .clockDrop _ | .domainRelease _ | .functionReady _ _ _ | .startupBoundMissed _ | .hotspotReading _ _ _
  | .sentinelMeasurement _ _ | .extAccessForced _ _ | .bundleIssue _ _ | .slotNop _ | .matWload _ _ _ _ | .matWpass _ _ _ _
  | .matWpassa _ _ _ _ | .matOsacc _ _ _ _ | .matOsacca _ _ _ _ | .matOsdrain _ _ _ _ | .matIdle _ _ _ | .vecVld _ _ _ _
  | .vecVst _ _ _ _ | .vecValu _ _ _ _ | .vecVsfu _ _ _ _ | .vecVcvt _ _ _ _ | .vecVcvtmx _ _ _ _ | .vecVgather _ _ _ _
  | .vecVscatter _ _ _ _ | .rteRsend _ _ _ _ | .sclAdd _ _ _ _ _ | .sclSub _ _ _ _ _ | .sclAnd _ _ _ _ _ | .sclOr _ _ _ _ _
  | .sclXor _ _ _ _ _ | .sclShl _ _ _ _ _ | .sclShr _ _ _ _ _ | .sclSar _ _ _ _ _ | .sclMul _ _ _ _ _ | .sclAddi _ _ _ _ _
  | .sclLdi _ _ _ _ _ | .sclShli12 _ _ _ _ _ | .sclCmpeq _ _ _ _ _ | .sclCmplt _ _ _ _ _ | .sclCmpltu _ _ _ _ _
  | .sclPlogic _ _ _ _ _ | .sclFadd _ _ _ _ _ | .sclFmul _ _ _ _ _ | .sclFfma _ _ _ _ _ | .sclFmin _ _ _ _ _
  | .sclFmax _ _ _ _ _ | .sclFcmplt _ _ _ _ _ | .sclFtoi _ _ _ _ | .sclItof _ _ _ _ | .sclLdp _ _ _ _ _ | .sclStp _ _ _ _ _
  | .sclLdt _ _ _ _ _ | .ldtResult _ _ | .sclStt _ _ _ _ _ | .sclSetl _ _ _ _ | .sclGetstep _ _ _ | .sclMov _ _ _ _
  | .tugIssue _ _ _ _ _ | .tugDefer _ _ _ _ _ | .tugColl _ _ _ _ | .syncpt _ _ _ | .syncTwait _ _ _ _ | .syncCwait _ _ _
  | .syncFence _ | .syncTset _ _ _ | .hint _ _ _ _ | .flowBr _ _ | .flowLoop _ _ _ | .flowHalt _ | .streamHalted _
  | .frameBoundary _ | .frameRestored _ | .pacingDutyChange _ | .ballastInWait _ _ | .tugDescriptorStart _ _
  | .tugCompletion _ _ _ | .gatherCompletion _ _ _ | .hbmTrainingDone _ _ _ | .hbmStackFailed _ | .hbmTempReport _ _
  | .hbmCorrectedWriteback _ | .patrolScrub _ _ | .qsramPatrol _ _ | .flitReplay _ _ _ | .sublinkRetire _ _ | .linkDown _
  | .requestTimeout _ | .saturationWindow | .subportLinkUp _ _ _ | .subportLinkDown _ _ | .pfcXoffSend _ _ _ _
  | .pfcFrameReceive _ _ _ _ | .cePacketReceive _ | .cnpReceive _ | .ccRateStep _ | .rdmaWriteIn _ _ _ _ | .sendIn _ _ _
  | .qpAckTimeout _ | .qpSubportDownTimeout _ | .collectiveTimeout _ _ | .ptpSourceSwitch _ | .beaconSend _
  | .beaconMissed _ | .statusSend _ | .rateReqSend _ | .seekingTimeout _ | .joiningTimeout _ | .claimSend _ | .electionWon _
  | .quorumLost _ | .standbyPllLocked _ | .vcRampDone _ | .pendingTakenStopped _ | .rateCeilingLift _ _
  | .imageReceiveTimeout | .imageVerifyDone | .imageCopiesStored _ _ | .imageSlotCurrent | .berthRestore _
  | .helmCommand _ _ _ | .helmAutonomous _ | .bootSequencer | .prechargeDone | .prechargeTimeout | .prechargeRetry
  | .hotSwapClose _ | .hotSwapTrip | .idealDiodeBlock | .inputMeasure _ _ _ | .railRegulationEnter _
  | .railRegulationLeave _ | .phaseShed _ | .phaseAdd _ | .loadStep _ _ | .brakeStart _ _ | .brakeEnd _ _ | .railStart _ _
  | .softStartDone _ | .syncInLost | .timebaseSlewDone | .syncInStable _ | .syncLocked | .classHTrip _ | .hiccupRetry _
  | .retryCountClear _ | .softStartLatch _ _ | .stageThermalStop _ _ _ | .stageRejoin _ _ _ | .overvoltageLatch _ _
  | .inputLowStop _ | .inputLowRecover _ | .hsShortCheck _ _ | .inputUvStart | .inputUvEnd | .inputOvStart | .inputOvEnd
  | .lossOfInput | .faultRecordStored _ _ | .isolationPrecharge | .isolationClose _ | .isolationPrechargeTimeout
  | .bwcOvervoltage _ _ | .hintHoldClear _ _ | .tideAnchor _ _ | .tideAnchorTimeout | .breakwaterLost
  | .controlCycleBoundary | .cl00Sample _ | .cl01Sample _ | .cl03Sample _ | .cl04Sample _ | .cl05Sample _ | .cl06Sample _
  | .cl07Sample _ | .cl12Sample _ | .cl13Sample _ | .cl14Sample _ | .cl15Sample _ | .cl16Sample _ | .cl17Sample _
  | .cl20Sample _ | .loopDeadline _ | .paramStoreDone _ | .custPackageStored _ | .cellScan _ _ _ _ | .openWireWindow _ _
  | .cellComparatorTrip _ _ | .cellComparatorRelease _ _ | .sleepCheck _ | .thermistorConvert _ | .packIdDecode _
  | .interlockClosed | .cafeSelfTest _ | .localThermalPacing _ | .thermalPacingWithdraw _ | .bollardTrip _ | .coolantTrip
  | .coolantTripEnd | .ageStateStore | .firstGrant | .heartbeatToggle _ | .lockstepMismatch _ | .pilotFailureJudged _ _
  | .takeover | .stateCopySend | .stateCopyReceive _ _ _ _ _ | .pilotStandbyEntry _ | .autoReturnStart
  | .handoverCopyAccepted | .handoverAbandon | .handoverOverlapEnd | .noPilotBwcZero | .hmaFault _ | .drainQuiesced
  | .drainBerthLeave _ | .quiesceTimeout | .dischargeEnd | .dischargeTimeout | .drainStopping | .surpriseHoldOpen
  | .eventRaised _ _ _ _ | .eventHandlingDone | .latchEnd _ _ | .logFlushDone _ | .logFlashFail _ | .logMount _
  | .logWindowLatched | .pufReconstruct _ _ | .firmwareBootVerify _ _ _ | .rollbackRepair _ _ | .vendorActivationDone _
  | .aoPowerUp | .hotSwapTripCountClear => true

end Sys2Proof
end

