-- ==== Sys2Proof/Safety.lean ====
section
/-! DEFINITION. What statements about the module are made of: a command that answers a next state with a property, what a command
leaves alone, what every command keeps, and the commands that may store to memory. -/

namespace Sys2Proof.Machine

/-- Running a command answers a next state with a property: it neither faults nor is refused. -/
def Runs (c : Instr) (s : State) (P : State → Prop) : Prop := ∃ t, exec c s = .next t ∧ P t

/-- Every register field outside a list reads as before. -/
def SameRegs (fs : List Fld) (s t : State) : Prop := ∀ f, f ∉ fs → ∀ i j, t.get f i j = s.get f i j

/-- Every byte of memory reads as before. -/
def SameMem (s t : State) : Prop := ∀ a, t.byte a = s.byte a

/-- Every byte of memory outside `n` bytes at an address reads as before. -/
def MemOutside (a n : Nat) (s t : State) : Prop := ∀ x, x < a ∨ a + n ≤ x → t.byte x = s.byte x

/-- The counters of a list read 0 in one instance, and every other field reads as before. -/
def Cleared (fs : List Fld) (inst : Nat) (s t : State) : Prop := (∀ f ∈ fs, t.get f inst = 0) ∧ SameRegs fs s t

/-- The counters of a list read 0 in every instance, and every other field reads as before. -/
def ClearedAll (fs : List Fld) (s t : State) : Prop := (∀ f ∈ fs, ∀ i j, t.get f i j = 0) ∧ SameRegs fs s t

/-- An access was answered with a status. -/
def Answered (src : Source) (status : Nat) (s t : State) : Prop := t.tx = s.tx ++ [.access src status 0]

/-- The packet error code that a writing SMBus command carries after its bytes (R56). -/
def pecOf (sent : List Nat) : BitVec 8 := BitVec.ofNat 8 (crc8 sent)

/-- The bytes of an SMBus write of `data` to a command of the module at address `dev`: the byte count goes before the data where Table
2-7 has one. -/
def smbSent (dev : BitVec 7) (code : Nat) (data : List Nat) : List Nat := 2 * dev.toNat :: code :: data

/-- A reading SMBus command returned these bytes after what was sent to it, with the PEC of the whole transaction (R56, R57). -/
def smbGave (dev : BitVec 7) (sent back body : List Nat) : Tx := .smbus (back ++ [crc8 (sent ++ (2 * dev.toNat + 1) :: body)])

/-- What every command leaves: the queue, the run time and the outputs so far; the counter of free values does not fall; memory
that has its canonical form keeps it. -/
structure Follows (s t : State) : Prop where
  queue : t.pending = s.pending
  clock : t.now = s.now
  trace : s.tx <+: t.tx
  fresh : s.fresh ≤ t.fresh
  memory : Memory.wf s.mem = true → Memory.wf t.mem = true

/-- A scalar lane's operation of latency `lat` gives a register a value: it is pending for `lat` stream cycles, the lane is taken for
this one, and no other register, no predicate and nothing else of the state changes, but that the die is not stalled. -/
structure SclWrote (d : Fin 8) (lane rd lat : Nat) (v : BitVec 64) (s t : State) : Prop where
  value : (t.die d).sreg lane rd = v
  others : ∀ l r, (l, r) ≠ (lane, rd) → (t.die d).sreg l r = (s.die d).sreg l r
  pends : (t.die d).scoreboard = (5, lane, (s.die d).cycle + 1) :: (lane, rd, (s.die d).cycle + lat) :: (s.die d).scoreboard
  rest : t = (s.slotGo d).modDie d (fun x => { x with scalars := (t.die d).scalars, scoreboard := (t.die d).scoreboard })

/-- The same for a predicate, P0 keeping 1 (R105). -/
structure PredWrote (d : Fin 8) (lane p lat : Nat) (v : Bool) (s t : State) : Prop where
  value : (t.die d).pred p = (v || decide (p = 0))
  others : ∀ q, q ≠ p → (t.die d).pred q = (s.die d).pred q
  pends : (t.die d).scoreboard = (5, lane, (s.die d).cycle + 1) :: (4, p, (s.die d).cycle + lat) :: (s.die d).scoreboard
  rest : t = (s.slotGo d).modDie d (fun x => { x with preds := (t.die d).preds, scoreboard := (t.die d).scoreboard })

/-- A scalar lane takes its one operation of the present stream cycle (R156). -/
def State.laneTaken (s : State) (d : Fin 8) (lane : Nat) : State :=
  s.modDie d (fun x => { x with scoreboard := (5, lane, x.cycle + 1) :: x.scoreboard })

/-- A gang operation of a class and OP is laid down: it flies from the present stream cycle on, over `span` cycles, and takes the
gang's resources for their occupancy. Nothing else changes but the gang's idle window, its ballast, the terms of a drained set and the
die's request sets, and that the die is not stalled. -/
structure Launched (d : Fin 8) (cls op gang : Nat) (e : OpEntry) (span : Nat) (takes : List (Nat × Nat × Nat × Nat)) (s t : State) :
    Prop where
  flight : ∃ f : Flight, (t.die d).flights = (s.die d).flights ++ [f] ∧ f.cls = cls ∧ f.op = op ∧ f.gang = gang ∧ f.entry = e ∧
    f.start = (s.die d).cycle ∧ f.span = span
  taken : (t.die d).taken = (s.die d).taken ++ takes.map (fun r => ⟨r.1, r.2.1, r.2.2.1, (s.die d).cycle + r.2.2.2⟩)
  rest : t = (s.slotGo d).modDie d (fun x =>
    { x with
      flights := (t.die d).flights, taken := (t.die d).taken, idleWin := (t.die d).idleWin, ballast := (t.die d).ballast
      accTerms := (t.die d).accTerms, gathers := (t.die d).gathers, nextGather := (t.die d).nextGather })

/-- A request of an open session that the module executes: its tag verifies, its SEQ is new, and it is one of Table 10-6 (R282). -/
def State.accepts (s : State) (h : BpHdr) (x : Session) (type : Nat) (payload : List Nat) : Bool :=
  s.bpUp && (s.openSession h.session == some x) && bpTagOk x h type payload && x.highSeq.all (fun q => decide (q < h.seq)) &&
    bpWellFormed h type payload

/-- A frame leaves at once: its sub-port has link and the peer has not paused its priority (R264). -/
def State.goes (s : State) (w : Wire) : Bool := s.subLink w.port w.sub && !s.net.paused.contains (w.port, w.sub, w.prio)

/-- Frames were put out (R264): they left at once, wait for their paused priority, or are lost on a sub-port without link. -/
def State.putOut (s t : State) (w : Wire) (fs : List Frame) : Bool :=
  if s.goes w then t.tx == s.tx ++ fs.map (Tx.frame w) && t.net.held == s.net.held
  else t.tx == s.tx && t.net.held == s.net.held ++ (if s.subLink w.port w.sub then fs.map (fun f => (w, f)) else [])

/-- The same of one frame of which only a property is said. -/
def State.putOne (s t : State) (w : Wire) (p : Frame → Bool) : Bool :=
  if s.goes w then
    t.net.held == s.net.held && (match t.tx.getLast? with | some (.frame v f) => t.tx == s.tx ++ [.frame v f] && v == w && p f | _ => false)
  else t.tx == s.tx && (if s.subLink w.port w.sub then
    (match t.net.held.getLast? with | some (v, f) => t.net.held == s.net.held ++ [(v, f)] && v == w && p f | none => false)
    else t.net.held == s.net.held)

/-- A frame is the CHALLENGE of a session (R279). -/
def frameOfChallenge (f : Frame) (session : Nat) : Bool := match f with | .challenge id _ => id == session | _ => false

/-- A command that a Bampor message is. -/
def isBampor : Instr → Bool
  | .bpHello .. => true
  | .bpProve .. => true
  | .bpRegRead .. => true
  | .bpRegWrite .. => true
  | .bpImgFrame .. => true
  | .bpLogRead .. => true
  | .bpAttest .. => true
  | .bpClose .. => true
  | _ => false

/-- A PTP message that changes nothing in a state of the port (R276): a choice already made, a message of another sender, or an answer
to nothing that was asked. -/
def ptpIdle (x : PtpSt) (m : PtpMsg) : Bool :=
  match m.kind with
  | .announce best => (!best && x.parent.isSome) || x.parent == some m.sender
  | .sync _ _ => x.parent != some m.sender
  | .followUp _ => x.parent != some m.sender || !x.waits.any (·.1 == m.seq)
  | .delayResp _ => x.parent != some m.sender || x.sync.isNone || !x.req.any (·.1 == m.seq)
  | .peerDelay => true

/-- A request of a session, with the TYPE and payload that its command gives it (Table 10-6). -/
def bpAsk : Instr → Option (BpHdr × Nat × List Nat)
  | .bpRegRead h a n => some (h, 0x10, toBe a.toNat 4 ++ [n.toNat, 0, 0, 0])
  | .bpRegWrite h a ws => some (h, 0x11, toBe a.toNat 4 ++ [ws.length % 256, 0, 0, 0] ++ (ws.map (·.toNat)).flatMap (fun w => toBe w 4))
  | .bpImgFrame h f => some (h, 0x20, f)
  | .bpLogRead h c n => some (h, 0x30, toBe c.toNat 4 ++ [n.toNat, 0, 0, 0])
  | .bpAttest h n => some (h, 0x40, n)
  | .bpClose h => some (h, 0x7F, [])
  | _ => none

/-- A request was answered by a tagged reply to its sender, and the session keeps its SEQ and time (R282). -/
def State.replied (s t : State) (x : Session) (h : BpHdr) (type status : Nat) (body : List Nat) : Bool :=
  s.putOut t (s.bpWire h.via x.role) [.bampor x.id type status h.seq (bpBody x type status h.seq body)] &&
    ((t.openSession h.session).map (fun y => (y.highSeq, y.since)) == some (some h.seq, s.now))

/-- A berth put out one Tidemark frame of a type; none without a pilot whose link works (R286, R486). -/
def State.sentTm (s t : State) (b : Fin 8) (dst : Addr) (type : Nat) : Bool :=
  let p := s.get .RHD_CFG_PORT b
  if s.pilotTalks then s.putOne t (s.berthWire b p (s.anySub p) dst s.net.udpNow.2 7 7)
    (fun f => match f with | .tidemark c k _ => c == b.val && k == type | _ => false)
  else t.tx == s.tx && t.net.held == s.net.held

/-- The payload of a BEACON (Table 10-10). -/
def beaconBytes (rate pending step timeNs manifest periodUs members : Nat) : List Nat :=
  [rate, pending, 0, 0] ++ toBe step 4 ++ toBe (timeNs / 1000000000) 6 ++ toBe (timeNs % 1000000000) 4 ++ [0, 0] ++
    toBe manifest 8 ++ toBe periodUs 4 ++ toBe members 2 ++ [0, 0]

/-- The payload of a STATUS. -/
def statusBytes (rate duty step skew memRatio manifest : Nat) : List Nat :=
  [rate, duty, 0, 0] ++ toBe step 4 ++ toBe skew 4 ++ toBe memRatio 2 ++ [0, 0] ++ toBe manifest 8

/-- A received Tidemark frame: its berth, header, TYPE, payload and the rate codes in it. -/
def tmGot : Instr → Option (Fin 8 × TmHdr × Nat × List Nat × List Nat)
  | .tmBeaconRx b h r p e t m u n =>
    some (b, h, 1, beaconBytes r.toNat p.toNat e.toNat t m.toNat u.toNat n.toNat, [r.toNat, p.toNat])
  | .tmRateReqRx b h c r e k => some (b, h, 2, [c.toNat, r.toNat, 0, 0] ++ toBe e.toNat 4 ++ toBe k.toNat 4, [c.toNat])
  | .tmStatusRx b h r u e k m n => some (b, h, 3, statusBytes r.toNat u.toNat e.toNat k.toNat m.toNat n.toNat, [r.toNat])
  | .tmJoinRx b h m r => some (b, h, 4, toBe m.toNat 8 ++ toBe r.toNat 2 ++ [0, 0], [])
  | .tmJoinReplyRx b h r i e => some (b, h, 5, [r.toNat, 0] ++ toBe i.toNat 2 ++ toBe e.toNat 4, [])
  | .tmLeaveRx b h r => some (b, h, 6, [r.toNat, 0, 0, 0], [])
  | .tmClaimRx b h m => some (b, h, 7, toBe m.toNat 8 ++ toBe 0 4, [])
  | _ => none

/-- A received Tidemark frame is valid, and so are its rate codes (R287, R291). -/
def State.tmGood (s : State) (c : Instr) : Bool :=
  (tmGot c).any (fun e => s.tmValid e.1 e.2.1 e.2.2.1 e.2.2.2.1 && e.2.2.2.2.all codeValid)

/-- A berth takes a received frame: it listens, and the frame is valid. -/
def State.tmTakes (s : State) (b : Fin 8) (c : Instr) : Bool := s.tmListens b && s.tmGood c

/-- The fields that the check-value units change as they watch a stream. -/
def watchFlds : List Fld := [.CVU_U_RESULT_VALUE, .CVU_U_PASS_COUNT, .CVU_U_FAIL_COUNT, .CVU_U_REPEAT_COUNT]

/-- What a sample of a loop reads: the state, with the registers, outputs, pins and time of its snapshot (R418). -/
def State.viewOf (s : State) (n : Snap) : State :=
  let s := s.dropReady n.loop
  { s with regs := n.regs, outs := n.outs, pins := n.pins, now := n.time }

/-- A loop has a started sample with a snapshot that ends by its deadline (R418, R420). -/
def State.inTime (s : State) (i : Nat) (m : LoopSample) (n : Snap) : Bool :=
  s.cte.snaps.find? (fun x => x.loop == i) == some n && n.loop == i && decide (m.delay ≤ s.deadline i)

/-- Such a sample of a loop in automatic operation that reads fresh inputs, puts out a finite word and passes plausibility: its law
runs (R415, R422, R423). -/
def State.samples (s : State) (i : Nat) (m : LoopSample) (n : Snap) : Bool :=
  s.inTime i m n && s.loopModeOf i == 1 && !m.stale && !f32Bad m.u && !((s.dropReady i).residual (s.viewOf n) i m).2

/-- Such a sample of a loop that stays in manual hold: it was asked for no automatic operation, or its inputs are stale. -/
def State.staysHeld (s : State) (i : Nat) (m : LoopSample) (n : Snap) : Bool :=
  s.inTime i m n && s.loopModeOf i == 2 && !(s.loop i).autoAsked && (m.stale || s.get .CTE_LOOP_STATE_CAUSE 0 i != 2)

/-- The sample ended: it runs no more, its delay is recorded, the loop keeps its mode, and no sample in a row is late (R419, R421). -/
def State.ran (s t : State) (i : Nat) (m : LoopSample) : Bool :=
  !t.cte.ready.contains i && t.get .CTE_LOOP_LAT_LAST 0 i == min m.delay 65535 && t.get .CTE_LOOP_STATE_CONSEC 0 i == 0 &&
    t.loopModeOf i == s.loopModeOf i

/-- The fields that every sample of a loop may write (R419 to R423, R491). -/
def loopFlds : List Fld :=
  [.CTE_LOOP_STATE_MODE, .CTE_LOOP_STATE_CAUSE, .CTE_LOOP_STATE_CONSEC, .CTE_LOOP_STATE_RAMP, .CTE_LOOP_RESID_R_F, .CTE_LOOP_LAT_LAST,
   .CTE_LOOP_LAT_MAX, .CTE_LOOP_RUNS_COUNT, .PLT_GAP_LAST, .PLT_GAP_MAX]

/-- The loop of a sample command, and its sample. -/
def loopOf : Instr → Option (Nat × LoopSample)
  | .cl00Sample m => some (0, m)
  | .cl01Sample m => some (1, m)
  | .cl03Sample m => some (3, m)
  | .cl04Sample m => some (4, m)
  | .cl05Sample m => some (5, m)
  | .cl06Sample m => some (6, m)
  | .cl07Sample m => some (7, m)
  | .cl12Sample m => some (12, m)
  | .cl13Sample m => some (13, m)
  | .cl14Sample m => some (14, m)
  | .cl15Sample m => some (15, m)
  | .cl16Sample m => some (16, m)
  | .cl17Sample m => some (17, m)
  | .cl20Sample m => some (20, m)
  | .cl31Sample m _ => some (31, m)
  | _ => none

/-- The stream cycles that a MAT operation flies (Table 6-13). -/
def matSpan (x : DieSt) (op g : Nat) (e : OpEntry) : Nat :=
  let a := x.array g e
  let l := latOf (eRate e) a.2.1 a.2.2.1 a.2.2.2
  match op with
  | 0 => dTile (eRate e)
  | 1 => eCount e + l
  | 2 => eCount e + l
  | 5 => osSide e + 1
  | _ => osOcc e + l

/-- What a slot laid down by itself needs: its die; the registers, predicates and lane it uses; the gang resources it takes; the
stall cause that holds it back, with its counter and whether it is a wait; and the code of an illegal operation, 0 for a legal one
(R153 to R166, R172). -/
structure SlotNeed where
  die : Fin 8
  regs : List (Nat × Nat) := []
  takes : List (Nat × Nat × Nat × Nat) := []
  why : Option (Fld × Bool) := none
  code : Nat := 0
  deriving DecidableEq, Repr

/-- A MAT, VEC or RTE slot's need. -/
def State.matNeed (s : State) (d : Fin 8) (op g desc rep : Nat) : SlotNeed :=
  let e := s.opEntry d desc
  { die := d, takes := if op = 14 then [] else (s.die d).matTakes op g (eBuf e rep) e, code := (s.die d).matCode op g rep e (advEntry 1 e rep) }
def State.vecNeed (s : State) (d : Fin 8) (op g desc rep : Nat) : SlotNeed :=
  let e := s.opEntry d desc
  { die := d, takes := [(g, 4, 0, 0)], code := (s.die d).vecCode op g e (advEntry 2 e rep)
    why := if (op = 6 ∨ op = 7) ∧ (s.die d).overLimit (s.rowsOf d g e) = true then some (.CDC_STALL_MEM_COUNT, false) else none }

/-- A scalar slot's need: its encoding is checked before its operands (R172). -/
def State.sclNeed (s : State) (d : Fin 8) (op lane rd ra rb : Nat) : SlotNeed :=
  { die := d, regs := sclRegs op lane rd ra rb
    code := if sclEncCode op rd ra rb = 0 then (s.die d).sclCode op lane ra rb else sclEncCode op rd ra rb }

/-- A TUG ISSUE or DEFER's need: a mapped channel with room (R157). -/
def State.tugNeed (s : State) (d : Fin 8) (chan : Nat) : SlotNeed :=
  { die := d, why := if 16 ≤ (s.die d).chanLoad chan then some (.CDC_STALL_BUSY_COUNT, false) else none
    code := if (s.chanMap d chan).isNone then 9 else 0 }

/-- The need of each slot command; none for other commands. -/
def State.slotNeed (s : State) : Instr → Option SlotNeed
  | .matWload d g e r => some (s.matNeed d 0 g e r)
  | .matWpass d g e r => some (s.matNeed d 1 g e r)
  | .matWpassa d g e r => some (s.matNeed d 2 g e r)
  | .matOsacc d g e r => some (s.matNeed d 3 g e r)
  | .matOsacca d g e r => some (s.matNeed d 4 g e r)
  | .matOsdrain d g e r => some (s.matNeed d 5 g e r)
  | .matIdle d g e => some (s.matNeed d 14 g e 0)
  | .vecVld d g e r => some (s.vecNeed d 0 g e r)
  | .vecVst d g e r => some (s.vecNeed d 1 g e r)
  | .vecValu d g e r => some (s.vecNeed d 2 g e r)
  | .vecVsfu d g e r => some (s.vecNeed d 3 g e r)
  | .vecVcvt d g e r => some (s.vecNeed d 4 g e r)
  | .vecVcvtmx d g e r => some (s.vecNeed d 5 g e r)
  | .vecVgather d g e r => some (s.vecNeed d 6 g e r)
  | .vecVscatter d g e r => some (s.vecNeed d 7 g e r)
  | .rteRsend d g e r => some
    { die := d, takes := [(g.val, 5, nth (s.opEntry d e) 0 % 4, 0)]
      code := (s.die d).rteCode g (s.opEntry d e) (advEntry 3 (s.opEntry d e) r) }
  | .sclAdd d l rd ra rb => some (s.sclNeed d 0x00 l rd ra rb)
  | .sclSub d l rd ra rb => some (s.sclNeed d 0x01 l rd ra rb)
  | .sclAnd d l rd ra rb => some (s.sclNeed d 0x02 l rd ra rb)
  | .sclOr d l rd ra rb => some (s.sclNeed d 0x03 l rd ra rb)
  | .sclXor d l rd ra rb => some (s.sclNeed d 0x04 l rd ra rb)
  | .sclShl d l rd ra rb => some (s.sclNeed d 0x05 l rd ra rb)
  | .sclShr d l rd ra rb => some (s.sclNeed d 0x06 l rd ra rb)
  | .sclSar d l rd ra rb => some (s.sclNeed d 0x07 l rd ra rb)
  | .sclMul d l rd ra rb => some (s.sclNeed d 0x08 l rd ra rb)
  | .sclAddi d l rd ra rb => some (s.sclNeed d 0x09 l rd ra rb)
  | .sclLdi d l rd ra rb => some (s.sclNeed d 0x0A l rd ra rb)
  | .sclShli12 d l rd ra rb => some (s.sclNeed d 0x0B l rd ra rb)
  | .sclCmpeq d l rd ra rb => some (s.sclNeed d 0x0C l rd ra rb)
  | .sclCmplt d l rd ra rb => some (s.sclNeed d 0x0D l rd ra rb)
  | .sclCmpltu d l rd ra rb => some (s.sclNeed d 0x0E l rd ra rb)
  | .sclPlogic d l rd ra rb => some (s.sclNeed d 0x0F l rd ra rb)
  | .sclFadd d l rd ra rb => some (s.sclNeed d 0x10 l rd ra rb)
  | .sclFmul d l rd ra rb => some (s.sclNeed d 0x11 l rd ra rb)
  | .sclFfma d l rd ra rb => some (s.sclNeed d 0x12 l rd ra rb)
  | .sclFmin d l rd ra rb => some (s.sclNeed d 0x13 l rd ra rb)
  | .sclFmax d l rd ra rb => some (s.sclNeed d 0x14 l rd ra rb)
  | .sclFcmplt d l rd ra rb => some (s.sclNeed d 0x15 l rd ra rb)
  | .sclFtoi d l rd ra => some (s.sclNeed d 0x16 l rd ra 0)
  | .sclItof d l rd ra => some (s.sclNeed d 0x17 l rd ra 0)
  | .sclLdp d l rd ra rb => some (s.sclNeed d 0x18 l rd ra rb)
  | .sclStp d l rd ra rb => some (s.sclNeed d 0x19 l rd ra rb)
  | .sclLdt d l rd ra rb => some (s.sclNeed d 0x1A l rd ra rb)
  | .sclStt d l rd ra rb => some (s.sclNeed d 0x1B l rd ra rb)
  | .sclSetl d l rd ra => some (s.sclNeed d 0x1C l rd ra 0)
  | .sclGetstep d l rd => some (s.sclNeed d 0x1D l rd 0 0)
  | .sclMov d l rd ra => some (s.sclNeed d 0x1E l rd ra 0)
  | .slotNop d => some { die := d }
  | .tugIssue d _ c _ _ => some (s.tugNeed d c)
  | .tugDefer d _ c _ _ => some (s.tugNeed d c)
  | .tugColl d h _ _ => some { die := d, code := if (s.die d).handles.any (fun x => x.id == h.val) then 0xC else 0 }
  | .syncpt d m r => some
    { die := d, regs := if m then [(0, r.val)] else []
      why := if 64 ≤ (s.die d).events.length then some (.CDC_STALL_EVQ_COUNT, false) else none }
  | .syncTwait d k n p => some
    { die := d, regs := [(4, p.val)], why := if (s.die d).tallies[k] < n.val then some (.CDC_STALL_MEM_COUNT, true) else none }
  | .syncCwait d h p => some
    { die := d, regs := [(4, p.val)]
      why := if (s.die d).handles.any (fun x => x.id == h.val && x.status.isNone) then some (.CDC_STALL_COLL_COUNT, true) else none
      code := if (s.die d).handles.any (fun x => x.id == h.val) then 0 else 0xC }
  | .syncFence d => some { die := d, why := if (s.die d).fenceOk then none else some (.CDC_STALL_MEM_COUNT, true) }
  | .syncTset d _ _ => some { die := d }
  | .hint d _ _ _ => some { die := d }
  | .flowBr d t => some { die := d, code := if (s.die d).lastBundle < 4 * t.val then 7 else 0 }
  | .flowLoop d _ t => some { die := d, code := if (s.die d).lastBundle < 4 * t.val then 7 else 0 }
  | .flowHalt d => some { die := d }
  | .registerWrite .. | .counterLoRead .. | .hotPlugInsertion .. | .presentNRemoval | .interlockOpen | .resetInPulse ..
  | .pwrEnLow | .capFastNFall | .capFastNRelease | .coolantMeasure .. | .coolFlowPulse | .attnBtnPress | .smbRegRead ..
  | .smbRegWrite .. | .smbLastStatus .. | .smbReadReady .. | .smbReadFault .. | .smbRackCap .. | .smbInputPower ..
  | .smbDrain .. | .smbAlertResponse | .smbClockLowTimeout | .tapInstructionLoad .. | .ppsInEdge | .powerOnReset
  | .brownOutReset | .watchdogReset .. | .rstReq .. | .rstHoldSet .. | .rstHoldRelease .. | .resetWaitEnd ..
  | .resetHoldEntry .. | .clockGood .. | .clockDrop .. | .domainRelease .. | .functionReady .. | .startupBoundMissed ..
  | .hotspotReading .. | .sentinelMeasurement .. | .extAccessForced .. | .cdcCntClear .. | .cdcFmtCntClear ..
  | .cdcStrCntClear .. | .bundleIssue .. | .ldtResult .. | .streamHalted .. | .cdcStreamStart .. | .cdcStreamStop ..
  | .cdcStreamResume .. | .frameBoundary .. | .frameRestored .. | .pacingDutyChange .. | .ballastInWait ..
  | .tugDescriptorStart .. | .tugCompletion .. | .gatherCompletion .. | .hbmTrainingDone .. | .hbmStackFailed ..
  | .hbmTempReport .. | .hbmCorrectedWriteback .. | .patrolScrub .. | .qsramPatrol .. | .qdcCntClear .. | .flitReplay ..
  | .sublinkRetire .. | .linkDown .. | .requestTimeout .. | .saturationWindow | .fwyCntClear .. | .subportLinkUp ..
  | .subportLinkDown .. | .netFrameReceive .. | .pfcXoffSend .. | .pfcFrameReceive .. | .cePacketReceive .. | .cnpReceive ..
  | .ccRateStep .. | .rdmaWriteIn .. | .rdmaReadIn .. | .sendIn .. | .nakReceive .. | .qpAckTimeout .. | .qpToInit ..
  | .qpToRtr .. | .qpToRts .. | .qpToError .. | .qpToReset .. | .qpSubportDownTimeout .. | .collectiveComplete ..
  | .collectiveTimeout .. | .ptpMessage .. | .ptpSourceSwitch .. | .bpHello .. | .bpProve .. | .bpChallengeTimeout ..
  | .bpSessionIdleTimeout .. | .bpRegRead .. | .bpRegWrite .. | .bpImgFrame .. | .bpLogRead .. | .bpAttest .. | .bpClose ..
  | .tmBeaconRx .. | .tmRateReqRx .. | .tmStatusRx .. | .tmJoinRx .. | .tmJoinReplyRx .. | .tmLeaveRx .. | .tmClaimRx ..
  | .beaconSend .. | .beaconMissed .. | .statusSend .. | .rateReqSend .. | .requestHoldExpiry .. | .seekingTimeout ..
  | .joiningTimeout .. | .claimSend .. | .electionWon .. | .memberLost .. | .quorumLost .. | .rhdEnable .. | .rhdDisable ..
  | .rhdPin .. | .rhdCntClear .. | .standbyPllLocked .. | .vcRampDone .. | .pendingTakenStopped .. | .rateCeilingLift ..
  | .bthQuiesce .. | .bthRelease .. | .bthImgOpen .. | .bthImgCommit .. | .bthImgAbort .. | .imageReceiveTimeout
  | .imageVerifyDone | .imageCopiesStored .. | .imageSlotCurrent | .berthRestore .. | .secManSelWrite .. | .helmCommand ..
  | .helmTelemetry .. | .helmAutonomous .. | .bootSequencer | .prechargeDone | .prechargeTimeout | .prechargeRetry
  | .hotSwapClose .. | .hotSwapTrip | .idealDiodeBlock | .inputMeasure .. | .switchingPeriod .. | .railRegulationEnter ..
  | .railRegulationLeave .. | .phaseBalance .. | .phaseShed .. | .phaseAdd .. | .loadStep .. | .brakeStart .. | .brakeEnd ..
  | .railStart .. | .softStartDone .. | .syncInLost | .timebaseSlewDone | .syncInStable .. | .syncLocked
  | .pwrRailCntClear .. | .pwrCntClear .. | .classHTrip .. | .hiccupRetry .. | .retryCountClear .. | .softStartLatch ..
  | .stageThermalStop .. | .stageRejoin .. | .overvoltageLatch .. | .pwrRailUnlatch .. | .inputLowStop ..
  | .inputLowRecover .. | .hsShortCheck .. | .inputUvStart | .inputUvEnd | .inputOvStart | .inputOvEnd | .lossOfInput
  | .faultRecordStored .. | .pwrRecClear .. | .pwrRec0Read .. | .pwrRailProtCntClear .. | .isolationPrecharge
  | .isolationClose .. | .isolationPrechargeTimeout | .bwcOvervoltage .. | .hintHoldClear .. | .tideAnchor ..
  | .tideAnchorTimeout | .breakwaterLost | .bwrCntClear .. | .controlCycleBoundary | .cl00Sample .. | .cl01Sample ..
  | .cl03Sample .. | .cl04Sample .. | .cl05Sample .. | .cl06Sample .. | .cl07Sample .. | .cl12Sample .. | .cl13Sample ..
  | .cl14Sample .. | .cl15Sample .. | .cl16Sample .. | .cl17Sample .. | .cl20Sample .. | .cl31Sample .. | .loopDeadline ..
  | .cteLoopAuto .. | .cteLoopHold .. | .cteParamCommit .. | .cteParamDefault .. | .paramStoreDone .. | .cteCntClear ..
  | .cteCustOpen .. | .cteCustData .. | .cteCustVerify .. | .cteCustActivate .. | .custPackageStored .. | .cteCustDisable ..
  | .cellScan .. | .openWireWindow .. | .cellComparatorTrip .. | .cellComparatorRelease .. | .sleepCheck ..
  | .thermistorConvert .. | .packIdDecode .. | .interlockClosed | .cafeSelfTest .. | .celCntClear .. | .localThermalPacing ..
  | .thermalPacingWithdraw .. | .bollardTrip .. | .capBollardClear .. | .coolantTrip | .coolantTripEnd | .ageStateStore
  | .capCntClear .. | .firstGrant | .heartbeatToggle .. | .lockstepMismatch .. | .pilotFailureJudged .. | .takeover
  | .stateCopySend | .stateCopyReceive .. | .pilotStandbyEntry .. | .autoReturnStart | .pltSwitch .. | .handoverCopyAccepted
  | .handoverAbandon | .handoverOverlapEnd | .noPilotBwcZero | .hmaFault .. | .pltCntClear .. | .hplDrain .. | .hplCancel ..
  | .drainQuiesced | .drainBerthLeave .. | .quiesceTimeout | .dischargeEnd | .dischargeTimeout | .drainStopping
  | .surpriseHoldOpen | .eventRaised .. | .eventHandlingDone | .latchEnd .. | .logFlushDone .. | .logFlashFail ..
  | .logMount .. | .logCtrlFlush .. | .logCursorWrite .. | .logWin7Read .. | .logWindowLatched | .cvuStart .. | .cvuData ..
  | .cvuCntClear .. | .pufReconstruct .. | .firmwareBootVerify .. | .rollbackRepair .. | .secPkgOpen .. | .secPkgData ..
  | .secPkgVerify .. | .secPkgActivate .. | .vendorActivationDone .. | .secOwnerCommit .. | .aoPowerUp
  | .hotSwapTripCountClear | .recordReadLatchExpiry .. => none

/-- A die's registers and resources are free for a slot: no LDT write, fixed-latency write or occupancy of them is pending (R153,
R156). -/
def SlotNeed.pendLdt (n : SlotNeed) (x : DieSt) : Bool := n.regs.any x.pendLdt
def SlotNeed.busy (n : SlotNeed) (x : DieSt) : Bool := x.busy n.takes || n.regs.any x.pendFixed

/-- A slot command acts at once: its die is out of reset, nothing holds the slot back, and it is legal. -/
def State.slotFree (s : State) (c : Instr) : Bool :=
  (s.slotNeed c).any (fun n => !s.inReset (8 + n.die.val) && !n.pendLdt (s.die n.die) && n.why.isNone && !n.busy (s.die n.die) &&
    n.code == 0)

/-- The commands that may store to memory: the rows of the stream and the bundles (a bundle that waits lets laid-down operations and
external accesses go on), transfers, remote accesses, collectives, image changes, and those that end operations in flight or begin a
cold reset, and those that end collectives. -/
def mayStore : Instr → Bool
  | .hotPlugInsertion .. | .powerOnReset | .brownOutReset | .resetWaitEnd .. | .resetHoldEntry .. | .clockDrop ..
  | .extAccessForced .. | .bundleIssue .. | .slotNop .. | .matWload .. | .matWpass .. | .matWpassa .. | .matOsacc ..
  | .matOsacca .. | .matOsdrain .. | .matIdle .. | .vecVld .. | .vecVst .. | .vecValu .. | .vecVsfu .. | .vecVcvt ..
  | .vecVcvtmx .. | .vecVgather .. | .vecVscatter .. | .rteRsend .. | .sclAdd .. | .sclSub .. | .sclAnd .. | .sclOr ..
  | .sclXor .. | .sclShl .. | .sclShr .. | .sclSar .. | .sclMul .. | .sclAddi .. | .sclLdi .. | .sclShli12 .. | .sclCmpeq ..
  | .sclCmplt .. | .sclCmpltu .. | .sclPlogic .. | .sclFadd .. | .sclFmul .. | .sclFfma .. | .sclFmin .. | .sclFmax ..
  | .sclFcmplt .. | .sclFtoi .. | .sclItof .. | .sclLdp .. | .sclStp .. | .sclLdt .. | .ldtResult .. | .sclStt ..
  | .sclSetl .. | .sclGetstep .. | .sclMov .. | .tugIssue .. | .tugDefer .. | .tugColl .. | .syncpt .. | .syncTwait ..
  | .syncCwait .. | .syncFence .. | .syncTset .. | .hint .. | .flowBr .. | .flowLoop .. | .flowHalt .. | .frameBoundary ..
  | .frameRestored .. | .tugCompletion .. | .gatherCompletion .. | .rdmaWriteIn .. | .rdmaReadIn .. | .sendIn ..
  | .collectiveComplete .. | .imageCopiesStored .. | .berthRestore .. | .railRegulationLeave .. | .bollardTrip ..
  | .coolantTrip | .drainStopping | .registerWrite .. | .smbRegWrite .. | .requestTimeout .. | .subportLinkDown ..
  | .nakReceive .. | .qpAckTimeout .. | .qpToError .. | .qpSubportDownTimeout .. | .collectiveTimeout .. | .bpRegWrite ..
  | .tmBeaconRx .. | .beaconSend .. => true
  | .counterLoRead .. | .presentNRemoval | .interlockOpen | .resetInPulse .. | .pwrEnLow | .capFastNFall
  | .capFastNRelease | .coolantMeasure .. | .coolFlowPulse | .attnBtnPress | .smbRegRead ..
  | .smbLastStatus .. | .smbReadReady .. | .smbReadFault .. | .smbRackCap .. | .smbInputPower .. | .smbDrain ..
  | .smbAlertResponse | .smbClockLowTimeout | .tapInstructionLoad .. | .ppsInEdge | .watchdogReset .. | .rstReq ..
  | .rstHoldSet .. | .rstHoldRelease .. | .clockGood .. | .domainRelease .. | .functionReady .. | .startupBoundMissed ..
  | .hotspotReading .. | .sentinelMeasurement .. | .cdcCntClear .. | .cdcFmtCntClear .. | .cdcStrCntClear ..
  | .streamHalted .. | .cdcStreamStart .. | .cdcStreamStop .. | .cdcStreamResume .. | .pacingDutyChange ..
  | .ballastInWait .. | .tugDescriptorStart .. | .hbmTrainingDone .. | .hbmStackFailed .. | .hbmTempReport ..
  | .hbmCorrectedWriteback .. | .patrolScrub .. | .qsramPatrol .. | .qdcCntClear .. | .flitReplay .. | .sublinkRetire ..
  | .linkDown .. | .saturationWindow | .fwyCntClear .. | .subportLinkUp ..
  | .netFrameReceive .. | .pfcXoffSend .. | .pfcFrameReceive .. | .cePacketReceive .. | .cnpReceive .. | .ccRateStep ..
  | .qpToInit .. | .qpToRtr .. | .qpToRts .. | .qpToReset ..
  | .ptpMessage .. | .ptpSourceSwitch .. | .bpHello .. | .bpProve ..
  | .bpChallengeTimeout .. | .bpSessionIdleTimeout .. | .bpRegRead .. | .bpImgFrame .. | .bpLogRead ..
  | .bpAttest .. | .bpClose .. | .tmRateReqRx .. | .tmStatusRx .. | .tmJoinRx .. | .tmJoinReplyRx ..
  | .tmLeaveRx .. | .tmClaimRx .. | .beaconMissed .. | .statusSend .. | .rateReqSend ..
  | .requestHoldExpiry .. | .seekingTimeout .. | .joiningTimeout .. | .claimSend .. | .electionWon .. | .memberLost ..
  | .quorumLost .. | .rhdEnable .. | .rhdDisable .. | .rhdPin .. | .rhdCntClear .. | .standbyPllLocked .. | .vcRampDone ..
  | .pendingTakenStopped .. | .rateCeilingLift .. | .bthQuiesce .. | .bthRelease .. | .bthImgOpen .. | .bthImgCommit ..
  | .bthImgAbort .. | .imageReceiveTimeout | .imageVerifyDone | .imageSlotCurrent | .secManSelWrite .. | .helmCommand ..
  | .helmTelemetry .. | .helmAutonomous .. | .bootSequencer | .prechargeDone | .prechargeTimeout | .prechargeRetry
  | .hotSwapClose .. | .hotSwapTrip | .idealDiodeBlock | .inputMeasure .. | .switchingPeriod .. | .railRegulationEnter ..
  | .phaseBalance .. | .phaseShed .. | .phaseAdd .. | .loadStep .. | .brakeStart .. | .brakeEnd .. | .railStart ..
  | .softStartDone .. | .syncInLost | .timebaseSlewDone | .syncInStable .. | .syncLocked | .pwrRailCntClear ..
  | .pwrCntClear .. | .classHTrip .. | .hiccupRetry .. | .retryCountClear .. | .softStartLatch .. | .stageThermalStop ..
  | .stageRejoin .. | .overvoltageLatch .. | .pwrRailUnlatch .. | .inputLowStop .. | .inputLowRecover .. | .hsShortCheck ..
  | .inputUvStart | .inputUvEnd | .inputOvStart | .inputOvEnd | .lossOfInput | .faultRecordStored .. | .pwrRecClear ..
  | .pwrRec0Read .. | .pwrRailProtCntClear .. | .isolationPrecharge | .isolationClose .. | .isolationPrechargeTimeout
  | .bwcOvervoltage .. | .hintHoldClear .. | .tideAnchor .. | .tideAnchorTimeout | .breakwaterLost | .bwrCntClear ..
  | .controlCycleBoundary | .cl00Sample .. | .cl01Sample .. | .cl03Sample .. | .cl04Sample .. | .cl05Sample ..
  | .cl06Sample .. | .cl07Sample .. | .cl12Sample .. | .cl13Sample .. | .cl14Sample .. | .cl15Sample .. | .cl16Sample ..
  | .cl17Sample .. | .cl20Sample .. | .cl31Sample .. | .loopDeadline .. | .cteLoopAuto .. | .cteLoopHold ..
  | .cteParamCommit .. | .cteParamDefault .. | .paramStoreDone .. | .cteCntClear .. | .cteCustOpen .. | .cteCustData ..
  | .cteCustVerify .. | .cteCustActivate .. | .custPackageStored .. | .cteCustDisable .. | .cellScan .. | .openWireWindow ..
  | .cellComparatorTrip .. | .cellComparatorRelease .. | .sleepCheck .. | .thermistorConvert .. | .packIdDecode ..
  | .interlockClosed | .cafeSelfTest .. | .celCntClear .. | .localThermalPacing .. | .thermalPacingWithdraw ..
  | .capBollardClear .. | .coolantTripEnd | .ageStateStore | .capCntClear .. | .firstGrant | .heartbeatToggle ..
  | .lockstepMismatch .. | .pilotFailureJudged .. | .takeover | .stateCopySend | .stateCopyReceive ..
  | .pilotStandbyEntry .. | .autoReturnStart | .pltSwitch .. | .handoverCopyAccepted | .handoverAbandon
  | .handoverOverlapEnd | .noPilotBwcZero | .hmaFault .. | .pltCntClear .. | .hplDrain .. | .hplCancel .. | .drainQuiesced
  | .drainBerthLeave .. | .quiesceTimeout | .dischargeEnd | .dischargeTimeout | .surpriseHoldOpen | .eventRaised ..
  | .eventHandlingDone | .latchEnd .. | .logFlushDone .. | .logFlashFail .. | .logMount .. | .logCtrlFlush ..
  | .logCursorWrite .. | .logWin7Read .. | .logWindowLatched | .cvuStart .. | .cvuData .. | .cvuCntClear ..
  | .pufReconstruct .. | .firmwareBootVerify .. | .rollbackRepair .. | .secPkgOpen .. | .secPkgData .. | .secPkgVerify ..
  | .secPkgActivate .. | .vendorActivationDone .. | .secOwnerCommit .. | .aoPowerUp | .hotSwapTripCountClear
  | .recordReadLatchExpiry .. => false

/-- Of them, those that store only where they end a collective that an engine has taken: its DST is open then (R275). -/
def endsColls : Instr → Bool
  | .registerWrite .. | .smbRegWrite .. | .requestTimeout .. | .subportLinkDown .. | .nakReceive .. | .qpAckTimeout ..
  | .qpToError .. | .qpSubportDownTimeout .. | .collectiveTimeout .. | .bpRegWrite .. | .tmBeaconRx .. | .beaconSend .. => true
  | _ => false

end Sys2Proof.Machine
end

