-- ==== Sys2Proof/Certificates/Slice0/Obligations.lean ====
section
/-! DEFINITION. The statements of this row about the module. Each is a proposition over the model; none is proved here. -/

open Sys2Proof Sys2Proof.Machine

/-- A step runs the command at the front of the queue; on an empty queue the block idles for one pilot cycle (the model's choice, log entry 9). -/
def Obligations.StepRunsFrontCommand : Prop :=
  (∀ (c : Instr) (rest : List Instr) (s : State), s.pending = c :: rest → step s = exec c { s with pending := rest }) ∧
  (∀ s : State, s.pending = [] →
    ∃ t, step s = .next t ∧ t.now = s.now + 1250 ∧ t.mem = s.mem ∧ t.pending = s.pending ∧ t.tx = s.tx)

/-- No command of the table faults or is refused, whatever the state. -/
def Obligations.EveryCommandAnswers : Prop :=
  ∀ (c : Instr) (s : State), ∃ t, exec c s = .next t

/-- Every command leaves the queue and the run time, only adds to the outputs, and keeps memory in its canonical form. -/
def Obligations.CommandsFollowQueueClockAndTrace : Prop :=
  ∀ (c : Instr) (s t : State), exec c s = .next t → Follows s t

/-- Over every command of the table and the idle step, memory keeps its canonical form. -/
def Obligations.StepKeepsMemoryCanonical : Prop :=
  ∀ s t : State, Memory.wf s.mem = true → step s = .next t → Memory.wf t.mem = true

/-- R82: what the RST registers read at the release of SUP from a cold start; beside them memory and queue are empty. -/
def Obligations.ResetState : Prop :=
  State.reset.get .RST_IN_RESET_STATE = 0xFFFFFF78 ∧ State.reset.rstCause = 1 ∧ State.reset.modReady = 0 ∧
    State.reset.modReadyHi = 0 ∧ Memory.wf State.reset.mem = true ∧ State.reset.mem = [] ∧ State.reset.pending = []

/-- The memory frame: commands outside `mayStore` change no byte of memory, and those of `endsColls` only with a collective that an engine has taken. -/
def Obligations.OnlyStoringCommandsChangeMemory : Prop :=
  (∀ (c : Instr) (s t : State), mayStore c = false → exec c s = .next t → SameMem s t) ∧
  (∀ (c : Instr) (s t : State), endsColls c = true → s.net.colls.all (fun x => x.own.isNone) = true → exec c s = .next t →
    SameMem s t)

/-- R113 and the chapters' own counter rules: CLEAR zeroes the counters of its block instance and nothing else. -/
def Obligations.CounterClearsZeroTheirCounters : Prop :=
  (∀ (s : State) (src : Source) (d : Fin 8), s.right src = .owner → s.inReset (8 + d.val) = false →
    Runs (.cdcCntClear src d) s (fun t => Cleared [.CDC_MATRIX_BUSY_COUNT, .CDC_BALLAST_BUSY_COUNT, .CDC_VECTOR_BUSY_COUNT,
      .CDC_CONFLICT_STALL_COUNT, .CDC_EXT_WAIT_COUNT] d s t ∧ Answered src 0 s t)) ∧
  (∀ (s : State) (src : Source) (d : Fin 8), s.right src = .owner → s.inReset (8 + d.val) = true →
    Runs (.cdcCntClear src d) s (fun t => t = s.out (.access src 0 0))) ∧
  (∀ (s : State) (src : Source) (d : Fin 8), s.right src = .owner →
    Runs (.cdcFmtCntClear src d) s (fun t => Cleared [.CDC_CONV_SAT_COUNT, .CDC_CONV_NAN_COUNT, .CDC_MX_SPLIT_COUNT,
      .CDC_WIDE_SPILL_COUNT, .CDC_ACC_SPECIAL_COUNT, .CDC_DEMOTE_STEPS_COUNT] d s t ∧ Answered src 0 s t)) ∧
  (∀ (s : State) (src : Source) (d : Fin 8), s.right src = .owner →
    Runs (.cdcStrCntClear src d) s (fun t => Cleared [.CDC_ENABLED_COUNT, .CDC_STALL_MEM_COUNT, .CDC_STALL_COLL_COUNT,
      .CDC_STALL_FETCH_COUNT, .CDC_STALL_BUSY_COUNT, .CDC_STALL_EVQ_COUNT, .CDC_FRAME_WAIT_COUNT, .CDC_FRAME_ABANDON_COUNT,
      .CDC_HINT_DROP_COUNT, .CDC_SYNCPT_COUNT_COUNT, .CDC_INFLIGHT_PEAK] d s t ∧ Answered src 0 s t)) ∧
  (∀ (s : State) (src : Source) (q : Fin 8), s.right src = .owner →
    Runs (.qdcCntClear src q) s (fun t => Cleared [.QDC_HBM0_RD_COUNT, .QDC_HBM0_WR_COUNT, .QDC_HBM1_RD_COUNT,
      .QDC_HBM1_WR_COUNT, .QDC_HBM0_BUSY_COUNT, .QDC_HBM1_BUSY_COUNT, .QDC_CACHE_HIT_COUNT, .QDC_CACHE_MISS_COUNT,
      .QDC_TUG_OUT_MAX_PEAK] q s t ∧ Answered src 0 s t)) ∧
  (∀ (s : State) (src : Source) (r : Fin 50), s.right src = .owner →
    Runs (.pwrRailCntClear src r) s (fun t => Cleared [.PWR_RAIL_SHED_COUNT, .PWR_RAIL_SHED_ABORT_COUNT,
      .PWR_RAIL_BRAKE_COUNT] r s t ∧ Answered src 0 s t)) ∧
  (∀ (s : State) (src : Source) (r : Fin 50), s.right src = .owner →
    Runs (.pwrRailProtCntClear src r) s (fun t => Cleared [.PWR_RAIL_LIMITED_COUNT, .PWR_RAIL_TRIPS_COUNT,
      .PWR_RAIL_LATCHES_COUNT, .PWR_RAIL_THERM_STOP_COUNT] r s t ∧ Answered src 0 s t)) ∧
  (∀ (s : State) (src : Source), s.right src = .owner →
    Runs (.pwrCntClear src) s (fun t => Cleared [.PWR_CMD_ERR_CRC, .PWR_CMD_ERR_REPEAT,
      .PWR_CMD_OVERLAP_COUNT] 0 s t ∧ Answered src 0 s t)) ∧
  (∀ (s : State) (src : Source), s.right src = .owner →
    Runs (.bwrCntClear src) s (fun t => Cleared [.BWR_BALLAST_J_J, .BWR_CHG_J_J, .BWR_DIS_J_J, .BWR_FLOOR_BREAK_COUNT,
      .BWR_SLEW_BREAK_COUNT, .BWR_RESERVE_HITS_COUNT] 0 s t ∧ Answered src 0 s t)) ∧
  (∀ (s : State) (src : Source), s.right src = .owner →
    Runs (.celCntClear src) s (fun t => Cleared [.CEL_SCANS_COUNT, .CEL_BAD_SCANS_COUNT, .CEL_OW_TESTS_COUNT,
      .CEL_BAL_MS_COUNT] 0 s t ∧ Answered src 0 s t)) ∧
  (∀ (s : State) (src : Source), s.right src = .owner →
    Runs (.capCntClear src) s (fun t => Cleared [.CAP_THERM_PACE_COUNT, .CAP_BOLLARD_TRIPS_COUNT,
      .CAP_PARKS_COUNT] 0 s t ∧ Answered src 0 s t)) ∧
  (∀ (s : State) (src : Source), s.right src = .owner →
    Runs (.pltCntClear src) s (fun t => Cleared [.PLT_SWITCHOVERS_COUNT, .PLT_HANDOVERS_COUNT, .PLT_COPY_ERR_CRC,
      .PLT_COPY_ERR_ALIVE, .PLT_FORCED_A, .PLT_FORCED_B] 0 s t ∧ Answered src 0 s t))

/-- R34, R49, R50, R52, R53, R62, R43, R277, R510: what the pins change. IDCODE in Test-Logic-Reset is the model's choice (log entry 55). -/
def Obligations.PinEventsAndSensors : Prop :=
  (∀ (s : State), Runs .capFastNFall s (fun t => t = { s with pins := { s.pins with capFastN := false } })) ∧
  (∀ (s : State), Runs .capFastNRelease s (fun t => t = { s with pins := { s.pins with capFastN := true } })) ∧
  (∀ (s : State), s.pins.presentN = true → Runs .presentNRemoval s (fun t => t = s)) ∧
  (∀ (s : State), s.pins.presentN = false → s.moduleRuns = false ∨ 3 < s.hplState →
    Runs .presentNRemoval s (fun t => t.pins = { s.pins with presentN := true, limiter := false } ∧
        t.get .PWR_IN_STATUS_TRIPS = 0 ∧ SameRegs [.PWR_IN_STATUS_TRIPS] s t ∧ SameMem s t)) ∧
  (∀ (s : State), s.pins.presentN = false → s.moduleRuns = true → s.hplState ≤ 3 →
    Runs .presentNRemoval s (fun t => t.hplState = 5 ∧ t.get .HPL_STATE_TRIGGER = 0 ∧ t.get .PWR_IN_STATUS_HS_ON = 0 ∧
        t.pins.limiter = false ∧ t.pins.presentN = true ∧ t.pins.alert = true ∧ t.outs.pset = 0 ∧ SameMem s t)) ∧
  (∀ (s : State), s.bit .PWR_IN_STATUS_HS_ON = true → s.hplState ≤ 3 →
    Runs .pwrEnLow s (fun t => t.hplState = 5 ∧ t.get .HPL_STATE_TRIGGER = 1 ∧ t.get .PWR_IN_STATUS_HS_ON = 0 ∧
        t.pins.limiter = false ∧ t.pins.pwrEn = false ∧ t.outs.pset = 0 ∧ SameMem s t)) ∧
  (∀ (s : State), s.bit .PWR_IN_STATUS_HS_ON = false ∨ 3 < s.hplState →
    Runs .pwrEnLow s (fun t => t = { s with pins := { s.pins with pwrEn := false } })) ∧
  (∀ (s : State) (tin tout : Int), coolBad tin = false ∨ s.pins.tinFailed = true →
      coolBad tout = false ∨ s.pins.toutFailed = true →
    Runs (.coolantMeasure tin tout) s (fun t => t.get .CAP_COOL_TIN_X10 = enc 16 tin ∧
        t.get .CAP_COOL_TOUT_X10 = enc 16 tout ∧
        t.pins = { s.pins with tinFailed := coolBad tin, toutFailed := coolBad tout } ∧ t.log = s.log ∧
        SameRegs [.CAP_COOL_TIN_X10, .CAP_COOL_TOUT_X10] s t ∧ SameMem s t)) ∧
  (∀ (s : State) (tin tout : Int), coolBad tin = true → s.pins.tinFailed = false →
      coolBad tout = false ∨ s.pins.toutFailed = true →
    Runs (.coolantMeasure tin tout) s (fun t =>
        t = (({ ((s.set .CAP_COOL_TIN_X10 (enc 16 tin)).set .CAP_COOL_TOUT_X10 (enc 16 tout)) with pins := { s.pins with tinFailed := true, toutFailed := coolBad tout } }
        : State).raise 0x0202))) ∧
  (∀ (s : State) (tin tout : Int), coolBad tout = true → s.pins.toutFailed = false →
      coolBad tin = false ∨ s.pins.tinFailed = true →
    Runs (.coolantMeasure tin tout) s (fun t =>
        t = (({ ((s.set .CAP_COOL_TIN_X10 (enc 16 tin)).set .CAP_COOL_TOUT_X10 (enc 16 tout)) with pins := { s.pins with tinFailed := coolBad tin, toutFailed := true } }
        : State).raise 0x0202))) ∧
  (∀ (s : State) (tin tout : Int), coolBad tin = true → s.pins.tinFailed = false → coolBad tout = true →
      s.pins.toutFailed = false →
    Runs (.coolantMeasure tin tout) s (fun t =>
        t = ((({ ((s.set .CAP_COOL_TIN_X10 (enc 16 tin)).set .CAP_COOL_TOUT_X10 (enc 16 tout)) with pins := { s.pins with tinFailed := true, toutFailed := true } }
        : State).raise 0x0202).raise 0x0202))) ∧
  (∀ (s : State),
    Runs .coolFlowPulse s (fun t => t = { s with pins := { s.pins with flowPulses := s.now :: s.pins.flowPulses.filter (fun x => decide (s.now < x + 500 * ms)) } })) ∧
  (∀ (s : State) (is : Vector TapInstr 9),
    Runs (.tapInstructionLoad false is) s (fun t =>
        t = { s with pins := { s.pins with trstN := false, tap := Vector.replicate 9 .idcode } })) ∧
  (∀ (s : State) (is : Vector TapInstr 9), s.tapLive = false →
    Runs (.tapInstructionLoad true is) s (fun t => t = { s with pins := { s.pins with trstN := true, tap := is } })) ∧
  (∀ (s : State) (is : Vector TapInstr 9), s.tapLive = true → TapInstr.extest ∉ is.toList →
    Runs (.tapInstructionLoad true is) s (fun t => t.pins = { s.pins with trstN := true, tap := is } ∧ t.log = s.log ∧
        SameRegs [] s t ∧ SameMem s t)) ∧
  (∀ (s : State) (is : Vector TapInstr 9), s.tapLive = true → TapInstr.extest ∈ is.toList →
    Runs (.tapInstructionLoad true is) s (fun t =>
        t.pins = { s.pins with trstN := true, tap := is.map (fun i => if i = .extest then .bypass else i), alert := true } ∧
        t.log ≠ s.log ∧ SameMem s t)) ∧
  (∀ (s : State), s.ready rPTP = true → s.get .NET_PTP_STATUS_SRC = 2 →
    Runs .ppsInEdge s (fun t => ((s.now / 1000 : Nat) + t.net.ptpBase) % 1000000000 = 0 ∧
        -500000000 < t.net.ptpBase - s.net.ptpBase ∧ t.net.ptpBase - s.net.ptpBase ≤ 500000000 ∧ t.pins.ppsSeen = s.now ∧
        SameRegs [] s t ∧ SameMem s t)) ∧
  (∀ (s : State), s.ready rPTP = false ∨ s.get .NET_PTP_STATUS_SRC ≠ 2 → Runs .ppsInEdge s (fun t => t = s))

/-- R517: a press is a drain request and nothing else; with BTN_EN = 0 it raises 0x2001 with IGNORED and changes nothing. -/
def Obligations.ButtonPressIsADrainRequest : Prop :=
  (∀ (s : State), s.ready rSUP = true → s.bit .HPL_CFG_BTN_EN = true → s.hplState = 0 →
    Runs .attnBtnPress s (fun t => t = (s.drainRequest 2).1 ∧ t.hplState = 1 ∧ t.get .HPL_STATE_DRAIN_SRC = 2)) ∧
  (∀ (s : State), s.ready rSUP = true → s.bit .HPL_CFG_BTN_EN = true → s.hplState ≠ 0 → Runs .attnBtnPress s (fun t => t = s)) ∧
  (∀ (s : State), s.ready rSUP = true → s.bit .HPL_CFG_BTN_EN = false →
    Runs .attnBtnPress s (fun t => t = s.raise 0x2001 0xFF 2 0 1))

/-- R46, R56 to R60, R504, R534, Table 2-7: the SMBus commands. -/
def Obligations.SmbusCommandsAnswer : Prop :=
  (∀ (s : State) (dev : BitVec 7) (addr : BitVec 32), s.ready rSUP = false ∨ dev.toNat ≠ s.smbAddr →
    Runs (.smbRegRead dev addr) s (fun t => t = s.out .nack)) ∧
  (∀ (s : State) (dev : BitVec 7) (addr data : BitVec 32) (pec : Option (BitVec 8)),
      s.ready rSUP = false ∨ dev.toNat ≠ s.smbAddr →
    Runs (.smbRegWrite dev addr data pec) s (fun t => t = s.out .nack)) ∧
  (∀ (s : State) (dev : BitVec 7), s.ready rSUP = false ∨ dev.toNat ≠ s.smbAddr →
    Runs (.smbLastStatus dev) s (fun t => t = s.out .nack)) ∧
  (∀ (s : State) (dev : BitVec 7), s.ready rSUP = false ∨ dev.toNat ≠ s.smbAddr →
    Runs (.smbReadReady dev) s (fun t => t = s.out .nack)) ∧
  (∀ (s : State) (dev : BitVec 7), s.ready rSUP = false ∨ dev.toNat ≠ s.smbAddr →
    Runs (.smbReadFault dev) s (fun t => t = s.out .nack)) ∧
  (∀ (s : State) (dev : BitVec 7) (watts : BitVec 16) (pec : Option (BitVec 8)),
      s.ready rSUP = false ∨ dev.toNat ≠ s.smbAddr →
    Runs (.smbRackCap dev watts pec) s (fun t => t = s.out .nack)) ∧
  (∀ (s : State) (dev : BitVec 7), s.ready rSUP = false ∨ dev.toNat ≠ s.smbAddr →
    Runs (.smbInputPower dev) s (fun t => t = s.out .nack)) ∧
  (∀ (s : State) (dev : BitVec 7) (v : BitVec 8) (pec : Option (BitVec 8)), s.ready rSUP = false ∨ dev.toNat ≠ s.smbAddr →
    Runs (.smbDrain dev v pec) s (fun t => t = s.out .nack)) ∧
  (∀ (s : State) (dev : BitVec 7) (addr data : BitVec 32) (pec : Option (BitVec 8)),
      pec ≠ some (pecOf (smbSent dev 0x02 (8 :: toLe addr.toNat 4 ++ toLe data.toNat 4))) →
    Runs (.smbRegWrite dev addr data pec) s (fun t => t = s.out .nack)) ∧
  (∀ (s : State) (dev : BitVec 7) (watts : BitVec 16) (pec : Option (BitVec 8)),
      pec ≠ some (pecOf (smbSent dev 0x20 (toLe watts.toNat 2))) →
    Runs (.smbRackCap dev watts pec) s (fun t => t = s.out .nack)) ∧
  (∀ (s : State) (dev : BitVec 7) (v : BitVec 8) (pec : Option (BitVec 8)),
      pec ≠ some (pecOf (smbSent dev 0x30 ([v.toNat]))) →
    Runs (.smbDrain dev v pec) s (fun t => t = s.out .nack)) ∧
  (∀ (s : State) (dev : BitVec 7) (addr : BitVec 32) (p : Spot), s.ready rSUP = true → dev.toNat = s.smbAddr →
      addr.toNat % 4 = 0 → spotOf addr.toNat = some p → p.blk = .mod →
    Runs (.smbRegRead dev addr) s (fun t =>
        t.tx = s.tx ++ [smbGave dev (smbSent dev 0x01 (4 :: toLe addr.toNat 4)) (0 :: toLe (s.wordAt .smbus .mod 0 p.off) 4)
        (5 :: 0 :: toLe (s.wordAt .smbus .mod 0 p.off) 4)] ∧ SameRegs [] s t ∧ SameMem s t)) ∧
  (∀ (s : State) (dev : BitVec 7) (addr data : BitVec 32) (p : Spot), s.ready rSUP = true → dev.toNat = s.smbAddr →
      addr.toNat % 4 = 0 → spotOf addr.toNat = some p → s.mayWrite .smbus p data.toNat = false →
    Runs (.smbRegWrite dev addr data (some (pecOf (smbSent dev 0x02 (8 :: toLe addr.toNat 4 ++ toLe data.toNat 4))))) s
        (fun t => t = s.smbSet 3)) ∧
  (∀ (s : State) (dev : BitVec 7) (data : BitVec 32), s.ready rSUP = true → dev.toNat = s.smbAddr → data.toNat < 8192 →
    Runs (.smbRegWrite dev 0x1B000C data (some (pecOf (smbSent dev 0x02 (8 :: toLe 0x1B000C 4 ++ toLe data.toNat 4))))) s
        (fun t => t.get .CAP_RACK_W = min data.toNat 4000 ∧ t.pins = { s.pins with smbStatus := 0 } ∧
        SameRegs [.CAP_RACK_W] s t ∧ SameMem s t)) ∧
  (∀ (s : State) (dev : BitVec 7), s.ready rSUP = true → dev.toNat = s.smbAddr →
    Runs (.smbLastStatus dev) s (fun t =>
        t = s.out (smbGave dev (smbSent dev 0x03 []) [s.pins.smbStatus] [s.pins.smbStatus]))) ∧
  (∀ (s : State) (dev : BitVec 7), s.ready rSUP = true → dev.toNat = s.smbAddr →
    Runs (.smbReadReady dev) s (fun t => t =
        s.out (smbGave dev (smbSent dev 0x10 []) (toLe s.modReady 4) (4 :: toLe s.modReady 4)))) ∧
  (∀ (s : State) (dev : BitVec 7) (u : State) (r : LogRecord), s.ready rSUP = true → dev.toNat = s.smbAddr →
      s.readFault = (some r, u) →
    Runs (.smbReadFault dev) s (fun t => t.pins = { s.pins with alert := false } ∧ t.log.unread = s.log.unread.erase r.seq ∧
        t.tx = s.tx ++ [let back := r.level :: toLe r.code 2 ++ [min 255 u.log.unread.length]; smbGave dev
        (smbSent dev 0x11 []) back (4 :: back)] ∧ SameRegs [] s t ∧ SameMem s t)) ∧
  (∀ (s : State) (dev : BitVec 7) (u : State), s.ready rSUP = true → dev.toNat = s.smbAddr → s.readFault = (none, u) →
    Runs (.smbReadFault dev) s (fun t => t.pins = { s.pins with alert := false } ∧ t.log = s.log ∧
        (t.tx.drop s.tx.length).length = 1 ∧ SameRegs [] s t ∧ SameMem s t)) ∧
  (∀ (s : State) (dev : BitVec 7) (watts : BitVec 16), s.ready rSUP = true → dev.toNat = s.smbAddr →
    Runs (.smbRackCap dev watts (some (pecOf (smbSent dev 0x20 (toLe watts.toNat 2))))) s (fun t =>
        t.get .CAP_RACK_W = min watts.toNat 4000 ∧ t.pins = { s.pins with smbStatus := 0 } ∧ SameRegs [.CAP_RACK_W] s t ∧
        SameMem s t)) ∧
  (∀ (s : State) (dev : BitVec 7), s.ready rSUP = true → dev.toNat = s.smbAddr →
    Runs (.smbInputPower dev) s (fun t =>
        t = s.out (smbGave dev (smbSent dev 0x21 []) (toLe (s.get .PWR_IN_P_W) 2) (toLe (s.get .PWR_IN_P_W) 2)))) ∧
  (∀ (s : State) (dev : BitVec 7), s.ready rSUP = true → dev.toNat = s.smbAddr → s.hplState = 0 →
    Runs (.smbDrain dev 0xA5#8 (some (pecOf (smbSent dev 0x30 [0xA5])))) s (fun t => t = (s.drainRequest 1).1.smbSet 0 ∧
        t.hplState = 1 ∧ t.get .HPL_STATE_DRAIN_SRC = 1)) ∧
  (∀ (s : State) (dev : BitVec 7), s.ready rSUP = true → dev.toNat = s.smbAddr → s.hplState ≠ 0 →
    Runs (.smbDrain dev 0xA5#8 (some (pecOf (smbSent dev 0x30 [0xA5])))) s (fun t =>
        t.pins = { s.pins with smbStatus := 5 } ∧ t.get .HPL_STATE_REFUSED = 1 ∧ SameRegs [.HPL_STATE_REFUSED] s t ∧
        SameMem s t)) ∧
  (∀ (s : State) (dev : BitVec 7) (v : BitVec 8), s.ready rSUP = true → dev.toNat = s.smbAddr → v ≠ 0xA5#8 →
    Runs (.smbDrain dev v (some (pecOf (smbSent dev 0x30 [v.toNat])))) s (fun t => t = s.smbSet 6)) ∧
  (∀ (s : State), s.ready rSUP = true → s.pins.alert = true →
    Runs .smbAlertResponse s (fun t => t =
        ({ s with pins := { s.pins with alert := false } } : State).out (.smbus [s.smbAddr]))) ∧
  (∀ (s : State), s.ready rSUP = false ∨ s.pins.alert = false → Runs .smbAlertResponse s (fun t => t = s.out .nack)) ∧
  (∀ (s : State), Runs .smbClockLowTimeout s (fun t => t = s))

/-- R64 to R67, R71, R72, R76, R80, R349: cold resets. -/
def Obligations.ColdResetsPutTheModuleInReset : Prop :=
  (∀ (s : State), s.flashBusy 0 = false → s.flashBusy 1 = false →
    Runs .powerOnReset s (fun t => t.get .RST_IN_RESET_STATE = 0xFFFFFF7E ∧ t.modReady = 0 ∧ t.modReadyHi = 0 ∧
        t.bit .RST_CAUSE_POR = true)) ∧
  (∀ (s : State), s.flashBusy 0 = true ∨ s.flashBusy 1 = true →
    Runs .powerOnReset s (fun t => t.rst.waitCold = some [0] ∧ t.bit .RST_CAUSE_DELAYED = true ∧
        t.bit .RST_STATUS_FLASH_DELAYED = true ∧ t.get .RST_IN_RESET_STATE = s.get .RST_IN_RESET_STATE ∧
        t.bit .RST_CAUSE_POR = true)) ∧
  (∀ (s : State), s.flashBusy 0 = false → s.flashBusy 1 = false →
    Runs .brownOutReset s (fun t => t.get .RST_IN_RESET_STATE = 0xFFFFFF7E ∧ t.modReady = 0 ∧ t.modReadyHi = 0 ∧
        t.bit .RST_CAUSE_BOR = true ∧ t.pwr.rails[46] = s.pwr.rails[46] ∧ t.pwr.rails[47] = s.pwr.rails[47] ∧
        t.pwr.rails[48] = s.pwr.rails[48])) ∧
  (∀ (s : State), s.flashBusy 0 = true ∨ s.flashBusy 1 = true →
    Runs .brownOutReset s (fun t => t.rst.waitCold = some [1] ∧ t.bit .RST_CAUSE_DELAYED = true ∧
        t.bit .RST_STATUS_FLASH_DELAYED = true ∧ t.get .RST_IN_RESET_STATE = s.get .RST_IN_RESET_STATE ∧
        t.bit .RST_CAUSE_BOR = true)) ∧
  (∀ (s : State) (slot : Fin 16), s.pins.presentN = false → Runs (.hotPlugInsertion slot) s (fun t => t = s)) ∧
  (∀ (s : State) (slot : Fin 16), s.pins.presentN = true → s.insertable = false →
    Runs (.hotPlugInsertion slot) s (fun t => t = { s with pins := { s.pins with presentN := false, slotStraps := slot } })) ∧
  (∀ (s : State) (slot : Fin 16), s.pins.presentN = true → s.insertable = true → s.flashBusy 0 = false →
      s.flashBusy 1 = false →
    Runs (.hotPlugInsertion slot) s (fun t => t.get .RST_IN_RESET_STATE = 0xFFFFFF7E ∧ t.modReady = 0 ∧ t.modReadyHi = 0 ∧
        t.bit .RST_CAUSE_POR = true ∧ t.bit .RST_CAUSE_HOTPLUG = true ∧ t.pins.presentN = false ∧
        t.pins.slotStraps = slot.val ∧ t.pins.limiter = true)) ∧
  (∀ (s : State) (slot : Fin 16), s.pins.presentN = true → s.insertable = true → s.flashBusy 0 = true ∨ s.flashBusy 1 = true →
    Runs (.hotPlugInsertion slot) s (fun t => t.rst.waitCold = some [0, 2] ∧ t.bit .RST_CAUSE_DELAYED = true ∧
        t.bit .RST_STATUS_FLASH_DELAYED = true ∧ t.get .RST_IN_RESET_STATE = s.get .RST_IN_RESET_STATE ∧
        t.bit .RST_CAUSE_HOTPLUG = true ∧ t.pins.presentN = false ∧ t.pins.slotStraps = slot.val)) ∧
  (∀ (s : State) (p : Fin 2) (us : Nat) (l : List Nat), s.rst.waitCold = some l →
    Runs (.resetWaitEnd p us) s (fun t => t.get .RST_IN_RESET_STATE = 0xFFFFFF7E ∧ t.modReady = 0 ∧ t.modReadyHi = 0)) ∧
  (∀ (s : State),
    Runs .aoPowerUp s (fun t => t.rstCause = 1 ∧ t.get .HPL_COUNT_DRAINS = 0 ∧ t.get .HPL_COUNT_SURPRISES = 0 ∧
        t.get .PWR_IN_STATUS_TRIPS = 0 ∧ t.get .CEL_SLEEP_LOG_VALID = 0 ∧
        t.pins = { s.pins with ilkDrive := true, wake := false } ∧
        SameRegs (causeFlds ++ [.HPL_COUNT_DRAINS, .HPL_COUNT_SURPRISES, .PWR_IN_STATUS_TRIPS, .CEL_SLEEP_CFG_LO_MV,
        .CEL_SLEEP_CFG_HI_MV, .CEL_SLEEP_LOG_CELL, .CEL_SLEEP_LOG_MV, .CEL_SLEEP_LOG_VALID]) s t)) ∧
  (∀ (s : State), s.pins.pwrEn = false ∨ s.pins.presentN = true →
    Runs .hotSwapTripCountClear s (fun t => t = s.set .PWR_IN_STATUS_TRIPS 0 ∧ t.get .PWR_IN_STATUS_TRIPS = 0)) ∧
  (∀ (s : State), s.pins.pwrEn = true → s.pins.presentN = false → Runs .hotSwapTripCountClear s (fun t => t = s))

/-- R48, R67, R68, R70, R71, R75: warm reset requests and their refusals. That a RESET_IN_N pulse of 1 µs to 10 µs is taken or not by a free value is log entry 56. -/
def Obligations.WarmResetRequests : Prop :=
  (∀ (s : State) (p : Fin 2), s.flashBusy p = false →
    Runs (.watchdogReset p) s (fun t => t.rst.requested = Nat.lor s.rst.requested (2 ^ (1 + p.val) + 2 ^ (4 + p.val)) ∧
        t.rst.waiting = s.rst.waiting ∧ t.bit (if p = 0 then .RST_CAUSE_WDG_A else .RST_CAUSE_WDG_B) = true ∧
        SameRegs [if p = 0 then .RST_CAUSE_WDG_A else .RST_CAUSE_WDG_B] s t)) ∧
  (∀ (s : State) (p : Fin 2), s.flashBusy p = true →
    Runs (.watchdogReset p) s (fun t => t.rst.waiting = Nat.lor s.rst.waiting (2 ^ (1 + p.val) + 2 ^ (4 + p.val)) ∧
        t.rst.requested = s.rst.requested ∧ t.bit .RST_CAUSE_DELAYED = true ∧ t.bit .RST_STATUS_FLASH_DELAYED = true ∧
        t.bit (if p = 0 then .RST_CAUSE_WDG_A else .RST_CAUSE_WDG_B) = true)) ∧
  (∀ (s : State) (ns : Nat), 10000 ≤ ns → s.hplState < 5 →
    Runs (.resetInPulse ns) s (fun t => t.rst.requested = Nat.lor s.rst.requested 0xFFFFFF40 ∧
        t.bit .RST_CAUSE_RESET_IN = true ∧ SameRegs [.RST_CAUSE_RESET_IN] s t)) ∧
  (∀ (s : State) (ns : Nat), 10000 ≤ ns → 5 ≤ s.hplState → Runs (.resetInPulse ns) s (fun t => t = s)) ∧
  (∀ (s : State) (ns : Nat), ns < 1000 → Runs (.resetInPulse ns) s (fun t => t = s)) ∧
  (∀ (s : State) (ns : Nat), 1000 ≤ ns → ns < 10000 →
    Runs (.resetInPulse ns) s (fun t => t = { s with fresh := s.fresh + 1 } ∨ t =
        ({ s with fresh := s.fresh + 1 } : State).resetIn)) ∧
  (∀ (s : State) (src : Source), s.right src = .owner → s.resetRefused (s.get .RST_REQ_MAP_MAP) = none →
      s.flashBusy 0 = false → s.flashBusy 1 = false →
    Runs (.rstReq src 0x0A5C#16) s (fun t => t.rst.requested = Nat.lor s.rst.requested (s.get .RST_REQ_MAP_MAP) ∧
        t.bit .RST_CAUSE_BAMPOR = true ∧ Answered src 0 s t ∧ SameRegs [.RST_CAUSE_BAMPOR] s t)) ∧
  (∀ (s : State) (src : Source), s.right src = .owner → s.resetRefused (s.get .RST_REQ_MAP_MAP) = none →
      (bitAt (s.get .RST_REQ_MAP_MAP) 1 = true ∧ s.flashBusy 0 = true) ∨ (bitAt (s.get .RST_REQ_MAP_MAP) 2 = true ∧
      s.flashBusy 1 = true) →
    Runs (.rstReq src 0x0A5C#16) s (fun t => t.rst.waiting = Nat.lor s.rst.waiting (s.get .RST_REQ_MAP_MAP) ∧
        t.rst.requested = s.rst.requested ∧ t.bit .RST_CAUSE_BAMPOR = true ∧ t.bit .RST_CAUSE_DELAYED = true ∧
        Answered src 0 s t)) ∧
  (∀ (s : State) (src : Source) (key : BitVec 16), s.right src = .owner → key ≠ 0x0A5C#16 →
    Runs (.rstReq src key) s (fun t => t.bit .RST_STATUS_REQ_REFUSED = true ∧ t.get .RST_STATUS_REFUSE_CODE = 4 ∧
        t.rst = s.rst ∧ SameRegs [.RST_STATUS_REQ_REFUSED, .RST_STATUS_REFUSE_CODE, .RST_STATUS_REFUSE_DOMAIN] s t)) ∧
  (∀ (s : State) (src : Source) (r : Nat × Nat), s.right src = .owner → s.resetRefused (s.get .RST_REQ_MAP_MAP) = some r →
    Runs (.rstReq src 0x0A5C#16) s (fun t => t.bit .RST_STATUS_REQ_REFUSED = true ∧ t.get .RST_STATUS_REFUSE_CODE = r.1 ∧
        t.get .RST_STATUS_REFUSE_DOMAIN = r.2 ∧ t.rst = s.rst ∧
        SameRegs [.RST_STATUS_REQ_REFUSED, .RST_STATUS_REFUSE_CODE, .RST_STATUS_REFUSE_DOMAIN] s t)) ∧
  (∀ (s : State) (src : Source) (mask : BitVec 32), s.right src = .owner → Nat.lor (s.get .RST_HOLD_HOLD) mask.toNat ≠ 0 →
      s.resetRefused (Nat.lor (s.get .RST_HOLD_HOLD) mask.toNat) = none → s.flashBusy 0 = false → s.flashBusy 1 = false →
    Runs (.rstHoldSet src mask) s (fun t => t.get .RST_HOLD_HOLD = (Nat.lor (s.get .RST_HOLD_HOLD) mask.toNat) % 2 ^ 32 ∧
        t.rst.requested = Nat.lor s.rst.requested (Nat.lor (s.get .RST_HOLD_HOLD) mask.toNat) ∧
        t.bit .RST_CAUSE_BAMPOR = true ∧ Answered src 0 s t ∧ SameRegs [.RST_HOLD_HOLD, .RST_CAUSE_BAMPOR] s t)) ∧
  (∀ (s : State) (src : Source) (mask : BitVec 32) (r : Nat × Nat), s.right src = .owner →
      s.resetRefused (Nat.lor (s.get .RST_HOLD_HOLD) mask.toNat) = some r →
    Runs (.rstHoldSet src mask) s (fun t => t.get .RST_HOLD_HOLD = s.get .RST_HOLD_HOLD ∧
        t.bit .RST_STATUS_REQ_REFUSED = true ∧ t.get .RST_STATUS_REFUSE_CODE = r.1 ∧ t.get .RST_STATUS_REFUSE_DOMAIN = r.2 ∧
        t.rst = s.rst ∧ SameRegs [.RST_STATUS_REQ_REFUSED, .RST_STATUS_REFUSE_CODE, .RST_STATUS_REFUSE_DOMAIN] s t)) ∧
  (∀ (s : State) (src : Source) (mask : BitVec 32), s.right src = .owner →
      s.resetRefused (Nat.land (s.get .RST_HOLD_HOLD) (2 ^ 32 - 1 - mask.toNat)) = none →
      (∀ d : Fin 32, bitAt (s.get .RST_HOLD_HOLD) d = true → bitAt mask.toNat d = true → 3 ≤ d.val ∧ s.clkGood d = true ∧
      s.releaseNeeds d = true) → s.flashBusy 0 = false → s.flashBusy 1 = false →
    Runs (.rstHoldRelease src mask) s (fun t =>
        t.get .RST_HOLD_HOLD = (Nat.land (s.get .RST_HOLD_HOLD) (2 ^ 32 - 1 - mask.toNat)) % 2 ^ 32 ∧
        t.rst.requested = Nat.lor s.rst.requested (Nat.land (s.get .RST_HOLD_HOLD) (2 ^ 32 - 1 - mask.toNat)) ∧
        Answered src 0 s t ∧ SameRegs [.RST_HOLD_HOLD, .RST_CAUSE_BAMPOR] s t)) ∧
  (∀ (s : State) (src : Source) (mask : BitVec 32) (r : Nat × Nat), s.right src = .owner →
      s.resetRefused (Nat.land (s.get .RST_HOLD_HOLD) (2 ^ 32 - 1 - mask.toNat)) = some r →
    Runs (.rstHoldRelease src mask) s (fun t => t.get .RST_HOLD_HOLD = s.get .RST_HOLD_HOLD ∧
        t.bit .RST_STATUS_REQ_REFUSED = true ∧ t.get .RST_STATUS_REFUSE_CODE = r.1 ∧ t.get .RST_STATUS_REFUSE_DOMAIN = r.2 ∧
        t.rst = s.rst ∧ SameRegs [.RST_STATUS_REQ_REFUSED, .RST_STATUS_REFUSE_CODE, .RST_STATUS_REFUSE_DOMAIN] s t)) ∧
  (∀ (s : State) (src : Source) (mask : BitVec 32) (d : Fin 32), s.right src = .owner →
      s.resetRefused (Nat.land (s.get .RST_HOLD_HOLD) (2 ^ 32 - 1 - mask.toNat)) = none →
      bitAt (s.get .RST_HOLD_HOLD) d = true → bitAt mask.toNat d = true →
      (∀ e : Fin 32, e < d → bitAt (s.get .RST_HOLD_HOLD) e = true → bitAt mask.toNat e = false) → d.val < 3 →
    Runs (.rstHoldRelease src mask) s (fun t => t.get .RST_HOLD_HOLD = s.get .RST_HOLD_HOLD ∧
        t.bit .RST_STATUS_REL_REFUSED = true ∧ t.get .RST_STATUS_REFUSE_CODE = 3 ∧ t.get .RST_STATUS_REFUSE_DOMAIN = d.val ∧
        t.rst = s.rst ∧ SameRegs [.RST_STATUS_REL_REFUSED, .RST_STATUS_REFUSE_CODE, .RST_STATUS_REFUSE_DOMAIN] s t)) ∧
  (∀ (s : State) (src : Source) (mask : BitVec 32) (d : Fin 32), s.right src = .owner →
      s.resetRefused (Nat.land (s.get .RST_HOLD_HOLD) (2 ^ 32 - 1 - mask.toNat)) = none →
      bitAt (s.get .RST_HOLD_HOLD) d = true → bitAt mask.toNat d = true →
      (∀ e : Fin 32, e < d → bitAt (s.get .RST_HOLD_HOLD) e = true → bitAt mask.toNat e = false) → 3 ≤ d.val →
      s.clkGood d = false →
    Runs (.rstHoldRelease src mask) s (fun t => t.get .RST_HOLD_HOLD = s.get .RST_HOLD_HOLD ∧
        t.bit .RST_STATUS_REL_REFUSED = true ∧ t.get .RST_STATUS_REFUSE_CODE = 1 ∧ t.get .RST_STATUS_REFUSE_DOMAIN = d.val ∧
        t.rst = s.rst ∧ SameRegs [.RST_STATUS_REL_REFUSED, .RST_STATUS_REFUSE_CODE, .RST_STATUS_REFUSE_DOMAIN] s t)) ∧
  (∀ (s : State) (src : Source) (mask : BitVec 32) (d : Fin 32), s.right src = .owner →
      s.resetRefused (Nat.land (s.get .RST_HOLD_HOLD) (2 ^ 32 - 1 - mask.toNat)) = none →
      bitAt (s.get .RST_HOLD_HOLD) d = true → bitAt mask.toNat d = true →
      (∀ e : Fin 32, e < d → bitAt (s.get .RST_HOLD_HOLD) e = true → bitAt mask.toNat e = false) → 3 ≤ d.val →
      s.clkGood d = true → s.releaseNeeds d = false →
    Runs (.rstHoldRelease src mask) s (fun t => t.get .RST_HOLD_HOLD = s.get .RST_HOLD_HOLD ∧
        t.bit .RST_STATUS_REL_REFUSED = true ∧ t.get .RST_STATUS_REFUSE_CODE = 2 ∧ t.get .RST_STATUS_REFUSE_DOMAIN = d.val ∧
        t.rst = s.rst ∧ SameRegs [.RST_STATUS_REL_REFUSED, .RST_STATUS_REFUSE_CODE, .RST_STATUS_REFUSE_DOMAIN] s t)) ∧
  (∀ (s : State) (p : Fin 2) (us : Nat), s.rst.waitCold = none → s.rst.waiting ≠ 0 →
    Runs (.resetWaitEnd p us) s (fun t => t.rst.requested = Nat.lor s.rst.requested s.rst.waiting ∧ t.rst.waiting = 0 ∧
        t.get .RST_STATUS_LAST_DELAY_US = min us 1200 ∧ SameRegs [.RST_STATUS_LAST_DELAY_US] s t)) ∧
  (∀ (s : State) (p : Fin 2) (us : Nat), s.rst.waitCold = none → s.rst.waiting = 0 →
    Runs (.resetWaitEnd p us) s (fun t => t = s)) ∧
  (∀ (s : State) (d : Fin 32), bitAt s.rst.requested d = false → Runs (.resetHoldEntry d) s (fun t => t = s)) ∧
  (∀ (s : State) (d : Fin 32), bitAt s.rst.requested d = true → d.val = 0 ∨ d.val = 7 →
    Runs (.resetHoldEntry d) s (fun t => t = { s with rst := { s.rst with requested := putBit s.rst.requested d false } })) ∧
  (∀ (s : State) (d : Fin 32), bitAt s.rst.requested d = true → d.val ≠ 0 → d.val ≠ 7 →
    Runs (.resetHoldEntry d) s (fun t => t.inReset d = true ∧ bitAt t.rst.requested d = false ∧ t.modReady ≤ s.modReady)) ∧
  (∀ (s : State) (d : Fin 32), bitAt s.rst.requested d = true → d.val = 6 →
    Runs (.resetHoldEntry d) s (fun t => t.ready (rPORT 0) = false ∧ t.ready (rPORT 1) = false ∧ t.ready rPTP = false)) ∧
  (∀ (s : State) (d : Fin 32), bitAt s.rst.requested d = true → 8 ≤ d.val → d.val < 16 →
    Runs (.resetHoldEntry d) s (fun t => t.ready (rCD (d - 8)) = false ∧ (t.die (Fin.ofNat 8 (d - 8))).flights = [] ∧
        (t.die (Fin.ofNat 8 (d - 8))).inIssue = false)) ∧
  (∀ (s : State) (d : Fin 32), bitAt s.rst.requested d = true → 16 ≤ d.val → d.val < 24 →
    Runs (.resetHoldEntry d) s (fun t => t.ready (rQD (d - 16)) = false ∧ (t.quay (Fin.ofNat 8 (d - 16))).cache = []))

/-- R73, R74, R78 to R81, R84: clocks, release and readiness; log entries 20 and 57 on what a release waits for. -/
def Obligations.ClocksReleaseAndReadiness : Prop :=
  (∀ (s : State) (d : Fin 32), d.val ≠ 0 → d.val ≠ 7 → d.val < 24 →
    Runs (.clockGood d) s (fun t => bitAt (t.get .RST_CLK_GOOD_GOOD) d = true ∧
        t = s.set .RST_CLK_GOOD_GOOD (putBit (s.get .RST_CLK_GOOD_GOOD) d true))) ∧
  (∀ (s : State) (d : Fin 32), d.val = 0 ∨ d.val = 7 ∨ 24 ≤ d.val → Runs (.clockGood d) s (fun t => t = s)) ∧
  (∀ (s : State) (d : Fin 32), d.val ≠ 0 → d.val ≠ 7 → d.val < 24 →
    Runs (.clockDrop d) s (fun t => bitAt (t.get .RST_CLK_GOOD_GOOD) d = false ∧ t.inReset d = true)) ∧
  (∀ (s : State) (d : Fin 32), d.val = 0 ∨ d.val = 7 ∨ 24 ≤ d.val → Runs (.clockDrop d) s (fun t => t = s)) ∧
  (∀ (s : State) (d : Fin 32), s.releasable d = true → s.inOrder d = true →
    Runs (.domainRelease d) s (fun t => t = s.release d ∧ t.inReset d = false)) ∧
  (∀ (s : State) (d : Fin 32), s.releasable d = false ∨ s.inOrder d = false → Runs (.domainRelease d) s (fun t => t = s)) ∧
  (∀ (s : State) (k : Fin 48) (tb a : Bool), k.val ≠ 15 → s.ready k = false → s.readyNeeds k = true →
      s.boundMissed k = false →
    Runs (.functionReady k tb a) s (fun t => t.ready k = true ∧ t.pins.alert = true)) ∧
  (∀ (s : State) (a : Bool), s.ready rFWV = false → s.ready rSUP = true → s.boundMissed 15 = false →
    Runs (.functionReady 15 true a) s (fun t => t.ready rFWV = true ∧ t.pins.alert = true ∧
        t.bit .CAP_AGE_STATUS_TABLE_OK = true)) ∧
  (∀ (s : State) (a : Bool), s.ready rFWV = false → s.ready rSUP = true → s.boundMissed 15 = false →
    Runs (.functionReady 15 false a) s (fun t => t = s.raise 0x2206 ∧ t.ready rFWV = false)) ∧
  (∀ (s : State) (k : Fin 48) (tb a : Bool), s.ready k = true ∨ s.readyNeeds k = false ∨ s.boundMissed k = true →
    Runs (.functionReady k tb a) s (fun t => t = s)) ∧
  (∀ (s : State) (k : Fin 48), s.ready k = false →
    Runs (.startupBoundMissed k) s (fun t => t = s.raise 0x0301 k ∧ t.ready k = false)) ∧
  (∀ (s : State) (k : Fin 48), s.ready k = true → Runs (.startupBoundMissed k) s (fun t => t = s))

/-- R520 to R522, R526: events, records, latches and handling. -/
def Obligations.EventsAreRecordedLatchedAndHandled : Prop :=
  (∀ (s : State) (code : BitVec 16) (unit : BitVec 8) (a0 a1 : BitVec 32),
      s.log.latches.find? (fun l => l.chapter == code.toNat / 256 && l.unit == unit.toNat) = none →
      eventLevel code.toNat < 3 → s.log.mounted[s.act] = true → (s.log.ring[s.act]).length < 2048 → s.log.handling = none →
    Runs (.eventRaised code unit a0 a1) s (fun t =>
        t.log.ring[s.act] = s.log.ring[s.act] ++
        [{ seq := s.log.nextSeq, time := s.timeNs, code := code.toNat, level := eventLevel code.toNat, ptp := s.net.ptpValid, onPB := decide (s.act = 1), unit := unit.toNat, arg0 := a0.toNat, arg1 := a1.toNat, latching := false }]
        ∧ t.log.nextSeq = (s.log.nextSeq + 1) % 2 ^ 32 ∧
        t.log.handling = some ⟨s.log.nextSeq, code.toNat, unit.toNat, eventLevel code.toNat⟩ ∧
        (1 ≤ eventLevel code.toNat → t.pins.alert = true) ∧ SameMem s t)) ∧
  (∀ (s : State) (code : BitVec 16) (unit : BitVec 8) (a0 a1 : BitVec 32) (c : Handling),
      s.log.latches.find? (fun l => l.chapter == code.toNat / 256 && l.unit == unit.toNat) = none →
      eventLevel code.toNat < 3 → s.log.mounted[s.act] = true → (s.log.ring[s.act]).length < 2048 → s.log.handling = some c →
      c.level < eventLevel code.toNat →
    Runs (.eventRaised code unit a0 a1) s (fun t =>
        t.log.handling = some ⟨s.log.nextSeq, code.toNat, unit.toNat, eventLevel code.toNat⟩ ∧
        t.log.preempted = c :: s.log.preempted ∧ t.log.nextSeq = (s.log.nextSeq + 1) % 2 ^ 32)) ∧
  (∀ (s : State) (code : BitVec 16) (unit : BitVec 8) (a0 a1 : BitVec 32) (c : Handling),
      s.log.latches.find? (fun l => l.chapter == code.toNat / 256 && l.unit == unit.toNat) = none →
      eventLevel code.toNat < 3 → s.log.mounted[s.act] = true → (s.log.ring[s.act]).length < 2048 → s.log.handling = some c →
      eventLevel code.toNat ≤ c.level → s.log.queue.length < 64 →
    Runs (.eventRaised code unit a0 a1) s (fun t => t.log.handling = some c ∧
        t.log.queue = s.log.queue ++ [⟨s.log.nextSeq, code.toNat, unit.toNat, eventLevel code.toNat⟩] ∧
        t.log.nextSeq = (s.log.nextSeq + 1) % 2 ^ 32)) ∧
  (∀ (s : State) (code : BitVec 16) (unit : BitVec 8) (a0 a1 : BitVec 32),
      s.log.latches.find? (fun l => l.chapter == code.toNat / 256 && l.unit == unit.toNat) = none →
      eventLevel code.toNat < 3 → s.log.mounted[s.act] = false → (s.log.held[s.act]).length < 256 →
    Runs (.eventRaised code unit a0 a1) s (fun t =>
        t.log.held[s.act] = s.log.held[s.act] ++
        [{ seq := heldBase + (s.log.held[s.act]).length, time := s.timeNs, code := code.toNat, level := eventLevel code.toNat, ptp := s.net.ptpValid, onPB := decide (s.act = 1), unit := unit.toNat, arg0 := a0.toNat, arg1 := a1.toNat, latching := false }]
        ∧ t.log.nextSeq = s.log.nextSeq ∧ t.log.ring = s.log.ring)) ∧
  (∀ (s : State) (code : BitVec 16) (unit : BitVec 8) (a0 a1 : BitVec 32),
      s.log.latches.find? (fun l => l.chapter == code.toNat / 256 && l.unit == unit.toNat) = none →
      3 ≤ eventLevel code.toNat → s.log.mounted[s.act] = true →
    Runs (.eventRaised code unit a0 a1) s (fun t =>
        t.log.latches = s.log.latches ++ [⟨code.toNat / 256, unit.toNat, s.log.nextSeq⟩] ∧ t.pins.alert = true ∧
        t.get .LOG_STATUS_FLUSHING = (if s.flashHalted s.act then s.get .LOG_STATUS_FLUSHING else 1) ∧ SameMem s t)) ∧
  (∀ (s : State) (code : BitVec 16) (unit : BitVec 8) (a0 a1 : BitVec 32) (l : Latch),
      s.log.latches.find? (fun l => l.chapter == code.toNat / 256 && l.unit == unit.toNat) = some l →
    Runs (.eventRaised code unit a0 a1) s (fun t => t.log.latches = s.log.latches ∧ t.log.nextSeq = s.log.nextSeq ∧
        t.pins.alert = true)) ∧
  (∀ (s : State) (h : Handling), s.log.handling = some h → s.log.preempted = [] → s.log.queue = [] →
    Runs .eventHandlingDone s (fun t => t.log.handling = none ∧ SameRegs [] s t)) ∧
  (∀ (s : State) (h : Handling), s.log.handling = some h →
    Runs .eventHandlingDone s (fun t => t = { s with log := nextHandling s.log })) ∧
  (∀ (s : State), s.log.handling = none → Runs .eventHandlingDone s (fun t => t = s)) ∧
  (∀ (s : State) (ch unit : BitVec 8), s.log.latches.find? (fun l => l.chapter == ch.toNat && l.unit == unit.toNat) = none →
    Runs (.latchEnd ch unit) s (fun t => t = s)) ∧
  (∀ (s : State) (ch unit : BitVec 8) (l : Latch),
      s.log.latches.find? (fun l => l.chapter == ch.toNat && l.unit == unit.toNat) = some l →
    Runs (.latchEnd ch unit) s (fun t => t.log.latches =
        s.log.latches.filter (fun x => !(x.chapter == ch.toNat && x.unit == unit.toNat)) ∧
        t = ({ s with log := { s.log with latches := s.log.latches.filter (fun x => !(x.chapter == ch.toNat && x.unit == unit.toNat)) } }
        : State).raise 0x2105 unit.toNat l.seq))

/-- R529 to R532: flush, mount and window; R71: no new flush while a reset waits. -/
def Obligations.LogbookFlushMountAndWindow : Prop :=
  (∀ (s : State) (src : Source), s.right src = .owner → s.flashHalted s.act = false →
    Runs (.logCtrlFlush src) s (fun t => t.get .LOG_STATUS_FLUSHING = 1 ∧ t.log.flushTo = s.log.nextSeq ∧
        Answered src 0 s t ∧ SameRegs [.LOG_STATUS_FLUSHING] s t)) ∧
  (∀ (s : State) (src : Source), s.right src = .owner → s.flashHalted s.act = true →
    Runs (.logCtrlFlush src) s (fun t => t.log = s.log ∧ Answered src 0 s t ∧ SameRegs [] s t)) ∧
  (∀ (s : State), s.bit .LOG_STATUS_FLUSHING = true → s.log.lostPending = none → s.log.secPending = [] →
      (s.log.flash[s.act]).length + (s.log.ring[s.act]).length ≤ 131072 →
    Runs (.logFlushDone s.act) s (fun t => t.log.unflushed s.act = [] ∧ t.get .LOG_STATUS_FLUSHING = 0 ∧
        t.log.ring = s.log.ring)) ∧
  (∀ (s : State) (p : Fin 2), s.bit .LOG_STATUS_FLUSHING = true → p ≠ s.act → s.log.lostPending = none →
    Runs (.logFlushDone p) s (fun t => t =
        { s with log := { s.log with flash := s.log.flash.set p (flashAppend s.log.flash[p] (s.log.unflushed p)), flashBroken := false } })) ∧
  (∀ (s : State) (p : Fin 2), s.bit .LOG_STATUS_FLUSHING = false → Runs (.logFlushDone p) s (fun t => t = s)) ∧
  (∀ (s : State), s.bit .LOG_STATUS_FLUSHING = true →
    Runs (.logFlashFail s.act) s (fun t => t.get .LOG_STATUS_FLASH_FAIL = 1 ∧ t.log.flashBroken = true ∧
        t.log.flash = s.log.flash)) ∧
  (∀ (s : State) (p : Fin 2), s.bit .LOG_STATUS_FLUSHING = true → p ≠ s.act →
    Runs (.logFlashFail p) s (fun t => t =
        ({ s with log := { s.log with flashBroken := true } } : State).raise 0x2102 0xFF 0 0 0 (decide (p = 1)))) ∧
  (∀ (s : State) (p : Fin 2), s.bit .LOG_STATUS_FLUSHING = false → Runs (.logFlashFail p) s (fun t => t = s)) ∧
  (∀ (s : State) (p : Fin 2), s.log.mounted[p] = false → (s.pilot p).role ≠ .out →
    Runs (.logMount p) s (fun t => t.log.mounted[p] = true ∧ t.log.held[p] = [] ∧
        (p = s.act → s.ready rSUP = true → s.boundMissed rLOG = false → t.ready rLOG = true))) ∧
  (∀ (s : State) (p : Fin 2), s.log.mounted[p] = true ∨ (s.pilot p).role = .out → Runs (.logMount p) s (fun t => t = s)) ∧
  (∀ (s : State) (src : Source) (seq : BitVec 32), s.right src = .owner →
    Runs (.logCursorWrite src seq) s (fun t => t.get .LOG_CURSOR_SEQ = seq.toNat ∧ t.get .LOG_WIN_STATE_BUSY = 1 ∧
        t.get .LOG_WIN_STATE_VALID = 0 ∧ t.log.wantSeq = some seq.toNat ∧ Answered src 0 s t)) ∧
  (∀ (s : State) (q : Nat) (r : LogRecord), s.log.wantSeq = some q → s.bit .LOG_WIN_STATE_BUSY = true →
      (s.log.all s.act).find? (fun r => r.seq == q) = some r →
    Runs .logWindowLatched s (fun t => t.get .LOG_WIN_STATE_VALID = 1 ∧ t.get .LOG_WIN_STATE_BUSY = 0 ∧
        t.get .LOG_WIN_STATE_END = 0 ∧ (∀ i : Fin 8, t.get .LOG_WIN_BYTES 0 i = leAt r.bytes (4 * i) 4 % 2 ^ 32))) ∧
  (∀ (s : State) (q : Nat) (r : LogRecord), s.log.wantSeq = some q → s.bit .LOG_WIN_STATE_BUSY = true →
      (s.log.all s.act).find? (fun r => r.seq == q) = none → (s.log.all s.act).find? (fun r => seqOlder q r.seq) = some r →
    Runs .logWindowLatched s (fun t => t.get .LOG_WIN_STATE_VALID = 1 ∧ t.get .LOG_WIN_STATE_BUSY = 0 ∧
        t.get .LOG_WIN_STATE_GAP = 1 ∧ t.get .LOG_CURSOR_SEQ = r.seq % 2 ^ 32 ∧
        (∀ i : Fin 8, t.get .LOG_WIN_BYTES 0 i = leAt r.bytes (4 * i) 4 % 2 ^ 32))) ∧
  (∀ (s : State) (q : Nat), s.log.wantSeq = some q → s.bit .LOG_WIN_STATE_BUSY = true →
      (s.log.all s.act).find? (fun r => r.seq == q) = none → (s.log.all s.act).find? (fun r => seqOlder q r.seq) = none →
    Runs .logWindowLatched s (fun t => t.get .LOG_WIN_STATE_BUSY = 0 ∧ t.get .LOG_WIN_STATE_END = 1 ∧
        SameRegs [.LOG_WIN_STATE_BUSY, .LOG_WIN_STATE_END] s t)) ∧
  (∀ (s : State), s.log.wantSeq = none ∨ s.bit .LOG_WIN_STATE_BUSY = false → Runs .logWindowLatched s (fun t => t = s)) ∧
  (∀ (s : State) (src : Source), s.right src = .owner →
    Runs (.logWin7Read src) s (fun t => t.get .LOG_CURSOR_SEQ = (s.get .LOG_CURSOR_SEQ + 1) % 2 ^ 32 ∧
        t.get .LOG_WIN_STATE_BUSY = 1 ∧ t.tx = s.tx ++ [.access src 0 (s.wordAt src .log 0 0x3C)]))

/-- R535, R538, R541: free check-value units. -/
def Obligations.CheckValueUnitsCompute : Prop :=
  (∀ (s : State) (src : Source) (u : Fin 8), s.right src = .owner → s.cvuFree u = true →
    Runs (.cvuStart src u) s (fun t => t.cvu[u].running = true ∧ t.cvu[u].crc = (s.cvuCfg u).init % 2 ^ (s.cvuCfg u).width ∧
        Answered src 0 s t ∧ SameRegs [] s t)) ∧
  (∀ (s : State) (src : Source) (u : Fin 8), s.right src = .owner → s.cvuFree u = false →
    Runs (.cvuStart src u) s (fun t => t = s.out (.access src 0 0))) ∧
  (∀ (s : State) (src : Source) (u : Fin 8) (data : BitVec 32), s.right src = .owner → s.cvuFree u = true →
      s.cvu[u].running = true →
    Runs (.cvuData src u data) s (fun t =>
        t.cvu[u].crc = (toLe data.toNat (s.get .CVU_U_CFG_FEED_N u)).foldl (crcByte (s.cvuCfg u)) s.cvu[u].crc ∧
        t.get .CVU_U_RESULT_VALUE u = crcFinish (s.cvuCfg u) t.cvu[u].crc % 2 ^ 64 ∧ Answered src 0 s t ∧
        SameRegs [.CVU_U_RESULT_VALUE] s t)) ∧
  (∀ (s : State) (src : Source) (u : Fin 8) (data : BitVec 32), s.right src = .owner →
      s.cvuFree u = false ∨ s.cvu[u].running = false →
    Runs (.cvuData src u data) s (fun t => t = s.out (.access src 0 0))) ∧
  (∀ (s : State) (src : Source), s.right src = .owner →
    Runs (.cvuCntClear src) s (fun t => Answered src 0 s t ∧
        ClearedAll [.CVU_U_PASS_COUNT, .CVU_U_FAIL_COUNT, .CVU_U_REPEAT_COUNT] s t))

/-- R205, R543, R545 to R549: the security engine. -/
def Obligations.SecurityCommandsAct : Prop :=
  (∀ (s : State) (p : Fin 2), (s.pilot p).role = .selfTest → s.inReset (1 + p.val) = false →
    Runs (.pufReconstruct p true) s (fun t => (t.pilot p).identityOk = true ∧ (t.pilot p).role = .selfTest)) ∧
  (∀ (s : State) (p : Fin 2), (s.pilot p).role = .selfTest → s.inReset (1 + p.val) = false →
    Runs (.pufReconstruct p false) s (fun t => (t.pilot p).role = .out ∧ (t.pilot p).hbRunning = false ∧ t.pins.alert = true)) ∧
  (∀ (s : State) (p : Fin 2) (o : Bool), (s.pilot p).role = .selfTest → s.inReset (1 + p.val) = false →
    Runs (.firmwareBootVerify p true o) s (fun t => (t.pilot p).firmwareOk = true ∧ t.sec.fwRun[p] = s.sec.fwCurrent[p])) ∧
  (∀ (s : State) (p : Fin 2), (s.pilot p).role = .selfTest → s.inReset (1 + p.val) = false →
      s.rbOf p rbFirmware ≤ leAt (s.fwOtherSlot p) 0x0C 4 →
    Runs (.firmwareBootVerify p false true) s (fun t => (t.pilot p).firmwareOk = true ∧
        t.sec.fwCurrent[p] = some (s.fwOtherSlot p) ∧ t.sec.fwRun[p] = some (s.fwOtherSlot p))) ∧
  (∀ (s : State) (p : Fin 2), (s.pilot p).role = .selfTest → s.inReset (1 + p.val) = false →
    Runs (.firmwareBootVerify p false false) s (fun t => (t.pilot p).role = .out ∧ (t.pilot p).hbRunning = false)) ∧
  (∀ (s : State) (p : Fin 2) (ok : Bool), s.inSelfTest p = false → Runs (.pufReconstruct p ok) s (fun t => t = s)) ∧
  (∀ (s : State) (p : Fin 2), (s.pilot p).role = .selfTest → s.inReset (1 + p.val) = false →
      leAt (s.fwOtherSlot p) 0x0C 4 < s.rbOf p rbFirmware →
    Runs (.firmwareBootVerify p false true) s (fun t => (t.pilot p).role = .out ∧ (t.pilot p).hbRunning = false ∧
        t.sec = s.sec)) ∧
  (∀ (s : State) (p : Fin 2) (c o : Bool), s.inSelfTest p = false → Runs (.firmwareBootVerify p c o) s (fun t => t = s)) ∧
  (∀ (s : State) (a b : BitVec 13), s.activePilot.isSome = true → s.flashHalted s.act = false → a &&& b = 0 →
    Runs (.rollbackRepair a b) s (fun t =>
        (∀ i : Fin 13, t.rbOf 0 i = t.rbOf 1 i ∧
        t.rbOf 0 i = max (if a.getLsbD i then 0 else s.rbOf 0 i) (if b.getLsbD i then 0 else s.rbOf 1 i)))) ∧
  (∀ (s : State) (a b : BitVec 13), s.activePilot = none ∨ s.flashHalted s.act = true →
    Runs (.rollbackRepair a b) s (fun t => t = s)) ∧
  (∀ (s : State) (src : Source), s.right src = .owner → s.pkgState ≠ 1 → s.pkgState ≠ 3 →
    Runs (.secPkgOpen src) s (fun t => t.pkgState = 1 ∧ t.get .SEC_PKG_STATUS_KIND = 0 ∧ t.sec.staging = [] ∧
        t.sec.verified = none ∧ Answered src 0 s t ∧ SameRegs [.SEC_PKG_STATUS_STATE, .SEC_PKG_STATUS_KIND] s t)) ∧
  (∀ (s : State) (src : Source) (data : BitVec 32), s.right src = .owner → s.get .SEC_PKG_ADDR_OFFSET + 4 ≤ 6 * MiB →
    Runs (.secPkgData src data) s (fun t =>
        t.sec.staging = (s.get .SEC_PKG_ADDR_OFFSET, data.toNat) :: s.sec.staging.filter (fun e =>
        e.1 != s.get .SEC_PKG_ADDR_OFFSET) ∧ Answered src 0 s t ∧ SameRegs [] s t)) ∧
  (∀ (s : State) (src : Source), s.right src = .owner → s.pkgState = 1 → leAt (stagedBytes s.sec.staging 12) 8 4 ≤ 6 * MiB →
    Runs (.secPkgVerify src) s (fun t => t.pkgState =
        (if s.pkgCode (stagedBytes s.sec.staging (leAt (stagedBytes s.sec.staging 12) 8 4)) = 0 then 2 else 5) ∧
        t.sec.verified = (if s.pkgCode (stagedBytes s.sec.staging (leAt (stagedBytes s.sec.staging 12) 8 4)) = 0 then
        some (stagedBytes s.sec.staging (leAt (stagedBytes s.sec.staging 12) 8 4)) else s.sec.verified))) ∧
  (∀ (s : State) (src : Source), s.right src = .owner → s.pkgState = 2 → s.pkgMay = true →
    Runs (.secPkgActivate src) s (fun t => t.pkgState = 3 ∧ t.sec.stored = false ∧ Answered src 0 s t ∧
        SameRegs [.SEC_PKG_STATUS_STATE] s t)) ∧
  (∀ (s : State) (src : Source), s.right src = .owner → s.pkgState = 1 ∨ s.pkgState = 3 →
    Runs (.secPkgOpen src) s (fun t => t = (s.set .SEC_PKG_STATUS_ERR 1).out (.access src 0 0))) ∧
  (∀ (s : State) (src : Source) (data : BitVec 32), s.right src = .owner → 6 * MiB < s.get .SEC_PKG_ADDR_OFFSET + 4 →
    Runs (.secPkgData src data) s (fun t => t = (s.set .SEC_PKG_STATUS_ERR 6).out (.access src 0 0))) ∧
  (∀ (s : State) (src : Source), s.right src = .owner → s.pkgState ≠ 1 →
    Runs (.secPkgVerify src) s (fun t => t = s.out (.access src 0 0))) ∧
  (∀ (s : State) (src : Source), s.right src = .owner → s.pkgState = 1 → 6 * MiB < leAt (stagedBytes s.sec.staging 12) 8 4 →
    Runs (.secPkgVerify src) s (fun t => t.pkgState = 5 ∧ t.get .SEC_PKG_STATUS_ERR = 2)) ∧
  (∀ (s : State) (src : Source), s.right src = .owner → s.pkgState ≠ 2 →
    Runs (.secPkgActivate src) s (fun t => t = s.out (.access src 0 0))) ∧
  (∀ (s : State) (src : Source), s.right src = .owner → s.pkgState = 2 → s.pkgMay = false →
    Runs (.secPkgActivate src) s (fun t => t.pkgState = 2 ∧ t.get .SEC_PKG_STATUS_ERR = 5)) ∧
  (∀ (s : State) (ok : Bool), s.pkgState ≠ 3 ∨ s.sec.verified = none → Runs (.vendorActivationDone ok) s (fun t => t = s)) ∧
  (∀ (s : State) (bs : List Nat), s.pkgState = 3 → s.sec.verified = some bs → s.standby = none →
      leAt bs 6 1 = 2 ∨ s.sec.stored = false →
    Runs (.vendorActivationDone true) s (fun t => t.pkgState = 5 ∧ t.get .SEC_PKG_STATUS_ERR = 7)) ∧
  (∀ (s : State) (bs : List Nat), s.pkgState = 3 → s.sec.verified = some bs → leAt bs 6 1 ≠ 2 → s.sec.stored = true →
      s.sec.fwRun[0] = some bs → s.sec.fwRun[1] = some bs →
    Runs (.vendorActivationDone true) s (fun t => t.pkgState = 4 ∧ t.sec.stored = false)) ∧
  (∀ (s : State) (bs : List Nat), s.pkgState = 3 → s.sec.verified = some bs → leAt bs 6 1 ≠ 2 → s.sec.stored = true →
      s.sec.fwRun[0] ≠ some bs ∨ s.sec.fwRun[1] ≠ some bs →
    Runs (.vendorActivationDone true) s (fun t => t = s)) ∧
  (∀ (s : State) (src : Source) (key : BitVec 16), s.right src = .owner → key ≠ 0x0E3A#16 →
    Runs (.secOwnerCommit src key) s (fun t => t = s.out (.access src 0 0))) ∧
  (∀ (s : State) (bs : List Nat), s.pkgState = 3 → s.sec.verified = some bs →
    Runs (.vendorActivationDone false) s (fun t => t.pkgState = 5 ∧ t.get .SEC_PKG_STATUS_ERR = 7)) ∧
  (∀ (s : State) (bs : List Nat), s.pkgState = 3 → s.sec.verified = some bs → leAt bs 6 1 = 2 → s.standby.isSome = true →
    Runs (.vendorActivationDone true) s (fun t => t.pkgState = 4 ∧ t.sec.vt = some bs)) ∧
  (∀ (s : State) (bs : List Nat) (q : Fin 2), s.pkgState = 3 → s.sec.verified = some bs → leAt bs 6 1 = 1 →
      s.sec.stored = false → s.standby = some q →
    Runs (.vendorActivationDone true) s (fun t => t.pkgState = 3 ∧ t.sec.stored = true ∧
        t.sec.fwCurrent = Vector.replicate 2 (some bs))) ∧
  (∀ (s : State) (src : Source), s.right src = .owner → s.get .BTH_COMMITTED_BERTHS = 0 →
    Runs (.secOwnerCommit src 0x0E3A#16) s (fun t => t.get .SEC_OWNER_STATUS_ERR = (if s.ownerProof = true then 0 else 3) ∧
        t.bit .SEC_STATUS_OWNED = (s.ownerProof || s.bit .SEC_STATUS_OWNED))) ∧
  (∀ (s : State) (src : Source), s.right src = .owner → s.get .BTH_COMMITTED_BERTHS ≠ 0 →
    Runs (.secOwnerCommit src 0x0E3A#16) s (fun t => t.get .SEC_OWNER_STATUS_ERR = 5 ∧ Answered src 0 s t ∧
        SameRegs [.SEC_OWNER_STATUS_ERR] s t)) ∧
  (∀ (s : State) (src : Source) (v : BitVec 32), s.right src = .owner →
    Runs (.secManSelWrite src v) s (fun t =>
        t.get .SEC_MAN_TAG_TAG 0 (srcItem src) = (s.berth (Fin.ofNat 8 v.toNat)).tag % 2 ^ 64 ∧
        t.get .SEC_MAN_CP_CP_SET 0 (srcItem src) = s.get .CTE_CP_SET_ID % 2 ^ 32 ∧ Answered src 0 s t ∧
        SameRegs (.SEC_MAN_SEL_BERTH :: .SEC_MAN_SEL_KIND :: .SEC_MAN_DIGEST_BYTES :: manFlds) s t))

/-- R190 to R199, Table 7-6: the image loader and the restore. R328, R330, R339: quiescing and releasing a berth. -/
def Obligations.ImageLoadsAndBerthHolds : Prop :=
  (∀ (s : State) (src : Source), s.right src = .owner → s.imgState ≠ 1 → s.imgState ≠ 2 → s.imgState ≠ 4 →
    Runs (.bthImgOpen src) s (fun t => t.imgState = 1 ∧ t.img.frames = [] ∧ t.img.length = none ∧ t.img.openedBy = none ∧
        t.get .BTH_IMG_FRAMES_RECEIVED = 0 ∧
        t.get .BTH_IMG_LOAD_ID_ID = (if (s.get .BTH_IMG_LOAD_ID_ID + 1) % 2 ^ 32 = 0 then 1 else
        (s.get .BTH_IMG_LOAD_ID_ID + 1) % 2 ^ 32) ∧ Answered src 0 s t)) ∧
  (∀ (s : State) (src : Source), s.right src = .owner → 1 ≤ s.imgState → s.imgState ≤ 3 →
    Runs (.bthImgAbort src) s (fun t => t.imgState = 0 ∧ t.get .BTH_IMG_STATE_ERR = 0x15 ∧ Answered src 0 s t ∧
        SameRegs [.BTH_IMG_STATE_STATE, .BTH_IMG_STATE_ERR, .BTH_IMG_STATE_ERR_SECTION] s t)) ∧
  (∀ (s : State) (src : Source), s.right src = .owner → s.imgState = 2 →
    Runs (.bthImgOpen src) s (fun t => t = s.out (.access src 0 0))) ∧
  (∀ (s : State) (src : Source), s.right src = .owner → s.imgState = 1 ∨ s.imgState = 4 →
    Runs (.bthImgOpen src) s (fun t => t.get .BTH_IMG_STATE_ERR = 1 ∧ t.img = s.img ∧ Answered src 0 s t ∧
        SameRegs [.BTH_IMG_STATE_ERR, .BTH_IMG_STATE_ERR_SECTION] s t)) ∧
  (∀ (s : State) (src : Source), s.right src = .owner → s.imgState = 4 →
    Runs (.bthImgAbort src) s (fun t => t.get .BTH_IMG_STATE_ERR = 1 ∧ t.img = s.img ∧ Answered src 0 s t ∧
        SameRegs [.BTH_IMG_STATE_ERR, .BTH_IMG_STATE_ERR_SECTION] s t)) ∧
  (∀ (s : State) (src : Source), s.right src = .owner → s.imgState = 0 ∨ 5 ≤ s.imgState →
    Runs (.bthImgAbort src) s (fun t => t = s.out (.access src 0 0))) ∧
  (∀ (s : State), s.imgState ≠ 1 → Runs .imageReceiveTimeout s (fun t => t = s)) ∧
  (∀ (s : State), s.imgState ≠ 2 → Runs .imageVerifyDone s (fun t => t = s)) ∧
  (∀ (s : State) (src : Source), s.right src = .owner → s.imgState = 3 →
      (s.imgTouched s.staged).any (fun b => (s.berth b).desc.isSome && !s.quiesced b) = true →
    Runs (.bthImgCommit src) s (fun t => t.get .BTH_IMG_STATE_ERR = 0x11 ∧ t.bit .BTH_IMG_STATUS_LOCK_ERR = true ∧
        t.img = s.img ∧ SameRegs [.BTH_IMG_STATE_ERR, .BTH_IMG_STATE_ERR_SECTION, .BTH_IMG_STATUS_LOCK_ERR] s t)) ∧
  (∀ (s : State) (src : Source), s.right src = .owner → s.imgState = 3 →
      (∀ b ∈ s.imgTouched s.staged, (s.berth b).desc = none ∨ s.quiesced b = true) →
      s.namedReady ((imgDescs s.staged).map (·.2)) = false →
    Runs (.bthImgCommit src) s (fun t => t.get .BTH_IMG_STATE_ERR = 0x12 ∧ t.img = s.img ∧
        SameRegs [.BTH_IMG_STATE_ERR, .BTH_IMG_STATE_ERR_SECTION] s t)) ∧
  (∀ (s : State) (src : Source), s.right src = .owner → s.imgState = 3 →
      (∀ b ∈ s.imgTouched s.staged, (s.berth b).desc = none ∨ s.quiesced b = true) →
      s.namedReady ((imgDescs s.staged).map (·.2)) = true → s.resourcesOk s.staged = false →
    Runs (.bthImgCommit src) s (fun t => t.get .BTH_IMG_STATE_ERR = 0x0C ∧ t.img = s.img ∧
        SameRegs [.BTH_IMG_STATE_ERR, .BTH_IMG_STATE_ERR_SECTION] s t)) ∧
  (∀ (s : State) (src : Source), s.right src = .owner → s.imgState = 4 →
    Runs (.bthImgCommit src) s (fun t => t.get .BTH_IMG_STATE_ERR = 1 ∧ t.img = s.img ∧
        SameRegs [.BTH_IMG_STATE_ERR, .BTH_IMG_STATE_ERR_SECTION] s t)) ∧
  (∀ (s : State) (a b : Bool), s.imgState ≠ 4 ∨ s.img.stored = true → Runs (.imageCopiesStored a b) s (fun t => t = s)) ∧
  (∀ (s : State), s.imgState ≠ 4 ∨ s.img.stored = false → Runs .imageSlotCurrent s (fun t => t = s)) ∧
  (∀ (s : State) (b : Fin 8) (m : List Nat), s.storedFor b = some m →
      bitAt s.img.tried b = true ∨ (s.berth b).desc.isSome = true ∨ s.namedReady (imgGives m b).toList = false →
    Runs (.berthRestore b) s (fun t => t = s)) ∧
  (∀ (s : State), s.imgState = 1 →
    Runs .imageReceiveTimeout s (fun t => t.imgState = 6 ∧ t.get .BTH_IMG_STATE_ERR = 6 ∧
        SameRegs [.BTH_IMG_STATE_STATE, .BTH_IMG_STATE_ERR, .BTH_IMG_STATE_ERR_SECTION] s t)) ∧
  (∀ (s : State), s.imgState = 2 →
    Runs .imageVerifyDone s (fun t => t.imgState = (if (s.verifyImage s.staged).1 = 0 then 3 else 6) ∧
        ((s.verifyImage s.staged).1 ≠ 0 → t.get .BTH_IMG_STATE_ERR = (s.verifyImage s.staged).1 % 256) ∧
        SameRegs [.BTH_IMG_STATE_STATE, .BTH_IMG_STATE_ERR, .BTH_IMG_STATE_ERR_SECTION] s t)) ∧
  (∀ (s : State) (src : Source), s.right src = .owner → s.imgState = 3 →
      (∀ b ∈ s.imgTouched s.staged, (s.berth b).desc = none ∨ s.quiesced b = true) →
      s.namedReady ((imgDescs s.staged).map (·.2)) = true → s.resourcesOk s.staged = true →
    Runs (.bthImgCommit src) s (fun t => t.imgState = 4 ∧ t.img.stored = false ∧
        t.bit .BTH_IMG_STATUS_LOCK_ERR = s.bit .BTH_IMG_STATUS_LOCK_ERR ∧ Answered src 0 s t ∧
        SameRegs [.BTH_IMG_STATE_STATE, .BTH_IMG_STATUS_LOCK_ERR] s t)) ∧
  (∀ (s : State) (src : Source), s.right src = .owner → s.imgState ≠ 3 → s.imgState ≠ 4 →
    Runs (.bthImgCommit src) s (fun t => t.get .BTH_IMG_STATE_ERR = 0x16 ∧ t.imgState = s.imgState)) ∧
  (∀ (s : State), s.imgState = 4 → s.img.stored = false →
    Runs (.imageCopiesStored true true) s (fun t => t.img.stored = true ∧
        (∀ b ∈ s.imgTouched s.staged, (t.berth b).desc = imgGives s.staged b))) ∧
  (∀ (s : State) (a b : Bool), s.imgState = 4 → s.img.stored = false →
      (if s.act = 0 then a else b) = false ∨ ((s.pilot (otherPilot s.act)).role = .standby ∧
      (if s.act = 0 then b else a) = false) →
    Runs (.imageCopiesStored a b) s (fun t => t.imgState = 6 ∧ t.get .BTH_IMG_STATE_ERR = 0x14 ∧ t.img.stored = false ∧
        SameRegs [.BTH_IMG_STATE_STATE, .BTH_IMG_STATE_ERR, .BTH_IMG_STATE_ERR_SECTION] s t)) ∧
  (∀ (s : State) (a b : Bool), s.imgState = 4 → s.img.stored = false → (if s.act = 0 then a else b) = true →
      (s.pilot (otherPilot s.act)).role ≠ .standby →
    Runs (.imageCopiesStored a b) s (fun t => t.img.stored = true ∧
        (∀ b ∈ s.imgTouched s.staged, (t.berth b).desc = imgGives s.staged b))) ∧
  (∀ (s : State), s.imgState = 4 → s.img.stored = true →
    Runs .imageSlotCurrent s (fun t => t.imgState = 5 ∧ s.rbNow (imgCounter s.staged) ≤ t.rbNow (imgCounter s.staged) ∧
        SameRegs [.BTH_IMG_STATE_STATE] s t)) ∧
  (∀ (s : State) (b : Fin 8) (m : List Nat), s.storedFor b = some m → bitAt s.img.tried b = false → (s.berth b).desc = none →
      s.namedReady (imgGives m b).toList = true →
    Runs (.berthRestore b) s (fun t => bitAt t.img.tried b = true ∧
        (t.berth b).desc = (if s.rbNow (imgCounter m) ≤ imgRollback m ∧
        (s.storedKeys m b).any (fun k => sigOk k m) = true then imgGives m b else none) ∧
        ((t.berth b).desc = none → imgGives m b ≠ none → t.bit .BTH_IMG_STATUS_RESTORE_FAIL = true))) ∧
  (∀ (s : State) (b : Fin 8), s.storedFor b = none → Runs (.berthRestore b) s (fun t => t = s)) ∧
  (∀ (s : State) (src : Source) (b : Fin 8), s.right src = .owner → (s.berth b).desc.isSome = true →
    Runs (.bthQuiesce src b) s (fun t => (t.berth b).hold = true ∧
        (∀ d ∈ s.berthDies b, s.running d = true → t.get .CDC_STREAM_STATE_PARK_REQ d = 1) ∧ Answered src 0 s t ∧
        SameRegs [.CDC_STREAM_STATE_PARK_REQ] s t)) ∧
  (∀ (s : State) (src : Source) (b : Fin 8), s.right src = .owner → (s.berth b).desc.isSome = true → (s.berth b).hold = true →
    Runs (.bthRelease src b) s (fun t => (t.berth b).hold = false ∧ (t.berth b).parkedDies = [] ∧
        (∀ d ∈ s.berthDies b, d.val ∈ (s.berth b).parkedDies → s.streamState d = 2 → t.running d = true) ∧
        Answered src 0 s t)) ∧
  (∀ (s : State) (src : Source) (b : Fin 8), s.right src = .owner → (s.berth b).desc = none →
    Runs (.bthQuiesce src b) s (fun t => t = s.out (.access src 0 0))) ∧
  (∀ (s : State) (src : Source) (b : Fin 8), s.right src = .owner → (s.berth b).hold = false →
    Runs (.bthRelease src b) s (fun t => t = s.out (.access src 0 0))) ∧
  (∀ (s : State) (src : Source) (b : Fin 8), s.right src = .owner → (s.berth b).desc = none →
    Runs (.bthRelease src b) s (fun t => t = s.out (.access src 0 0)))

/-- R145, R153, R156, R165, R172, Table 6-10: what holds a slot back. -/
def Obligations.SlotsThatCannotActWaitOrFault : Prop :=
  (∀ (s : State) (c : Instr) (n : SlotNeed), s.slotNeed c = some n → s.inReset (8 + n.die.val) = true →
    Runs c s (fun t => t = s)) ∧
  (∀ (s : State) (c : Instr) (n : SlotNeed), s.slotNeed c = some n → s.inReset (8 + n.die.val) = false →
      n.pendLdt (s.die n.die) = true →
    Runs c s (fun t => t = (s.stalled n.die (n.why.any (·.2))).strCount n.die .CDC_STALL_BUSY_COUNT 1)) ∧
  (∀ (s : State) (c : Instr) (n : SlotNeed) (f : Fld) (w : Bool), s.slotNeed c = some n → s.inReset (8 + n.die.val) = false →
      n.pendLdt (s.die n.die) = false → n.why = some (f, w) →
    Runs c s (fun t => t = (s.stalled n.die w).strCount n.die (if n.busy (s.die n.die) then .CDC_STALL_BUSY_COUNT else f) 1)) ∧
  (∀ (s : State) (c : Instr) (n : SlotNeed), s.slotNeed c = some n → s.inReset (8 + n.die.val) = false →
      n.pendLdt (s.die n.die) = false → n.why = none → n.busy (s.die n.die) = true →
    Runs c s (fun t => t = s.busyCycle n.die)) ∧
  (∀ (s : State) (c : Instr) (n : SlotNeed), s.slotNeed c = some n → s.inReset (8 + n.die.val) = false →
      n.pendLdt (s.die n.die) = false → n.why = none → n.busy (s.die n.die) = false → n.code ≠ 0 →
    Runs c s (fun t => t = s.streamFault n.die n.code 0 (s.get .CDC_PC_INDEX n.die) ∧ t.streamState n.die = 3))

/-- Table 6-7, R105, R156: integer operations of the scalar lanes. Table 6-7, R105, R172: comparisons and predicate logic. -/
def Obligations.ScalarIntegerOperationsAndComparisons : Prop :=
  (∀ (s : State) (die : Fin 8) (lane : Fin 4) (rd ra rb : Fin 64), s.slotFree (.sclAdd die lane rd ra rb) = true →
    Runs (.sclAdd die lane rd ra rb) s (fun t =>
        SclWrote die lane rd 1 ((s.die die).sreg lane ra + (s.die die).sreg lane rb) s t)) ∧
  (∀ (s : State) (die : Fin 8) (lane : Fin 4) (rd ra rb : Fin 64), s.slotFree (.sclSub die lane rd ra rb) = true →
    Runs (.sclSub die lane rd ra rb) s (fun t =>
        SclWrote die lane rd 1 ((s.die die).sreg lane ra - (s.die die).sreg lane rb) s t)) ∧
  (∀ (s : State) (die : Fin 8) (lane : Fin 4) (rd ra rb : Fin 64), s.slotFree (.sclAnd die lane rd ra rb) = true →
    Runs (.sclAnd die lane rd ra rb) s (fun t =>
        SclWrote die lane rd 1 ((s.die die).sreg lane ra &&& (s.die die).sreg lane rb) s t)) ∧
  (∀ (s : State) (die : Fin 8) (lane : Fin 4) (rd ra rb : Fin 64), s.slotFree (.sclOr die lane rd ra rb) = true →
    Runs (.sclOr die lane rd ra rb) s (fun t =>
        SclWrote die lane rd 1 ((s.die die).sreg lane ra ||| (s.die die).sreg lane rb) s t)) ∧
  (∀ (s : State) (die : Fin 8) (lane : Fin 4) (rd ra rb : Fin 64), s.slotFree (.sclXor die lane rd ra rb) = true →
    Runs (.sclXor die lane rd ra rb) s (fun t =>
        SclWrote die lane rd 1 ((s.die die).sreg lane ra ^^^ (s.die die).sreg lane rb) s t)) ∧
  (∀ (s : State) (die : Fin 8) (lane : Fin 4) (rd ra rb : Fin 64), s.slotFree (.sclShl die lane rd ra rb) = true →
    Runs (.sclShl die lane rd ra rb) s (fun t =>
        SclWrote die lane rd 1 ((s.die die).sreg lane ra <<< (((s.die die).sreg lane rb).toNat % 64)) s t)) ∧
  (∀ (s : State) (die : Fin 8) (lane : Fin 4) (rd ra rb : Fin 64), s.slotFree (.sclShr die lane rd ra rb) = true →
    Runs (.sclShr die lane rd ra rb) s (fun t =>
        SclWrote die lane rd 1 ((s.die die).sreg lane ra >>> (((s.die die).sreg lane rb).toNat % 64)) s t)) ∧
  (∀ (s : State) (die : Fin 8) (lane : Fin 4) (rd ra rb : Fin 64), s.slotFree (.sclSar die lane rd ra rb) = true →
    Runs (.sclSar die lane rd ra rb) s (fun t =>
        SclWrote die lane rd 1 (((s.die die).sreg lane ra).sshiftRight (((s.die die).sreg lane rb).toNat % 64)) s t)) ∧
  (∀ (s : State) (die : Fin 8) (lane : Fin 4) (rd ra rb : Fin 64), s.slotFree (.sclMul die lane rd ra rb) = true →
    Runs (.sclMul die lane rd ra rb) s (fun t =>
        SclWrote die lane rd 3 ((s.die die).sreg lane ra * (s.die die).sreg lane rb) s t)) ∧
  (∀ (s : State) (die : Fin 8) (lane : Fin 4) (rd ra rb : Fin 64), s.slotFree (.sclAddi die lane rd ra rb) = true →
    Runs (.sclAddi die lane rd ra rb) s (fun t =>
        SclWrote die lane rd 1 ((s.die die).sreg lane ra + (BitVec.ofNat 6 rb).signExtend 64) s t)) ∧
  (∀ (s : State) (die : Fin 8) (lane : Fin 4) (rd ra rb : Fin 64), s.slotFree (.sclLdi die lane rd ra rb) = true →
    Runs (.sclLdi die lane rd ra rb) s (fun t =>
        SclWrote die lane rd 1 ((BitVec.ofNat 12 (64 * ra.val + rb.val)).signExtend 64) s t)) ∧
  (∀ (s : State) (die : Fin 8) (lane : Fin 4) (rd ra rb : Fin 64), s.slotFree (.sclShli12 die lane rd ra rb) = true →
    Runs (.sclShli12 die lane rd ra rb) s (fun t =>
        SclWrote die lane rd 1 ((s.die die).sreg lane rd <<< 12 ||| BitVec.ofNat 64 (64 * ra.val + rb.val)) s t)) ∧
  (∀ (s : State) (die : Fin 8) (lane : Fin 4) (rd ra : Fin 64), s.slotFree (.sclMov die lane rd ra) = true →
    Runs (.sclMov die lane rd ra) s (fun t => SclWrote die lane rd 1 ((s.die die).sreg lane ra) s t)) ∧
  (∀ (s : State) (die : Fin 8) (lane : Fin 4) (rd : Fin 64), s.slotFree (.sclGetstep die lane rd) = true →
    Runs (.sclGetstep die lane rd) s (fun t => SclWrote die lane rd 1 (BitVec.ofNat 64 (s.get .CDC_STEP_STEP die)) s t)) ∧
  (∀ (s : State) (die : Fin 8) (lane : Fin 4) (rd ra : Fin 64), s.slotFree (.sclSetl die lane rd ra) = true →
    Runs (.sclSetl die lane rd ra) s (fun t =>
        t = ((s.slotGo die).modDie die (fun x =>
        { x with loops := x.loops.set (Fin.ofNat 4 rd) ((x.sreg lane ra).setWidth 32) })).laneTaken die lane)) ∧
  (∀ (s : State) (die : Fin 8) (lane : Fin 4) (rd ra rb : Fin 64), s.slotFree (.sclCmpeq die lane rd ra rb) = true →
    Runs (.sclCmpeq die lane rd ra rb) s (fun t =>
        PredWrote die lane rd 1 (decide ((s.die die).sreg lane ra = (s.die die).sreg lane rb)) s t)) ∧
  (∀ (s : State) (die : Fin 8) (lane : Fin 4) (rd ra rb : Fin 64), s.slotFree (.sclCmplt die lane rd ra rb) = true →
    Runs (.sclCmplt die lane rd ra rb) s (fun t =>
        PredWrote die lane rd 1 (((s.die die).sreg lane ra).slt ((s.die die).sreg lane rb)) s t)) ∧
  (∀ (s : State) (die : Fin 8) (lane : Fin 4) (rd ra rb : Fin 64), s.slotFree (.sclCmpltu die lane rd ra rb) = true →
    Runs (.sclCmpltu die lane rd ra rb) s (fun t =>
        PredWrote die lane rd 1 (((s.die die).sreg lane ra).ult ((s.die die).sreg lane rb)) s t)) ∧
  (∀ (s : State) (die : Fin 8) (lane : Fin 4) (rd ra rb : Fin 64), s.slotFree (.sclFcmplt die lane rd ra rb) = true →
    Runs (.sclFcmplt die lane rd ra rb) s (fun t =>
        PredWrote die lane rd 2 (f32Lt (((s.die die).sreg lane ra).setWidth 32) (((s.die die).sreg lane rb).setWidth 32)) s
        t)) ∧
  (∀ (s : State) (die : Fin 8) (lane : Fin 4) (rd ra rb : Fin 64), s.slotFree (.sclPlogic die lane rd ra rb) = true →
      rd.val / 16 = 0 →
    Runs (.sclPlogic die lane rd ra rb) s (fun t =>
        PredWrote die lane (rd.val % 16) 1 ((s.die die).pred ra && (s.die die).pred rb) s t)) ∧
  (∀ (s : State) (die : Fin 8) (lane : Fin 4) (rd ra rb : Fin 64), s.slotFree (.sclPlogic die lane rd ra rb) = true →
      rd.val / 16 = 1 →
    Runs (.sclPlogic die lane rd ra rb) s (fun t =>
        PredWrote die lane (rd.val % 16) 1 ((s.die die).pred ra || (s.die die).pred rb) s t)) ∧
  (∀ (s : State) (die : Fin 8) (lane : Fin 4) (rd ra rb : Fin 64), s.slotFree (.sclPlogic die lane rd ra rb) = true →
      rd.val / 16 = 2 →
    Runs (.sclPlogic die lane rd ra rb) s (fun t =>
        PredWrote die lane (rd.val % 16) 1 ((s.die die).pred ra != (s.die die).pred rb) s t)) ∧
  (∀ (s : State) (die : Fin 8) (lane : Fin 4) (rd ra rb : Fin 64), s.slotFree (.sclPlogic die lane rd ra rb) = true →
      rd.val / 16 = 3 →
    Runs (.sclPlogic die lane rd ra rb) s (fun t =>
        PredWrote die lane (rd.val % 16) 1 ((s.die die).pred ra && !(s.die die).pred rb) s t)) ∧
  (∀ (s : State) (die : Fin 8) (lane : Fin 4) (rd ra rb : Fin 64), 16 ≤ rd.val →
    ∀ c ∈ [Instr.sclCmpeq die lane rd ra rb, .sclCmplt die lane rd ra rb, .sclCmpltu die lane rd ra rb, .sclFcmplt die lane rd ra rb],
      (s.slotNeed c).map (·.code) = some 0xA) ∧
  (∀ (s : State) (die : Fin 8) (lane : Fin 4) (rd ra rb : Fin 64), 16 ≤ ra.val ∨ 16 ≤ rb.val →
    (s.slotNeed (.sclPlogic die lane rd ra rb)).map (·.code) = some 0xA)

/-- Table 6-7, R105, R120, R133: FP32 operations of the scalar lanes. -/
def Obligations.ScalarFloatResults : Prop :=
  (∀ (s : State) (die : Fin 8) (lane : Fin 4) (rd ra rb : Fin 64), s.slotFree (.sclFadd die lane rd ra rb) = true →
    Runs (.sclFadd die lane rd ra rb) s (fun t =>
        SclWrote die lane rd 4 ((f32Add (((s.die die).sreg lane ra).setWidth 32)
        (((s.die die).sreg lane rb).setWidth 32)).setWidth 64) s t)) ∧
  (∀ (s : State) (die : Fin 8) (lane : Fin 4) (rd ra rb : Fin 64), s.slotFree (.sclFmul die lane rd ra rb) = true →
    Runs (.sclFmul die lane rd ra rb) s (fun t =>
        SclWrote die lane rd 4 ((f32Mul (((s.die die).sreg lane ra).setWidth 32)
        (((s.die die).sreg lane rb).setWidth 32)).setWidth 64) s t)) ∧
  (∀ (s : State) (die : Fin 8) (lane : Fin 4) (rd ra rb : Fin 64), s.slotFree (.sclFfma die lane rd ra rb) = true →
    Runs (.sclFfma die lane rd ra rb) s (fun t =>
        SclWrote die lane rd 4 ((f32Fma (((s.die die).sreg lane ra).setWidth 32) (((s.die die).sreg lane rb).setWidth 32)
        (((s.die die).sreg lane rd).setWidth 32)).setWidth 64) s t)) ∧
  (∀ (s : State) (die : Fin 8) (lane : Fin 4) (rd ra rb : Fin 64), s.slotFree (.sclFmin die lane rd ra rb) = true →
    Runs (.sclFmin die lane rd ra rb) s (fun t =>
        SclWrote die lane rd 2 ((f32MinMax false (((s.die die).sreg lane ra).setWidth 32)
        (((s.die die).sreg lane rb).setWidth 32)).setWidth 64) s t)) ∧
  (∀ (s : State) (die : Fin 8) (lane : Fin 4) (rd ra rb : Fin 64), s.slotFree (.sclFmax die lane rd ra rb) = true →
    Runs (.sclFmax die lane rd ra rb) s (fun t =>
        SclWrote die lane rd 2 ((f32MinMax true (((s.die die).sreg lane ra).setWidth 32)
        (((s.die die).sreg lane rb).setWidth 32)).setWidth 64) s t)) ∧
  (∀ (s : State) (die : Fin 8) (lane : Fin 4) (rd ra : Fin 64), s.slotFree (.sclItof die lane rd ra) = true →
    Runs (.sclItof die lane rd ra) s (fun t =>
        SclWrote die lane rd 2 ((intToF32 ((s.die die).sreg lane ra)).setWidth 64) s t)) ∧
  (∀ (s : State) (die : Fin 8) (lane : Fin 4) (rd ra : Fin 64), s.slotFree (.sclFtoi die lane rd ra) = true →
      (f32ToIntC (((s.die die).sreg lane ra).setWidth 32)).sat = false →
      (f32ToIntC (((s.die die).sreg lane ra).setWidth 32)).nan = false →
    Runs (.sclFtoi die lane rd ra) s (fun t =>
        SclWrote die lane rd 2 (BitVec.ofNat 64 (f32ToIntC (((s.die die).sreg lane ra).setWidth 32)).bits) s t)) ∧
  (∀ (s : State) (die : Fin 8) (lane : Fin 4) (rd ra : Fin 64), s.slotFree (.sclFtoi die lane rd ra) = true →
      (f32ToIntC (((s.die die).sreg lane ra).setWidth 32)).sat = true → s.bit .CDC_FMT_CNT_CTRL_FREEZE die = false →
    Runs (.sclFtoi die lane rd ra) s (fun t =>
        t = (((s.slotGo die).fmtCount die .CDC_CONV_SAT_COUNT 1).modDie die (fun x =>
        x.sclWrite lane rd (BitVec.ofNat 64 (f32ToIntC (((s.die die).sreg lane ra).setWidth 32)).bits) 2)).laneTaken die lane
        ∧ (t.die die).sreg lane rd = BitVec.ofNat 64 (f32ToIntC (((s.die die).sreg lane ra).setWidth 32)).bits ∧
        t.get .CDC_CONV_SAT_COUNT die = min (s.get .CDC_CONV_SAT_COUNT die + 1) (2 ^ 32 - 1))) ∧
  (∀ (s : State) (die : Fin 8) (lane : Fin 4) (rd ra : Fin 64), s.slotFree (.sclFtoi die lane rd ra) = true →
      (f32ToIntC (((s.die die).sreg lane ra).setWidth 32)).nan = true → s.bit .CDC_FMT_CNT_CTRL_FREEZE die = false →
    Runs (.sclFtoi die lane rd ra) s (fun t =>
        t = (((s.slotGo die).fmtCount die .CDC_CONV_NAN_COUNT 1).modDie die (fun x =>
        x.sclWrite lane rd (0#64) 2)).laneTaken die lane ∧ (t.die die).sreg lane rd = 0#64 ∧
        t.get .CDC_CONV_NAN_COUNT die = min (s.get .CDC_CONV_NAN_COUNT die + 1) (2 ^ 32 - 1))) ∧
  (∀ (s : State) (die : Fin 8) (lane : Fin 4) (rd ra : Fin 64), s.slotFree (.sclFtoi die lane rd ra) = true →
      (f32ToIntC (((s.die die).sreg lane ra).setWidth 32)).sat =
      true ∨ (f32ToIntC (((s.die die).sreg lane ra).setWidth 32)).nan = true → s.bit .CDC_FMT_CNT_CTRL_FREEZE die = true →
    Runs (.sclFtoi die lane rd ra) s (fun t =>
        SclWrote die lane rd 2 (BitVec.ofNat 64 (f32ToIntC (((s.die die).sreg lane ra).setWidth 32)).bits) s t))

/-- R94, R106, R156, R172, Table 6-7: memory operations of the scalar lanes. -/
def Obligations.ScalarMemoryAccesses : Prop :=
  (∀ (s : State) (die : Fin 8) (lane : Fin 4) (rd ra rb : Fin 64), s.slotFree (.sclLdp die lane rd ra rb) = true →
    Runs (.sclLdp die lane rd ra rb) s (fun t =>
        SclWrote die lane rd 6 (BitVec.ofNat 64 (ofLe (s.bytes (poolBase die +
        ((s.die die).sreg lane ra + (s.die die).sreg lane rb).toNat) 8))) s t)) ∧
  (∀ (s : State) (die : Fin 8) (lane : Fin 4) (rd ra rb : Fin 64), s.slotFree (.sclStp die lane rd ra rb) = true →
    Runs (.sclStp die lane rd ra rb) s (fun t =>
        t.bytes (poolBase die + ((s.die die).sreg lane ra + (s.die die).sreg lane rb).toNat) 8 =
        toLe ((s.die die).sreg lane rd).toNat 8 ∧ t = { (s.slotGo die).laneTaken die lane with mem := t.mem } ∧
        MemOutside (poolBase die + ((s.die die).sreg lane ra + (s.die die).sreg lane rb).toNat) 8 s t)) ∧
  (∀ (s : State) (die : Fin 8) (lane : Fin 4) (rd ra rb : Fin 64), s.slotFree (.sclLdt die lane rd ra rb) = true →
    Runs (.sclLdt die lane rd ra rb) s (fun t =>
        t = ((s.slotGo die).modDie die (fun x =>
        { x with ext := x.ext ++ [⟨((s.die die).sreg lane ra + (s.die die).sreg lane rb).toNat / 2 ^ 21, ((s.die die).sreg lane ra + (s.die die).sreg lane rb).toNat % 2 ^ 21, .ldt lane rd, 0⟩] })).laneTaken
        die lane)) ∧
  (∀ (s : State) (die : Fin 8) (lane : Fin 4) (rd ra rb : Fin 64), s.slotFree (.sclStt die lane rd ra rb) = true →
    Runs (.sclStt die lane rd ra rb) s (fun t =>
        t = ((s.slotGo die).modDie die (fun x =>
        { x with ext := x.ext ++ [⟨((s.die die).sreg lane ra + (s.die die).sreg lane rb).toNat / 2 ^ 21, ((s.die die).sreg lane ra + (s.die die).sreg lane rb).toNat % 2 ^ 21, .stt ((s.die die).sreg lane rd).toNat, 0⟩] })).laneTaken
        die lane)) ∧
  (∀ (s : State) (die : Fin 8) (e : ExtAcc) (es : List ExtAcc) (v : Nat), (s.die die).ext = e :: es → e.work = .stt v →
      s.bit .CDC_CNT_CTRL_FREEZE die = false →
    Runs (.extAccessForced die []) s (fun t => t.bytes (tileBase die e.tile + e.addr) 8 = toLe v 8 ∧
        (t.die die) = { s.die die with ext := es } ∧
        t.get .CDC_CONFLICT_STALL_COUNT die = min (s.get .CDC_CONFLICT_STALL_COUNT die + 1) (2 ^ 32 - 1) ∧
        t.get .CDC_EXT_WAIT_COUNT die = min (s.get .CDC_EXT_WAIT_COUNT die + 1) (2 ^ 32 - 1) ∧
        MemOutside (tileBase die e.tile + e.addr) 8 s t ∧
        SameRegs [.CDC_CONFLICT_STALL_COUNT, .CDC_EXT_WAIT_COUNT, .CDC_ENABLED_COUNT] s t)) ∧
  (∀ (s : State) (die : Fin 8) (e : ExtAcc) (es : List ExtAcc) (lane rd : Nat), (s.die die).ext = e :: es →
      e.work = .ldt lane rd →
    Runs (.extAccessForced die []) s (fun t =>
        (t.die die) = { s.die die with ext := es, ldts := (s.die die).ldts ++ [⟨lane, rd, ofLe (s.bytes (tileBase die e.tile + e.addr) 8), 4⟩] }
        ∧ SameMem s t ∧ SameRegs [.CDC_CONFLICT_STALL_COUNT, .CDC_EXT_WAIT_COUNT, .CDC_ENABLED_COUNT] s t)) ∧
  (∀ (s : State) (die : Fin 8) (errs : List WordErr), (s.die die).ext = [] →
    Runs (.extAccessForced die errs) s (fun t => t = s)) ∧
  (∀ (s : State) (die : Fin 8) (l : LdtDone) (ls : List LdtDone), (s.die die).ldts = l :: ls →
    Runs (.ldtResult die []) s (fun t => t =
        s.modDie die (fun x => { x.setSreg l.lane l.rd (BitVec.ofNat 64 l.value) with ldts := ls }) ∧
        (t.die die).sreg l.lane l.rd = BitVec.ofNat 64 l.value)) ∧
  (∀ (s : State) (die : Fin 8) (e : ExtAcc) (lane rd : Nat), (s.die die).ldts = [] → (s.die die).ext = [e] →
      e.work = .ldt lane rd →
    Runs (.ldtResult die []) s (fun t => (t.die die).sreg lane rd =
        BitVec.ofNat 64 (ofLe (s.bytes (tileBase die e.tile + e.addr) 8)) ∧ (t.die die).ext = [] ∧ (t.die die).ldts = [] ∧
        SameMem s t ∧ SameRegs [] s t)) ∧
  (∀ (s : State) (die : Fin 8), (s.die die).ldts = [] → (s.die die).ext = [] → Runs (.ldtResult die []) s (fun t => t = s)) ∧
  (∀ (s : State) (die : Fin 8) (lane : Fin 4) (rd ra rb : Fin 64), ((s.die die).sreg lane ra + (s.die die).sreg lane rb).toNat % 8 ≠ 0 →
    ∀ c ∈ [Instr.sclLdp die lane rd ra rb, .sclStp die lane rd ra rb, .sclLdt die lane rd ra rb, .sclStt die lane rd ra rb],
      (s.slotNeed c).map (·.code) = some 6) ∧
  (∀ (s : State) (die : Fin 8) (lane : Fin 4) (rd ra rb : Fin 64),
    (96 - (s.die die).overflowMib) * MiB < ((s.die die).sreg lane ra + (s.die die).sreg lane rb).toNat + 8 →
    ∀ c ∈ [Instr.sclLdp die lane rd ra rb, .sclStp die lane rd ra rb], (s.slotNeed c).map (·.code) = some 6) ∧
  (∀ (s : State) (die : Fin 8) (lane : Fin 4) (rd ra rb : Fin 64), 96 * 2 ^ 21 ≤ ((s.die die).sreg lane ra + (s.die die).sreg lane rb).toNat →
    ∀ c ∈ [Instr.sclLdt die lane rd ra rb, .sclStt die lane rd ra rb], (s.slotNeed c).map (·.code) = some 6)

/-- R88, R89, R151 to R154, R169, R172, Tables 6-5 and 6-13: MAT operations. R91, R95, R155, R166, R223, Tables 6-5 and 6-6: VEC and RTE operations. -/
def Obligations.GangOperationsAreLaidDown : Prop :=
  (∀ (s : State) (die : Fin 8) (g : Fin 128) (desc : Fin 4096) (rep : Fin 256), s.slotFree (.matWload die g desc rep) = true →
    Runs (.matWload die g desc rep) s (fun t =>
        Launched die 1 0 g (advEntry 1 (s.opEntry die desc) rep)
        (matSpan (s.die die) 0 g (advEntry 1 (s.opEntry die desc) rep))
        ((s.die die).matTakes 0 g (eBuf (s.opEntry die desc) rep) (advEntry 1 (s.opEntry die desc) rep)) s t ∧
        (∀ w ∈ (t.die die).idleWin, w.1 ≠ g.val))) ∧
  (∀ (s : State) (die : Fin 8) (g : Fin 128) (desc : Fin 4096) (rep : Fin 256), s.slotFree (.matWpass die g desc rep) = true →
    Runs (.matWpass die g desc rep) s (fun t =>
        Launched die 1 1 g (advEntry 1 (s.opEntry die desc) rep)
        (matSpan (s.die die) 1 g (advEntry 1 (s.opEntry die desc) rep))
        ((s.die die).matTakes 1 g (eBuf (s.opEntry die desc) rep) (advEntry 1 (s.opEntry die desc) rep)) s t ∧
        (∀ w ∈ (t.die die).idleWin, w.1 ≠ g.val))) ∧
  (∀ (s : State) (die : Fin 8) (g : Fin 128) (desc : Fin 4096) (rep : Fin 256),
      s.slotFree (.matWpassa die g desc rep) = true →
    Runs (.matWpassa die g desc rep) s (fun t =>
        Launched die 1 2 g (advEntry 1 (s.opEntry die desc) rep)
        (matSpan (s.die die) 2 g (advEntry 1 (s.opEntry die desc) rep))
        ((s.die die).matTakes 2 g (eBuf (s.opEntry die desc) rep) (advEntry 1 (s.opEntry die desc) rep)) s t ∧
        (∀ w ∈ (t.die die).idleWin, w.1 ≠ g.val))) ∧
  (∀ (s : State) (die : Fin 8) (g : Fin 128) (desc : Fin 4096) (rep : Fin 256), s.slotFree (.matOsacc die g desc rep) = true →
    Runs (.matOsacc die g desc rep) s (fun t =>
        Launched die 1 3 g (advEntry 1 (s.opEntry die desc) rep)
        (matSpan (s.die die) 3 g (advEntry 1 (s.opEntry die desc) rep))
        ((s.die die).matTakes 3 g (eBuf (s.opEntry die desc) rep) (advEntry 1 (s.opEntry die desc) rep)) s t ∧
        (∀ w ∈ (t.die die).idleWin, w.1 ≠ g.val))) ∧
  (∀ (s : State) (die : Fin 8) (g : Fin 128) (desc : Fin 4096) (rep : Fin 256),
      s.slotFree (.matOsacca die g desc rep) = true →
    Runs (.matOsacca die g desc rep) s (fun t =>
        Launched die 1 4 g (advEntry 1 (s.opEntry die desc) rep)
        (matSpan (s.die die) 4 g (advEntry 1 (s.opEntry die desc) rep))
        ((s.die die).matTakes 4 g (eBuf (s.opEntry die desc) rep) (advEntry 1 (s.opEntry die desc) rep)) s t ∧
        (∀ w ∈ (t.die die).idleWin, w.1 ≠ g.val))) ∧
  (∀ (s : State) (die : Fin 8) (g : Fin 128) (desc : Fin 4096) (rep : Fin 256),
      s.slotFree (.matOsdrain die g desc rep) = true →
    Runs (.matOsdrain die g desc rep) s (fun t =>
        Launched die 1 5 g (advEntry 1 (s.opEntry die desc) rep)
        (matSpan (s.die die) 5 g (advEntry 1 (s.opEntry die desc) rep))
        ((s.die die).matTakes 5 g (eBuf (s.opEntry die desc) rep) (advEntry 1 (s.opEntry die desc) rep)) s t ∧
        (∀ w ∈ (t.die die).idleWin, w.1 ≠ g.val))) ∧
  (∀ (s : State) (die : Fin 8) (g : Fin 128) (desc : Fin 4096), s.slotFree (.matIdle die g desc) = true → desc.val ≠ 0 →
    Runs (.matIdle die g desc) s (fun t =>
        t = (s.slotGo die).modDie die (fun x =>
        { x with idleWin := (g.val, x.cycle + 16 * desc.val, 16 * desc.val) :: x.idleWin.filter (fun w => !(w.1 == g.val)) }))) ∧
  (∀ (s : State) (die : Fin 8) (g : Fin 128) (desc : Fin 4096), s.slotFree (.matIdle die g desc) = true → desc.val = 0 →
    Runs (.matIdle die g desc) s (fun t => t = s.slotGo die)) ∧
  (∀ (s : State) (die : Fin 8) (g : Fin 128) (desc : Fin 4096) (rep : Fin 256), s.slotFree (.vecVld die g desc rep) = true →
    Runs (.vecVld die g desc rep) s (fun t =>
        Launched die 2 0 g (advEntry 2 (s.opEntry die desc) rep) (vecOcc 0 (advEntry 2 (s.opEntry die desc) rep) +
        vecLat 0 (advEntry 2 (s.opEntry die desc) rep) - 1) [(g, 4, 0, vecOcc 0 (advEntry 2 (s.opEntry die desc) rep))] s t ∧
        (t.die die).gathers = (s.die die).gathers)) ∧
  (∀ (s : State) (die : Fin 8) (g : Fin 128) (desc : Fin 4096) (rep : Fin 256), s.slotFree (.vecVst die g desc rep) = true →
    Runs (.vecVst die g desc rep) s (fun t =>
        Launched die 2 1 g (advEntry 2 (s.opEntry die desc) rep) (vecOcc 1 (advEntry 2 (s.opEntry die desc) rep) +
        vecLat 1 (advEntry 2 (s.opEntry die desc) rep) - 1) [(g, 4, 0, vecOcc 1 (advEntry 2 (s.opEntry die desc) rep))] s t ∧
        (t.die die).gathers = (s.die die).gathers)) ∧
  (∀ (s : State) (die : Fin 8) (g : Fin 128) (desc : Fin 4096) (rep : Fin 256), s.slotFree (.vecValu die g desc rep) = true →
    Runs (.vecValu die g desc rep) s (fun t =>
        Launched die 2 2 g (advEntry 2 (s.opEntry die desc) rep) (vecOcc 2 (advEntry 2 (s.opEntry die desc) rep) +
        vecLat 2 (advEntry 2 (s.opEntry die desc) rep) - 1) [(g, 4, 0, vecOcc 2 (advEntry 2 (s.opEntry die desc) rep))] s t ∧
        (t.die die).gathers = (s.die die).gathers)) ∧
  (∀ (s : State) (die : Fin 8) (g : Fin 128) (desc : Fin 4096) (rep : Fin 256), s.slotFree (.vecVsfu die g desc rep) = true →
    Runs (.vecVsfu die g desc rep) s (fun t =>
        Launched die 2 3 g (advEntry 2 (s.opEntry die desc) rep) (vecOcc 3 (advEntry 2 (s.opEntry die desc) rep) +
        vecLat 3 (advEntry 2 (s.opEntry die desc) rep) - 1) [(g, 4, 0, vecOcc 3 (advEntry 2 (s.opEntry die desc) rep))] s t ∧
        (t.die die).gathers = (s.die die).gathers)) ∧
  (∀ (s : State) (die : Fin 8) (g : Fin 128) (desc : Fin 4096) (rep : Fin 256), s.slotFree (.vecVcvt die g desc rep) = true →
    Runs (.vecVcvt die g desc rep) s (fun t =>
        Launched die 2 4 g (advEntry 2 (s.opEntry die desc) rep) (vecOcc 4 (advEntry 2 (s.opEntry die desc) rep) +
        vecLat 4 (advEntry 2 (s.opEntry die desc) rep) - 1) [(g, 4, 0, vecOcc 4 (advEntry 2 (s.opEntry die desc) rep))] s t ∧
        (t.die die).gathers = (s.die die).gathers)) ∧
  (∀ (s : State) (die : Fin 8) (g : Fin 128) (desc : Fin 4096) (rep : Fin 256),
      s.slotFree (.vecVcvtmx die g desc rep) = true →
    Runs (.vecVcvtmx die g desc rep) s (fun t =>
        Launched die 2 5 g (advEntry 2 (s.opEntry die desc) rep) (vecOcc 5 (advEntry 2 (s.opEntry die desc) rep) +
        vecLat 5 (advEntry 2 (s.opEntry die desc) rep) - 1) [(g, 4, 0, vecOcc 5 (advEntry 2 (s.opEntry die desc) rep))] s t ∧
        (t.die die).gathers = (s.die die).gathers)) ∧
  (∀ (s : State) (die : Fin 8) (g : Fin 128) (desc : Fin 4096) (rep : Fin 256),
      s.slotFree (.vecVgather die g desc rep) = true →
    Runs (.vecVgather die g desc rep) s (fun t =>
        Launched die 2 6 g (advEntry 2 (s.opEntry die desc) rep) (vecOcc 6 (advEntry 2 (s.opEntry die desc) rep) +
        vecLat 6 (advEntry 2 (s.opEntry die desc) rep) - 1) [(g, 4, 0, vecOcc 6 (advEntry 2 (s.opEntry die desc) rep))] s t ∧
        (t.die die).nextGather = (s.die die).nextGather + 1 ∧ (t.die die).gathers.length = (s.die die).gathers.length + 1 ∧
        (t.die die).gathers.getLast?.any (fun y =>
        y.id == (s.die die).nextGather && y.scatter == false && y.tally == vTally (advEntry 2 (s.opEntry die desc) rep) &&
        y.rows.length == s.rowsOf die g (s.opEntry die desc)) = true)) ∧
  (∀ (s : State) (die : Fin 8) (g : Fin 128) (desc : Fin 4096) (rep : Fin 256),
      s.slotFree (.vecVscatter die g desc rep) = true →
    Runs (.vecVscatter die g desc rep) s (fun t =>
        Launched die 2 7 g (advEntry 2 (s.opEntry die desc) rep) (vecOcc 7 (advEntry 2 (s.opEntry die desc) rep) +
        vecLat 7 (advEntry 2 (s.opEntry die desc) rep) - 1) [(g, 4, 0, vecOcc 7 (advEntry 2 (s.opEntry die desc) rep))] s t ∧
        (t.die die).nextGather = (s.die die).nextGather + 1 ∧ (t.die die).gathers.length = (s.die die).gathers.length + 1 ∧
        (t.die die).gathers.getLast?.any (fun y =>
        y.id == (s.die die).nextGather && y.scatter == true && y.tally == vTally (advEntry 2 (s.opEntry die desc) rep) &&
        y.rows.length == s.rowsOf die g (s.opEntry die desc)) = true)) ∧
  (∀ (s : State) (die : Fin 8) (g : Fin 128) (desc : Fin 4096) (rep : Fin 256), s.slotFree (.rteRsend die g desc rep) = true →
    Runs (.rteRsend die g desc rep) s (fun t =>
        Launched die 3 0 g (advEntry 3 (s.opEntry die desc) rep) (eCount (advEntry 3 (s.opEntry die desc) rep) +
        6) [(g, 5, nth (advEntry 3 (s.opEntry die desc) rep) 0 % 4, eCount (advEntry 3 (s.opEntry die desc) rep))] s t)) ∧
  (∀ (s : State) (die : Fin 8) (g : Fin 128) (desc : Fin 4096) (rep : Fin 256), (s.die die).gang? g = none →
    ∀ c ∈ [Instr.matWload die g desc rep, .matWpass die g desc rep, .matWpassa die g desc rep, .matOsacc die g desc rep,
      .matOsacca die g desc rep, .matOsdrain die g desc rep, .matIdle die g desc], ∃ n, s.slotNeed c = some n ∧ n.code ≠ 0)

/-- R157 to R162, R216, R232, R272 to R275: tug issues, collectives and hints. -/
def Obligations.TugAndCollectiveSlotsAct : Prop :=
  (∀ (s : State) (die : Fin 8) (tally chan : Fin 16) (desc : Fin 4096) (rep : Fin 256) (q : Fin 8) (g : Fin 32),
      s.slotFree (.tugIssue die tally chan desc rep) = true → s.chanMap die chan = some (q, g) →
      s.inReset (16 + q.val) = false →
    Runs (.tugIssue die tally chan desc rep) s (fun t =>
        t = (s.slotGo die).modDie die (fun x =>
        { x with chans := x.chans ++ [⟨chan, tally, s.opEntry die desc, rep, (s.die die).frameNo, (s.die die).nextTug⟩], nextTug := x.nextTug + 1 }))) ∧
  (∀ (s : State) (die : Fin 8) (tally chan : Fin 16) (desc : Fin 4096) (rep : Fin 256) (q : Fin 8) (g : Fin 32),
      s.slotFree (.tugDefer die tally chan desc rep) = true → s.chanMap die chan = some (q, g) →
      s.inReset (16 + q.val) = false →
    Runs (.tugDefer die tally chan desc rep) s (fun t =>
        t = (s.slotGo die).modDie die (fun x =>
        { x with deferred := x.deferred ++ [⟨chan, tally, s.opEntry die desc, rep, (s.die die).frameNo, (s.die die).nextTug⟩], nextTug := x.nextTug + 1 }))) ∧
  (∀ (s : State) (die : Fin 8) (tally chan : Fin 16) (desc : Fin 4096) (rep : Fin 256) (q : Fin 8) (g : Fin 32),
      s.slotFree (.tugIssue die tally chan desc rep) = true → s.chanMap die chan = some (q, g) →
      s.inReset (16 + q.val) = true → (s.die die).tallies[tally] < 65535 →
    Runs (.tugIssue die tally chan desc rep) s (fun t =>
        (t.die die).tallies = (s.die die).tallies.set tally ((s.die die).tallies[tally] + 1) ∧
        (t.die die).tallyErr = (s.die die).tallyErr ++ [(tally.val, (s.die die).tallies[tally])] ∧
        (t.die die).chans = (s.die die).chans ∧ (t.die die).deferred = (s.die die).deferred ∧
        t.bit .CDC_ERR_SLOT_VALID die = true ∧
        (s.bit .CDC_ERR_SLOT_VALID die = false → t.get .CDC_ERR_SLOT_STATUS die = 0x16) ∧ SameMem s t)) ∧
  (∀ (s : State) (die : Fin 8) (tally chan : Fin 16) (desc : Fin 4096) (rep : Fin 256) (q : Fin 8) (g : Fin 32),
      s.slotFree (.tugDefer die tally chan desc rep) = true → s.chanMap die chan = some (q, g) →
      s.inReset (16 + q.val) = true → (s.die die).tallies[tally] < 65535 →
    Runs (.tugDefer die tally chan desc rep) s (fun t =>
        (t.die die).tallies = (s.die die).tallies.set tally ((s.die die).tallies[tally] + 1) ∧
        (t.die die).tallyErr = (s.die die).tallyErr ++ [(tally.val, (s.die die).tallies[tally])] ∧
        (t.die die).chans = (s.die die).chans ∧ (t.die die).deferred = (s.die die).deferred ∧
        t.bit .CDC_ERR_SLOT_VALID die = true ∧
        (s.bit .CDC_ERR_SLOT_VALID die = false → t.get .CDC_ERR_SLOT_STATUS die = 0x16) ∧ SameMem s t)) ∧
  (∀ (s : State) (die : Fin 8) (tally chan : Fin 16) (desc : Fin 4096) (rep : Fin 256) (q : Fin 8) (g : Fin 32),
      s.slotFree (.tugIssue die tally chan desc rep) = true → s.chanMap die chan = some (q, g) →
      s.inReset (16 + q.val) = true → 65535 ≤ (s.die die).tallies[tally] →
    Runs (.tugIssue die tally chan desc rep) s (fun t => t.streamState die = 3 ∧ t.get .CDC_FAULT_SLOT_CODE die = 8 ∧
        (t.die die).tallies = (s.die die).tallies ∧ SameMem s t)) ∧
  (∀ (s : State) (die : Fin 8) (handle : Fin 16) (desc : Fin 4096) (rep : Fin 256) (b : Fin 8),
      s.slotFree (.tugColl die handle desc rep) = true → (s.die die).berth = some b →
      collFieldsOk (s.opEntry die desc) = true → s.collGroupOk b (s.opEntry die desc) = true →
      ((∀ q ∈ s.collNeeds (s.opEntry die desc), s.get .NET_QP_CTRL_STATE 0 q ≠ 4 ∧ s.qpLink q = true)) →
    Runs (.tugColl die handle desc rep) s (fun t =>
        t.net = { s.net with colls := s.net.colls ++ [{ die := die, handle := handle, berth := b, group := cGroup (s.opEntry die desc), entry := (s.opEntry die desc), rep := rep, posted := s.now }] }
        ∧ (t.die die).handles = (s.die die).handles ++ [⟨handle, (s.opEntry die desc), rep, none⟩] ∧
        SameRegs [.CDC_STREAM_STATE_STALLED] s t ∧ SameMem s t)) ∧
  (∀ (s : State) (die : Fin 8) (handle : Fin 16) (desc : Fin 4096) (rep : Fin 256),
      s.slotFree (.tugColl die handle desc rep) = true → (s.die die).berth = none →
    Runs (.tugColl die handle desc rep) s (fun t =>
        t = ((s.slotGo die).modDie die (fun x =>
        { x with handles := x.handles ++ [⟨handle, (s.opEntry die desc), rep, none⟩] })).collDone die handle 0x24 ∧
        (t.die die).handles.getLast? = some ⟨handle, (s.opEntry die desc), rep, some 0x24⟩ ∧ t.net = s.net ∧ SameMem s t)) ∧
  (∀ (s : State) (die : Fin 8) (handle : Fin 16) (desc : Fin 4096) (rep : Fin 256) (b : Fin 8),
      s.slotFree (.tugColl die handle desc rep) = true → (s.die die).berth = some b →
      collFieldsOk (s.opEntry die desc) = false ∨ s.collGroupOk b (s.opEntry die desc) = false →
    Runs (.tugColl die handle desc rep) s (fun t =>
        t = ((s.slotGo die).modDie die (fun x =>
        { x with handles := x.handles ++ [⟨handle, (s.opEntry die desc), rep, none⟩] })).collDone die handle 0x24 ∧
        (t.die die).handles.getLast? = some ⟨handle, (s.opEntry die desc), rep, some 0x24⟩ ∧ t.net = s.net ∧ SameMem s t)) ∧
  (∀ (s : State) (die : Fin 8) (handle : Fin 16) (desc : Fin 4096) (rep : Fin 256) (b : Fin 8),
      s.slotFree (.tugColl die handle desc rep) = true → (s.die die).berth = some b →
      collFieldsOk (s.opEntry die desc) = true → s.collGroupOk b (s.opEntry die desc) = true →
      (∃ q ∈ s.collNeeds (s.opEntry die desc), s.get .NET_QP_CTRL_STATE 0 q = 4) →
    Runs (.tugColl die handle desc rep) s (fun t =>
        t = ((s.slotGo die).modDie die (fun x =>
        { x with handles := x.handles ++ [⟨handle, (s.opEntry die desc), rep, none⟩] })).collDone die handle 0x22 ∧
        (t.die die).handles.getLast? = some ⟨handle, (s.opEntry die desc), rep, some 0x22⟩ ∧ t.net = s.net ∧ SameMem s t)) ∧
  (∀ (s : State) (die : Fin 8) (handle : Fin 16) (desc : Fin 4096) (rep : Fin 256) (b : Fin 8),
      s.slotFree (.tugColl die handle desc rep) = true → (s.die die).berth = some b →
      collFieldsOk (s.opEntry die desc) = true → s.collGroupOk b (s.opEntry die desc) = true →
      ((∀ q ∈ s.collNeeds (s.opEntry die desc), s.get .NET_QP_CTRL_STATE 0 q ≠ 4)) →
      (∃ q ∈ s.collNeeds (s.opEntry die desc), s.qpLink q = false) →
    Runs (.tugColl die handle desc rep) s (fun t =>
        t = ((s.slotGo die).modDie die (fun x =>
        { x with handles := x.handles ++ [⟨handle, (s.opEntry die desc), rep, none⟩] })).collDone die handle 0x21 ∧
        (t.die die).handles.getLast? = some ⟨handle, (s.opEntry die desc), rep, some 0x21⟩ ∧ t.net = s.net ∧ SameMem s t)) ∧
  (∀ (s : State) (die : Fin 8) (lead : Fin 4096) (pclass : Fin 8) (id : Fin 256),
      s.slotFree (.hint die lead pclass id) = true → (s.die die).events.length < 64 →
    Runs (.hint die lead pclass id) s (fun t =>
        t = (s.slotGo die).modDie die (fun x => { x with events := x.events ++ [.hint lead pclass id s.timeNs] }))) ∧
  (∀ (s : State) (die : Fin 8) (lead : Fin 4096) (pclass : Fin 8) (id : Fin 256),
      s.slotFree (.hint die lead pclass id) = true → 64 ≤ (s.die die).events.length →
      s.bit .CDC_STR_CNT_CTRL_FREEZE die = false →
    Runs (.hint die lead pclass id) s (fun t =>
        t.get .CDC_HINT_DROP_COUNT die = min (s.get .CDC_HINT_DROP_COUNT die + 1) (2 ^ 32 - 1) ∧
        t.dies = (s.slotGo die).dies ∧ SameRegs [.CDC_HINT_DROP_COUNT, .CDC_STREAM_STATE_STALLED] s t)) ∧
  (∀ (s : State) (die : Fin 8) (lead : Fin 4096) (pclass : Fin 8) (id : Fin 256),
      s.slotFree (.hint die lead pclass id) = true → 64 ≤ (s.die die).events.length →
      s.bit .CDC_STR_CNT_CTRL_FREEZE die = true →
    Runs (.hint die lead pclass id) s (fun t => t = s.slotGo die)) ∧
  (∀ (s : State) (die : Fin 8), s.slotFree (.slotNop die) = true → Runs (.slotNop die) s (fun t => t = s.slotGo die)) ∧
  (∀ (s : State) (die : Fin 8) (tally chan : Fin 16) (desc : Fin 4096) (rep : Fin 256), s.chanMap die chan = none →
    ∀ c ∈ [Instr.tugIssue die tally chan desc rep, .tugDefer die tally chan desc rep], (s.slotNeed c).map (·.code) = some 9) ∧
  (∀ (s : State) (die : Fin 8) (handle : Fin 16) (desc : Fin 4096) (rep : Fin 256), (∃ h ∈ (s.die die).handles, h.id = handle.val) →
    (s.slotNeed (.tugColl die handle desc rep)).map (·.code) = some 0xC)

/-- R157 to R164: synchronisation and flow. -/
def Obligations.WaitsStepsAndFlow : Prop :=
  (∀ (s : State) (die : Fin 8), s.slotFree (.syncpt die false 0) = true →
    Runs (.syncpt die false 0) s (fun t => t.get .CDC_STEP_STEP die = (s.get .CDC_STEP_STEP die + 1) % 2 ^ 32 ∧
        (t.die die).events = (s.die die).events ++ [.syncpt (s.get .CDC_STEP_STEP die) s.timeNs] ∧
        (s.dieFrames die = false → (t.die die).deferred = []) ∧ (s.dieFrames die = true → (t.die die).frameDone = true) ∧
        (t.die die).seedPend = false ∧ t.get .CDC_DEMOTE_ACTIVE die = s.get .CDC_DEMOTE_REQ die % 4 ∧
        (s.bit .CDC_STREAM_STATE_PARK_REQ die = true → t.streamState die = 2) ∧ SameMem s t)) ∧
  (∀ (s : State) (die : Fin 8) (r : Fin 64), s.slotFree (.syncpt die true r) = true →
    Runs (.syncpt die true r) s (fun t => t.get .CDC_STEP_STEP die = ((s.die die).sreg 0 r).toNat % 2 ^ 32 ∧
        (t.die die).events = (s.die die).events ++ [.syncpt (s.get .CDC_STEP_STEP die) s.timeNs] ∧
        (s.dieFrames die = false → (t.die die).deferred = []) ∧ (s.dieFrames die = true → (t.die die).frameDone = true) ∧
        (t.die die).seedPend = false ∧ t.get .CDC_DEMOTE_ACTIVE die = s.get .CDC_DEMOTE_REQ die % 4 ∧
        (s.bit .CDC_STREAM_STATE_PARK_REQ die = true → t.streamState die = 2) ∧ SameMem s t)) ∧
  (∀ (s : State) (die : Fin 8) (tally : Fin 16) (n : Fin 4096) (pd : Fin 16), s.slotFree (.syncTwait die tally n pd) = true →
    Runs (.syncTwait die tally n pd) s (fun t =>
        (t.die die).tallies = (s.die die).tallies.set tally ((s.die die).tallies[tally] - n.val) ∧
        (pd.val ≠ 0 → (t.die die).pred pd = !(s.die die).tallyErr.any (fun e => e.1 == tally.val && decide (e.2 < n.val))) ∧
        SameRegs [.CDC_STREAM_STATE_STALLED] s t ∧ SameMem s t)) ∧
  (∀ (s : State) (die : Fin 8) (handle pd : Fin 16) (h : Handle), s.slotFree (.syncCwait die handle pd) = true →
      (s.die die).handles.find? (fun h => h.id == handle.val) = some h →
    Runs (.syncCwait die handle pd) s (fun t => (t.die die).handles = (s.die die).handles.erase h ∧
        (pd.val ≠ 0 → (t.die die).pred pd = h.status.any (fun c => decide (c < 2))) ∧
        SameRegs [.CDC_STREAM_STATE_STALLED] s t ∧ SameMem s t)) ∧
  (∀ (s : State) (die : Fin 8), s.slotFree (.syncFence die) = true → Runs (.syncFence die) s (fun t => t = s.slotGo die)) ∧
  (∀ (s : State) (die : Fin 8) (tally : Fin 16) (v : Fin 4096), s.slotFree (.syncTset die tally v) = true →
    Runs (.syncTset die tally v) s (fun t => (t.die die).tallies = (s.die die).tallies.set tally v.val ∧
        (t.die die).tallyErr = (s.die die).tallyErr.filter (fun e => e.1 != tally.val) ∧
        SameRegs [.CDC_STREAM_STATE_STALLED] s t ∧ SameMem s t)) ∧
  (∀ (s : State) (die : Fin 8) (tgt : Fin 1048576), s.slotFree (.flowBr die tgt) = true →
    Runs (.flowBr die tgt) s (fun t => t.get .CDC_PC_INDEX die = 4 * tgt.val ∧
        (t.die die).fetchStall = (s.die die).fetchStall + (if 4 * tgt.val < 258048 then 3 else 23) ∧
        SameRegs [.CDC_STREAM_STATE_STALLED, .CDC_PC_INDEX] s t ∧ SameMem s t)) ∧
  (∀ (s : State) (die : Fin 8) (j : Fin 4) (tgt : Fin 1048576), s.slotFree (.flowLoop die j tgt) = true →
      (s.die die).loops[j] ≠ 0#32 → (s.die die).loops[j] ≠ 1#32 →
    Runs (.flowLoop die j tgt) s (fun t => t.get .CDC_PC_INDEX die = 4 * tgt.val ∧
        (t.die die).fetchStall = (s.die die).fetchStall + (if 4 * tgt.val < 258048 then 3 else 23) ∧
        (t.die die).loops = (s.die die).loops.set j ((s.die die).loops[j] - 1#32) ∧
        SameRegs [.CDC_STREAM_STATE_STALLED, .CDC_PC_INDEX] s t ∧ SameMem s t)) ∧
  (∀ (s : State) (die : Fin 8) (j : Fin 4) (tgt : Fin 1048576), s.slotFree (.flowLoop die j tgt) = true →
      (s.die die).loops[j] = 1#32 →
    Runs (.flowLoop die j tgt) s (fun t => t.get .CDC_PC_INDEX die = (s.get .CDC_PC_INDEX die + 1) % 2 ^ 22 ∧
        (t.die die).loops = (s.die die).loops.set j 0#32 ∧ SameRegs [.CDC_STREAM_STATE_STALLED, .CDC_PC_INDEX] s t ∧
        SameMem s t)) ∧
  (∀ (s : State) (die : Fin 8) (j : Fin 4) (tgt : Fin 1048576), s.slotFree (.flowLoop die j tgt) = true →
      (s.die die).loops[j] = 0#32 →
    Runs (.flowLoop die j tgt) s (fun t => t.get .CDC_PC_INDEX die = (s.get .CDC_PC_INDEX die + 1) % 2 ^ 22 ∧
        t.dies = (s.slotGo die).dies ∧ SameRegs [.CDC_STREAM_STATE_STALLED, .CDC_PC_INDEX] s t ∧ SameMem s t)) ∧
  (∀ (s : State) (die : Fin 8), s.slotFree (.flowHalt die) = true →
    Runs (.flowHalt die) s (fun t => t.get .CDC_PC_INDEX die = (s.get .CDC_PC_INDEX die + 1) % 2 ^ 22 ∧
        (t.die die).ended = true ∧ SameRegs [.CDC_STREAM_STATE_STALLED, .CDC_PC_INDEX] s t ∧ SameMem s t)) ∧
  (∀ (s : State) (die : Fin 8), (s.die die).ended = true →
      (s.die die).taken.all (fun x => decide (x.until_ ≤ (s.die die).cycle)) = true →
    Runs (.streamHalted die) s (fun t => t.streamState die = 0 ∧ (t.die die).ended = false ∧
        SameRegs [.CDC_STREAM_STATE_STATE, .CDC_STREAM_STATE_STALLED, .CDC_STREAM_STATE_FRAME_WAIT] s t ∧ SameMem s t)) ∧
  (∀ (s : State) (die : Fin 8), (s.die die).ended =
      false ∨ (s.die die).taken.any (fun x => decide ((s.die die).cycle < x.until_)) = true →
    Runs (.streamHalted die) s (fun t => t = s)) ∧
  (∀ (s : State) (die : Fin 8) (tgt : Fin 1048576) (j : Fin 4), (s.die die).lastBundle < 4 * tgt.val →
    ∀ c ∈ [Instr.flowBr die tgt, .flowLoop die j tgt], (s.slotNeed c).map (·.code) = some 7) ∧
  (∀ (s : State) (die : Fin 8) (handle pd : Fin 16), (∀ h ∈ (s.die die).handles, h.id ≠ handle.val) →
    (s.slotNeed (.syncCwait die handle pd)).map (·.code) = some 0xC)

/-- R10, R144, R145, R171, R328: stream control and issue. -/
def Obligations.StreamControlAndIssue : Prop :=
  (∀ (s : State) (src : Source) (die : Fin 8), s.right src = .owner → s.inReset (8 + die.val) = false →
      s.commitMask (·.dieMask) die = false → (s.die die).image.isSome = true → s.dieHeld die = false →
      s.streamState die = 0 ∨ s.streamState die = 3 →
    Runs (.cdcStreamStart src die) s (fun t => t.running die = true ∧
        t.get .CDC_STEP_STEP die = s.get .CDC_STEP_INIT_STEP die % 2 ^ 32 ∧
        t.get .CDC_PC_INDEX die = s.get .CDC_STREAM_ENTRY_INDEX die % 2 ^ 22 ∧ Answered src 0 s t ∧ SameMem s t)) ∧
  (∀ (s : State) (src : Source) (die : Fin 8), s.right src = .owner → s.inReset (8 + die.val) = false →
      s.commitMask (·.dieMask) die = false →
      (s.die die).image = none ∨ s.dieHeld die = true ∨ s.streamState die = 1 ∨ s.streamState die = 2 →
    Runs (.cdcStreamStart src die) s (fun t => t.get .CDC_STATUS_LOCK_ERR die = 1 ∧ t.dies = s.dies ∧ Answered src 4 s t ∧
        SameRegs [.CDC_STATUS_LOCK_ERR] s t)) ∧
  (∀ (s : State) (src : Source) (die : Fin 8), s.right src = .owner → s.inReset (8 + die.val) = false →
      s.running die = true → (s.die die).inIssue = false →
    Runs (.cdcStreamStop src die) s (fun t => t.streamState die = 0 ∧ Answered src 0 s t ∧
        SameRegs [.CDC_STREAM_STATE_STATE, .CDC_STREAM_STATE_STALLED, .CDC_STREAM_STATE_FRAME_WAIT] s t ∧ SameMem s t)) ∧
  (∀ (s : State) (src : Source) (die : Fin 8), s.right src = .owner → s.inReset (8 + die.val) = false →
      s.running die = true → (s.die die).inIssue = true →
    Runs (.cdcStreamStop src die) s (fun t => t.running die = true ∧ (t.die die).stopAfter = true ∧ Answered src 0 s t ∧
        SameRegs [] s t ∧ SameMem s t)) ∧
  (∀ (s : State) (src : Source) (die : Fin 8), s.right src = .owner → s.inReset (8 + die.val) = false →
      s.running die = false →
    Runs (.cdcStreamStop src die) s (fun t => t = s.out (.access src 0 0))) ∧
  (∀ (s : State) (src : Source) (die : Fin 8), s.right src = .owner → s.inReset (8 + die.val) = false →
      s.streamState die = 2 → s.dieHeld die = false →
    Runs (.cdcStreamResume src die) s (fun t => t.running die = true ∧ Answered src 0 s t ∧
        SameRegs [.CDC_STREAM_STATE_STATE, .CDC_STREAM_STATE_STALLED, .CDC_STREAM_STATE_FRAME_WAIT] s t ∧ SameMem s t)) ∧
  (∀ (s : State) (src : Source) (die : Fin 8), s.right src = .owner → s.inReset (8 + die.val) = false → s.dieHeld die = true →
    Runs (.cdcStreamResume src die) s (fun t => t.get .CDC_STATUS_LOCK_ERR die = 1 ∧ t.dies = s.dies ∧ Answered src 4 s t ∧
        SameRegs [.CDC_STATUS_LOCK_ERR] s t)) ∧
  (∀ (s : State) (src : Source) (die : Fin 8), s.right src = .owner → s.inReset (8 + die.val) = false →
      s.streamState die ≠ 2 → s.dieHeld die = false →
    Runs (.cdcStreamResume src die) s (fun t => t.dies = s.dies ∧ Answered src 0 s t ∧ SameRegs [] s t ∧ SameMem s t)) ∧
  (∀ (s : State) (die : Fin 8) (n : Nat), s.inReset (8 + die.val) = false → s.running die = true →
      (s.die die).ended = false → (s.die die).restoring = false → s.dieFrames die = false → s.get .CDC_PC_INDEX die = n →
      n ≤ (s.die die).lastBundle → (s.die die).fetchStall = 0 → (s.die die).inIssue = false → (s.die die).rep = 0 →
      (s.die die).slotFrom = 0 → (s.die die).parkAfter = false → (s.die die).rateAfter = false → (s.die die).flights = [] →
      (s.die die).ext = [] → (s.die die).ldts = [] → s.bytes (bundleAddr die (s.die die).overflowMib n) 4 = [0, 0, 0, 0] →
    Runs (.bundleIssue die []) s (fun t => t.get .CDC_PC_INDEX die = (n + 1) % 2 ^ 22 ∧
        (t.die die).cycle = (s.die die).cycle + 1 ∧ SameMem s t)) ∧
  (∀ (s : State) (die : Fin 8) (e : List WordErr), s.inReset (8 + die.val) = true →
    Runs (.bundleIssue die e) s (fun t => t = s)) ∧
  (∀ (s : State) (die : Fin 8), s.inReset (8 + die.val) = false → s.running die = false → (s.die die).flights = [] →
      (s.die die).ext = [] → (s.die die).ldts = [] →
    Runs (.bundleIssue die []) s (fun t => t = s))

/-- R27, R167, R170, R306, R307: frames and rate changes. -/
def Obligations.FramesDutyAndRateChanges : Prop :=
  (∀ (s : State) (b : Fin 8), s.framesOn b = true →
      (s.berthDies b).all (fun d => !(s.die d).restoring && (!s.running d || (s.die d).frameDone)) = true →
    Runs (.frameBoundary b) s (fun t => (∀ d ∈ s.berthDies b, (t.die d).frameNo = (s.die d).frameNo + 1 ∧
        (t.die d).frameDone = false ∧ (t.die d).deferred = [] ∧ (t.die d).snapshot = some (s.snap d)) ∧ SameMem s t ∧
        SameRegs [.CDC_STREAM_STATE_FRAME_WAIT] s t)) ∧
  (∀ (s : State) (b : Fin 8), s.framesOn b = true → (s.berthDies b).all (fun d => !(s.die d).restoring) = true →
      (s.berthDies b).any (fun d => s.running d && !(s.die d).frameDone) = true →
    Runs (.frameBoundary b) s (fun t => (t.berth b).loopWait = true ∧
        (∀ d ∈ s.berthDies b, (t.die d).restoring = true ∧ (t.die d).deferred = []))) ∧
  (∀ (s : State) (b : Fin 8), s.framesOn b = false ∨ (s.berthDies b).any (fun d => (s.die d).restoring) = true →
    Runs (.frameBoundary b) s (fun t => t = s)) ∧
  (∀ (s : State) (b : Fin 8), (s.berth b).loopWait = true →
    Runs (.frameRestored b) s (fun t => (t.berth b).loopWait = false ∧
        (∀ d ∈ s.berthDies b, (t.die d).restoring = false ∧ (t.die d).frameNo = (s.die d).frameNo + 1))) ∧
  (∀ (s : State) (b d : Fin 8) (n : Snapshot), (s.berth b).loopWait = true → d ∈ s.berthDies b → (s.die d).restoring = true →
      (s.die d).snapshot = some n → (s.berthDies b).all (fun e => !(s.die e).unitsBusy) = true →
    Runs (.frameRestored b) s (fun t => t.get .CDC_PC_INDEX d = n.pc % 2 ^ 22 ∧ t.get .CDC_STEP_STEP d = n.step % 2 ^ 32 ∧
        (t.die d).scalars = n.scalars ∧ (t.die d).preds = n.preds ∧ (t.die d).loops = n.loops ∧
        (t.die d).tallies = n.tallies ∧ SameMem s t)) ∧
  (∀ (s : State) (b : Fin 8), (s.berth b).loopWait = false → Runs (.frameRestored b) s (fun t => t = s)) ∧
  (∀ (s : State) (d : Fin 8), s.inReset (8 + d.val) = false →
    Runs (.pacingDutyChange d) s (fun t => t.get .CDC_PACE_DUTY d = (s.die d).askedDuty % 8 ∧ SameRegs [.CDC_PACE_DUTY] s t ∧
        SameMem s t)) ∧
  (∀ (s : State) (d : Fin 8), s.inReset (8 + d.val) = true → Runs (.pacingDutyChange d) s (fun t => t = s)) ∧
  (∀ (s : State) (d : Fin 8) (p : RatePending), (s.die d).ratePend = some p →
    Runs (.standbyPllLocked d) s (fun t => t = s.modDie d (fun x => { x with standbyLocked := some (baseCode p.code) }))) ∧
  (∀ (s : State) (d : Fin 8), (s.die d).ratePend = none → Runs (.standbyPllLocked d) s (fun t => t = s)) ∧
  (∀ (s : State) (d : Fin 8) (p : RatePending), (s.die d).ratePend = some p →
    Runs (.vcRampDone d) s (fun t => t = s.modDie d (fun x => { x with rampedTo := some (baseCode p.code) }))) ∧
  (∀ (s : State) (d : Fin 8), (s.die d).ratePend = none → Runs (.vcRampDone d) s (fun t => t = s)) ∧
  (∀ (s : State) (d : Fin 8) (p : RatePending), (s.die d).ratePend = some p → s.running d = false →
      s.inReset (8 + d.val) = false → p.origin + 200 * us ≤ s.now → s.engineUp = true →
    Runs (.pendingTakenStopped d) s (fun t => (t.die d).code = p.code ∧ (t.die d).duDomain = dutyOf p.code ∧
        (t.die d).ratePend = none ∧ SameMem s t)) ∧
  (∀ (s : State) (d : Fin 8), s.running d = true ∨ s.inReset (8 + d.val) = true ∨ s.rateAged d = false ∨ s.engineUp = false →
    Runs (.pendingTakenStopped d) s (fun t => t = s))

/-- R216, R218 to R223, R252, R158: tugs, gathers and their timeouts. -/
def Obligations.TugsAndGathersComplete : Prop :=
  (∀ (s : State) (q : Fin 8) (g : Fin 32) (i : Nat) (c : TugIssue) (b : Fin 8), s.inReset (16 + q.val) = false →
      s.tugNext q g = some (i, c) → s.tugOwner q g = some b →
    Runs (.tugDescriptorStart q g) s (fun t => (t.quay q).tugs[g].runs.length = (s.quay q).tugs[g].runs.length + 1 ∧
        (t.quay q).tugs[g].runs.getLast?.any (fun r =>
        r.die == Fin.ofNat 8 (i / 16) && r.issue == c && r.codes == s.tugCheck b c && r.num == (s.quay q).tugs[g].nextRun) =
        true ∧ (t.quay q).tugs[g].lastChan = i ∧ (t.quay q).tugs[g].nextRun = (s.quay q).tugs[g].nextRun + 1 ∧
        t.dies = s.dies ∧ SameRegs [.QDC_TUG_OUT_MAX_PEAK] s t ∧ SameMem s t)) ∧
  (∀ (s : State) (q : Fin 8) (g : Fin 32), s.inReset (16 + q.val) = true ∨ s.tugNext q g = none ∨ s.tugOwner q g = none →
    Runs (.tugDescriptorStart q g) s (fun t => t = s)) ∧
  (∀ (s : State) (q : Fin 8) (g : Fin 32) (r : TugRun) (rs : List TugRun) (b : Fin 8) (errs : List WordErr) (k o : Nat),
      (s.quay q).tugs[g].runs = r :: rs → ((∀ x ∈ rs, x.num ≠ r.num)) → s.tugOwner q g = some b → r.codes = [] →
      tOp r.issue.entry = 1 → tRows r.issue.entry = 1 →
      s.translate b (tDst r.issue.entry r.issue.rep 0) (tLines r.issue.entry * 64) = some (.scratch k o) → k = q.val →
      s.inReset (16 + q.val) = false → ((∀ p ∈ s.fwy.packets, p.req = .tug q g r.num → p.code = 0 ∧ p.hops = [])) →
      (s.die r.die).tallies[Fin.ofNat 16 r.issue.tally] < 65535 →
    Runs (.tugCompletion q g errs) s (fun t =>
        (∀ x, x < (tLines r.issue.entry * 64) →
        t.byte (scratchBase k b + o + x) = BitVec.ofNat 8 (nth r.issue.entry 2 / 256 ^ (x % 4))) ∧
        (t.quay q).tugs[g].runs = rs ∧ (t.die r.die).chans =
        (s.die r.die).chans.filter (fun c => !(c.chan == r.issue.chan && c.seq == r.issue.seq)) ∧
        (t.die r.die).tallies = (s.die r.die).tallies.set (Fin.ofNat 16 r.issue.tally)
        ((s.die r.die).tallies[Fin.ofNat 16 r.issue.tally] + 1) ∧
        MemOutside (scratchBase k b + o) (tLines r.issue.entry * 64) s t ∧ SameRegs [.QDC_TUG_OUT_MAX_PEAK] s t)) ∧
  (∀ (s : State) (q : Fin 8) (g : Fin 32) (r : TugRun) (rs : List TugRun) (b : Fin 8) (errs : List WordErr),
      (s.quay q).tugs[g].runs = r :: rs → ((∀ x ∈ rs, x.num ≠ r.num)) → s.tugOwner q g = some b → 0x10 ≤ statusOf r.codes →
      statusOf r.codes ≤ 0x12 → r.allIssued = true → ((∀ p ∈ s.fwy.packets, ¬ (p.req = .tug q g r.num))) →
      (s.die r.die).tallies[Fin.ofNat 16 r.issue.tally] < 65535 →
    Runs (.tugCompletion q g errs) s (fun t => (t.quay q).tugs[g].runs = rs ∧
        (t.die r.die).chans = (s.die r.die).chans.filter (fun c => !(c.chan == r.issue.chan && c.seq == r.issue.seq)) ∧
        (t.die r.die).tallies = (s.die r.die).tallies.set (Fin.ofNat 16 r.issue.tally)
        ((s.die r.die).tallies[Fin.ofNat 16 r.issue.tally] + 1) ∧
        (t.die r.die).tallyErr = (s.die r.die).tallyErr ++ [(r.issue.tally,
        (s.die r.die).tallies[Fin.ofNat 16 r.issue.tally])] ∧ SameMem s t ∧
        SameRegs [.CDC_ERR_SLOT_STATUS, .CDC_ERR_SLOT_TALLY, .CDC_ERR_SLOT_KIND, .CDC_ERR_SLOT_VALID,
        .CDC_ERR_SLOT_MORE] s t)) ∧
  (∀ (s : State) (q : Fin 8) (g : Fin 32) (errs : List WordErr), (s.quay q).tugs[g].runs = [] ∨ s.tugOwner q g = none →
    Runs (.tugCompletion q g errs) s (fun t => t = s)) ∧
  (∀ (s : State) (d : Fin 8) (n : Nat) (errs : List WordErr) (x : Gather) (b : Fin 8),
      (s.die d).gathers.find? (fun g => g.id == n) = some x → (s.die d).berth = some b →
      (s.die d).tallies[Fin.ofNat 16 x.tally] < 65535 →
    Runs (.gatherCompletion d n errs) s (fun t => (t.die d).gathers = (s.die d).gathers.filter (fun y => y.id != x.id) ∧
        (t.die d).tallies[Fin.ofNat 16 x.tally] = (s.die d).tallies[Fin.ofNat 16 x.tally] + 1)) ∧
  (∀ (s : State) (d : Fin 8) (n : Nat) (x : Gather) (b : Fin 8) (r : GRow) (k o : Nat),
      (s.die d).gathers.find? (fun g => g.id == n) = some x → (s.die d).berth = some b → x.scatter = false → x.rows = [r] →
      r.st = .outstanding → r.addr % 64 = 0 → s.translate b r.addr 64 = some (.scratch k o) →
      s.serveStatus d (.scratch k o) = 0 → (s.quay (Fin.ofNat 8 k)).opened = [] →
      ((∀ p ∈ s.fwy.packets, p.req ≠ .row d x.id 0)) → (s.die d).tallies[Fin.ofNat 16 x.tally] < 65535 →
    Runs (.gatherCompletion d n []) s (fun t => t.bytes (tileBase d r.tile + r.sram) 64 = s.bytes (scratchBase k b + o) 64 ∧
        (t.die d).gathers = (s.die d).gathers.filter (fun y => y.id != x.id) ∧
        (t.die d).tallies[Fin.ofNat 16 x.tally] = (s.die d).tallies[Fin.ofNat 16 x.tally] + 1 ∧
        MemOutside (tileBase d r.tile + r.sram) 64 s t)) ∧
  (∀ (s : State) (d : Fin 8) (n : Nat) (x : Gather) (b : Fin 8) (r : GRow) (k o : Nat) (bs : List Nat),
      (s.die d).gathers.find? (fun g => g.id == n) = some x → (s.die d).berth = some b → x.scatter = true → x.rows = [r] →
      r.st = .outstanding → r.addr % 64 = 0 → s.translate b r.addr 64 = some (.scratch k o) →
      s.serveStatus d (.scratch k o) = 0 → r.data = some bs → ((∀ p ∈ s.fwy.packets, p.req ≠ .row d x.id 0)) →
      (s.die d).tallies[Fin.ofNat 16 x.tally] < 65535 → bs.length = 64 →
    Runs (.gatherCompletion d n []) s (fun t => t.bytes (scratchBase k b + o) 64 = bs.map (· % 256) ∧
        (t.die d).gathers = (s.die d).gathers.filter (fun y => y.id != x.id) ∧
        (t.die d).tallies[Fin.ofNat 16 x.tally] = (s.die d).tallies[Fin.ofNat 16 x.tally] + 1 ∧
        MemOutside (scratchBase k b + o) 64 s t)) ∧
  (∀ (s : State) (d : Fin 8) (n : Nat) (errs : List WordErr), ((∀ x ∈ (s.die d).gathers, x.id ≠ n) ∨ (s.die d).berth = none) →
    Runs (.gatherCompletion d n errs) s (fun t => t = s)) ∧
  (∀ (s : State) (q : Fin 8) (g : Fin 32) (r : TugRun) (rs : List TugRun) (e : TugReq) (es : List TugReq),
      (s.quay q).tugs[g].runs = r :: rs → ((∀ x ∈ rs, x.num ≠ r.num)) → r.out = e :: es →
    Runs (.requestTimeout (.tug q g)) s (fun t =>
        (t.quay q).tugs[g].runs = { r with out := r.out.filter (fun y => y.k != e.k), codes := 0x18 :: r.codes } :: rs ∧
        (∀ p ∈ t.fwy.packets, p.req = .tug q g r.num → p.k ≠ e.k) ∧ t.fwy.timeoutAt.isSome = true ∧ SameMem s t ∧
        SameRegs [.FWY_LINK_TIMEOUT_COUNT, .LOG_STATUS_FLUSHING] s t)) ∧
  (∀ (s : State) (q : Fin 8) (g : Fin 32), (s.quay q).tugs[g].runs.all (fun r => r.out.isEmpty) = true →
    Runs (.requestTimeout (.tug q g)) s (fun t => t = s)) ∧
  (∀ (s : State) (d : Fin 8) (n : Nat) (x : Gather) (i : Nat), (s.die d).gathers.find? (fun g => g.id == n) = some x →
      ((∀ y ∈ (s.die d).gathers, y.id = n → y = x)) →
      x.rows.findIdx? (fun r => r.st == .asked || r.st == .outstanding) = some i →
    Runs (.requestTimeout (.gather d n)) s (fun t =>
        (t.die d).gathers = (s.die d).gathers.map (fun y =>
        if y = x then { x with rows := x.rows.modify i (fun r => { r with st := .done 0x18 }) } else y) ∧
        t.fwy.timeoutAt.isSome = true ∧ SameMem s t ∧ SameRegs [.FWY_LINK_TIMEOUT_COUNT, .LOG_STATUS_FLUSHING] s t)) ∧
  (∀ (s : State) (d : Fin 8) (n : Nat),
      ((∀ x ∈ (s.die d).gathers, x.id = n → x.rows.all (fun r => r.st != .asked && r.st != .outstanding) = true)) →
    Runs (.requestTimeout (.gather d n)) s (fun t => t = s)) ∧
  (∀ (s : State) (qp : Fin 65536), s.netHeld = true → Runs (.requestTimeout (.segment qp)) s (fun t => t = s)) ∧
  (∀ (s : State) (qp : Fin 65536), s.netHeld = false → s.net.colls = [] → s.fwy.segs = [] → s.qpReceives qp = true →
      s.fwy.timeoutAt = some s.now →
    Runs (.requestTimeout (.segment qp)) s (fun t => t = s.roce qp kNakRemote (s.get .NET_QP_RQ_PSN_PSN 0 qp) []))

/-- R224 to R227, R229, R230, R572, R84: the stacks of a quay. -/
def Obligations.HbmStacksTrainFailAndScrub : Prop :=
  (∀ (s : State) (k : Fin 16) (rate : Fin 3), s.inReset (16 + k.val / 2 % 8) = false → s.trained k = false →
      (s.quay (Fin.ofNat 8 (k.val / 2))).failed[(Fin.ofNat 2 k.val)] = false →
      rate.val = (s.quay (Fin.ofNat 8 (k.val / 2))).tryRate[(Fin.ofNat 2 k.val)] →
      s.ready (rQD (Fin.ofNat 8 (k.val / 2))) = true → s.boundMissed (rHBM k) = false →
    Runs (.hbmTrainingDone k rate true) s (fun t => t.trained k = true ∧
        t.get .QDC_HBM_STATUS_RATE (Fin.ofNat 8 (k.val / 2)) (Fin.ofNat 2 k.val) = rate.val ∧
        t.get .QDC_HBM_STATUS_SELF_REFRESH (Fin.ofNat 8 (k.val / 2)) (Fin.ofNat 2 k.val) = 0 ∧ t.ready (rHBM k) = true ∧
        SameMem s t)) ∧
  (∀ (s : State) (k : Fin 16) (rate : Fin 3), s.inReset (16 + k.val / 2 % 8) = false → s.trained k = false →
      (s.quay (Fin.ofNat 8 (k.val / 2))).failed[(Fin.ofNat 2 k.val)] = false →
      rate.val = (s.quay (Fin.ofNat 8 (k.val / 2))).tryRate[(Fin.ofNat 2 k.val)] →
      s.ready (rQD (Fin.ofNat 8 (k.val / 2))) = false ∨ s.boundMissed (rHBM k) = true →
    Runs (.hbmTrainingDone k rate true) s (fun t => t.trained k = true ∧
        t.get .QDC_HBM_STATUS_RATE (Fin.ofNat 8 (k.val / 2)) (Fin.ofNat 2 k.val) = rate.val ∧
        t.ready (rHBM k) = s.ready (rHBM k) ∧
        SameRegs [.QDC_HBM_STATUS_TRAINED, .QDC_HBM_STATUS_RATE, .QDC_HBM_STATUS_SELF_REFRESH] s t ∧ SameMem s t)) ∧
  (∀ (s : State) (k : Fin 16) (rate : Fin 3), s.inReset (16 + k.val / 2 % 8) = false → s.trained k = false →
      (s.quay (Fin.ofNat 8 (k.val / 2))).failed[(Fin.ofNat 2 k.val)] = false →
      rate.val = (s.quay (Fin.ofNat 8 (k.val / 2))).tryRate[(Fin.ofNat 2 k.val)] → rate.val < 2 →
    Runs (.hbmTrainingDone k rate false) s (fun t =>
        t = (s.modQuay (Fin.ofNat 8 (k.val / 2)) (fun y =>
        { y with tryRate := y.tryRate.set (Fin.ofNat 2 k.val) (rate.val + 1) })).raise 0x0805 k)) ∧
  (∀ (s : State) (k : Fin 16) (rate : Fin 3), s.inReset (16 + k.val / 2 % 8) = false → s.trained k = false →
      (s.quay (Fin.ofNat 8 (k.val / 2))).failed[(Fin.ofNat 2 k.val)] = false →
      rate.val = (s.quay (Fin.ofNat 8 (k.val / 2))).tryRate[(Fin.ofNat 2 k.val)] → rate.val = 2 →
    Runs (.hbmTrainingDone k rate false) s (fun t => t.trained k = false ∧
        (t.quay (Fin.ofNat 8 (k.val / 2))).failed[(Fin.ofNat 2 k.val)] = true ∧ t.log ≠ s.log ∧ SameMem s t)) ∧
  (∀ (s : State) (k : Fin 16) (rate : Fin 3) (ok : Bool),
      s.inReset (16 + k.val / 2 % 8) = true ∨ s.trained k =
      true ∨ (s.quay (Fin.ofNat 8 (k.val / 2))).failed[(Fin.ofNat 2 k.val)] =
      true ∨ rate.val ≠ (s.quay (Fin.ofNat 8 (k.val / 2))).tryRate[(Fin.ofNat 2 k.val)] →
    Runs (.hbmTrainingDone k rate ok) s (fun t => t = s)) ∧
  (∀ (s : State) (k : Fin 16), s.trained k = true →
    Runs (.hbmStackFailed k) s (fun t => t.trained k = false ∧ t.ready (rHBM k) = false ∧
        (t.quay (Fin.ofNat 8 (k.val / 2))).failed[(Fin.ofNat 2 k.val)] = true ∧
        (t.quay (Fin.ofNat 8 (k.val / 2))).cache =
        (s.quay (Fin.ofNat 8 (k.val / 2))).cache.filter (fun l => l.stack != (Fin.ofNat 2 k.val).val) ∧ t.log ≠ s.log ∧
        SameMem s t)) ∧
  (∀ (s : State) (k : Fin 16), s.trained k = false → Runs (.hbmStackFailed k) s (fun t => t = s)) ∧
  (∀ (s : State) (k : Fin 16) (temp : BitVec 8), s.inReset (16 + k.val / 2 % 8) = false → s.trained k = true →
    Runs (.hbmTempReport k temp) s (fun t =>
        t.get .QDC_HBM_STATUS_TEMP (Fin.ofNat 8 (k.val / 2)) (Fin.ofNat 2 k.val) = temp.toNat ∧
        (t.bit .QDC_HBM_STATUS_HOT (Fin.ofNat 8 (k.val / 2)) (Fin.ofNat 2 k.val) = true ↔ 85 <
        temp.toNat ∨ s.bit .QDC_HBM_STATUS_HOT (Fin.ofNat 8 (k.val / 2)) (Fin.ofNat 2 k.val) = true ∧ 82 < temp.toNat) ∧
        (t.bit .QDC_HBM_STATUS_SLOWED (Fin.ofNat 8 (k.val / 2)) (Fin.ofNat 2 k.val) = true ↔ 95 <
        temp.toNat ∨ s.bit .QDC_HBM_STATUS_SLOWED (Fin.ofNat 8 (k.val / 2)) (Fin.ofNat 2 k.val) = true ∧ 92 < temp.toNat) ∧
        (t.quay (Fin.ofNat 8 (k.val / 2))).doubled[(Fin.ofNat 2 k.val)] =
        t.bit .QDC_HBM_STATUS_HOT (Fin.ofNat 8 (k.val / 2)) (Fin.ofNat 2 k.val) ∧ SameMem s t)) ∧
  (∀ (s : State) (k : Fin 16) (temp : BitVec 8), s.inReset (16 + k.val / 2 % 8) = true ∨ s.trained k = false →
    Runs (.hbmTempReport k temp) s (fun t => t = s)) ∧
  (∀ (s : State) (k : Fin 16),
    Runs (.hbmCorrectedWriteback k) s (fun t =>
        t = s.modQuay (Fin.ofNat 8 (k.val / 2)) (fun y =>
        { y with writebacks := y.writebacks.filter (fun w => w.1 != k.val) }))) ∧
  (∀ (s : State) (q : Fin 8), s.inReset (16 + q.val) = false → s.bit .QDC_SCRUB_CFG_ENABLE q = true →
    Runs (.patrolScrub q []) s (fun t => t.get .QDC_SCRUB_PASS_COUNT q =
        (s.get .QDC_SCRUB_PASS_COUNT q + 1) % 2 ^ (Fld.info .QDC_SCRUB_PASS_COUNT).width ∧
        SameRegs [.QDC_SCRUB_PASS_COUNT] s t ∧ SameMem s t)) ∧
  (∀ (s : State) (q : Fin 8) (errs : List WordErr), s.inReset (16 + q.val) = true ∨ s.bit .QDC_SCRUB_CFG_ENABLE q = false →
    Runs (.patrolScrub q errs) s (fun t => t = s)) ∧
  (∀ (s : State) (q : Fin 8), Runs (.qsramPatrol q []) s (fun t => t = s)) ∧
  (∀ (s : State) (q b : Fin 8) (off : Nat), s.inReset (16 + q.val) = false → off < 2 ^ 48 →
    Runs (.qsramPatrol q [⟨scratchBase q b + off, true⟩]) s (fun t =>
        t.get .QDC_SRAM_ECC_CORR q = min (s.get .QDC_SRAM_ECC_CORR q + 1) (2 ^ (Fld.info .QDC_SRAM_ECC_CORR).width - 1) ∧
        SameRegs [.QDC_SRAM_ECC_CORR] s t ∧ SameMem s t)) ∧
  (∀ (s : State) (q : Fin 8) (errs : List WordErr), s.inReset (16 + q.val) = true →
    Runs (.qsramPatrol q errs) s (fun t => t = s))

/-- R249 to R251, R254, R255: links. -/
def Obligations.FairwayLinkEventsAct : Prop :=
  (∀ (s : State) (k : Fin 38) (dir : Fin 2) (sub : Fin 8), s.linkUp k = true → sub.val < linkSubs k →
      bitAt (s.linkRetired k) sub = false → s.bit .FWY_CNT_CTRL_FREEZE = false → s.fwy.replays = [] → s.fwy.retryRec = [] →
    Runs (.flitReplay k dir sub) s (fun t =>
        t.get .FWY_LINK_RETRY_COUNT 0 (k.val * 2 + dir.val) =
        min (s.get .FWY_LINK_RETRY_COUNT 0 (k.val * 2 + dir.val) + 1) (2 ^ (Fld.info .FWY_LINK_RETRY_COUNT).width - 1) ∧
        t.fwy.replays = [(k.val, sub.val, dir.val, s.now)] ∧ t.linkRetired k = s.linkRetired k ∧
        SameRegs [.FWY_LINK_RETRY_COUNT] s t ∧ SameMem s t)) ∧
  (∀ (s : State) (k : Fin 38) (dir : Fin 2) (sub : Fin 8), s.linkUp k = true → sub.val < linkSubs k →
      bitAt (s.linkRetired k) sub = false → s.fwy.replays = [(k.val, sub.val, dir.val, s.now)] →
      s.fwy.consec = [(k.val, sub.val, dir.val, 8)] →
    Runs (.flitReplay k dir sub) s (fun t => bitAt (t.linkRetired k) sub = true ∧ t.log ≠ s.log ∧ SameMem s t)) ∧
  (∀ (s : State) (k : Fin 38) (dir : Fin 2) (sub : Fin 8), s.linkUp k = true → sub.val < linkSubs k →
      bitAt (s.linkRetired k) sub = false → s.fwy.replays = [(k.val, sub.val, dir.val, s.now)] →
      s.fwy.consec = [(k.val, sub.val, dir.val, 7)] →
    Runs (.flitReplay k dir sub) s (fun t => t.linkRetired k = s.linkRetired k ∧ SameMem s t ∧
        SameRegs [.FWY_LINK_RETRY_COUNT] s t)) ∧
  (∀ (s : State) (k : Fin 38) (dir : Fin 2) (sub : Fin 8),
      s.linkUp k = false ∨ linkSubs k ≤ sub.val ∨ bitAt (s.linkRetired k) sub = true →
    Runs (.flitReplay k dir sub) s (fun t => t = s)) ∧
  (∀ (s : State) (k : Fin 38) (sub : Fin 8), sub.val < linkSubs k → bitAt (s.linkRetired k) sub = false →
      (s.set .FWY_LINK_STATUS_RETIRED (putBit (s.linkRetired k) sub true) 0 k).linkActive k ≠ 0 →
    Runs (.sublinkRetire k sub) s (fun t => t.linkRetired k = (putBit (s.linkRetired k) sub true) ∧ t.fwy.down = s.fwy.down ∧
        t.log ≠ s.log ∧ SameMem s t)) ∧
  (∀ (s : State) (k : Fin 38) (sub : Fin 8), sub.val < linkSubs k → bitAt (s.linkRetired k) sub = false →
      (s.set .FWY_LINK_STATUS_RETIRED (putBit (s.linkRetired k) sub true) 0 k).linkActive k = 0 →
    Runs (.sublinkRetire k sub) s (fun t => t.linkUp k = false ∧ bitAt (t.linkRetired k) sub = true ∧ t.log ≠ s.log ∧
        SameMem s t)) ∧
  (∀ (s : State) (k : Fin 38) (sub : Fin 8), linkSubs k ≤ sub.val ∨ bitAt (s.linkRetired k) sub = true →
    Runs (.sublinkRetire k sub) s (fun t => t = s)) ∧
  (∀ (s : State) (k : Fin 38), s.fwy.down.contains k.val = false →
    Runs (.linkDown k) s (fun t => t.fwy.down = k.val :: s.fwy.down ∧ t.linkUp k = false ∧ t.log ≠ s.log ∧
        t.fwy.packets.length ≤ (s.fwy.packets.filter (fun p => !p.hops.any (fun h => h.1 == k.val))).length ∧ SameMem s t)) ∧
  (∀ (s : State) (k : Fin 38), s.fwy.down.contains k.val = true → Runs (.linkDown k) s (fun t => t = s)) ∧
  (∀ (s : State),
    Runs .saturationWindow s (fun t => t.fwy.winFlits = [] ∧ t.net.winBytes = [] ∧ t.fwy.winAt = s.now ∧
        (∀ k : Fin 38, bitAt (t.get .FWY_SAT_LO_LINK + 2 ^ 32 * t.get .FWY_SAT_HI_LINK) k = true ↔ 0 < s.offered k ∧
        ∃ dir : Fin 2, 95 * s.offered k * 24 ≤
        100 * ((s.fwy.winFlits.find? (fun e => e.1 == k.val * 2 + dir.val)).map (·.2)).getD 0 * 10000) ∧
        SameRegs [.FWY_SAT_LO_LINK, .FWY_SAT_HI_LINK, .NET_P_SAT_COUNT] s t ∧ SameMem s t)) ∧
  (∀ (s : State) (src : Source), s.right src = .owner →
    Runs (.fwyCntClear src) s (fun t => Answered src 0 s t ∧
        ClearedAll (.FWY_CYCLES_COUNT :: .FWY_LINK_BERTH_COUNT :: fwyLinkFlds) s t))

/-- R256 to R262, R264: ports. -/
def Obligations.PortsFramesAndPriorityFlowControl : Prop :=
  (∀ (s : State) (p : Fin 2) (sub : Fin 8) (x : LinkPartner), s.netHeld = false → sub.val < s.subPorts p →
      s.linkMay p x = true →
    Runs (.subportLinkUp p sub x) s (fun t => t.get .NET_P_LINK_UP p = putBit (s.get .NET_P_LINK_UP p) sub true % 256 ∧
        (s.subLanes p sub).all (fun i => bitAt (t.get .NET_P_LINK_LOCK p) i) = true ∧ t.tx = s.tx ∧
        SameRegs [.NET_P_LINK_UP, .NET_P_LINK_LOCK] s t ∧ SameMem s t)) ∧
  (∀ (s : State) (p : Fin 2) (sub : Fin 8) (x : LinkPartner),
      s.netHeld = true ∨ s.subPorts p ≤ sub.val ∨ s.linkMay p x = false →
    Runs (.subportLinkUp p sub x) s (fun t => t = s)) ∧
  (∀ (s : State) (p : Fin 2) (sub : Fin 8), s.netHeld = false → bitAt (s.get .NET_P_LINK_UP p) sub = true → s.net.colls = [] →
    Runs (.subportLinkDown p sub) s (fun t => bitAt (t.get .NET_P_LINK_UP p) sub = false ∧
        (s.subLanes p sub).all (fun i => !bitAt (t.get .NET_P_LINK_LOCK p) i) = true ∧
        t.net.xoffSent = s.net.xoffSent.filter (fun e => !(e.1 == p.val && e.2.1 == sub.val)) ∧
        t.net.paused = s.net.paused.filter (fun e => !(e.1 == p.val && e.2.1 == sub.val)) ∧
        t.net.held = s.net.held.filter (fun e => !(e.1.port == p.val && e.1.sub == sub.val)) ∧
        SameRegs [.NET_P_LINK_UP, .NET_P_LINK_LOCK] s t ∧ SameMem s t)) ∧
  (∀ (s : State) (p : Fin 2) (sub : Fin 8) (c : Coll) (q : Nat), s.netHeld = false →
      bitAt (s.get .NET_P_LINK_UP p) sub = true → s.net.colls = [c] → c.own = none → q ∈ s.collNeeds c.entry →
      s.qpPort q = p → s.get .NET_QP_PORT_SUB 0 q = sub.val →
    Runs (.subportLinkDown p sub) s (fun t => bitAt (t.get .NET_P_LINK_UP p) sub = false ∧ t.net.colls = [] ∧
        (t.die c.die).handles = (s.die c.die).handles.map (fun x => if x.id = c.handle ∧
        x.status.isNone then { x with status := some 0x21 } else x) ∧ SameMem s t)) ∧
  (∀ (s : State) (p : Fin 2) (sub : Fin 8), s.netHeld = true ∨ bitAt (s.get .NET_P_LINK_UP p) sub = false →
    Runs (.subportLinkDown p sub) s (fun t => t = s)) ∧
  (∀ (s : State) (p : Fin 2) (sub : Fin 8) (f : EthFrame) (co un k : Nat), s.netHeld = false → s.delivers p f = true →
      ctrlKind f.kind = some k →
    Runs (.netFrameReceive p sub f co un) s (fun t => s.putOut t (s.answerWire p sub f) [.ctrl k f.len] = true ∧
        t.get .NET_P_FEC_CORR_COUNT p = (if s.bit .NET_CNT_CTRL_FREEZE = true then s.get .NET_P_FEC_CORR_COUNT p else
        min (s.get .NET_P_FEC_CORR_COUNT p + co) (2 ^ (Fld.info .NET_P_FEC_CORR_COUNT).width - 1)) ∧
        t.get .NET_P_FEC_UNCORR_COUNT p =
        (if s.bit .NET_CNT_CTRL_FREEZE = true then s.get .NET_P_FEC_UNCORR_COUNT p else
        min (s.get .NET_P_FEC_UNCORR_COUNT p + un) (2 ^ (Fld.info .NET_P_FEC_UNCORR_COUNT).width - 1)) ∧
        t.get .NET_P_RX_COUNT p = (if s.bit .NET_CNT_CTRL_FREEZE = true then s.get .NET_P_RX_COUNT p else
        min (s.get .NET_P_RX_COUNT p + f.len) (2 ^ (Fld.info .NET_P_RX_COUNT).width - 1)) ∧
        SameRegs [.NET_P_FEC_CORR_COUNT, .NET_P_FEC_UNCORR_COUNT, .NET_P_RX_COUNT, .NET_P_TX_COUNT] s t ∧ SameMem s t)) ∧
  (∀ (s : State) (p : Fin 2) (sub : Fin 8) (f : EthFrame) (co un : Nat), s.netHeld = false → s.delivers p f = true →
      ctrlKind f.kind = none →
    Runs (.netFrameReceive p sub f co un) s (fun t => t.tx = s.tx ∧ t.net = s.net ∧
        t.get .NET_P_FEC_CORR_COUNT p = (if s.bit .NET_CNT_CTRL_FREEZE = true then s.get .NET_P_FEC_CORR_COUNT p else
        min (s.get .NET_P_FEC_CORR_COUNT p + co) (2 ^ (Fld.info .NET_P_FEC_CORR_COUNT).width - 1)) ∧
        t.get .NET_P_FEC_UNCORR_COUNT p =
        (if s.bit .NET_CNT_CTRL_FREEZE = true then s.get .NET_P_FEC_UNCORR_COUNT p else
        min (s.get .NET_P_FEC_UNCORR_COUNT p + un) (2 ^ (Fld.info .NET_P_FEC_UNCORR_COUNT).width - 1)) ∧
        t.get .NET_P_RX_COUNT p = (if s.bit .NET_CNT_CTRL_FREEZE = true then s.get .NET_P_RX_COUNT p else
        min (s.get .NET_P_RX_COUNT p + f.len) (2 ^ (Fld.info .NET_P_RX_COUNT).width - 1)) ∧
        SameRegs [.NET_P_FEC_CORR_COUNT, .NET_P_FEC_UNCORR_COUNT, .NET_P_RX_COUNT] s t ∧ SameMem s t)) ∧
  (∀ (s : State) (p : Fin 2) (sub : Fin 8) (f : EthFrame) (co un : Nat), s.netHeld = false → s.delivers p f = false →
    Runs (.netFrameReceive p sub f co un) s (fun t => t.tx = s.tx ∧ t.net = s.net ∧
        t.get .NET_P_DROP_COUNT p = (if s.bit .NET_CNT_CTRL_FREEZE = true then s.get .NET_P_DROP_COUNT p else
        min (s.get .NET_P_DROP_COUNT p + 1) (2 ^ (Fld.info .NET_P_DROP_COUNT).width - 1)) ∧
        t.get .NET_P_FEC_CORR_COUNT p = (if s.bit .NET_CNT_CTRL_FREEZE = true then s.get .NET_P_FEC_CORR_COUNT p else
        min (s.get .NET_P_FEC_CORR_COUNT p + co) (2 ^ (Fld.info .NET_P_FEC_CORR_COUNT).width - 1)) ∧
        t.get .NET_P_FEC_UNCORR_COUNT p =
        (if s.bit .NET_CNT_CTRL_FREEZE = true then s.get .NET_P_FEC_UNCORR_COUNT p else
        min (s.get .NET_P_FEC_UNCORR_COUNT p + un) (2 ^ (Fld.info .NET_P_FEC_UNCORR_COUNT).width - 1)) ∧
        t.get .NET_P_RX_COUNT p = (if s.bit .NET_CNT_CTRL_FREEZE = true then s.get .NET_P_RX_COUNT p else
        min (s.get .NET_P_RX_COUNT p + f.len) (2 ^ (Fld.info .NET_P_RX_COUNT).width - 1)) ∧
        SameRegs [.NET_P_FEC_CORR_COUNT, .NET_P_FEC_UNCORR_COUNT, .NET_P_RX_COUNT, .NET_P_DROP_COUNT] s t ∧ SameMem s t)) ∧
  (∀ (s : State) (p : Fin 2) (sub : Fin 8) (f : EthFrame) (co un : Nat), s.netHeld = true →
    Runs (.netFrameReceive p sub f co un) s (fun t => t = s)) ∧
  (∀ (s : State) (p : Fin 2) (sub prio : Fin 8) (n : Nat), s.netHeld = false →
      bitAt (s.get .NET_P_PFC_ENABLE p) prio = true → s.net.xoffSent.contains (p.val, sub.val, prio.val) = false →
      s.get .NET_P_PFC_XOFF_KIB p < n →
    Runs (.pfcXoffSend p sub prio n) s (fun t =>
        t.tx = s.tx ++ [.frame ⟨p, sub, ⟨mgmtMac p, false, 0⟩, ⟨0x0180C2000001, false, 0⟩, 0, 0, 0, 0,
        false⟩ (.pfc prio true)] ∧ t.net.xoffSent = (p.val, sub.val, prio.val) :: s.net.xoffSent ∧
        t.get .NET_P_PFC_TX_COUNT p = (if s.bit .NET_CNT_CTRL_FREEZE = true then s.get .NET_P_PFC_TX_COUNT p else
        min (s.get .NET_P_PFC_TX_COUNT p + 1) (2 ^ (Fld.info .NET_P_PFC_TX_COUNT).width - 1)) ∧
        SameRegs [.NET_P_PFC_TX_COUNT, .NET_P_TX_COUNT] s t ∧ SameMem s t)) ∧
  (∀ (s : State) (p : Fin 2) (sub prio : Fin 8) (n : Nat), s.netHeld = false →
      bitAt (s.get .NET_P_PFC_ENABLE p) prio = true → s.net.xoffSent.contains (p.val, sub.val, prio.val) = true →
      2 * n ≤ s.get .NET_P_PFC_XOFF_KIB p →
    Runs (.pfcXoffSend p sub prio n) s (fun t =>
        t.tx = s.tx ++ [.frame ⟨p, sub, ⟨mgmtMac p, false, 0⟩, ⟨0x0180C2000001, false, 0⟩, 0, 0, 0, 0,
        false⟩ (.pfc prio false)] ∧ t.net.xoffSent = s.net.xoffSent.filter (· != (p.val, sub.val, prio.val)) ∧
        SameRegs [.NET_P_TX_COUNT] s t ∧ SameMem s t)) ∧
  (∀ (s : State) (p : Fin 2) (sub prio : Fin 8) (n : Nat),
      s.netHeld = true ∨ bitAt (s.get .NET_P_PFC_ENABLE p) prio =
      false ∨ (s.net.xoffSent.contains (p.val, sub.val, prio.val) = false ∧
      n ≤ s.get .NET_P_PFC_XOFF_KIB p) ∨ (s.net.xoffSent.contains (p.val, sub.val, prio.val) = true ∧
      s.get .NET_P_PFC_XOFF_KIB p < 2 * n) →
    Runs (.pfcXoffSend p sub prio n) s (fun t => t = s)) ∧
  (∀ (s : State) (p : Fin 2) (sub prio : Fin 8), s.netHeld = false → bitAt (s.get .NET_P_PFC_ENABLE p) prio = true →
    Runs (.pfcFrameReceive p sub prio true) s (fun t =>
        t.net.paused = (if s.net.paused.contains (p.val, sub.val, prio.val) then s.net.paused else
        (p.val, sub.val, prio.val) :: s.net.paused) ∧ t.tx = s.tx ∧
        t.get .NET_P_PFC_RX_COUNT p = (if s.bit .NET_CNT_CTRL_FREEZE = true then s.get .NET_P_PFC_RX_COUNT p else
        min (s.get .NET_P_PFC_RX_COUNT p + 1) (2 ^ (Fld.info .NET_P_PFC_RX_COUNT).width - 1)) ∧
        SameRegs [.NET_P_PFC_RX_COUNT, .NET_P_RX_COUNT] s t ∧ SameMem s t)) ∧
  (∀ (s : State) (p : Fin 2) (sub prio : Fin 8), s.netHeld = false → bitAt (s.get .NET_P_PFC_ENABLE p) prio = false →
    Runs (.pfcFrameReceive p sub prio true) s (fun t => t.net = s.net ∧ t.tx = s.tx ∧
        SameRegs [.NET_P_PFC_RX_COUNT, .NET_P_RX_COUNT] s t ∧ SameMem s t)) ∧
  (∀ (s : State) (p : Fin 2) (sub prio : Fin 8), s.netHeld = false →
    Runs (.pfcFrameReceive p sub prio false) s (fun t =>
        t.net.paused = s.net.paused.filter (· != (p.val, sub.val, prio.val)) ∧
        t.tx = s.tx ++ (s.net.held.filter (fun e =>
        (e.1.port, e.1.sub, e.1.prio) == (p.val, sub.val, prio.val))).map (fun e => .frame e.1 e.2) ∧
        t.net.held = s.net.held.filter (fun e => (e.1.port, e.1.sub, e.1.prio) != (p.val, sub.val, prio.val)) ∧
        SameRegs [.NET_P_TX_COUNT, .NET_P_RX_COUNT] s t ∧ SameMem s t)) ∧
  (∀ (s : State) (p : Fin 2) (sub prio : Fin 8) (x : Bool), s.netHeld = true →
    Runs (.pfcFrameReceive p sub prio x) s (fun t => t = s))

/-- R264, R265, R270: congestion control and retransmission. Frames lost without link are log entry 64. -/
def Obligations.QueuePairCongestionAndRetransmission : Prop :=
  (∀ (s : State) (qp : Fin 65536), s.qpReceives qp = true →
      (s.qpSt qp).cnpSent.all (fun a => decide (a + 50 * us ≤ s.now)) = true →
    Runs (.cePacketReceive qp) s (fun t => s.putOut t (s.qpWire qp) [.roce qp kCnp 0 []] = true ∧
        (t.qpSt qp).cnpSent = some s.now ∧
        t.get .NET_P_CE_RX_COUNT (s.qpPort qp).val =
        (if s.bit .NET_CNT_CTRL_FREEZE = true then s.get .NET_P_CE_RX_COUNT (s.qpPort qp).val else
        min (s.get .NET_P_CE_RX_COUNT (s.qpPort qp).val + 1) (2 ^ (Fld.info .NET_P_CE_RX_COUNT).width - 1)) ∧
        SameRegs [.NET_P_CE_RX_COUNT, .NET_P_TX_COUNT] s t ∧ SameMem s t)) ∧
  (∀ (s : State) (qp : Fin 65536) (a : Nat), s.qpReceives qp = true → (s.qpSt qp).cnpSent = some a → s.now < a + 50 * us →
    Runs (.cePacketReceive qp) s (fun t => t.tx = s.tx ∧ t.net = s.net ∧
        t.get .NET_P_CE_RX_COUNT (s.qpPort qp).val =
        (if s.bit .NET_CNT_CTRL_FREEZE = true then s.get .NET_P_CE_RX_COUNT (s.qpPort qp).val else
        min (s.get .NET_P_CE_RX_COUNT (s.qpPort qp).val + 1) (2 ^ (Fld.info .NET_P_CE_RX_COUNT).width - 1)) ∧
        SameRegs [.NET_P_CE_RX_COUNT] s t ∧ SameMem s t)) ∧
  (∀ (s : State) (qp : Fin 65536), s.qpReceives qp = false → Runs (.cePacketReceive qp) s (fun t => t = s)) ∧
  (∀ (s : State) (qp : Fin 65536), s.qpReceives qp = true →
    Runs (.cnpReceive qp) s (fun t => (t.qpSt qp).rateMbps =
        max 1000 ((s.qpSt qp).rateMbps * (256 - s.get .NET_CC_CUT) / 256) ∧ (t.qpSt qp).cnpRecv = some s.now ∧ t.tx = s.tx ∧
        t.get .NET_P_CNP_RX_COUNT (s.qpPort qp).val =
        (if s.bit .NET_CNT_CTRL_FREEZE = true then s.get .NET_P_CNP_RX_COUNT (s.qpPort qp).val else
        min (s.get .NET_P_CNP_RX_COUNT (s.qpPort qp).val + 1) (2 ^ (Fld.info .NET_P_CNP_RX_COUNT).width - 1)) ∧
        SameRegs [.NET_P_CNP_RX_COUNT, .NET_P_RX_COUNT] s t ∧ SameMem s t)) ∧
  (∀ (s : State) (qp : Fin 65536), s.qpReceives qp = false → Runs (.cnpReceive qp) s (fun t => t = s)) ∧
  (∀ (s : State) (qp : Fin 65536), s.qpReceives qp = true →
    Runs (.ccRateStep qp) s (fun t => (t.qpSt qp).rateMbps =
        min (s.subRate (s.qpPort qp)) ((s.qpSt qp).rateMbps + s.get .NET_CC_STEP * 100) ∧ (t.qpSt qp).cnpRecv = some s.now ∧
        t.tx = s.tx ∧ SameRegs [] s t ∧ SameMem s t)) ∧
  (∀ (s : State) (qp : Fin 65536), s.qpReceives qp = false → Runs (.ccRateStep qp) s (fun t => t = s)) ∧
  (∀ (s : State) (qp : Fin 65536) (psn : Nat), s.netHeld = false → s.qpState qp = 3 →
      (s.qpSt qp).unacked.any (·.1 == psn) = true →
      (s.qpSt qp).retries < 7 ∨ (s.qpSt qp).unacked.dropWhile (·.1 != psn) ≠ (s.qpSt qp).unacked →
    Runs (.nakReceive qp psn) s (fun t => (t.qpSt qp).unacked = (s.qpSt qp).unacked.dropWhile (·.1 != psn) ∧
        s.putOut t (s.qpWire qp) (((s.qpSt qp).unacked.dropWhile (·.1 != psn)).map (fun e => .roce qp kSend e.1 e.2)) =
        true ∧ SameRegs [.NET_P_TX_COUNT, .NET_P_RX_COUNT] s t ∧ SameMem s t)) ∧
  (∀ (s : State) (qp : Fin 65536) (psn : Nat), s.netHeld = false → s.qpState qp = 3 →
      (s.qpSt qp).unacked.any (·.1 == psn) = false → (s.qpSt qp).unacked ≠ [] → (s.qpSt qp).retries < 7 →
    Runs (.nakReceive qp psn) s (fun t => (t.qpSt qp).unacked = (s.qpSt qp).unacked ∧
        (t.qpSt qp).retries = (s.qpSt qp).retries + 1 ∧
        s.putOut t (s.qpWire qp) (((s.qpSt qp).unacked).map (fun e => .roce qp kSend e.1 e.2)) = true ∧
        SameRegs [.NET_P_TX_COUNT, .NET_P_RX_COUNT] s t ∧ SameMem s t)) ∧
  (∀ (s : State) (qp : Fin 65536) (psn : Nat), s.netHeld = false → s.qpState qp = 3 →
      (s.qpSt qp).unacked = [] ∨ (7 ≤ (s.qpSt qp).retries ∧ (s.qpSt qp).unacked.any (·.1 == psn) = false) →
      ((∀ c ∈ s.net.colls, qp.val ∉ s.collNeeds c.entry)) →
    Runs (.nakReceive qp psn) s (fun t => (t.qpSt qp).unacked = [] ∧ t.tx = s.tx ∧
        t.qpState qp = (if (s.qpSt qp).unacked = [] then 3 else 4) ∧ SameRegs [.NET_QP_CTRL_STATE, .NET_P_RX_COUNT] s t ∧
        SameMem s t)) ∧
  (∀ (s : State) (qp : Fin 65536) (psn : Nat), s.netHeld = true ∨ s.qpState qp ≠ 3 →
    Runs (.nakReceive qp psn) s (fun t => t = s)) ∧
  (∀ (s : State) (qp : Fin 65536), s.netHeld = false → s.qpState qp = 3 → (s.qpSt qp).retries < 7 → (s.qpSt qp).unacked ≠ [] →
    Runs (.qpAckTimeout qp) s (fun t => (t.qpSt qp).retries = (s.qpSt qp).retries + 1 ∧
        (t.qpSt qp).unacked = (s.qpSt qp).unacked ∧
        s.putOut t (s.qpWire qp) (((s.qpSt qp).unacked).map (fun e => .roce qp kSend e.1 e.2)) = true ∧
        SameRegs [.NET_P_TX_COUNT] s t ∧ SameMem s t)) ∧
  (∀ (s : State) (qp : Fin 65536), s.netHeld = false → s.qpState qp = 3 → 7 ≤ (s.qpSt qp).retries →
      (s.qpSt qp).unacked ≠ [] → ((∀ c ∈ s.net.colls, qp.val ∉ s.collNeeds c.entry)) →
    Runs (.qpAckTimeout qp) s (fun t => t.qpState qp = 4 ∧ t.tx = s.tx ∧ (t.qpSt qp).unacked = [] ∧
        SameRegs [.NET_QP_CTRL_STATE] s t ∧ SameMem s t)) ∧
  (∀ (s : State) (qp : Fin 65536), s.netHeld = true ∨ s.qpState qp ≠ 3 ∨ (s.qpSt qp).unacked = [] →
    Runs (.qpAckTimeout qp) s (fun t => t = s))

/-- R210, R266 to R269, R274: inbound operations. The remote and the invalid-request NAK are log entry 13; a PUT as a SEND is log entry 65. -/
def Obligations.QueuePairInboundOperations : Prop :=
  (∀ (s : State) (qp : Fin 65536) (rkey : BitVec 32) (va : BitVec 48) (data : List (BitVec 8)) (b : Fin 8) (k o : Nat),
      s.qpReceives qp = true → s.qpBerth qp = some b → s.rdmaRefused b qp rkey.toNat va.toNat data.length = false →
      0 < data.length → data.length ≤ s.pmtu qp → s.translate b va.toNat data.length = some (.scratch k o) →
      s.serveStatus (s.qpNd qp) (.scratch k o) = 0 →
    Runs (.rdmaWriteIn qp rkey va data) s (fun t => t.bytes (scratchBase k b + o) data.length = data.map (·.toNat) ∧
        s.putOut t (s.qpWire qp) [.roce qp kAck (s.get .NET_QP_RQ_PSN_PSN 0 qp) []] = true ∧
        t.get .NET_QP_RQ_PSN_PSN 0 qp = ((s.get .NET_QP_RQ_PSN_PSN 0 qp) + 1) % 2 ^ 24 ∧
        MemOutside (scratchBase k b + o) data.length s t ∧
        SameRegs [.NET_QP_RQ_PSN_PSN, .NET_P_TX_COUNT, .NET_P_RX_COUNT] s t)) ∧
  (∀ (s : State) (qp : Fin 65536) (rkey : BitVec 32) (va : BitVec 48) (data : List (BitVec 8)) (b : Fin 8),
      s.qpReceives qp = true → s.qpBerth qp = some b → s.rdmaRefused b qp rkey.toNat va.toNat data.length = true →
    Runs (.rdmaWriteIn qp rkey va data) s (fun t =>
        s.putOut t (s.qpWire qp) [.roce qp kNakAccess (s.get .NET_QP_RQ_PSN_PSN 0 qp) []] = true ∧
        t.get .NET_QP_RQ_PSN_PSN 0 qp = (s.get .NET_QP_RQ_PSN_PSN 0 qp) ∧ SameMem s t ∧
        SameRegs [.NET_P_TX_COUNT, .NET_P_RX_COUNT] s t)) ∧
  (∀ (s : State) (qp : Fin 65536) (rkey : BitVec 32) (va : BitVec 48) (data : List (BitVec 8)) (b : Fin 8),
      s.qpReceives qp = true → s.qpBerth qp = some b → s.rdmaRefused b qp rkey.toNat va.toNat data.length = false →
      s.segsReach b (s.qpNd qp) (s.pmtu qp) va.toNat data.length ≠ 0 →
    Runs (.rdmaWriteIn qp rkey va data) s (fun t =>
        s.putOut t (s.qpWire qp) [.roce qp kNakRemote (s.get .NET_QP_RQ_PSN_PSN 0 qp) []] = true ∧
        t.get .NET_QP_RQ_PSN_PSN 0 qp = (s.get .NET_QP_RQ_PSN_PSN 0 qp) ∧ SameMem s t ∧
        SameRegs [.NET_P_TX_COUNT, .NET_P_RX_COUNT] s t)) ∧
  (∀ (s : State) (qp : Fin 65536) (rkey : BitVec 32) (va : BitVec 48) (data : List (BitVec 8)), s.qpReceives qp = false →
    Runs (.rdmaWriteIn qp rkey va data) s (fun t => t = s)) ∧
  (∀ (s : State) (qp : Fin 65536) (rkey : BitVec 32) (va : BitVec 48) (n : Nat) (b : Fin 8) (k o : Nat),
      s.qpReceives qp = true → s.qpBerth qp = some b → s.rdmaRefused b qp rkey.toNat va.toNat n = false →
      s.readsOut qp < 16 → 0 < n → n ≤ s.pmtu qp → s.translate b va.toNat n = some (.scratch k o) →
      s.serveStatus (s.qpNd qp) (.scratch k o) = 0 →
    Runs (.rdmaReadIn qp rkey va n) s (fun t =>
        s.putOut t (s.qpWire qp) [.roce qp kReadResp (s.get .NET_QP_RQ_PSN_PSN 0 qp) (s.scratchRead k b o n)] = true ∧
        t.get .NET_QP_RQ_PSN_PSN 0 qp = ((s.get .NET_QP_RQ_PSN_PSN 0 qp) + 1) % 2 ^ 24 ∧ SameMem s t ∧
        SameRegs [.NET_QP_RQ_PSN_PSN, .NET_P_TX_COUNT, .NET_P_RX_COUNT] s t)) ∧
  (∀ (s : State) (qp : Fin 65536) (rkey : BitVec 32) (va : BitVec 48) (n : Nat) (b : Fin 8), s.qpReceives qp = true →
      s.qpBerth qp = some b → s.rdmaRefused b qp rkey.toNat va.toNat n = true →
    Runs (.rdmaReadIn qp rkey va n) s (fun t =>
        s.putOut t (s.qpWire qp) [.roce qp kNakAccess (s.get .NET_QP_RQ_PSN_PSN 0 qp) []] = true ∧
        t.get .NET_QP_RQ_PSN_PSN 0 qp = (s.get .NET_QP_RQ_PSN_PSN 0 qp) ∧ SameMem s t ∧
        SameRegs [.NET_P_TX_COUNT, .NET_P_RX_COUNT] s t)) ∧
  (∀ (s : State) (qp : Fin 65536) (rkey : BitVec 32) (va : BitVec 48) (n : Nat) (b : Fin 8), s.qpReceives qp = true →
      s.qpBerth qp = some b → s.rdmaRefused b qp rkey.toNat va.toNat n = false → 16 ≤ s.readsOut qp →
    Runs (.rdmaReadIn qp rkey va n) s (fun t =>
        s.putOut t (s.qpWire qp) [.roce qp kNakInvalid (s.get .NET_QP_RQ_PSN_PSN 0 qp) []] = true ∧
        t.get .NET_QP_RQ_PSN_PSN 0 qp = (s.get .NET_QP_RQ_PSN_PSN 0 qp) ∧ SameMem s t ∧
        SameRegs [.NET_P_TX_COUNT, .NET_P_RX_COUNT] s t)) ∧
  (∀ (s : State) (qp : Fin 65536) (rkey : BitVec 32) (va : BitVec 48) (n : Nat) (b : Fin 8), s.qpReceives qp = true →
      s.qpBerth qp = some b → s.rdmaRefused b qp rkey.toNat va.toNat n = false → s.readsOut qp < 16 →
      s.segsReach b (s.qpNd qp) (s.pmtu qp) va.toNat n ≠ 0 →
    Runs (.rdmaReadIn qp rkey va n) s (fun t =>
        s.putOut t (s.qpWire qp) [.roce qp kNakRemote (s.get .NET_QP_RQ_PSN_PSN 0 qp) []] = true ∧
        t.get .NET_QP_RQ_PSN_PSN 0 qp = (s.get .NET_QP_RQ_PSN_PSN 0 qp) ∧ SameMem s t ∧
        SameRegs [.NET_P_TX_COUNT, .NET_P_RX_COUNT] s t)) ∧
  (∀ (s : State) (qp : Fin 65536) (rkey : BitVec 32) (va : BitVec 48) (n : Nat), s.qpReceives qp = false →
    Runs (.rdmaReadIn qp rkey va n) s (fun t => t = s)) ∧
  (∀ (s : State) (qp : Fin 65536) (put : Option (BitVec 48)) (data : List (BitVec 8)) (b : Fin 8) (k o : Nat) (k2 o2 : Nat),
      s.qpReceives qp = true → s.qpInGroup qp = false → s.qpBerth qp = some b →
      s.translate b (s.rqBase qp + 32 * (s.get .NET_QP_RQ_CFG_CONS 0 qp % s.rqSize qp)) 32 = some (.scratch k o) →
      s.serveStatus (s.qpNd qp) (.scratch k o) = 0 → nth (s.scratchRead k b o 32) 0x0C = 1 → 0 < data.length →
      data.length ≤ s.pmtu qp → data.length ≤ leAt (s.scratchRead k b o 32) 8 4 →
      s.translate b (leAt (s.scratchRead k b o 32) 0 6) (leAt (s.scratchRead k b o 32) 8 4) = some (.scratch k2 o2) →
      s.serveStatus (s.qpNd qp) (.scratch k2 o2) = 0 → s.get .NET_QP_RQ_CFG_RQ_LOG 0 qp ≤ 12 →
      k2 ≠ k ∨ o2 + data.length ≤ o ∨ o + 32 ≤ o2 →
    Runs (.sendIn qp put data) s (fun t => t.bytes (scratchBase k2 b + o2) data.length = data.map (·.toNat) ∧
        t.bytes (scratchBase k b + o + 0x0C) 2 = [0, 0] ∧ t.bytes (scratchBase k b + o + 0x10) 4 = toLe data.length 4 ∧
        t.get .NET_QP_RQ_CFG_CONS 0 qp = (s.get .NET_QP_RQ_CFG_CONS 0 qp + 1) % s.rqSize qp ∧
        s.putOut t (s.qpWire qp) [.roce qp kAck (s.get .NET_QP_RQ_PSN_PSN 0 qp) []] = true ∧
        t.get .NET_QP_RQ_PSN_PSN 0 qp = ((s.get .NET_QP_RQ_PSN_PSN 0 qp) + 1) % 2 ^ 24 ∧
        SameRegs [.NET_QP_RQ_PSN_PSN, .NET_QP_RQ_CFG_CONS, .NET_P_TX_COUNT, .NET_P_RX_COUNT] s t)) ∧
  (∀ (s : State) (qp : Fin 65536) (put : Option (BitVec 48)) (data : List (BitVec 8)) (b : Fin 8) (k o : Nat),
      s.qpReceives qp = true → s.qpInGroup qp = false → s.qpBerth qp = some b →
      s.translate b (s.rqBase qp + 32 * (s.get .NET_QP_RQ_CFG_CONS 0 qp % s.rqSize qp)) 32 = some (.scratch k o) →
      s.serveStatus (s.qpNd qp) (.scratch k o) = 0 → nth (s.scratchRead k b o 32) 0x0C ≠ 1 →
    Runs (.sendIn qp put data) s (fun t =>
        s.putOut t (s.qpWire qp) [.roce qp kNakRnr (s.get .NET_QP_RQ_PSN_PSN 0 qp) [s.get .NET_QP_PORT_RNR 0 qp]] = true ∧
        SameMem s t ∧ SameRegs [.NET_P_TX_COUNT, .NET_P_RX_COUNT] s t)) ∧
  (∀ (s : State) (qp : Fin 65536) (put : Option (BitVec 48)) (data : List (BitVec 8)) (b : Fin 8) (k o : Nat),
      s.qpReceives qp = true → s.qpInGroup qp = false → s.qpBerth qp = some b →
      s.translate b (s.rqBase qp + 32 * (s.get .NET_QP_RQ_CFG_CONS 0 qp % s.rqSize qp)) 32 = some (.scratch k o) →
      s.serveStatus (s.qpNd qp) (.scratch k o) = 0 → nth (s.scratchRead k b o 32) 0x0C = 1 →
      leAt (s.scratchRead k b o 32) 8 4 < data.length → s.get .NET_QP_RQ_CFG_RQ_LOG 0 qp ≤ 12 →
      ((∀ c ∈ s.net.colls, qp.val ∉ s.collNeeds c.entry)) →
    Runs (.sendIn qp put data) s (fun t =>
        s.putOut t (s.qpWire qp) [.roce qp kNakInvalid (s.get .NET_QP_RQ_PSN_PSN 0 qp) []] = true ∧
        t.bytes (scratchBase k b + o + 0x0C) 2 = [0, 0x25] ∧ t.bytes (scratchBase k b + o + 0x10) 4 = [0, 0, 0, 0] ∧
        t.get .NET_QP_RQ_CFG_CONS 0 qp = (s.get .NET_QP_RQ_CFG_CONS 0 qp + 1) % s.rqSize qp ∧ t.qpState qp = 4 ∧
        SameRegs [.NET_QP_RQ_CFG_CONS, .NET_QP_CTRL_STATE, .NET_P_TX_COUNT, .NET_P_RX_COUNT] s t ∧
        MemOutside (scratchBase k b + o) 32 s t)) ∧
  (∀ (s : State) (qp : Fin 65536) (put : Option (BitVec 48)) (data : List (BitVec 8)) (b : Fin 8) (k o : Nat),
      s.qpReceives qp = true → s.qpInGroup qp = false → s.qpBerth qp = some b →
      s.translate b (s.rqBase qp + 32 * (s.get .NET_QP_RQ_CFG_CONS 0 qp % s.rqSize qp)) 32 = some (.scratch k o) →
      s.serveStatus (s.qpNd qp) (.scratch k o) = 0 → nth (s.scratchRead k b o 32) 0x0C = 1 →
      data.length ≤ leAt (s.scratchRead k b o 32) 8 4 →
      s.translate b (leAt (s.scratchRead k b o 32) 0 6) (leAt (s.scratchRead k b o 32) 8 4) = none →
      s.get .NET_QP_RQ_CFG_RQ_LOG 0 qp ≤ 12 → ((∀ c ∈ s.net.colls, qp.val ∉ s.collNeeds c.entry)) →
    Runs (.sendIn qp put data) s (fun t =>
        s.putOut t (s.qpWire qp) [.roce qp kNakInvalid (s.get .NET_QP_RQ_PSN_PSN 0 qp) []] = true ∧
        t.bytes (scratchBase k b + o + 0x0C) 2 = [0, 0x10] ∧ t.bytes (scratchBase k b + o + 0x10) 4 = [0, 0, 0, 0] ∧
        t.get .NET_QP_RQ_CFG_CONS 0 qp = (s.get .NET_QP_RQ_CFG_CONS 0 qp + 1) % s.rqSize qp ∧ t.qpState qp = 4 ∧
        SameRegs [.NET_QP_RQ_CFG_CONS, .NET_QP_CTRL_STATE, .NET_P_TX_COUNT, .NET_P_RX_COUNT] s t ∧
        MemOutside (scratchBase k b + o) 32 s t)) ∧
  (∀ (s : State) (qp : Fin 65536) (put : Option (BitVec 48)) (data : List (BitVec 8)) (b : Fin 8), s.qpReceives qp = true →
      s.qpInGroup qp = false → s.qpBerth qp = some b →
      (s.translate b (s.rqBase qp + 32 * (s.get .NET_QP_RQ_CFG_CONS 0 qp % s.rqSize qp)) 32).all (fun l =>
      s.serveStatus (s.qpNd qp) l != 0) = true →
    Runs (.sendIn qp put data) s (fun t =>
        s.putOut t (s.qpWire qp) [.roce qp kNakRemote (s.get .NET_QP_RQ_PSN_PSN 0 qp) []] = true ∧ SameMem s t ∧
        SameRegs [.NET_P_TX_COUNT, .NET_P_RX_COUNT] s t)) ∧
  (∀ (s : State) (qp : Fin 65536) (a : BitVec 48) (data : List (BitVec 8)) (b : Fin 8) (k o : Nat), s.qpReceives qp = true →
      s.qpInGroup qp = true → s.qpBerth qp = some b → 0 < data.length → data.length ≤ s.pmtu qp →
      s.translate b a.toNat data.length = some (.scratch k o) → s.serveStatus (s.qpNd qp) (.scratch k o) = 0 →
    Runs (.sendIn qp (some a) data) s (fun t => t.bytes (scratchBase k b + o) data.length = data.map (·.toNat) ∧
        s.putOut t (s.qpWire qp) [.roce qp kAck (s.get .NET_QP_RQ_PSN_PSN 0 qp) []] = true ∧
        t.get .NET_QP_RQ_PSN_PSN 0 qp = ((s.get .NET_QP_RQ_PSN_PSN 0 qp) + 1) % 2 ^ 24 ∧
        MemOutside (scratchBase k b + o) data.length s t ∧
        SameRegs [.NET_QP_RQ_PSN_PSN, .NET_P_TX_COUNT, .NET_P_RX_COUNT] s t)) ∧
  (∀ (s : State) (qp : Fin 65536) (data : List (BitVec 8)) (b : Fin 8), s.qpReceives qp = true → s.qpInGroup qp = true →
      s.qpBerth qp = some b →
    Runs (.sendIn qp none data) s (fun t =>
        s.putOut t (s.qpWire qp) [.roce qp kAck (s.get .NET_QP_RQ_PSN_PSN 0 qp) []] = true ∧ SameMem s t ∧
        SameRegs [.NET_QP_RQ_PSN_PSN, .NET_P_TX_COUNT, .NET_P_RX_COUNT] s t)) ∧
  (∀ (s : State) (qp : Fin 65536) (put : Option (BitVec 48)) (data : List (BitVec 8)), s.qpReceives qp = false →
    Runs (.sendIn qp put data) s (fun t => t = s))

/-- R270, R271, R275, Table 10-2: states of a queue pair. What completes a context is log entry 14. -/
def Obligations.QueuePairStatesFollowTheirTable : Prop :=
  (∀ (s : State) (src : Source) (qp : Fin 65536), s.right src = .owner → s.qpState qp = 0 →
    Runs (.qpToInit src qp) s (fun t => t.qpState qp = 1 ∧ t.get .NET_QP_RQ_CFG_CONS 0 qp = 0 ∧
        t.get .NET_QP_SEL_QP 0 (srcItem src) = qp.val ∧ Answered src 0 s t ∧
        SameRegs [.NET_QP_SEL_QP, .NET_QP_CTRL_STATE, .NET_QP_RQ_CFG_CONS] s t ∧ SameMem s t)) ∧
  (∀ (s : State) (src : Source) (qp : Fin 65536), s.right src = .owner → s.qpState qp ≠ 0 →
    Runs (.qpToInit src qp) s (fun t => t.qpState qp = s.qpState qp ∧ t.get .NET_QP_SEL_QP 0 (srcItem src) = qp.val ∧
        Answered src 0 s t ∧ SameRegs [.NET_QP_SEL_QP] s t ∧ SameMem s t)) ∧
  (∀ (s : State) (src : Source) (qp : Fin 65536), s.right src = .owner → s.qpState qp = 1 → s.qpComplete qp = true →
    Runs (.qpToRtr src qp) s (fun t => t.qpState qp = 2 ∧ t.get .NET_QP_SEL_QP 0 (srcItem src) = qp.val ∧
        Answered src 0 s t ∧ SameRegs [.NET_QP_SEL_QP, .NET_QP_CTRL_STATE] s t ∧ SameMem s t)) ∧
  (∀ (s : State) (src : Source) (qp : Fin 65536), s.right src = .owner → s.qpState qp = 1 → s.qpComplete qp = false →
    Runs (.qpToRtr src qp) s (fun t => t.qpState qp = 1 ∧ t.get .NET_QP_SEL_QP 0 (srcItem src) = qp.val ∧
        Answered src 0 s t ∧ SameRegs [.NET_QP_SEL_QP] s t ∧ SameMem s t)) ∧
  (∀ (s : State) (src : Source) (qp : Fin 65536), s.right src = .owner → s.qpState qp ≠ 1 →
    Runs (.qpToRtr src qp) s (fun t => t.qpState qp = s.qpState qp ∧ t.get .NET_QP_SEL_QP 0 (srcItem src) = qp.val ∧
        Answered src 0 s t ∧ SameRegs [.NET_QP_SEL_QP] s t ∧ SameMem s t)) ∧
  (∀ (s : State) (src : Source) (qp : Fin 65536), s.right src = .owner → s.qpState qp = 2 →
    Runs (.qpToRts src qp) s (fun t => t.qpState qp = 3 ∧ t.get .NET_QP_SEL_QP 0 (srcItem src) = qp.val ∧
        Answered src 0 s t ∧ SameRegs [.NET_QP_SEL_QP, .NET_QP_CTRL_STATE] s t ∧ SameMem s t)) ∧
  (∀ (s : State) (src : Source) (qp : Fin 65536), s.right src = .owner → s.qpState qp ≠ 2 →
    Runs (.qpToRts src qp) s (fun t => t.qpState qp = s.qpState qp ∧ t.get .NET_QP_SEL_QP 0 (srcItem src) = qp.val ∧
        Answered src 0 s t ∧ SameRegs [.NET_QP_SEL_QP] s t ∧ SameMem s t)) ∧
  (∀ (s : State) (src : Source) (qp : Fin 65536), s.right src = .owner →
      s.qpState qp = 1 ∨ s.qpState qp = 2 ∨ s.qpState qp = 3 → ((∀ c ∈ s.net.colls, qp.val ∉ s.collNeeds c.entry)) →
    Runs (.qpToError src qp) s (fun t => t.qpState qp = 4 ∧ (t.qpSt qp).unacked = [] ∧
        t.get .NET_QP_SEL_QP 0 (srcItem src) = qp.val ∧ Answered src 0 s t ∧
        SameRegs [.NET_QP_SEL_QP, .NET_QP_CTRL_STATE] s t ∧ SameMem s t)) ∧
  (∀ (s : State) (src : Source) (qp : Fin 65536) (c : Coll), s.right src = .owner →
      s.qpState qp = 1 ∨ s.qpState qp = 2 ∨ s.qpState qp = 3 → s.net.colls = [c] → c.own = none →
      qp.val ∈ s.collNeeds c.entry →
    Runs (.qpToError src qp) s (fun t => t.qpState qp = 4 ∧ t.net.colls = [] ∧
        (t.die c.die).handles = (s.die c.die).handles.map (fun x => if x.id = c.handle ∧
        x.status.isNone then { x with status := some 0x22 } else x) ∧ t.get .NET_QP_SEL_QP 0 (srcItem src) = qp.val ∧
        Answered src 0 s t ∧ SameMem s t)) ∧
  (∀ (s : State) (src : Source) (qp : Fin 65536), s.right src = .owner → s.qpState qp = 0 ∨ 4 ≤ s.qpState qp →
    Runs (.qpToError src qp) s (fun t => t.qpState qp = s.qpState qp ∧ t.get .NET_QP_SEL_QP 0 (srcItem src) = qp.val ∧
        Answered src 0 s t ∧ SameRegs [.NET_QP_SEL_QP] s t ∧ SameMem s t)) ∧
  (∀ (s : State) (src : Source) (qp : Fin 65536), s.right src = .owner →
    Runs (.qpToReset src qp) s (fun t => t.qpState qp = 0 ∧ t.net.qps = s.net.qps.filter (fun x => x.qp != qp.val) ∧
        t.get .NET_QP_RKEY_RKEY 0 qp = 0 ∧ t.get .NET_QP_SEL_QP 0 (srcItem src) = qp.val ∧ Answered src 0 s t ∧
        SameRegs (.NET_QP_SEL_QP :: qpFlds) s t ∧ SameMem s t)) ∧
  (∀ (s : State) (qp : Fin 65536), s.netHeld = false → s.qpLink qp = false →
      s.qpState qp = 1 ∨ s.qpState qp = 2 ∨ s.qpState qp = 3 → ((∀ c ∈ s.net.colls, qp.val ∉ s.collNeeds c.entry)) →
    Runs (.qpSubportDownTimeout qp) s (fun t => t.qpState qp = 4 ∧ (t.qpSt qp).unacked = [] ∧
        SameRegs [.NET_QP_CTRL_STATE] s t ∧ SameMem s t)) ∧
  (∀ (s : State) (qp : Fin 65536), s.netHeld = true ∨ s.qpLink qp = true ∨ s.qpState qp = 0 ∨ 4 ≤ s.qpState qp →
    Runs (.qpSubportDownTimeout qp) s (fun t => t = s))

/-- R210, R274, R275, Table 8-4: collectives. That DST is open under a code that tells no more of it is log entry 36. The order of ring data is log entry 65. -/
def Obligations.CollectivesComplete : Prop :=
  (∀ (s : State) (d : Fin 8) (h : Fin 16) (c : Coll) (ps : List (List Nat)) (m code : Nat) (own : List Nat),
      s.net.colls.find? (fun c => c.die == d && c.handle == h.val) = some c → c.own = some (code, own) →
      2 ≤ code ∨ collMoves (max m (max code (s.collReach (Fin.ofNat 8 c.berth) (16 +
      cPort c.entry) (s.pmtu (s.collQp c.entry)) (cDst c.entry)
      (collDstLen c.entry (s.grpSize c.group) ((s.grpPos c.group).getD 0))))) = false →
      collOpen (max m (max code (s.collReach (Fin.ofNat 8 c.berth) (16 +
      cPort c.entry) (s.pmtu (s.collQp c.entry)) (cDst c.entry)
      (collDstLen c.entry (s.grpSize c.group) ((s.grpPos c.group).getD 0))))) = false →
    Runs (.collectiveComplete d h ps m) s (fun t =>
        t.net.colls = s.net.colls.filter (fun x => !(x.die == d && x.handle == h.val)) ∧
        (t.die d).handles = (s.die d).handles.map (fun x => if x.id = h.val ∧
        x.status.isNone then { x with status := some (max m (max code (s.collReach (Fin.ofNat 8 c.berth) (16 + cPort c.entry) (s.pmtu (s.collQp c.entry)) (cDst c.entry) (collDstLen c.entry (s.grpSize c.group) ((s.grpPos c.group).getD 0))))) }
        else x) ∧ t.bit .CDC_ERR_SLOT_VALID d = true ∧ t.tx = s.tx ∧ SameMem s t)) ∧
  (∀ (s : State) (d : Fin 8) (h : Fin 16) (c : Coll) (ps : List (List Nat)) (m code k o n : Nat) (own : List Nat),
      s.net.colls.find? (fun c => c.die == d && c.handle == h.val) = some c → c.own = some (code, own) →
      collOpen (max m (max code (s.collReach (Fin.ofNat 8 c.berth) (16 +
      cPort c.entry) (s.pmtu (s.collQp c.entry)) (cDst c.entry)
      (collDstLen c.entry (s.grpSize c.group) ((s.grpPos c.group).getD 0))))) = true →
      n = collDstLen c.entry (s.grpSize c.group) ((s.grpPos c.group).getD 0) → 0 < n → n ≤ s.pmtu (s.collQp c.entry) →
      s.translate (Fin.ofNat 8 c.berth) (cDst c.entry) n = some (.scratch k o) →
    Runs (.collectiveComplete d h ps m) s (fun t =>
        t.net.colls = s.net.colls.filter (fun x => !(x.die == d && x.handle == h.val)) ∧
        (t.die d).handles = (s.die d).handles.map (fun x => if x.id = h.val ∧
        x.status.isNone then { x with status := some (max m (max code (s.collReach (Fin.ofNat 8 c.berth) (16 + cPort c.entry) (s.pmtu (s.collQp c.entry)) (cDst c.entry) (collDstLen c.entry (s.grpSize c.group) ((s.grpPos c.group).getD 0))))) }
        else x) ∧ t.bit .CDC_ERR_SLOT_VALID d = true ∧ t.tx = s.tx ∧ MemOutside (scratchBase k (c.berth % 8) + o) n s t)) ∧
  (∀ (s : State) (d : Fin 8) (h : Fin 16) (c : Coll) (ps : List (List Nat)) (m : Nat),
      s.net.colls.find? (fun c => c.die == d && c.handle == h.val) = some c → c.own = none →
      2 ≤ s.collReach (Fin.ofNat 8 c.berth) (16 +
      cPort c.entry) (s.pmtu (s.collQp c.entry)) (cSrc c.entry)
      (collSrcLen c.entry (s.grpSize c.group) ((s.grpPos c.group).getD 0)) →
      collOpen (max m (max (s.collReach (Fin.ofNat 8 c.berth) (16 +
      cPort c.entry) (s.pmtu (s.collQp c.entry)) (cSrc c.entry)
      (collSrcLen c.entry (s.grpSize c.group) ((s.grpPos c.group).getD 0))) (s.collReach (Fin.ofNat 8 c.berth) (16 +
      cPort c.entry) (s.pmtu (s.collQp c.entry)) (cDst c.entry)
      (collDstLen c.entry (s.grpSize c.group) ((s.grpPos c.group).getD 0))))) = false →
      ((∀ x ∈ s.net.colls, x.die = d → x.handle = h.val → x = c)) →
    Runs (.collectiveComplete d h ps m) s (fun t =>
        t.net.colls = s.net.colls.filter (fun x => !(x.die == d && x.handle == h.val)) ∧
        (t.die d).handles = (s.die d).handles.map (fun x => if x.id = h.val ∧
        x.status.isNone then { x with status := some (max m (max (s.collReach (Fin.ofNat 8 c.berth) (16 + cPort c.entry) (s.pmtu (s.collQp c.entry)) (cSrc c.entry) (collSrcLen c.entry (s.grpSize c.group) ((s.grpPos c.group).getD 0))) (s.collReach (Fin.ofNat 8 c.berth) (16 + cPort c.entry) (s.pmtu (s.collQp c.entry)) (cDst c.entry) (collDstLen c.entry (s.grpSize c.group) ((s.grpPos c.group).getD 0))))) }
        else x) ∧ t.bit .CDC_ERR_SLOT_VALID d = true ∧ t.tx = s.tx ∧ SameMem s t)) ∧
  (∀ (s : State) (d : Fin 8) (h : Fin 16) (ps : List (List Nat)) (m : Nat),
      s.net.colls.find? (fun c => c.die == d && c.handle == h.val) = none →
    Runs (.collectiveComplete d h ps m) s (fun t => t = s)) ∧
  (∀ (s : State) (d : Fin 8) (h : Fin 16) (c : Coll) (ps : List (List Nat)) (k o pos n m : Nat) (x : List Nat),
      s.net.colls.find? (fun c => c.die == d && c.handle == h.val) = some c → c.own = some (0, []) → cOp c.entry = 3 →
      s.grpPos c.group = some pos → cRoot c.entry ≠ pos → cRoot c.entry < s.grpSize c.group → pos < s.grpSize c.group →
      ps[cRoot c.entry]? = some x → n = cCount c.entry * fmtBytes (cFmt c.entry) → 0 < n → n ≤ s.pmtu (s.collQp c.entry) →
      s.translate (Fin.ofNat 8 c.berth) (cDst c.entry) n = some (.scratch k o) →
      s.serveStatus (16 + cPort c.entry) (.scratch k o) = 0 → collMoves m = true → m ≠ 0x19 →
      cRoot c.entry = (pos + 1) % s.grpSize c.group →
    Runs (.collectiveComplete d h ps m) s (fun t =>
        (∀ i, i < n → t.byte (scratchBase k (c.berth % 8) + o + i) = BitVec.ofNat 8 (nth x i)) ∧
        t.net.colls = s.net.colls.filter (fun x => !(x.die == d && x.handle == h.val)) ∧
        (t.die d).handles = (s.die d).handles.map (fun x => if x.id = h.val ∧
        x.status.isNone then { x with status := some (m) } else x) ∧ (m = 0 ∨ t.bit .CDC_ERR_SLOT_VALID d = true) ∧
        t.tx = s.tx ∧ MemOutside (scratchBase k (c.berth % 8) + o) n s t ∧ (m ≠ 0 ∨ SameRegs [] s t))) ∧
  (∀ (s : State) (d : Fin 8) (h : Fin 16) (c : Coll) (ps : List (List Nat)) (k o pos q : Nat), s.net.colls = [c] →
      c.die = d → c.handle = h.val → c.own = none → cOp c.entry = 4 → s.grpPos c.group = some pos → cRoot c.entry ≠ pos →
      pos < s.grpSize c.group → s.collNext c.entry = some q → 0 < cCount c.entry → cCount c.entry ≤ s.pmtu q →
      cCount c.entry ≤ s.pmtu (s.collQp c.entry) →
      s.translate (Fin.ofNat 8 c.berth) (cSrc c.entry) (cCount c.entry) = some (.scratch k o) →
      s.serveStatus (16 + cPort c.entry) (.scratch k o) = 0 →
    Runs (.collectiveComplete d h ps 0) s (fun t =>
        s.putOut t (s.qpWire q) [.roce q kSend ((s.get .NET_QP_SQ_PSN_PSN 0 q +
        (s.qpSt q).sent) % 2 ^ 24) (s.scratchRead k (Fin.ofNat 8 c.berth : Fin 8) o (cCount c.entry))] = true ∧
        t.net.colls = [] ∧ (t.die d).handles =
        (s.die d).handles.map (fun x => if x.id = h.val ∧ x.status.isNone then { x with status := some (0) } else x) ∧
        SameMem s t)) ∧
  (∀ (s : State) (d : Fin 8) (h : Fin 16) (c : Coll), s.net.colls.find? (fun c => c.die == d && c.handle == h.val) = some c →
      c.own = none → s.get .NET_GRP_CFG_TIMEOUT_MS 0 c.group ≠ 0 →
    Runs (.collectiveTimeout d h) s (fun t =>
        t.net.colls = s.net.colls.filter (fun x => !(x.die == d && x.handle == h.val)) ∧
        (t.die d).handles = (s.die d).handles.map (fun x => if x.id = h.val ∧
        x.status.isNone then { x with status := some (0x23) } else x) ∧ t.bit .CDC_ERR_SLOT_VALID d = true ∧ SameMem s t)) ∧
  (∀ (s : State) (d : Fin 8) (h : Fin 16) (c : Coll) (k o n : Nat),
      s.net.colls.find? (fun c => c.die == d && c.handle == h.val) = some c → c.own.isSome = true →
      s.get .NET_GRP_CFG_TIMEOUT_MS 0 c.group ≠ 0 → n = collDstLen c.entry (s.grpSize c.group) ((s.grpPos c.group).getD 0) →
      0 < n → n ≤ s.pmtu (s.collQp c.entry) → s.translate (Fin.ofNat 8 c.berth) (cDst c.entry) n = some (.scratch k o) →
    Runs (.collectiveTimeout d h) s (fun t =>
        t.net.colls = s.net.colls.filter (fun x => !(x.die == d && x.handle == h.val)) ∧
        (t.die d).handles = (s.die d).handles.map (fun x => if x.id = h.val ∧
        x.status.isNone then { x with status := some (0x23) } else x) ∧ t.bit .CDC_ERR_SLOT_VALID d = true ∧
        MemOutside (scratchBase k (c.berth % 8) + o) n s t)) ∧
  (∀ (s : State) (d : Fin 8) (h : Fin 16),
      s.net.colls.all (fun c => !(c.die == d && c.handle == h.val) || s.get .NET_GRP_CFG_TIMEOUT_MS 0 c.group == 0) = true →
    Runs (.collectiveTimeout d h) s (fun t => t = s))

/-- R260, R261, R276, R277: PTP. The UDP port and group of its messages are log entry 64. -/
def Obligations.PtpMessagesAndSources : Prop :=
  (∀ (s : State) (p : Fin 2) (m : PtpMsg) (l : Bool) (rx t1 t2 t3 : Int), s.netHeld = false → s.ptpDelivered m = true →
      s.ready rPTP = true → s.ptpPort = some p → m.domain = s.get .NET_PTP_CFG_DOMAIN → s.net.ptp.parent = some m.sender →
      m.kind = .delayResp rx → s.net.ptp.sync = some (t1, t2) → s.net.ptp.req = some (m.seq, t3) →
      s.get .NET_PTP_STATUS_SRC ≠ 2 →
    Runs (.ptpMessage p m l) s (fun t => t.get .NET_PTP_OFFSET_NS = enc 32 (((t2 - t1) - (rx - t3)) / 2) ∧
        t.net.ptpBase = s.net.ptpBase - (((t2 - t1) - (rx - t3)) / 2) ∧ t.get .NET_PTP_STATUS_STATE = (if l then 2 else 1) ∧
        t.net.ptp.req = none ∧ t.tx = s.tx ∧ SameRegs [.NET_P_RX_COUNT, .NET_PTP_OFFSET_NS, .NET_PTP_STATUS_STATE] s t ∧
        SameMem s t)) ∧
  (∀ (s : State) (p : Fin 2) (m : PtpMsg) (l : Bool) (rx t1 t2 t3 : Int), s.netHeld = false → s.ptpDelivered m = true →
      s.ready rPTP = true → s.ptpPort = some p → m.domain = s.get .NET_PTP_CFG_DOMAIN → s.net.ptp.parent = some m.sender →
      m.kind = .delayResp rx → s.net.ptp.sync = some (t1, t2) → s.net.ptp.req = some (m.seq, t3) →
      s.get .NET_PTP_STATUS_SRC = 2 →
    Runs (.ptpMessage p m l) s (fun t => t.get .NET_PTP_OFFSET_NS = enc 32 (((t2 - t1) - (rx - t3)) / 2) ∧
        t.net.ptpBase = s.net.ptpBase - ((((t2 - t1) - (rx - t3)) / 2) + 500000000) / 1000000000 * 1000000000 ∧
        t.get .NET_PTP_STATUS_STATE = (if l then 2 else 1) ∧ t.tx = s.tx ∧
        SameRegs [.NET_P_RX_COUNT, .NET_PTP_OFFSET_NS, .NET_PTP_STATUS_STATE] s t ∧ SameMem s t)) ∧
  (∀ (s : State) (p : Fin 2) (m : PtpMsg) (l : Bool) (o : Int), s.netHeld = false → s.ptpDelivered m = true →
      s.ready rPTP = true → s.ptpPort = some p → m.domain = s.get .NET_PTP_CFG_DOMAIN → s.net.ptp.parent = some m.sender →
      m.kind = .sync o false →
    Runs (.ptpMessage p m l) s (fun t => t.net.ptp.sync = some (o, (s.timeNs : Int)) ∧ t.net.ptp.waits = none ∧
        s.putOut t (s.mgmtWire p (s.anySub p) (ptpGroup m.transport) (ptpUdp m.transport) 7 7) [.delayReq s.net.ptp.nextReq]
        = true ∧ t.net.ptp.req = some (s.net.ptp.nextReq, (t.timeNs : Int)) ∧
        SameRegs [.NET_P_RX_COUNT, .NET_PTP_STATUS_STATE, .NET_P_TX_COUNT] s t ∧ SameMem s t)) ∧
  (∀ (s : State) (p : Fin 2) (m : PtpMsg) (l : Bool) (o : Int), s.netHeld = false → s.ptpDelivered m = true →
      s.ready rPTP = true → s.ptpPort = some p → m.domain = s.get .NET_PTP_CFG_DOMAIN → s.net.ptp.parent = some m.sender →
      m.kind = .sync o true →
    Runs (.ptpMessage p m l) s (fun t => t.net.ptp.waits = some (m.seq, (s.timeNs : Int)) ∧ t.net.ptp.sync = s.net.ptp.sync ∧
        t.tx = s.tx ∧ SameRegs [.NET_P_RX_COUNT, .NET_PTP_STATUS_STATE] s t ∧ SameMem s t)) ∧
  (∀ (s : State) (p : Fin 2) (m : PtpMsg) (l : Bool) (o t0 : Int), s.netHeld = false → s.ptpDelivered m = true →
      s.ready rPTP = true → s.ptpPort = some p → m.domain = s.get .NET_PTP_CFG_DOMAIN → s.net.ptp.parent = some m.sender →
      m.kind = .followUp o → s.net.ptp.waits = some (m.seq, t0) →
    Runs (.ptpMessage p m l) s (fun t => t.net.ptp.sync = some (o, t0) ∧ t.net.ptp.waits = none ∧
        s.putOut t (s.mgmtWire p (s.anySub p) (ptpGroup m.transport) (ptpUdp m.transport) 7 7) [.delayReq s.net.ptp.nextReq]
        = true ∧ t.net.ptp.req = some (s.net.ptp.nextReq, (t.timeNs : Int)) ∧
        SameRegs [.NET_P_RX_COUNT, .NET_P_TX_COUNT] s t ∧ SameMem s t)) ∧
  (∀ (s : State) (p : Fin 2) (m : PtpMsg) (l : Bool) (best : Bool), s.netHeld = false → s.ptpDelivered m = true →
      s.ready rPTP = true → s.ptpPort = some p → m.domain = s.get .NET_PTP_CFG_DOMAIN → m.kind = .announce best →
      best = true ∨ s.net.ptp.parent = none → s.net.ptp.parent ≠ some m.sender →
    Runs (.ptpMessage p m l) s (fun t => t.net.ptp =
        { s.net.ptp with parent := some m.sender, sync := none, waits := none, req := none } ∧ t.tx = s.tx ∧
        SameRegs [.NET_P_RX_COUNT] s t ∧ SameMem s t)) ∧
  (∀ (s : State) (p : Fin 2) (m : PtpMsg) (l : Bool), s.netHeld = false → s.ptpDelivered m = true →
      s.ready rPTP = false ∨ s.ptpPort ≠ some p ∨ m.domain ≠ s.get .NET_PTP_CFG_DOMAIN ∨ ptpIdle s.net.ptp m = true →
    Runs (.ptpMessage p m l) s (fun t => t = s.received p 3 0)) ∧
  (∀ (s : State) (p : Fin 2) (m : PtpMsg) (l : Bool), s.netHeld = false → s.ptpDelivered m = false →
    Runs (.ptpMessage p m l) s (fun t => t.net = s.net ∧ t.tx = s.tx ∧
        t.get .NET_P_DROP_COUNT p = (if s.bit .NET_CNT_CTRL_FREEZE = true then s.get .NET_P_DROP_COUNT p else
        min (s.get .NET_P_DROP_COUNT p + 1) (2 ^ (Fld.info .NET_P_DROP_COUNT).width - 1)) ∧
        SameRegs [.NET_P_RX_COUNT, .NET_P_DROP_COUNT] s t ∧ SameMem s t)) ∧
  (∀ (s : State) (p : Fin 2) (m : PtpMsg) (l : Bool), s.netHeld = true → Runs (.ptpMessage p m l) s (fun t => t = s)) ∧
  (∀ (s : State) (p q : Fin 2), s.netHeld = false → s.get .NET_PTP_STATUS_SRC = p.val → q ≠ p →
      s.bit .NET_PTP_CFG_AUTO = true → s.get .NET_P_LINK_UP q ≠ 0 →
    Runs (.ptpSourceSwitch p) s (fun t => t.get .NET_PTP_STATUS_SRC = q.val ∧ t.get .NET_PTP_CFG_SRC = q.val ∧
        t.get .NET_PTP_STATUS_STATE = (if s.net.ptpValid then 3 else 1) ∧ t.net.ptpValid = s.net.ptpValid ∧ t.net.ptp = {} ∧
        SameRegs [.NET_PTP_STATUS_SRC, .NET_PTP_CFG_SRC, .NET_PTP_STATUS_STATE] s t ∧ SameMem s t)) ∧
  (∀ (s : State) (p q : Fin 2), s.netHeld = false → s.ptpPort = some p → q ≠ p →
      2 ≤ s.get .NET_PTP_STATUS_SRC ∨ s.bit .NET_PTP_CFG_AUTO = false ∨ s.get .NET_P_LINK_UP q = 0 →
    Runs (.ptpSourceSwitch p) s (fun t => t.get .NET_PTP_STATUS_STATE = 3 ∧ t.net.ptp = {} ∧
        SameRegs [.NET_PTP_STATUS_STATE] s t ∧ SameMem s t)) ∧
  (∀ (s : State) (p : Fin 2), s.netHeld = true ∨ s.ptpPort ≠ some p → Runs (.ptpSourceSwitch p) s (fun t => t = s))

/-- R279 to R281, R549, R551: sessions. The nonce and the key share of CHALLENGE are free values; the frame and its sub-port are log entry 64. -/
def Obligations.BamporSessionsOpenAndEnd : Prop :=
  (∀ (s : State) (c : Instr), isBampor c = true → s.netHeld = true → Runs c s (fun t => t = s)) ∧
  (∀ (s : State) (c : Instr), isBampor c = true → s.netHeld = false → s.bpUp = false →
    Runs c s (fun t => t.net = s.net ∧ t.tx = s.tx ∧ SameRegs [.NET_P_RX_COUNT] s t ∧ SameMem s t)) ∧
  (∀ (s : State) (via : BpVia) (role : BitVec 8) (ident : Nat) (nc xc : List Nat), s.bpUp = true → bpKnown via = false →
    Runs (.bpHello via role ident nc xc) s (fun t =>
        t.get .NET_BP_DROP_COUNT 0 = (if s.bit .NET_CNT_CTRL_FREEZE = true then s.get .NET_BP_DROP_COUNT 0 else
        min (s.get .NET_BP_DROP_COUNT 0 + 1) (2 ^ (Fld.info .NET_BP_DROP_COUNT).width - 1)) ∧ t.net = s.net ∧ t.tx = s.tx ∧
        SameRegs [.NET_BP_DROP_COUNT, .NET_P_RX_COUNT] s t ∧ SameMem s t)) ∧
  (∀ (s : State) (via : BpVia) (role : BitVec 8) (ident : Nat) (nc xc : List Nat), s.bpUp = true → bpKnown via = true →
      s.bpFull role.toNat = true →
    Runs (.bpHello via role ident nc xc) s (fun t => s.putOut t (s.bpWire via ident) [.bampor 0 1 0x0A 0 []] = true ∧
        t.net.sessions = s.net.sessions ∧ SameRegs [.NET_P_TX_COUNT, .NET_P_RX_COUNT] s t ∧ SameMem s t)) ∧
  (∀ (s : State) (via : BpVia) (role : BitVec 8) (ident : Nat) (nc xc : List Nat), s.bpUp = true → bpKnown via = true →
      s.bpFull role.toNat = false → s.bpRoleOk role.toNat ident = false →
    Runs (.bpHello via role ident nc xc) s (fun t => s.putOut t (s.bpWire via ident) [.bampor 0 1 0x03 0 []] = true ∧
        t.net.sessions = s.net.sessions ∧ SameRegs [.NET_P_TX_COUNT, .NET_P_RX_COUNT] s t ∧ SameMem s t)) ∧
  (∀ (s : State) (via : BpVia) (role : BitVec 8) (ident : Nat) (nc xc : List Nat), s.bpUp = true → bpKnown via = true →
      s.bpFull role.toNat = false → s.bpRoleOk role.toNat ident = true →
    Runs (.bpHello via role ident nc xc) s (fun t =>
        t.net.sessions.map (fun x => (x.id, x.role, x.isOpen, x.since)) =
        s.net.sessions.map (fun x => (x.id, x.role, x.isOpen, x.since)) ++ [(s.net.nextSession, role.toNat, false, s.now)] ∧
        t.net.nextSession = s.net.nextSession + 1 ∧
        s.putOne t (s.bpWire via role.toNat) (fun f => frameOfChallenge f s.net.nextSession) = true ∧
        SameRegs [.NET_P_TX_COUNT, .NET_P_RX_COUNT] s t ∧ SameMem s t)) ∧
  (∀ (s : State) (via : BpVia) (n : Nat) (sig : List Nat), s.bpUp = true →
      bpKnown via = false ∨ s.net.sessions.any (fun x => x.id == n && !x.isOpen) = false →
    Runs (.bpProve via n sig) s (fun t =>
        t.get .NET_BP_DROP_COUNT 0 = (if s.bit .NET_CNT_CTRL_FREEZE = true then s.get .NET_BP_DROP_COUNT 0 else
        min (s.get .NET_BP_DROP_COUNT 0 + 1) (2 ^ (Fld.info .NET_BP_DROP_COUNT).width - 1)) ∧ t.net = s.net ∧ t.tx = s.tx ∧
        SameRegs [.NET_BP_DROP_COUNT, .NET_P_RX_COUNT] s t ∧ SameMem s t)) ∧
  (∀ (s : State) (via : BpVia) (n : Nat) (sig : List Nat) (x : Session), s.bpUp = true → bpKnown via = true →
      s.net.sessions.find? (fun x => x.id == n && !x.isOpen) = some x →
    Runs (.bpProve via n sig) s (fun t =>
        (if (s.proveKey x.role).any (fun k => Config.ed448Verify k (ascii "bampor") (Config.shake256 x.setup 64) sig) =
        true then s.putOut t (s.bpWire via x.role) [.bampor n 3 0 0 (bpBody x 3 0 0 [])] = true ∧
        t.net.sessions = s.net.sessions.map (fun y =>
        if y.id = n then { y with isOpen := true, provisioning := decide (x.role = 0xFF) && s.ownerKey.isNone, since := s.now }
        else y) else s.putOut t (s.bpWire via x.role) [.bampor n 3 0x0B 0 []] = true ∧
        t.net.sessions = s.net.sessions.filter (fun y => y.id != n)) ∧
        SameRegs (.SEC_MAN_DIGEST_BYTES :: .NET_P_TX_COUNT :: .NET_P_RX_COUNT :: selectorFlds ++ manFlds) s t ∧ SameMem s t)) ∧
  (∀ (s : State) (n : Nat), s.net.sessions.any (fun x => x.id == n && !x.isOpen) = true →
    Runs (.bpChallengeTimeout n) s (fun t => t.net.sessions = s.net.sessions.filter (fun y => y.id != n) ∧ t.tx = s.tx ∧
        SameRegs (.SEC_MAN_DIGEST_BYTES ::  selectorFlds ++ manFlds) s t ∧ SameMem s t)) ∧
  (∀ (s : State) (n : Nat), s.net.sessions.any (fun x => x.id == n && !x.isOpen) = false →
    Runs (.bpChallengeTimeout n) s (fun t => t = s)) ∧
  (∀ (s : State) (n : Nat), s.net.sessions.any (fun x => x.id == n && x.isOpen) = true →
    Runs (.bpSessionIdleTimeout n) s (fun t => t.net.sessions = s.net.sessions.filter (fun y => y.id != n) ∧ t.tx = s.tx ∧
        SameRegs (.SEC_MAN_DIGEST_BYTES ::  selectorFlds ++ manFlds) s t ∧ SameMem s t)) ∧
  (∀ (s : State) (n : Nat), s.net.sessions.any (fun x => x.id == n && x.isOpen) = false →
    Runs (.bpSessionIdleTimeout n) s (fun t => t = s)) ∧
  (∀ (s : State) (h : BpHdr) (x : Session), s.accepts h x 0x7F ([]) = true →
    Runs (.bpClose h) s (fun t => s.putOut t (s.bpWire h.via x.role) [.bampor x.id 0x7F 0 h.seq (bpBody x 0x7F 0 h.seq [])] =
        true ∧ t.net.sessions = s.net.sessions.filter (fun y => y.id != x.id) ∧
        SameRegs (.SEC_MAN_DIGEST_BYTES :: .NET_P_TX_COUNT :: .NET_P_RX_COUNT :: selectorFlds ++ manFlds) s t ∧ SameMem s t))

/-- R191, R282 to R285, R533, R549, R550: requests. COUNT 0 and the empty payload of a reply of 0x07 are log entry 33. -/
def Obligations.BamporRequestsAreExecutedOnce : Prop :=
  (∀ (s : State) (c : Instr) (h : BpHdr) (type : Nat) (payload : List Nat), bpAsk c = some (h, type, payload) →
      s.bpUp = true → s.openSession h.session = none →
    Runs c s (fun t => t.get .NET_BP_DROP_COUNT 0 =
        (if s.bit .NET_CNT_CTRL_FREEZE = true then s.get .NET_BP_DROP_COUNT 0 else
        min (s.get .NET_BP_DROP_COUNT 0 + 1) (2 ^ (Fld.info .NET_BP_DROP_COUNT).width - 1)) ∧ t.net = s.net ∧ t.tx = s.tx ∧
        SameRegs [.NET_BP_DROP_COUNT, .NET_P_RX_COUNT] s t ∧ SameMem s t)) ∧
  (∀ (s : State) (c : Instr) (h : BpHdr) (type : Nat) (payload : List Nat) (x : Session), bpAsk c = some (h, type, payload) →
      s.bpUp = true → s.openSession h.session = some x → bpTagOk x h type payload = false →
    Runs c s (fun t => t.get .NET_BP_DROP_COUNT 0 =
        (if s.bit .NET_CNT_CTRL_FREEZE = true then s.get .NET_BP_DROP_COUNT 0 else
        min (s.get .NET_BP_DROP_COUNT 0 + 1) (2 ^ (Fld.info .NET_BP_DROP_COUNT).width - 1)) ∧ t.net = s.net ∧ t.tx = s.tx ∧
        SameRegs [.NET_BP_DROP_COUNT, .NET_P_RX_COUNT] s t ∧ SameMem s t)) ∧
  (∀ (s : State) (c : Instr) (h : BpHdr) (type : Nat) (payload : List Nat) (x : Session) (q : Nat),
      bpAsk c = some (h, type, payload) → s.bpUp = true → s.openSession h.session = some x →
      bpTagOk x h type payload = true → x.highSeq = some q → h.seq ≤ q → h.seq < q ∨ x.lastReq ≠ bpBytes h type payload →
    Runs c s (fun t => t.get .NET_BP_DROP_COUNT 0 =
        (if s.bit .NET_CNT_CTRL_FREEZE = true then s.get .NET_BP_DROP_COUNT 0 else
        min (s.get .NET_BP_DROP_COUNT 0 + 1) (2 ^ (Fld.info .NET_BP_DROP_COUNT).width - 1)) ∧ t.net = s.net ∧ t.tx = s.tx ∧
        SameRegs [.NET_BP_DROP_COUNT, .NET_P_RX_COUNT] s t ∧ SameMem s t)) ∧
  (∀ (s : State) (c : Instr) (h : BpHdr) (type : Nat) (payload : List Nat) (x : Session) (ty st : Nat) (body : List Nat),
      bpAsk c = some (h, type, payload) → s.bpUp = true → s.openSession h.session = some x →
      bpTagOk x h type payload = true → x.highSeq = some h.seq → x.lastReq = bpBytes h type payload →
      x.reply = some (ty, st, body) →
    Runs c s (fun t => s.putOut t (s.bpWire h.via x.role)
        [.bampor x.id (bpType h type) st h.seq (bpBody x (bpType h type) st h.seq body)] = true ∧
        t.net.sessions = s.net.sessions ∧ SameRegs [.NET_P_TX_COUNT, .NET_P_RX_COUNT] s t ∧ SameMem s t)) ∧
  (∀ (s : State) (c : Instr) (h : BpHdr) (type : Nat) (payload : List Nat) (x : Session), bpAsk c = some (h, type, payload) →
      s.bpUp = true → s.openSession h.session = some x → bpTagOk x h type payload = true →
      x.highSeq.all (fun q => decide (q < h.seq)) = true → bpWellFormed h type payload = false →
    Runs c s (fun t => s.replied t x h (bpType h type) 7 ([]) = true ∧ SameRegs [.NET_P_TX_COUNT, .NET_P_RX_COUNT] s t ∧
        SameMem s t)) ∧
  (∀ (s : State) (h : BpHdr) (x : Session) (addr : BitVec 32) (p : Spot),
      s.accepts h x 0x10 (toBe addr.toNat 4 ++ [1, 0, 0, 0]) = true → addr.toNat % 4 = 0 → spotOf addr.toNat = some p →
      p.blk = .mod → s.mayRead (.session x.id) p = true →
    Runs (.bpRegRead h addr 1#8) s (fun t =>
        s.replied t x h 0x10 0 ([1, 0, 0, 0] ++ toBe (s.wordAt (.session x.id) .mod 0 p.off) 4) = true ∧
        SameRegs [.NET_P_TX_COUNT, .NET_P_RX_COUNT] s t ∧ SameMem s t)) ∧
  (∀ (s : State) (h : BpHdr) (x : Session) (addr : BitVec 32) (p : Spot),
      s.accepts h x 0x10 (toBe addr.toNat 4 ++ [1, 0, 0, 0]) = true → addr.toNat % 4 = 0 → spotOf addr.toNat = some p →
      s.mayRead (.session x.id) p = false →
    Runs (.bpRegRead h addr 1#8) s (fun t => s.replied t x h 0x10 3 ([0, 0, 0, 0]) = true ∧
        SameRegs [.NET_P_TX_COUNT, .NET_P_RX_COUNT] s t ∧ SameMem s t)) ∧
  (∀ (s : State) (h : BpHdr) (x : Session) (addr : BitVec 32) (count : BitVec 8),
      s.accepts h x 0x10 (toBe addr.toNat 4 ++ [count.toNat, 0, 0, 0]) = true → count.toNat = 0 ∨ 64 < count.toNat →
    Runs (.bpRegRead h addr count) s (fun t => s.replied t x h 0x10 6 ([0, 0, 0, 0]) = true ∧
        SameRegs [.NET_P_TX_COUNT, .NET_P_RX_COUNT] s t ∧ SameMem s t)) ∧
  (∀ (s : State) (h : BpHdr) (x : Session) (w : BitVec 32),
      s.accepts h x 0x11 (toBe 0x1B000C 4 ++ [1, 0, 0, 0] ++ toBe w.toNat 4) = true → s.right (.session x.id) = .owner →
      w.toNat < 8192 →
    Runs (.bpRegWrite h 0x1B000C [w]) s (fun t => t.get .CAP_RACK_W = min w.toNat 4000 ∧
        s.replied t x h 0x11 0 ([1, 0, 0, 0]) = true ∧ SameRegs [.CAP_RACK_W, .NET_P_TX_COUNT, .NET_P_RX_COUNT] s t ∧
        SameMem s t)) ∧
  (∀ (s : State) (h : BpHdr) (x : Session) (addr : BitVec 32) (ws : List (BitVec 32)),
      s.accepts h x 0x11 (toBe addr.toNat 4 ++ [ws.length % 256, 0, 0, 0] ++ (ws.map (·.toNat)).flatMap (fun w =>
      toBe w 4)) = true → ws.length = 0 ∨ 64 < ws.length →
    Runs (.bpRegWrite h addr ws) s (fun t => s.replied t x h 0x11 6 ([0, 0, 0, 0]) = true ∧
        SameRegs [.NET_P_TX_COUNT, .NET_P_RX_COUNT] s t ∧ SameMem s t)) ∧
  (∀ (s : State) (h : BpHdr) (x : Session) (frame : List Nat), s.accepts h x 0x20 (frame) = true → s.mayFrame x = false →
    Runs (.bpImgFrame h frame) s (fun t =>
        s.replied t x h 0x20 3 ([0] ++ toBe (s.get .BTH_IMG_FRAMES_RECEIVED) 2 ++ [0]) = true ∧ t.img = s.img ∧
        SameRegs [.NET_P_TX_COUNT, .NET_P_RX_COUNT] s t ∧ SameMem s t)) ∧
  (∀ (s : State) (h : BpHdr) (x : Session) (frame : List Nat), s.accepts h x 0x20 (frame) = true → s.mayFrame x = true →
    Runs (.bpImgFrame h frame) s (fun t => t.img = (s.imgFrame frame).2.img ∧
        s.replied t x h 0x20 (if (s.imgFrame frame).1 = 0 then 0 else
        9) ([(s.imgFrame frame).1] ++ toBe (t.get .BTH_IMG_FRAMES_RECEIVED) 2 ++ [0]) = true ∧ SameMem s t)) ∧
  (∀ (s : State) (h : BpHdr) (x : Session) (c : BitVec 32) (count : BitVec 8),
      s.accepts h x 0x30 (toBe c.toNat 4 ++ [count.toNat, 0, 0, 0]) = true → x.provisioning = false → 0 < count.toNat →
      count.toNat ≤ 32 →
    Runs (.bpLogRead h c count) s (fun t =>
        s.replied t x h 0x30 0 (toBe ((((s.logRead c.toNat count.toNat).getLast?).map (fun r =>
        (r.seq + 1) % 2 ^ 32)).getD c.toNat) 4 ++ [(s.logRead c.toNat count.toNat).length, 0, 0,
        0] ++ (s.logRead c.toNat count.toNat).flatMap (fun r => r.bytes)) = true ∧
        SameRegs (watchFlds ++ [.NET_P_TX_COUNT, .NET_P_RX_COUNT]) s t ∧ SameMem s t)) ∧
  (∀ (s : State) (h : BpHdr) (x : Session) (c : BitVec 32) (count : BitVec 8),
      s.accepts h x 0x30 (toBe c.toNat 4 ++ [count.toNat, 0, 0, 0]) = true →
      x.provisioning = true ∨ count.toNat = 0 ∨ 32 < count.toNat →
    Runs (.bpLogRead h c count) s (fun t =>
        s.replied t x h 0x30 (if x.provisioning then 3 else 6) (toBe c.toNat 4 ++ [0, 0, 0, 0]) = true ∧
        SameRegs [.NET_P_TX_COUNT, .NET_P_RX_COUNT] s t ∧ SameMem s t)) ∧
  (∀ (s : State) (h : BpHdr) (x : Session) (nonce : List Nat), s.accepts h x 0x40 (nonce) = true →
    Runs (.bpAttest h nonce) s (fun t => s.replied t x h 0x40 (if x.provisioning then 3 else 0) (if x.provisioning then
        [] else s.attest (if x.role = 0xFF then none else some (Fin.ofNat 8 x.role)) nonce) = true ∧
        SameRegs [.NET_P_TX_COUNT, .NET_P_RX_COUNT] s t ∧ SameMem s t))

/-- R287, R291, R299 to R306, R311, R312, R315, R316, R318, R320: received frames. A repeat of 0x1108 at any answerer is log entry 67, the address of a group log entry 64. -/
def Obligations.TidemarkFramesAreTaken : Prop :=
  (∀ (s : State) (c : Instr), (tmGot c).isSome = true → s.netHeld = true → Runs c s (fun t => t = s)) ∧
  (∀ (s : State) (c : Instr) (b : Fin 8) (h : TmHdr) (type : Nat) (payload codes : List Nat),
      tmGot c = some (b, h, type, payload, codes) → s.netHeld = false → s.tmListens b = false →
    Runs c s (fun t => t.rhd = s.rhd ∧ t.dies = s.dies ∧ t.tx = s.tx ∧ t.net = s.net ∧ SameRegs [.NET_P_RX_COUNT] s t ∧
        SameMem s t)) ∧
  (∀ (s : State) (c : Instr) (b : Fin 8) (h : TmHdr) (type : Nat) (payload codes : List Nat),
      tmGot c = some (b, h, type, payload, codes) → s.tmListens b = true → s.tmGood c = false →
    Runs c s (fun t => t.rhd = s.rhd ∧ t.dies = s.dies ∧ t.tx = s.tx ∧ t.net = s.net ∧
        t.get .NET_TM_DROP_COUNT 0 = (if s.bit .NET_CNT_CTRL_FREEZE = true then s.get .NET_TM_DROP_COUNT 0 else
        min (s.get .NET_TM_DROP_COUNT 0 + 1) (2 ^ (Fld.info .NET_TM_DROP_COUNT).width - 1)) ∧
        SameRegs (watchFlds ++ [.NET_TM_DROP_COUNT, .NET_P_RX_COUNT]) s t ∧ SameMem s t)) ∧
  (∀ (s : State) (b : Fin 8) (h : TmHdr) (rate pend : BitVec 8) (eff : BitVec 32) (tn : Nat) (man : BitVec 64)
      (per : BitVec 32) (mem : BitVec 16), s.tmTakes b (.tmBeaconRx b h rate pend eff tn man per mem) = true →
      (s.rhdOf b).stale h.sender h.alive tn = true →
    Runs (.tmBeaconRx b h rate pend eff tn man per mem) s (fun t => t.rhd = s.rhd ∧ t.dies = s.dies ∧ t.tx = s.tx ∧
        t.net = s.net ∧ t.get .NET_TM_DROP_COUNT 0 =
        (if s.bit .NET_CNT_CTRL_FREEZE = true then s.get .NET_TM_DROP_COUNT 0 else
        min (s.get .NET_TM_DROP_COUNT 0 + 1) (2 ^ (Fld.info .NET_TM_DROP_COUNT).width - 1)) ∧
        SameRegs (watchFlds ++ [.NET_TM_DROP_COUNT, .NET_P_RX_COUNT]) s t ∧ SameMem s t)) ∧
  (∀ (s : State) (b : Fin 8) (h : TmHdr) (rate pend : BitVec 8) (eff : BitVec 32) (tn : Nat) (man : BitVec 64)
      (per : BitVec 32) (mem : BitVec 16), s.tmTakes b (.tmBeaconRx b h rate pend eff tn man per mem) = true →
      (s.rhdOf b).stale h.sender h.alive tn = false → s.rhdState b = 1 →
    Runs (.tmBeaconRx b h rate pend eff tn man per mem) s (fun t => t.rhdState b = 2 ∧ s.sentTm t b h.src 4 = true ∧
        t.bit .RHD_MASTER_VALID b = true ∧ t.get .RHD_MASTER_INDEX b = h.sender % 2 ^ (Fld.info .RHD_MASTER_INDEX).width ∧
        t.get .RHD_RATE_PENDING b = pend.toNat % 2 ^ (Fld.info .RHD_RATE_PENDING).width ∧
        t.get .RHD_EFF_STEP_STEP b = eff.toNat % 2 ^ (Fld.info .RHD_EFF_STEP_STEP).width ∧
        t.get .RHD_MEMBERS_COUNT b = mem.toNat % 2 ^ (Fld.info .RHD_MEMBERS_COUNT).width ∧
        (t.rhdOf b).heardFrom = (h.sender, h.alive, tn) :: (s.rhdOf b).heardFrom.filter (fun e => e.1 != h.sender) ∧
        (t.rhdOf b).masterAddr = some h.src ∧ (t.rhdOf b).missed = 0 ∧
        SameRegs (watchFlds ++ [.RHD_STATE_STATE, .NET_P_TX_COUNT, .RHD_MASTER_VALID, .RHD_MASTER_INDEX, .RHD_MASTER_PINNED,
        .RHD_EFF_STEP_STEP, .RHD_MEMBERS_COUNT, .RHD_RATE_PENDING, .RHD_STATE_REQUESTING, .RHD_BEACON_RX_COUNT,
        .NET_P_RX_COUNT]) s t ∧ SameMem s t)) ∧
  (∀ (s : State) (b : Fin 8) (h : TmHdr) (rate pend : BitVec 8) (eff : BitVec 32) (tn : Nat) (man : BitVec 64)
      (per : BitVec 32) (mem : BitVec 16), s.tmTakes b (.tmBeaconRx b h rate pend eff tn man per mem) = true →
      (s.rhdOf b).stale h.sender h.alive tn = false → s.rhdState b = 2 →
      (s.rhdOf b).fromEpoch.all (fun e => decide (h.epoch < e)) = true →
    Runs (.tmBeaconRx b h rate pend eff tn man per mem) s (fun t => t.rhdState b = 2 ∧ t.tx = s.tx ∧
        t.bit .RHD_MASTER_VALID b = true ∧ t.get .RHD_MASTER_INDEX b = h.sender % 2 ^ (Fld.info .RHD_MASTER_INDEX).width ∧
        t.get .RHD_RATE_PENDING b = pend.toNat % 2 ^ (Fld.info .RHD_RATE_PENDING).width ∧
        t.get .RHD_EFF_STEP_STEP b = eff.toNat % 2 ^ (Fld.info .RHD_EFF_STEP_STEP).width ∧
        t.get .RHD_MEMBERS_COUNT b = mem.toNat % 2 ^ (Fld.info .RHD_MEMBERS_COUNT).width ∧
        (t.rhdOf b).heardFrom = (h.sender, h.alive, tn) :: (s.rhdOf b).heardFrom.filter (fun e => e.1 != h.sender) ∧
        (t.rhdOf b).masterAddr = some h.src ∧ (t.rhdOf b).missed = 0 ∧
        SameRegs (watchFlds ++ [.RHD_MASTER_VALID, .RHD_MASTER_INDEX, .RHD_MASTER_PINNED, .RHD_EFF_STEP_STEP,
        .RHD_MEMBERS_COUNT, .RHD_RATE_PENDING, .RHD_STATE_REQUESTING, .RHD_BEACON_RX_COUNT, .NET_P_RX_COUNT]) s t ∧
        SameMem s t)) ∧
  (∀ (s : State) (b : Fin 8) (h : TmHdr) (rate pend : BitVec 8) (eff : BitVec 32) (tn : Nat) (man : BitVec 64)
      (per : BitVec 32) (mem : BitVec 16) (e : Nat), s.tmTakes b (.tmBeaconRx b h rate pend eff tn man per mem) = true →
      (s.rhdOf b).stale h.sender h.alive tn = false → s.rhdState b = 2 → (s.rhdOf b).fromEpoch = some e → e ≤ h.epoch →
      h.epoch < 2 ^ 32 → (s.berth b).tag = man.toNat → s.bit .RHD_STATE_TAG_MISMATCH b = false →
    Runs (.tmBeaconRx b h rate pend eff tn man per mem) s (fun t => t.rhdState b = 4 ∧ t.get .RHD_EPOCH_EPOCH b = h.epoch ∧
        (t.rhdOf b).fromEpoch = none ∧ t.tx = s.tx ∧ t.bit .RHD_MASTER_VALID b = true ∧
        t.get .RHD_MASTER_INDEX b = h.sender % 2 ^ (Fld.info .RHD_MASTER_INDEX).width ∧
        t.get .RHD_RATE_PENDING b = pend.toNat % 2 ^ (Fld.info .RHD_RATE_PENDING).width ∧
        t.get .RHD_EFF_STEP_STEP b = eff.toNat % 2 ^ (Fld.info .RHD_EFF_STEP_STEP).width ∧
        t.get .RHD_MEMBERS_COUNT b = mem.toNat % 2 ^ (Fld.info .RHD_MEMBERS_COUNT).width ∧
        (t.rhdOf b).heardFrom = (h.sender, h.alive, tn) :: (s.rhdOf b).heardFrom.filter (fun e => e.1 != h.sender) ∧
        (t.rhdOf b).masterAddr = some h.src ∧ (t.rhdOf b).missed = 0 ∧ SameMem s t)) ∧
  (∀ (s : State) (b : Fin 8) (h : TmHdr) (rate pend : BitVec 8) (eff : BitVec 32) (tn : Nat) (man : BitVec 64)
      (per : BitVec 32) (mem : BitVec 16), s.tmTakes b (.tmBeaconRx b h rate pend eff tn man per mem) = true →
      (s.rhdOf b).stale h.sender h.alive tn = false →
      ((s.rhdState b == 3 && outranks (bitAt h.flags 1, h.sender) (s.ownRank b) &&
      decide (s.get .RHD_EPOCH_EPOCH b ≤ h.epoch)) ||
      (s.rhdState b == 4 && !(s.bit .RHD_MASTER_VALID b && s.get .RHD_MASTER_INDEX b == h.sender) &&
      outranks (bitAt h.flags 1, h.sender) (s.rhdOf b).lastRank && decide (s.get .RHD_EPOCH_EPOCH b ≤ h.epoch)) ||
      (s.rhdState b == 5 && outranks (bitAt h.flags 1, h.sender) (s.ownRank b) && man.toNat == (s.rhdOf b).domainTag)) =
      true → (s.berth b).tag = man.toNat → s.bit .RHD_STATE_TAG_MISMATCH b = false →
    Runs (.tmBeaconRx b h rate pend eff tn man per mem) s (fun t => t.rhdState b = 4 ∧
        t.get .RHD_EPOCH_EPOCH b = h.epoch % 2 ^ 32 ∧ (t.rhdOf b).claimAt = none ∧ (t.rhdOf b).members = [] ∧
        (t.rhdOf b).lastRank = (bitAt h.flags 1, h.sender) ∧ t.tx = s.tx ∧ t.bit .RHD_MASTER_VALID b = true ∧
        t.get .RHD_MASTER_INDEX b = h.sender % 2 ^ (Fld.info .RHD_MASTER_INDEX).width ∧
        t.get .RHD_RATE_PENDING b = pend.toNat % 2 ^ (Fld.info .RHD_RATE_PENDING).width ∧
        t.get .RHD_EFF_STEP_STEP b = eff.toNat % 2 ^ (Fld.info .RHD_EFF_STEP_STEP).width ∧
        t.get .RHD_MEMBERS_COUNT b = mem.toNat % 2 ^ (Fld.info .RHD_MEMBERS_COUNT).width ∧
        (t.rhdOf b).heardFrom = (h.sender, h.alive, tn) :: (s.rhdOf b).heardFrom.filter (fun e => e.1 != h.sender) ∧
        (t.rhdOf b).masterAddr = some h.src ∧ (t.rhdOf b).missed = 0 ∧
        ((∀ x ∈ s.net.colls, x.berth = b.val → x.own = none) → SameMem s t))) ∧
  (∀ (s : State) (b : Fin 8) (h : TmHdr) (rate pend : BitVec 8) (eff : BitVec 32) (tn : Nat) (man : BitVec 64)
      (per : BitVec 32) (mem : BitVec 16), s.tmTakes b (.tmBeaconRx b h rate pend eff tn man per mem) = true →
      (s.rhdOf b).stale h.sender h.alive tn = false → s.rhdState b = 3 →
      outranks (bitAt h.flags 1, h.sender) (s.ownRank b) = true → h.epoch < s.get .RHD_EPOCH_EPOCH b →
    Runs (.tmBeaconRx b h rate pend eff tn man per mem) s (fun t =>
        t.rhd = s.rhd.set b { s.rhdOf b with outranked := true } ∧ t.dies = s.dies ∧ t.tx = s.tx ∧
        SameRegs (watchFlds ++ [.NET_P_RX_COUNT]) s t ∧ SameMem s t)) ∧
  (∀ (s : State) (b : Fin 8) (h : TmHdr) (rate pend : BitVec 8) (eff : BitVec 32) (tn : Nat) (man : BitVec 64)
      (per : BitVec 32) (mem : BitVec 16), s.tmTakes b (.tmBeaconRx b h rate pend eff tn man per mem) = true →
      (s.rhdOf b).stale h.sender h.alive tn = false → s.rhdState b = 4 →
      (s.bit .RHD_MASTER_VALID b && s.get .RHD_MASTER_INDEX b == h.sender) = true → (s.berth b).tag = man.toNat →
      s.bit .RHD_STATE_TAG_MISMATCH b = false →
    Runs (.tmBeaconRx b h rate pend eff tn man per mem) s (fun t => t.rhdState b = 4 ∧
        t.get .RHD_EPOCH_EPOCH b = h.epoch % 2 ^ 32 ∧ t.bit .RHD_STATE_TAG_MISMATCH b = false ∧ t.tx = s.tx ∧
        (pend = rate → t.get .RHD_SKEW_SKEW b = (s.berthStep b + 2 ^ 32 - eff.toNat) % 2 ^ 32) ∧
        t.bit .RHD_MASTER_VALID b = true ∧ t.get .RHD_MASTER_INDEX b = h.sender % 2 ^ (Fld.info .RHD_MASTER_INDEX).width ∧
        t.get .RHD_RATE_PENDING b = pend.toNat % 2 ^ (Fld.info .RHD_RATE_PENDING).width ∧
        t.get .RHD_EFF_STEP_STEP b = eff.toNat % 2 ^ (Fld.info .RHD_EFF_STEP_STEP).width ∧
        t.get .RHD_MEMBERS_COUNT b = mem.toNat % 2 ^ (Fld.info .RHD_MEMBERS_COUNT).width ∧
        (t.rhdOf b).heardFrom = (h.sender, h.alive, tn) :: (s.rhdOf b).heardFrom.filter (fun e => e.1 != h.sender) ∧
        (t.rhdOf b).masterAddr = some h.src ∧ (t.rhdOf b).missed = 0 ∧
        ((∀ x ∈ s.net.colls, x.berth = b.val → x.own = none) → SameMem s t))) ∧
  (∀ (s : State) (b : Fin 8) (h : TmHdr) (rate pend : BitVec 8) (eff : BitVec 32) (tn : Nat) (man : BitVec 64)
      (per : BitVec 32) (mem : BitVec 16), s.tmTakes b (.tmBeaconRx b h rate pend eff tn man per mem) = true →
      (s.rhdOf b).stale h.sender h.alive tn = false → s.rhdState b = 4 →
      (s.bit .RHD_MASTER_VALID b && s.get .RHD_MASTER_INDEX b == h.sender) = true → (s.berth b).tag ≠ man.toNat →
      s.bit .RHD_STATE_TAG_MISMATCH b = false →
    Runs (.tmBeaconRx b h rate pend eff tn man per mem) s (fun t => t.rhdState b = 4 ∧
        t.bit .RHD_STATE_TAG_MISMATCH b = true ∧ t.pins.alert = true ∧ t.tx = s.tx ∧ t.bit .RHD_MASTER_VALID b = true ∧
        t.get .RHD_MASTER_INDEX b = h.sender % 2 ^ (Fld.info .RHD_MASTER_INDEX).width ∧
        t.get .RHD_RATE_PENDING b = pend.toNat % 2 ^ (Fld.info .RHD_RATE_PENDING).width ∧
        t.get .RHD_EFF_STEP_STEP b = eff.toNat % 2 ^ (Fld.info .RHD_EFF_STEP_STEP).width ∧
        t.get .RHD_MEMBERS_COUNT b = mem.toNat % 2 ^ (Fld.info .RHD_MEMBERS_COUNT).width ∧
        (t.rhdOf b).heardFrom = (h.sender, h.alive, tn) :: (s.rhdOf b).heardFrom.filter (fun e => e.1 != h.sender) ∧
        (t.rhdOf b).masterAddr = some h.src ∧ (t.rhdOf b).missed = 0 ∧
        ((∀ x ∈ s.net.colls, x.berth = b.val → x.own = none) → SameMem s t))) ∧
  (∀ (s : State) (b : Fin 8) (h : TmHdr) (rate pend : BitVec 8) (eff : BitVec 32) (tn : Nat) (man : BitVec 64)
      (per : BitVec 32) (mem : BitVec 16), s.tmTakes b (.tmBeaconRx b h rate pend eff tn man per mem) = true →
      (s.rhdOf b).stale h.sender h.alive tn = false → s.rhdState b = 4 →
      (s.bit .RHD_MASTER_VALID b && s.get .RHD_MASTER_INDEX b == h.sender) = true → s.bit .RHD_STATE_TAG_MISMATCH b = true →
      s.get .RHD_EPOCH_EPOCH b < h.epoch →
    Runs (.tmBeaconRx b h rate pend eff tn man per mem) s (fun t => t.rhdState b = 6 ∧ t.bit .RHD_MASTER_VALID b = false ∧
        t.pins.alert = true ∧ SameMem s t)) ∧
  (∀ (s : State) (b : Fin 8) (h : TmHdr) (rate pend : BitVec 8) (eff : BitVec 32) (tn : Nat) (man : BitVec 64)
      (per : BitVec 32) (mem : BitVec 16), s.tmTakes b (.tmBeaconRx b h rate pend eff tn man per mem) = true →
      (s.rhdOf b).stale h.sender h.alive tn = false →
      ((s.rhdState b == 3 && !outranks (bitAt h.flags 1, h.sender) (s.ownRank b)) ||
      (s.rhdState b == 4 && !(s.bit .RHD_MASTER_VALID b && s.get .RHD_MASTER_INDEX b == h.sender) &&
      !(outranks (bitAt h.flags 1, h.sender) (s.rhdOf b).lastRank && decide (s.get .RHD_EPOCH_EPOCH b ≤ h.epoch))) ||
      (s.rhdState b == 5 && !(outranks (bitAt h.flags 1, h.sender) (s.ownRank b) && man.toNat == (s.rhdOf b).domainTag)) ||
      decide (6 ≤ s.rhdState b)) = true →
    Runs (.tmBeaconRx b h rate pend eff tn man per mem) s (fun t => t.rhd = s.rhd ∧ t.dies = s.dies ∧ t.tx = s.tx ∧
        SameRegs (watchFlds ++ [.NET_P_RX_COUNT]) s t ∧ SameMem s t)) ∧
  (∀ (s : State) (b : Fin 8) (h : TmHdr) (code reason : BitVec 8) (step skew : BitVec 32),
      s.tmTakes b (.tmRateReqRx b h code reason step skew) = true →
    Runs (.tmRateReqRx b h code reason step skew) s (fun t =>
        t.rhd = (if s.rhdState b = 5 ∧ rankOf code.toNat < rankOf (s.rhdOf b).domRate then
        s.rhd.set b { s.rhdOf b with members := (s.rhdOf b).members.map (fun m => if m.index = h.sender then { m with req := some (code.toNat, s.now + 3 * s.period b) } else m) }
        else s.rhd) ∧ t.dies = s.dies ∧ t.tx = s.tx ∧ SameRegs (watchFlds ++ [.NET_P_RX_COUNT]) s t ∧ SameMem s t)) ∧
  (∀ (s : State) (b : Fin 8) (h : TmHdr) (rate duty : BitVec 8) (step skew : BitVec 32) (mr : BitVec 16) (man : BitVec 64),
      s.tmTakes b (.tmStatusRx b h rate duty step skew mr man) = true → s.rhdState b = 5 →
      (s.rhdOf b).members.any (fun m => m.index == h.sender) = true ∨ (s.rhdOf b).periods < 3 →
    Runs (.tmStatusRx b h rate duty step skew mr man) s (fun t =>
        t.rhd = s.rhd.set b { s.rhdOf b with members := (s.rhdOf b).members.filter (fun x => x.index != h.sender) ++ [{ (((s.rhdOf b).members.find? (fun m => m.index == h.sender)).getD { index := h.sender }) with rate := rate.toNat, duty := duty.toNat, step := step.toNat, skew := skew.toNat, missed := 0, heard := true, pending := false, tagOk := (((s.rhdOf b).members.find? (fun m => m.index == h.sender)).getD { index := h.sender }).tagOk && man.toNat == (s.rhdOf b).domainTag }], newEpoch := (s.rhdOf b).newEpoch || ((((s.rhdOf b).members.find? (fun m => m.index == h.sender)).getD { index := h.sender }).tagOk && man.toNat != (s.rhdOf b).domainTag), lossEpoch := (s.rhdOf b).lossEpoch || ((((s.rhdOf b).members.find? (fun m => m.index == h.sender)).getD { index := h.sender }).tagOk && man.toNat != (s.rhdOf b).domainTag) }
        ∧ t.tx = s.tx ∧ SameRegs (watchFlds ++ [.NET_P_RX_COUNT]) s t ∧ SameMem s t)) ∧
  (∀ (s : State) (b : Fin 8) (h : TmHdr) (rate duty : BitVec 8) (step skew : BitVec 32) (mr : BitVec 16) (man : BitVec 64),
      s.tmTakes b (.tmStatusRx b h rate duty step skew mr man) = true → s.rhdState b = 5 →
      (s.rhdOf b).members.any (fun m => m.index == h.sender) = false → 3 ≤ (s.rhdOf b).periods →
    Runs (.tmStatusRx b h rate duty step skew mr man) s (fun t => s.sentTm t b h.src 5 = true ∧
        (t.rhdOf b).members = (s.rhdOf b).members ∧ SameRegs (watchFlds ++ [.NET_P_TX_COUNT, .NET_P_RX_COUNT]) s t ∧
        SameMem s t)) ∧
  (∀ (s : State) (b : Fin 8) (h : TmHdr) (rate duty : BitVec 8) (step skew : BitVec 32) (mr : BitVec 16) (man : BitVec 64),
      s.tmTakes b (.tmStatusRx b h rate duty step skew mr man) = true → s.rhdState b ≠ 5 →
    Runs (.tmStatusRx b h rate duty step skew mr man) s (fun t => t.rhd = s.rhd ∧ t.dies = s.dies ∧ t.tx = s.tx ∧
        SameRegs (watchFlds ++ [.NET_P_RX_COUNT]) s t ∧ SameMem s t)) ∧
  (∀ (s : State) (b : Fin 8) (h : TmHdr) (man : BitVec 64) (req : BitVec 16), s.tmTakes b (.tmJoinRx b h man req) = true →
      s.rhdState b ≠ 5 →
    Runs (.tmJoinRx b h man req) s (fun t => s.sentTm t b h.src 5 = true ∧ (t.rhdOf b).members = (s.rhdOf b).members ∧
        t.rhdState b = s.rhdState b ∧ t.pins.alert = true ∧ SameMem s t)) ∧
  (∀ (s : State) (b : Fin 8) (h : TmHdr) (man : BitVec 64) (req : BitVec 16) (i : Nat),
      s.tmTakes b (.tmJoinRx b h man req) = true → s.rhdState b = 5 → s.joinResult b man.toNat req.toNat = 0 →
      i = (if req.toNat = 0xFFFF then (s.rhdOf b).freeIndex (s.get .RHD_STATE_INDEX b) else req.toNat) →
    Runs (.tmJoinRx b h man req) s (fun t =>
        t.rhd = s.rhd.set b { s.rhdOf b with members := (s.rhdOf b).members ++ [{ index := i, rate := (s.rhdOf b).domRate, pending := true }], joins := (s.rhdOf b).joins ++ [(0, i, h.src)], newEpoch := true }
        ∧ t.tx = s.tx ∧ SameRegs (watchFlds ++ [.NET_P_RX_COUNT]) s t ∧ SameMem s t)) ∧
  (∀ (s : State) (b : Fin 8) (h : TmHdr) (man : BitVec 64) (req : BitVec 16), s.tmTakes b (.tmJoinRx b h man req) = true →
      s.rhdState b = 5 → s.joinResult b man.toNat req.toNat ≠ 0 →
    Runs (.tmJoinRx b h man req) s (fun t =>
        (t.rhdOf b).joins = (s.rhdOf b).joins ++ [(s.joinResult b man.toNat req.toNat, req.toNat, h.src)] ∧
        (t.rhdOf b).members = (s.rhdOf b).members ∧ t.pins.alert = true ∧ t.tx = s.tx ∧ SameMem s t)) ∧
  (∀ (s : State) (b : Fin 8) (h : TmHdr) (result : BitVec 8) (index : BitVec 16) (e : BitVec 32),
      s.tmTakes b (.tmJoinReplyRx b h result index e) = true → s.rhdState b = 2 → result = 0#8 →
    Runs (.tmJoinReplyRx b h result index e) s (fun t =>
        t.get .RHD_STATE_INDEX b = index.toNat % 2 ^ (Fld.info .RHD_STATE_INDEX).width ∧
        (t.rhdOf b).fromEpoch = some e.toNat ∧ t.rhdState b = 2 ∧ t.tx = s.tx ∧
        SameRegs (watchFlds ++ [.RHD_STATE_INDEX, .NET_P_RX_COUNT]) s t ∧ SameMem s t)) ∧
  (∀ (s : State) (b : Fin 8) (h : TmHdr) (result : BitVec 8) (index : BitVec 16) (e : BitVec 32),
      s.tmTakes b (.tmJoinReplyRx b h result index e) = true → s.rhdState b = 2 → result = 4#8 →
    Runs (.tmJoinReplyRx b h result index e) s (fun t => t.rhdState b = 1 ∧ (t.rhdOf b).stateSince = s.now ∧ t.tx = s.tx ∧
        SameRegs (watchFlds ++ [.RHD_STATE_STATE, .NET_P_RX_COUNT]) s t ∧ SameMem s t)) ∧
  (∀ (s : State) (b : Fin 8) (h : TmHdr) (result : BitVec 8) (index : BitVec 16) (e : BitVec 32),
      s.tmTakes b (.tmJoinReplyRx b h result index e) = true →
      ((s.rhdState b == 2 && decide (1 ≤ result.toNat ∧ result.toNat ≤ 3)) ||
      (s.rhdState b == 4 && result == 3#8 && index.toNat == s.get .RHD_STATE_INDEX b)) = true →
    Runs (.tmJoinReplyRx b h result index e) s (fun t => t.rhdState b = 6 ∧ t.bit .RHD_MASTER_VALID b = false ∧
        t.pins.alert = true ∧ t.tx = s.tx ∧ SameMem s t)) ∧
  (∀ (s : State) (b : Fin 8) (h : TmHdr) (result : BitVec 8) (index : BitVec 16) (e : BitVec 32),
      s.tmTakes b (.tmJoinReplyRx b h result index e) = true →
      ((s.rhdState b == 2 && decide (5 ≤ result.toNat)) ||
      (s.rhdState b == 4 && !(result == 3#8 && index.toNat == s.get .RHD_STATE_INDEX b)) ||
      (s.rhdState b != 2 && s.rhdState b != 4)) = true →
    Runs (.tmJoinReplyRx b h result index e) s (fun t => t.rhd = s.rhd ∧ t.dies = s.dies ∧ t.tx = s.tx ∧
        SameRegs (watchFlds ++ [.NET_P_RX_COUNT]) s t ∧ SameMem s t)) ∧
  (∀ (s : State) (b : Fin 8) (h : TmHdr) (reason : BitVec 8), s.tmTakes b (.tmLeaveRx b h reason) = true →
    Runs (.tmLeaveRx b h reason) s (fun t =>
        t.rhd = (if s.rhdState b = 5 ∧ (s.rhdOf b).members.any (fun m => m.index == h.sender) = true then
        s.rhd.set b { s.rhdOf b with members := (s.rhdOf b).members.filter (fun m => m.index != h.sender), newEpoch := true, lossEpoch := (s.rhdOf b).lossEpoch || reason.toNat != 0 }
        else s.rhd) ∧ t.dies = s.dies ∧ t.tx = s.tx ∧ SameRegs (watchFlds ++ [.NET_P_RX_COUNT]) s t ∧ SameMem s t)) ∧
  (∀ (s : State) (b : Fin 8) (h : TmHdr) (man : BitVec 64), s.tmTakes b (.tmClaimRx b h man) = true →
      s.rhdState b = 3 ∨ s.rhdState b = 4 → outranks (bitAt h.flags 1, h.sender) (s.ownRank b) = true →
    Runs (.tmClaimRx b h man) s (fun t => t.rhd = s.rhd.set b { s.rhdOf b with outranked := true } ∧ t.dies = s.dies ∧
        t.tx = s.tx ∧ SameRegs (watchFlds ++ [.NET_P_RX_COUNT]) s t ∧ SameMem s t)) ∧
  (∀ (s : State) (b : Fin 8) (h : TmHdr) (man : BitVec 64), s.tmTakes b (.tmClaimRx b h man) = true → s.rhdState b = 3 →
      outranks (s.ownRank b) (bitAt h.flags 1, h.sender) = true → (s.rhdOf b).claimAt = none →
      (s.rhdOf b).outranked = false → s.healthy b = true →
    Runs (.tmClaimRx b h man) s (fun t => s.sentTm t b (s.tmGroup b) 7 = true ∧ (t.rhdOf b).claimAt = some s.now ∧
        SameRegs (watchFlds ++ [.NET_P_TX_COUNT, .NET_P_RX_COUNT]) s t ∧ SameMem s t)) ∧
  (∀ (s : State) (b : Fin 8) (h : TmHdr) (man : BitVec 64), s.tmTakes b (.tmClaimRx b h man) = true → s.rhdState b = 5 →
      outranks (bitAt h.flags 1, h.sender) (s.ownRank b) = true → man.toNat = (s.rhdOf b).domainTag →
    Runs (.tmClaimRx b h man) s (fun t => t.rhdState b = 4 ∧ (t.rhdOf b).mute = true ∧ (t.rhdOf b).masterAddr = some h.src ∧
        (t.rhdOf b).members = [] ∧ t.get .RHD_MASTER_INDEX b = h.sender % 2 ^ (Fld.info .RHD_MASTER_INDEX).width ∧
        t.tx = s.tx ∧ SameRegs (watchFlds ++ [.RHD_STATE_STATE, .RHD_MASTER_INDEX, .RHD_MASTER_PINNED, .RHD_MASTER_VALID,
        .NET_P_RX_COUNT]) s t ∧ SameMem s t)) ∧
  (∀ (s : State) (b : Fin 8) (h : TmHdr) (man : BitVec 64), s.tmTakes b (.tmClaimRx b h man) = true →
      ((s.rhdState b == 3 && !outranks (bitAt h.flags 1, h.sender) (s.ownRank b) &&
      !(outranks (s.ownRank b) (bitAt h.flags 1, h.sender) && (s.rhdOf b).claimAt.isNone && !(s.rhdOf b).outranked &&
      s.healthy b)) || (s.rhdState b == 4 && !outranks (bitAt h.flags 1, h.sender) (s.ownRank b)) ||
      (s.rhdState b == 5 && !(outranks (bitAt h.flags 1, h.sender) (s.ownRank b) && man.toNat == (s.rhdOf b).domainTag)) ||
      (s.rhdState b != 3 && s.rhdState b != 4 && s.rhdState b != 5)) = true →
    Runs (.tmClaimRx b h man) s (fun t => t.rhd = s.rhd ∧ t.dies = s.dies ∧ t.tx = s.tx ∧
        SameRegs (watchFlds ++ [.NET_P_RX_COUNT]) s t ∧ SameMem s t))

/-- R296, R298, R300, R302 to R305, R311 to R315, R318: what time does to membership. A beacon in the same multiple, the master's own request and its place in the quorum are log entry 68. -/
def Obligations.RateHoldMembershipRuns : Prop :=
  (∀ (s : State) (b : Fin 8), s.netHeld = false → s.rhdState b = 5 → (s.rhdOf b).mute = false →
      (s.rhdOf b).sentTime ≠ some (if (s.rhdOf b).periodUs = 0 then s.timeNs else
      s.timeNs / ((s.rhdOf b).periodUs * 1000) * ((s.rhdOf b).periodUs * 1000)) →
    Runs (.beaconSend b) s (fun t => ((s.rhdOf b).joins = [] → s.sentTm t b (s.tmGroup b) 1 = true) ∧
        (s.pilotTalks = true → s.goes (s.berthWire b (s.get .RHD_CFG_PORT b) (s.anySub (s.get .RHD_CFG_PORT b)) (s.tmGroup b)
        0 7 7) = true → t.tx.length = s.tx.length + 1 + (s.rhdOf b).joins.length) ∧
        t.get .RHD_EPOCH_EPOCH b = (s.get .RHD_EPOCH_EPOCH b + (s.rhdOf b).newEpoch.toNat) % 2 ^ 32 ∧
        t.get .RHD_MEMBERS_COUNT b = ((if (s.rhdOf b).newEpoch then (s.rhdOf b).members.filter (·.tagOk) else
        (s.rhdOf b).members).length + 1) % 2 ^ (Fld.info .RHD_MEMBERS_COUNT).width ∧
        t.get .RHD_RATE_PENDING b = ((s.ownAsk b).nextRate b).2.1 % 2 ^ (Fld.info .RHD_RATE_PENDING).width ∧
        (t.rhdOf b).domRate = ((s.ownAsk b).nextRate b).1 ∧ (t.rhdOf b).periods = (s.rhdOf b).periods + 1 ∧
        (t.rhdOf b).newEpoch = false ∧ (t.rhdOf b).joins = [] ∧
        (t.rhdOf b).sentTime = some (if (s.rhdOf b).periodUs = 0 then s.timeNs else
        s.timeNs / ((s.rhdOf b).periodUs * 1000) * ((s.rhdOf b).periodUs * 1000)) ∧
        ((∀ x ∈ s.net.colls, x.berth = b.val → x.own = none) → SameMem s t))) ∧
  (∀ (s : State) (b : Fin 8), s.netHeld = true ∨ s.rhdState b ≠ 5 ∨ (s.rhdOf b).mute = true ∨ (s.rhdOf b).sentTime =
      some (if (s.rhdOf b).periodUs = 0 then s.timeNs else
      s.timeNs / ((s.rhdOf b).periodUs * 1000) * ((s.rhdOf b).periodUs * 1000)) →
    Runs (.beaconSend b) s (fun t => t = s)) ∧
  (∀ (s : State) (b : Fin 8), s.rhdState b = 4 → (s.rhdOf b).missed < 2 →
    Runs (.beaconMissed b) s (fun t => (t.rhdOf b).missed = (s.rhdOf b).missed + 1 ∧
        t.get .RHD_BEACON_MISS_COUNT b = (if s.bit .RHD_CNT_CTRL_FREEZE = true then s.get .RHD_BEACON_MISS_COUNT b else
        min (s.get .RHD_BEACON_MISS_COUNT b + 1) (2 ^ (Fld.info .RHD_BEACON_MISS_COUNT).width - 1)) ∧
        t.bit .RHD_STATE_REQUESTING b = false ∧ t.rhdState b = 4 ∧
        SameRegs [.RHD_BEACON_MISS_COUNT, .RHD_STATE_REQUESTING] s t ∧ SameMem s t)) ∧
  (∀ (s : State) (b : Fin 8), s.rhdState b = 4 → 2 ≤ (s.rhdOf b).missed →
    Runs (.beaconMissed b) s (fun t => t.rhdState b = 3 ∧ t.bit .RHD_MASTER_VALID b = false ∧ t.pins.alert = true ∧
        SameMem s t)) ∧
  (∀ (s : State) (b : Fin 8), s.rhdState b ≠ 4 → Runs (.beaconMissed b) s (fun t => t = s)) ∧
  (∀ (s : State) (b : Fin 8), s.netHeld = false → s.rhdState b = 4 → s.bit .RHD_MASTER_VALID b = true →
    Runs (.statusSend b) s (fun t => s.sentTm t b (s.tmMaster b) 3 = true ∧ (t.rhdOf b).memRatio = (s.takeRatio b).1 ∧
        (t.rhdOf b).ratioBase = (s.takeRatio b).2 ∧ SameRegs (watchFlds ++ [.NET_P_TX_COUNT]) s t ∧ SameMem s t)) ∧
  (∀ (s : State) (b : Fin 8), s.netHeld = true ∨ s.rhdState b ≠ 4 ∨ s.bit .RHD_MASTER_VALID b = false →
    Runs (.statusSend b) s (fun t => t = s)) ∧
  (∀ (s : State) (b : Fin 8) (a : Nat × Nat), s.netHeld = false → s.rhdState b = 4 → s.bit .RHD_STATE_REQUESTING b = false →
      lowestAsk (s.asks b) = some a →
    Runs (.rateReqSend b) s (fun t => s.sentTm t b (s.tmMaster b) 2 = true ∧ t.bit .RHD_STATE_REQUESTING b = true ∧
        SameRegs (watchFlds ++ [.NET_P_TX_COUNT, .RHD_STATE_REQUESTING, .RHD_REQ_TX_COUNT]) s t ∧ SameMem s t)) ∧
  (∀ (s : State) (b : Fin 8), s.netHeld = true ∨ s.rhdState b ≠ 4 ∨ s.bit .RHD_STATE_REQUESTING b = true ∨ s.asks b = [] →
    Runs (.rateReqSend b) s (fun t => t = s)) ∧
  (∀ (s : State) (b : Fin 8) (i : Nat), s.rhdState b = 5 →
      (i == s.get .RHD_STATE_INDEX b && (s.rhdOf b).ownReq.isSome) = true →
    Runs (.requestHoldExpiry b i) s (fun t => t = s.setRhd b { s.rhdOf b with ownReq := none, expiredAt := some s.now })) ∧
  (∀ (s : State) (b : Fin 8) (i : Nat), s.rhdState b = 5 →
      (i == s.get .RHD_STATE_INDEX b && (s.rhdOf b).ownReq.isSome) = false →
      (s.rhdOf b).members.any (fun m => m.index == i && m.req.isSome) = true →
    Runs (.requestHoldExpiry b i) s (fun t =>
        t = s.setRhd b { s.rhdOf b with members := (s.rhdOf b).members.map (fun m => if m.index = i then { m with req := none } else m), expiredAt := some s.now })) ∧
  (∀ (s : State) (b : Fin 8) (i : Nat),
      (s.rhdState b != 5 || (!(i == s.get .RHD_STATE_INDEX b && (s.rhdOf b).ownReq.isSome) &&
      !(s.rhdOf b).members.any (fun m => m.index == i && m.req.isSome))) = true →
    Runs (.requestHoldExpiry b i) s (fun t => t = s)) ∧
  (∀ (s : State) (b : Fin 8), s.rhdState b = 1 →
    Runs (.seekingTimeout b) s (fun t => t.rhdState b = 3 ∧
        t.get .RHD_STATE_INDEX b = s.claimIndex b % 2 ^ (Fld.info .RHD_STATE_INDEX).width ∧
        SameRegs (watchFlds ++ [.RHD_STATE_STATE, .RHD_STATE_INDEX, .NET_P_TX_COUNT]) s t ∧ SameMem s t)) ∧
  (∀ (s : State) (b : Fin 8), s.rhdState b ≠ 1 → Runs (.seekingTimeout b) s (fun t => t = s)) ∧
  (∀ (s : State) (b : Fin 8), s.rhdState b = 2 → (s.rhdOf b).fromEpoch = none →
    Runs (.joiningTimeout b) s (fun t => t.rhdState b = 1 ∧ (t.rhdOf b).stateSince = s.now ∧ t.tx = s.tx ∧
        SameRegs [.RHD_STATE_STATE] s t ∧ SameMem s t)) ∧
  (∀ (s : State) (b : Fin 8), s.rhdState b ≠ 2 ∨ (s.rhdOf b).fromEpoch ≠ none → Runs (.joiningTimeout b) s (fun t => t = s)) ∧
  (∀ (s : State) (b : Fin 8), s.netHeld = false → s.rhdState b = 3 → (s.rhdOf b).outranked = false →
      (s.rhdOf b).claimAt = none → s.healthy b = true →
    Runs (.claimSend b) s (fun t => s.sentTm t b (s.tmGroup b) 7 = true ∧ (t.rhdOf b).claimAt = some s.now ∧
        SameRegs (watchFlds ++ [.NET_P_TX_COUNT]) s t ∧ SameMem s t)) ∧
  (∀ (s : State) (b : Fin 8), s.netHeld = true ∨ s.rhdState b ≠ 3 ∨ (s.rhdOf b).outranked =
      true ∨ (s.rhdOf b).claimAt ≠ none ∨ s.healthy b = false →
    Runs (.claimSend b) s (fun t => t = s)) ∧
  (∀ (s : State) (b : Fin 8), ((s.rhdOf b).claimAt.isSome && !(s.rhdOf b).outranked &&
      (s.rhdState b == 3 || (s.rhdState b == 4 && s.bit .RHD_CFG_PIN b))) = true →
    Runs (.electionWon b) s (fun t => t.rhdState b = 5 ∧
        t.get .RHD_MASTER_INDEX b = s.get .RHD_STATE_INDEX b % 2 ^ (Fld.info .RHD_MASTER_INDEX).width ∧
        t.bit .RHD_MASTER_VALID b = true ∧ (t.rhdOf b).newEpoch = true ∧ (t.rhdOf b).members = [] ∧
        (t.rhdOf b).domainTag = (s.berth b).tag ∧
        (t.rhdOf b).domRate = (if (s.rhdOf b).everHeard then s.berthCode b else s.get .RHD_TARGET_CODE b) ∧
        t.get .RHD_EPOCH_EPOCH b = (s.rhdOf b).highEpoch % 2 ^ 32 ∧ t.tx = s.tx ∧ SameMem s t)) ∧
  (∀ (s : State) (b : Fin 8), ((s.rhdOf b).claimAt.isSome && !(s.rhdOf b).outranked &&
      (s.rhdState b == 3 || (s.rhdState b == 4 && s.bit .RHD_CFG_PIN b))) = false →
    Runs (.electionWon b) s (fun t => t = s)) ∧
  (∀ (s : State) (b : Fin 8) (i : Nat), s.rhdState b = 5 →
      (s.rhdOf b).members.any (fun m => m.index == i && decide (3 ≤ m.missed)) = true →
    Runs (.memberLost b i) s (fun t => t.rhd =
        s.rhd.set b { s.rhdOf b with members := (s.rhdOf b).members.filter (fun m => m.index != i), newEpoch := true, lossEpoch := true }
        ∧ t.pins.alert = true ∧ t.tx = s.tx ∧ SameMem s t)) ∧
  (∀ (s : State) (b : Fin 8) (i : Nat),
      (s.rhdState b != 5 || !(s.rhdOf b).members.any (fun m => m.index == i && decide (3 ≤ m.missed))) = true →
    Runs (.memberLost b i) s (fun t => t = s)) ∧
  (∀ (s : State) (b : Fin 8), s.rhdState b = 5 → 4 ≤ (s.rhdOf b).periods →
      2 * (1 + ((s.rhdOf b).members.filter (fun m => decide (m.quiet < 3))).length) ≤ ((s.rhdOf b).windows.getLast?).getD 1 →
    Runs (.quorumLost b) s (fun t => t.rhdState b = 6 ∧ (t.rhdOf b).members = [] ∧ t.pins.alert = true ∧ t.tx = s.tx ∧
        SameMem s t)) ∧
  (∀ (s : State) (b : Fin 8), s.rhdState b ≠ 5 ∨ (s.rhdOf b).periods < 4 ∨ ((s.rhdOf b).windows.getLast?).getD 1 <
      2 * (1 + ((s.rhdOf b).members.filter (fun m => decide (m.quiet < 3))).length) →
    Runs (.quorumLost b) s (fun t => t = s))

/-- R296, R311, R321, R325, R465: register actions of rate hold. ENABLE that stays set through a state is log entry 27. -/
def Obligations.RateHoldIsEnabledPinnedAndLifted : Prop :=
  (∀ (s : State) (src : Source) (b : Fin 8), s.right src = .owner → s.rhdState b = 0 → (s.berth b).desc.isSome = true →
    Runs (.rhdEnable src b) s (fun t => t.rhdState b = 1 ∧ t.bit .RHD_CFG_ENABLE b = true ∧
        (t.rhdOf b).periodUs = s.get .RHD_TIMING_PERIOD_US b ∧ Answered src 0 s t ∧ SameMem s t)) ∧
  (∀ (s : State) (src : Source) (b : Fin 8), s.right src = .owner → s.rhdState b ≠ 0 ∨ (s.berth b).desc.isNone = true →
    Runs (.rhdEnable src b) s (fun t => t.bit .RHD_CFG_ENABLE b = true ∧ t.rhd = s.rhd ∧ Answered src 0 s t ∧
        SameRegs [.RHD_CFG_ENABLE] s t ∧ SameMem s t)) ∧
  (∀ (s : State) (src : Source) (b : Fin 8), s.right src = .owner → s.rhdState b ≠ 0 →
      s.rhdState b = 5 ∨ (s.rhdOf b).masterAddr = none →
    Runs (.rhdDisable src b) s (fun t => t.rhdState b = 0 ∧ t.bit .RHD_CFG_ENABLE b = false ∧
        t.bit .RHD_MASTER_VALID b = false ∧ Answered src 0 s t ∧ SameMem s t)) ∧
  (∀ (s : State) (src : Source) (b : Fin 8), s.right src = .owner → s.rhdState b ≠ 0 → s.rhdState b ≠ 5 →
      (s.rhdOf b).masterAddr ≠ none →
    Runs (.rhdDisable src b) s (fun t => t.rhdState b = 0 ∧ t.bit .RHD_CFG_ENABLE b = false ∧
        t.bit .RHD_MASTER_VALID b = false ∧ s.sentTm { t with tx := t.tx.dropLast } b (s.tmMaster b) 6 = true ∧
        t.tx.getLast? = some (.access src 0 0) ∧ SameMem s t)) ∧
  (∀ (s : State) (src : Source) (b : Fin 8), s.right src = .owner → s.rhdState b = 0 →
    Runs (.rhdDisable src b) s (fun t => t.bit .RHD_CFG_ENABLE b = false ∧ t.rhd = s.rhd ∧ Answered src 0 s t ∧
        SameRegs [.RHD_CFG_ENABLE] s t ∧ SameMem s t)) ∧
  (∀ (s : State) (src : Source) (b : Fin 8), s.right src = .owner → s.netHeld = false → s.rhdState b ≠ 0 →
      s.healthy b = true →
    Runs (.rhdPin src b) s (fun t => t.bit .RHD_CFG_PIN b = true ∧ (t.rhdOf b).claimAt = some s.now ∧
        s.sentTm { t with tx := t.tx.dropLast } b (s.tmGroup b) 7 = true ∧ t.tx.getLast? = some (.access src 0 0) ∧
        SameRegs (watchFlds ++ [.RHD_CFG_PIN, .NET_P_TX_COUNT]) s t ∧ SameMem s t)) ∧
  (∀ (s : State) (src : Source) (b : Fin 8), s.right src = .owner →
      s.netHeld = true ∨ s.rhdState b = 0 ∨ s.healthy b = false →
    Runs (.rhdPin src b) s (fun t => t.bit .RHD_CFG_PIN b = true ∧ t.rhd = s.rhd ∧ Answered src 0 s t ∧
        SameRegs [.RHD_CFG_PIN] s t ∧ SameMem s t)) ∧
  (∀ (s : State) (src : Source), s.right src = .owner →
    Runs (.rhdCntClear src) s (fun t => Answered src 0 s t ∧ ClearedAll rhdCntFlds s t)) ∧
  (∀ (s : State) (b : Fin 8) (r : Fin 5), s.noDomain b = true → (s.rhdOf b).lifted.any (fun e => e.1 == r.val) = true →
    Runs (.rateCeilingLift b r) s (fun t => (t.rhdOf b).ceilings = (s.rhdOf b).ceilings.filter (fun e => e.1 != r.val) ∧
        (t.rhdOf b).lifted = (s.rhdOf b).lifted.filter (fun e => e.1 != r.val) ∧ SameRegs [] s t ∧ SameMem s t)) ∧
  (∀ (s : State) (b : Fin 8) (r : Fin 5), s.noDomain b = false ∨ (s.rhdOf b).lifted.any (fun e => e.1 == r.val) = false →
    Runs (.rateCeilingLift b r) s (fun t => t = s))

/-- R343 to R346, R352 to R354, R361, R362, R37: helm commands, switching and telemetry. BWC's power in force has its pack-side limit from log entry 66. -/
def Obligations.HelmCommandsTakeEffectAtABoundary : Prop :=
  (∀ (s : State) (helm : Fin 4) (link : Fin 2) (bytes : Vector (BitVec 8) 8) (bs : List Nat) (r : Fin 50),
      s.inReset 3 = false → (s.pilot link).linkEn = true → (s.pilot link).linkOut = true →
      bs = bytes.toList.map BitVec.toNat → crc16 (bs.take 6) = leAt bs 6 2 → nth bs 0 = r.val → railHelm r.val = helm.val →
      (s.rail r).alive[link] ≠ some (nth bs 4 % 16) →
    Runs (.helmCommand helm link bytes) s (fun t =>
        (t.rail r).waiting = (if (s.rail r).latched then none else
        some ⟨bitAt (nth bs 1) 0, bitAt (nth bs 1) 1, leAt bs 2 2⟩) ∧
        (t.rail r).alive = (s.rail r).alive.set link (some (nth bs 4 % 16)) ∧
        t.bit .PWR_RAIL_CTRL_EN r = bitAt (nth bs 1) 0 ∧ t.bit .PWR_RAIL_CTRL_HOLD r = bitAt (nth bs 1) 1 ∧
        t.get .PWR_RAIL_VSET_TARGET_MV r = leAt bs 2 2 % 2 ^ 16 ∧ t.pwr.lastCmd = s.pwr.lastCmd.set helm s.now ∧
        t.bit .PWR_STATUS_AUTONOMOUS = (s.bit .PWR_STATUS_AUTONOMOUS &&
        !(allFin 4).all (fun i => i == helm || decide (s.now < s.pwr.lastCmd[i] + 30 * us))) ∧
        SameRegs [.PWR_RAIL_CTRL_EN, .PWR_RAIL_CTRL_HOLD, .PWR_RAIL_VSET_TARGET_MV, .PWR_STATUS_AUTONOMOUS] s t ∧
        SameMem s t)) ∧
  (∀ (s : State) (helm : Fin 4) (link : Fin 2) (bytes : Vector (BitVec 8) 8) (bs : List Nat), s.inReset 3 = false →
      (s.pilot link).linkEn = true → (s.pilot link).linkOut = true → bs = bytes.toList.map BitVec.toNat →
      crc16 (bs.take 6) ≠ leAt bs 6 2 ∨ 50 ≤ nth bs 0 ∨ railHelm (nth bs 0) ≠ helm.val →
    Runs (.helmCommand helm link bytes) s (fun t =>
        t.get .PWR_CMD_ERR_CRC 0 = (if s.bit .PWR_CNT_CTRL_FREEZE = true then s.get .PWR_CMD_ERR_CRC 0 else
        min (s.get .PWR_CMD_ERR_CRC 0 + 1) (2 ^ (Fld.info .PWR_CMD_ERR_CRC).width - 1)) ∧ t.pwr.rails = s.pwr.rails ∧
        t.pwr.lastCmd = s.pwr.lastCmd ∧ SameMem s t)) ∧
  (∀ (s : State) (helm : Fin 4) (link : Fin 2) (bytes : Vector (BitVec 8) 8) (bs : List Nat) (r : Fin 50),
      s.inReset 3 = false → (s.pilot link).linkEn = true → (s.pilot link).linkOut = true →
      bs = bytes.toList.map BitVec.toNat → crc16 (bs.take 6) = leAt bs 6 2 → nth bs 0 = r.val → railHelm r.val = helm.val →
      (s.rail r).alive[link] = some (nth bs 4 % 16) →
    Runs (.helmCommand helm link bytes) s (fun t =>
        t.get .PWR_CMD_ERR_REPEAT 0 = (if s.bit .PWR_CNT_CTRL_FREEZE = true then s.get .PWR_CMD_ERR_REPEAT 0 else
        min (s.get .PWR_CMD_ERR_REPEAT 0 + 1) (2 ^ (Fld.info .PWR_CMD_ERR_REPEAT).width - 1)) ∧ t.pwr.rails = s.pwr.rails ∧
        t.pwr.lastCmd = s.pwr.lastCmd ∧ SameMem s t)) ∧
  (∀ (s : State) (helm : Fin 4) (link : Fin 2) (bytes : Vector (BitVec 8) 8),
      (s.inReset 3 || !(s.pilot link).linkEn || !(s.pilot link).linkOut) = true →
    Runs (.helmCommand helm link bytes) s (fun t => t = s)) ∧
  (∀ (s : State) (helm : Fin 4), s.pwr.lastCmd[helm] + 30 * us ≤ s.now →
    Runs (.helmAutonomous helm) s (fun t => t.bit .PWR_STATUS_AUTONOMOUS = true ∧ SameRegs [.PWR_STATUS_AUTONOMOUS] s t ∧
        SameMem s t)) ∧
  (∀ (s : State) (helm : Fin 4), s.now < s.pwr.lastCmd[helm] + 30 * us → Runs (.helmAutonomous helm) s (fun t => t = s)) ∧
  (∀ (s : State) (r : Fin 50) (mv : BitVec 16) (amps : List Int) (temps : List Nat), s.inReset 3 = false →
    Runs (.helmTelemetry r mv amps temps) s (fun t => t.get .PWR_RAIL_VOUT_MV r = mv.toNat ∧
        t.get .PWR_RAIL_IOUT_A_X10 r = enc 16 ((amps.take (railFig r 0)).sum) ∧
        (r = 49 → t.get .BWR_BWC_MEAS_W = enc 16 ((mv.toNat : Int) * (amps.take (railFig r 0)).sum / 10000)) ∧
        (railPhases r).all (fun k => t.get .PWR_RAIL_PH_INFO_A_X10 r k == (amps[k]?.map (enc 12)).getD
        (s.get .PWR_RAIL_PH_INFO_A_X10 r k) &&
        t.get .PWR_RAIL_PH_INFO_TEMP r k == (temps[k]?.map (min 255)).getD (s.get .PWR_RAIL_PH_INFO_TEMP r k)) = true ∧
        SameRegs [.PWR_RAIL_VOUT_MV, .PWR_RAIL_IOUT_A_X10, .PWR_RAIL_PH_INFO_A_X10, .PWR_RAIL_PH_INFO_TEMP,
        .BWR_BWC_MEAS_W] s t ∧ SameMem s t)) ∧
  (∀ (s : State) (r : Fin 50) (mv : BitVec 16) (amps : List Int) (temps : List Nat), s.inReset 3 = true →
    Runs (.helmTelemetry r mv amps temps) s (fun t => t = s)) ∧
  (∀ (s : State) (r : Fin 50) (mv : BitVec 16) (ps : List PhaseSense), s.bit .PWR_RAIL_STATUS_ON r = false →
      (s.rail r).latched = false →
    Runs (.switchingPeriod r mv ps) s (fun t => (t.rail r).waiting = none ∧
        (t.rail r).en = (if isBoot r then (s.rail r).en else (((s.rail r).waiting.map (·.en)).getD (s.rail r).en)) ∧
        (t.rail r).hold = (((s.rail r).waiting.map (·.hold)).getD (s.rail r).hold) ∧
        (t.rail r).target = (((s.rail r).waiting.map (fun c =>
        if r = 49 then max (-4000) (min 4000 (dec 16 c.set)) else (c.set : Int))).getD (s.rail r).target) ∧
        (t.rail r).vset = (s.rail r).vset ∧ (t.rail r).onTime = (s.rail r).onTime ∧ SameRegs [.PWR_CMD_OVERLAP_COUNT] s t ∧
        SameMem s t)) ∧
  (∀ (s : State) (r : Fin 50) (mv : BitVec 16) (ps : List PhaseSense), s.bit .PWR_RAIL_STATUS_ON r = false →
      (s.rail r).latched = true →
    Runs (.switchingPeriod r mv ps) s (fun t => (t.rail r).waiting = none ∧ (t.rail r).en = (s.rail r).en ∧
        (t.rail r).hold = (s.rail r).hold ∧ (t.rail r).target = (s.rail r).target ∧ (t.rail r).vset = (s.rail r).vset ∧
        SameRegs [.PWR_CMD_OVERLAP_COUNT] s t ∧ SameMem s t)) ∧
  (∀ (s : State) (r : Fin 50) (mv : BitVec 16) (ps : List PhaseSense), s.bit .PWR_RAIL_STATUS_ON r = true →
      s.bit .PWR_RAIL_STATUS_SOFT_START r = false → (s.rail r).latched = false →
      (if isBoot r then (s.rail r).en else (((s.rail r).waiting.map (·.en)).getD (s.rail r).en)) = true →
      ((s.rail r).decaying && decide ((((s.rail r).waiting.map (fun c =>
      if r = 49 then max (-4000) (min 4000 (dec 16 c.set)) else (c.set : Int))).getD (s.rail r).target) <
      (mv.toNat : Int))) = false → r ≠ 49 →
    Runs (.switchingPeriod r mv ps) s (fun t =>
        (t.rail r).vset = (if (s.rail r).vset <
        ((((s.rail r).waiting.map (fun c =>
        if r = 49 then max (-4000) (min 4000 (dec 16 c.set)) else (c.set : Int))).getD (s.rail r).target) : Rat) then
        min ((((s.rail r).waiting.map (fun c =>
        if r = 49 then max (-4000) (min 4000 (dec 16 c.set)) else (c.set : Int))).getD (s.rail r).target) : Rat)
        ((s.rail r).vset + (s.get .PWR_RAIL_CFG1_SLEW r : Rat) * s.railPeriod r) else
        max ((((s.rail r).waiting.map (fun c =>
        if r = 49 then max (-4000) (min 4000 (dec 16 c.set)) else (c.set : Int))).getD (s.rail r).target) : Rat)
        ((s.rail r).vset - (s.get .PWR_RAIL_CFG1_SLEW r : Rat) * s.railPeriod r)) ∧
        (t.rail r).target = (((s.rail r).waiting.map (fun c =>
        if r = 49 then max (-4000) (min 4000 (dec 16 c.set)) else (c.set : Int))).getD (s.rail r).target) ∧
        t.get .PWR_RAIL_VOUT_MV r = mv.toNat ∧ (t.rail r).decaying = false ∧ (t.rail r).waiting = none ∧
        (t.rail r).onTime.map (·.1) = (if ((((s.rail r).waiting.map (·.hold)).getD (s.rail r).hold) &&
        !s.railProtects r) then (railPhases r).filter (fun k => !(s.rail r).thermal.contains k) else
        s.runPhases r).filter (fun k => !(s.rail r).braking.contains k) ∧
        (t.rail r).onTime.all (fun e => decide (1 / 50 ≤ e.2) && decide (e.2 ≤ max (1 / 50) (85 / 100 * s.railPeriod r))) =
        true ∧ -(railFig r 4 : Rat) ≤ (t.rail r).ic ∧ (t.rail r).ic ≤ (railFig r 4 : Rat) ∧
        SameRegs [.PWR_RAIL_VOUT_MV, .PWR_CMD_OVERLAP_COUNT, .PWR_RAIL_SHED_COUNT, .PWR_RAIL_LIMITED_COUNT] s t ∧
        SameMem s t)) ∧
  (∀ (s : State) (r : Fin 50) (mv : BitVec 16) (ps : List PhaseSense), s.bit .PWR_RAIL_STATUS_ON r = true →
      s.bit .PWR_RAIL_STATUS_SOFT_START r = true → (s.rail r).latched = false →
      (if isBoot r then (s.rail r).en else (((s.rail r).waiting.map (·.en)).getD (s.rail r).en)) = true →
      ((s.rail r).decaying && decide ((((s.rail r).waiting.map (fun c =>
      if r = 49 then max (-4000) (min 4000 (dec 16 c.set)) else (c.set : Int))).getD (s.rail r).target) <
      (mv.toNat : Int))) = false → r ≠ 49 →
    Runs (.switchingPeriod r mv ps) s (fun t =>
        (t.rail r).vset = min ((((s.rail r).waiting.map (fun c =>
        if r = 49 then max (-4000) (min 4000 (dec 16 c.set)) else (c.set : Int))).getD (s.rail r).target) : Rat)
        ((s.rail r).ssRef + (s.rail r).ssRate * s.railPeriod r) ∧ (t.rail r).ssRef = (t.rail r).vset ∧
        (t.rail r).target = (((s.rail r).waiting.map (fun c =>
        if r = 49 then max (-4000) (min 4000 (dec 16 c.set)) else (c.set : Int))).getD (s.rail r).target) ∧
        t.get .PWR_RAIL_VOUT_MV r = mv.toNat ∧ (t.rail r).decaying = false ∧ (t.rail r).waiting = none ∧
        (t.rail r).onTime.map (·.1) = (if ((((s.rail r).waiting.map (·.hold)).getD (s.rail r).hold) &&
        !s.railProtects r) then (railPhases r).filter (fun k => !(s.rail r).thermal.contains k) else
        s.runPhases r).filter (fun k => !(s.rail r).braking.contains k) ∧
        (t.rail r).onTime.all (fun e => decide (1 / 50 ≤ e.2) && decide (e.2 ≤ max (1 / 50) (85 / 100 * s.railPeriod r))) =
        true ∧ -(railFig r 4 : Rat) ≤ (t.rail r).ic ∧ (t.rail r).ic ≤ (railFig r 4 : Rat) ∧
        SameRegs [.PWR_RAIL_VOUT_MV, .PWR_CMD_OVERLAP_COUNT, .PWR_RAIL_SHED_COUNT, .PWR_RAIL_LIMITED_COUNT] s t ∧
        SameMem s t)) ∧
  (∀ (s : State) (mv : BitVec 16) (ps : List PhaseSense) (r : Fin 50), r = 49 → s.bit .PWR_RAIL_STATUS_ON r = true →
      (s.rail r).latched = false → (if isBoot r then (s.rail r).en else
      (((s.rail r).waiting.map (·.en)).getD (s.rail r).en)) = true →
      ((s.rail r).decaying && decide ((((s.rail r).waiting.map (fun c =>
      if r = 49 then max (-4000) (min 4000 (dec 16 c.set)) else (c.set : Int))).getD (s.rail r).target) <
      (mv.toNat : Int))) = false →
    Runs (.switchingPeriod r mv ps) s (fun t =>
        (t.rail r).vset = (if ((((s.rail r).waiting.map (·.hold)).getD (s.rail r).hold) && !s.railProtects r) then
        s.modRail r (fun x => { x with shed := [] }) else
        s).bwcInForce ((((s.rail r).waiting.map (fun c =>
        if r = 49 then max (-4000) (min 4000 (dec 16 c.set)) else (c.set : Int))).getD (s.rail r).target)) ∧
        (t.rail r).target = (((s.rail r).waiting.map (fun c =>
        if r = 49 then max (-4000) (min 4000 (dec 16 c.set)) else (c.set : Int))).getD (s.rail r).target) ∧
        t.get .PWR_RAIL_VOUT_MV r = mv.toNat ∧ (t.rail r).decaying = false ∧ (t.rail r).waiting = none ∧
        SameRegs [.PWR_RAIL_VOUT_MV, .PWR_CMD_OVERLAP_COUNT, .PWR_RAIL_SHED_COUNT, .PWR_RAIL_LIMITED_COUNT] s t ∧
        SameMem s t)) ∧
  (∀ (s : State) (r : Fin 50) (mv : BitVec 16) (ps : List PhaseSense), s.bit .PWR_RAIL_STATUS_ON r = true →
      (s.rail r).latched = false → (if isBoot r then (s.rail r).en else
      (((s.rail r).waiting.map (·.en)).getD (s.rail r).en)) = true →
      ((s.rail r).decaying && decide ((((s.rail r).waiting.map (fun c =>
      if r = 49 then max (-4000) (min 4000 (dec 16 c.set)) else (c.set : Int))).getD (s.rail r).target) <
      (mv.toNat : Int))) = true →
    Runs (.switchingPeriod r mv ps) s (fun t => (t.rail r).vset = (s.rail r).vset ∧ (t.rail r).decaying = true ∧
        (t.rail r).onTime = (s.rail r).onTime ∧
        (t.rail r).target = (((s.rail r).waiting.map (fun c =>
        if r = 49 then max (-4000) (min 4000 (dec 16 c.set)) else (c.set : Int))).getD (s.rail r).target) ∧
        SameRegs [.PWR_CMD_OVERLAP_COUNT] s t ∧ SameMem s t)) ∧
  (∀ (s : State) (r : Fin 50) (mv : BitVec 16) (ps : List PhaseSense), s.bit .PWR_RAIL_STATUS_ON r = true →
      (s.rail r).latched = false → (if isBoot r then (s.rail r).en else
      (((s.rail r).waiting.map (·.en)).getD (s.rail r).en)) = false →
    Runs (.switchingPeriod r mv ps) s (fun t => t.bit .PWR_RAIL_STATUS_ON r = false ∧
        t.bit .PWR_RAIL_STATUS_SOFT_START r = false ∧ (t.rail r).onTime = [] ∧
        SameRegs [.PWR_RAIL_STATUS_ON, .PWR_RAIL_STATUS_SOFT_START, .PWR_CMD_OVERLAP_COUNT] s t ∧ SameMem s t))

/-- R62, R347 to R351: the input stage. When the diode conducts and the FET regulates is log entry 66. -/
def Obligations.InputStageRunsItsSequence : Prop :=
  (∀ (s : State), s.bit .PWR_IN_STATUS_PRE_DONE = true →
    Runs .bootSequencer s (fun t => ((s.rail 46).latched = false → (t.rail 46).en = true ∧ (t.rail 46).target = 3300) ∧
        (∀ r : Fin 50, (r = 47 ∨ r = 48) → s.bit .PWR_RAIL_STATUS_IN_REG 46 = true → (s.rail r).latched = false →
        (t.rail r).en = true ∧ (t.rail r).target = 900) ∧
        (∀ r : Fin 50, ((s.rail r).latched = true ∨ isBoot r = false ∨ (r ≠ 46 ∧ s.bit .PWR_RAIL_STATUS_IN_REG 46 = false)) →
        t.rail r = s.rail r) ∧ SameRegs [] s t ∧ SameMem s t)) ∧
  (∀ (s : State), s.bit .PWR_IN_STATUS_PRE_DONE = false → Runs .bootSequencer s (fun t => t = s)) ∧
  (∀ (s : State), s.pins.limiter = true →
    Runs .prechargeDone s (fun t => t.bit .PWR_IN_STATUS_PRE_DONE = true ∧ SameRegs [.PWR_IN_STATUS_PRE_DONE] s t ∧
        SameMem s t)) ∧
  (∀ (s : State), s.pins.limiter = false → Runs .prechargeDone s (fun t => t = s)) ∧
  (∀ (s : State), s.bit .PWR_IN_STATUS_PRE_DONE = false →
    Runs .prechargeTimeout s (fun t => t = { s with pins := { s.pins with limiter := false } })) ∧
  (∀ (s : State), s.bit .PWR_IN_STATUS_PRE_DONE = true → Runs .prechargeTimeout s (fun t => t = s)) ∧
  (∀ (s : State), (!s.pins.limiter && !s.pins.presentN && !s.hpl.limiterOff && !s.bit .PWR_IN_PROT_STATUS_OV &&
      !s.bit .PWR_IN_STATUS_PRE_DONE) = true →
    Runs .prechargeRetry s (fun t => t.pins.limiter = true ∧
        t.get .PWR_IN_STATUS_PRE_RETRY = min (s.get .PWR_IN_STATUS_PRE_RETRY +
        1) (2 ^ (Fld.info .PWR_IN_STATUS_PRE_RETRY).width - 1) ∧
        t.pwr.retriesHeld = s.pwr.retriesHeld + (if s.ready rSUP then 0 else 1) ∧ SameMem s t)) ∧
  (∀ (s : State), (!s.pins.limiter && !s.pins.presentN && !s.hpl.limiterOff && !s.bit .PWR_IN_PROT_STATUS_OV &&
      !s.bit .PWR_IN_STATUS_PRE_DONE) = false →
    Runs .prechargeRetry s (fun t => t = s)) ∧
  (∀ (s : State) (en : Bool), ({ s with pins := { s.pins with pwrEn := en } } : State).hotSwapMay = true →
    Runs (.hotSwapClose en) s (fun t => t.bit .PWR_IN_STATUS_HS_ON = true ∧ t.pins.pwrEn = en ∧
        (∀ i : Fin 9, t.pins.tap[i] ≠ .extest ∧ (s.pins.tap[i] ≠ .extest → t.pins.tap[i] = s.pins.tap[i])) ∧ SameMem s t)) ∧
  (∀ (s : State) (en : Bool), ({ s with pins := { s.pins with pwrEn := en } } : State).hotSwapMay = false →
    Runs (.hotSwapClose en) s (fun t => t = { s with pins := { s.pins with pwrEn := en } })) ∧
  (∀ (s : State), s.bit .PWR_IN_STATUS_HS_ON = true →
    Runs .hotSwapTrip s (fun t => t.bit .PWR_IN_STATUS_HS_ON = false ∧
        t.get .PWR_IN_STATUS_TRIPS = min (s.get .PWR_IN_STATUS_TRIPS + 1) (2 ^ (Fld.info .PWR_IN_STATUS_TRIPS).width - 1) ∧
        t.pins.alert = true ∧ (if s.hplState ≤ 3 then t.hplState = 5 ∧
        t.get .HPL_STATE_TRIGGER = 2 else t.hplState = s.hplState) ∧ SameMem s t)) ∧
  (∀ (s : State), s.bit .PWR_IN_STATUS_HS_ON = false → Runs .hotSwapTrip s (fun t => t = s)) ∧
  (∀ (s : State),
    Runs .idealDiodeBlock s (fun t => t.bit .PWR_IN_STATUS_ID_BLOCK = true ∧ SameRegs [.PWR_IN_STATUS_ID_BLOCK] s t ∧
        SameMem s t)) ∧
  (∀ (s : State) (j n a : BitVec 16),
    Runs (.inputMeasure j n a) s (fun t => t.get .PWR_IN_V_J1_MV = j.toNat ∧ t.get .PWR_IN_V_NODE_MV = n.toNat ∧
        t.get .PWR_IN_I_A_X100 = a.toNat ∧
        t.bit .PWR_IN_STATUS_ID_BLOCK = (s.bit .PWR_IN_STATUS_ID_BLOCK && decide (j.toNat ≤ n.toNat)) ∧
        t.bit .PWR_IN_STATUS_HS_LIMIT = (s.bit .PWR_IN_STATUS_HS_ON && decide (13000 ≤ a.toNat)) ∧
        t.get .PWR_IN_P_W = (if s.pwr.pCount = 499 then min ((s.pwr.pSum + n.toNat * a.toNat) / 50000000) 65535 else
        s.get .PWR_IN_P_W) ∧ t.pwr.pCount = (if s.pwr.pCount = 499 then 0 else s.pwr.pCount + 1) ∧
        t.get .PWR_IN_ENERGY_J = min (s.get .PWR_IN_ENERGY_J +
        (s.pwr.jRest + n.toNat * a.toNat) / 50000000000) (2 ^ 64 - 1) ∧
        t.pwr.jRest = (s.pwr.jRest + n.toNat * a.toNat) % 50000000000 ∧
        SameRegs [.PWR_IN_V_J1_MV, .PWR_IN_V_NODE_MV, .PWR_IN_I_A_X100, .PWR_IN_STATUS_ID_BLOCK, .PWR_IN_STATUS_HS_LIMIT,
        .PWR_IN_P_W, .PWR_IN_ENERGY_J] s t ∧ SameMem s t))

/-- R342, R355 to R359, R361, R372, R23: rails. Equal shares that drop the trims are log entry 66. -/
def Obligations.RailsStartRegulateAndBalance : Prop :=
  (∀ (s : State) (r : Fin 50) (mv : BitVec 16), s.railMayStart r = true → r ≠ 49 → (mv.toNat : Int) < (s.rail r).target →
    Runs (.railStart r mv) s (fun t => t.bit .PWR_RAIL_STATUS_ON r = true ∧ t.bit .PWR_RAIL_STATUS_SOFT_START r = true ∧
        (t.rail r).ssRef = mv.toNat ∧ (t.rail r).vset = mv.toNat ∧
        (t.rail r).ssRate = ((s.rail r).target : Rat) / (100 * (s.get .PWR_RAIL_CFG1_SS_TIME r : Rat)) ∧
        (t.rail r).first = some mv.toNat ∧ t.get .PWR_RAIL_VOUT_MV r = mv.toNat ∧ (t.rail r).ssStart = s.now ∧
        SameRegs [.PWR_RAIL_STATUS_ON, .PWR_RAIL_STATUS_SOFT_START, .PWR_RAIL_VOUT_MV] s t ∧ SameMem s t)) ∧
  (∀ (s : State) (r : Fin 50) (mv : BitVec 16), s.railMayStart r = true → r ≠ 49 → (s.rail r).target ≤ mv.toNat →
    Runs (.railStart r mv) s (fun t => t.bit .PWR_RAIL_STATUS_ON r = true ∧ t.bit .PWR_RAIL_STATUS_SOFT_START r = false ∧
        (t.rail r).decaying = true ∧ (t.rail r).vset = (s.rail r).target ∧
        SameRegs [.PWR_RAIL_STATUS_ON, .PWR_RAIL_STATUS_SOFT_START, .PWR_RAIL_VOUT_MV] s t ∧ SameMem s t)) ∧
  (∀ (s : State) (mv : BitVec 16) (r : Fin 50), r = 49 → s.railMayStart r = true →
    Runs (.railStart r mv) s (fun t => t.bit .PWR_RAIL_STATUS_ON r = true ∧ t.bit .PWR_RAIL_STATUS_SOFT_START r = false ∧
        (t.rail r).vset = (s.setBit .PWR_RAIL_STATUS_ON true r).bwcInForce (s.rail r).target ∧ (t.rail r).decaying = false ∧
        SameRegs [.PWR_RAIL_STATUS_ON, .PWR_RAIL_STATUS_SOFT_START, .PWR_RAIL_VOUT_MV] s t ∧ SameMem s t)) ∧
  (∀ (s : State) (r : Fin 50) (mv : BitVec 16), s.railMayStart r = false → Runs (.railStart r mv) s (fun t => t = s)) ∧
  (∀ (s : State) (r : Fin 50), s.bit .PWR_RAIL_STATUS_SOFT_START r = true →
    Runs (.softStartDone r) s (fun t => t.bit .PWR_RAIL_STATUS_SOFT_START r = false ∧ (t.rail r).vset = (s.rail r).target ∧
        SameRegs [.PWR_RAIL_STATUS_SOFT_START] s t ∧ SameMem s t)) ∧
  (∀ (s : State) (r : Fin 50), s.bit .PWR_RAIL_STATUS_SOFT_START r = false → Runs (.softStartDone r) s (fun t => t = s)) ∧
  (∀ (s : State) (r : Fin 50), s.bit .PWR_RAIL_STATUS_ON r = true → s.bit .PWR_RAIL_STATUS_IN_REG r = false →
    Runs (.railRegulationEnter r) s (fun t => t.bit .PWR_RAIL_STATUS_IN_REG r = true ∧ (t.rail r).regSince = some s.now ∧
        SameRegs [.PWR_RAIL_STATUS_IN_REG] s t ∧ SameMem s t)) ∧
  (∀ (s : State) (r : Fin 50), s.bit .PWR_RAIL_STATUS_ON r = false ∨ s.bit .PWR_RAIL_STATUS_IN_REG r = true →
    Runs (.railRegulationEnter r) s (fun t => t = s)) ∧
  (∀ (s : State) (r : Fin 50) (k : Nat), s.bit .PWR_RAIL_STATUS_IN_REG r = true → railReady r = some k →
    Runs (.railRegulationLeave r) s (fun t => t.bit .PWR_RAIL_STATUS_IN_REG r = false ∧ t.ready k = false ∧
        (2 ≤ r.val → r.val < 10 → t.inReset (6 + r.val) = true))) ∧
  (∀ (s : State) (r : Fin 50), s.bit .PWR_RAIL_STATUS_IN_REG r = true → railReady r = none →
    Runs (.railRegulationLeave r) s (fun t => t.bit .PWR_RAIL_STATUS_IN_REG r = false ∧ (t.rail r).regSince = none ∧
        SameRegs [.PWR_RAIL_STATUS_IN_REG] s t ∧ SameMem s t)) ∧
  (∀ (s : State) (r : Fin 50), s.bit .PWR_RAIL_STATUS_IN_REG r = false → Runs (.railRegulationLeave r) s (fun t => t = s)) ∧
  (∀ (s : State) (r : Fin 50) (m : List Int), s.runPhases r ≠ [] → s.railStopped r = false →
    Runs (.phaseBalance r m) s (fun t => (t.rail r).trim.map (·.1) = s.runPhases r ∧
        (t.rail r).trim.all (fun e => decide (-(railRated r / 4) ≤ e.2) && decide (e.2 ≤ railRated r / 4)) = true ∧
        SameRegs [.PWR_RAIL_PH_INFO_SHARE] s t ∧ SameMem s t)) ∧
  (∀ (s : State) (r : Fin 50) (m : List Int), s.runPhases r = [] ∨ s.railStopped r = true →
    Runs (.phaseBalance r m) s (fun t => t = s)) ∧
  (∀ (s : State) (r : Fin 50), (s.bit .PWR_RAIL_CTRL_SHED_EN r && decide (railFig r 1 < (s.runPhases r).length) &&
      decide (s.railAmps r / ((s.runPhases r).length : Rat) < (s.get .PWR_RAIL_CFG2_SHED_LO r : Rat) / 100 * railRated r) &&
      !(s.rail r).hold && (s.rail r).rampOff.isNone && (s.rail r).braking.isEmpty && !s.railRamp r &&
      !s.bit .PWR_RAIL_STATUS_SOFT_START r && !s.railProtects r) = true →
    Runs (.phaseShed r) s (fun t => t = s.setRail r
        { s.rail r with rampOff := some (((s.runPhases r).foldl (fun a k => if s.get .PWR_RAIL_PH_INFO_TEMP r k > s.get .PWR_RAIL_PH_INFO_TEMP r a then k else a) ((s.runPhases r).headD 0)), 16) })) ∧
  (∀ (s : State) (r : Fin 50), (s.bit .PWR_RAIL_CTRL_SHED_EN r && decide (railFig r 1 < (s.runPhases r).length) &&
      decide (s.railAmps r / ((s.runPhases r).length : Rat) < (s.get .PWR_RAIL_CFG2_SHED_LO r : Rat) / 100 * railRated r) &&
      !(s.rail r).hold && (s.rail r).rampOff.isNone && (s.rail r).braking.isEmpty && !s.railRamp r &&
      !s.bit .PWR_RAIL_STATUS_SOFT_START r && !s.railProtects r) = false →
    Runs (.phaseShed r) s (fun t => t = s)) ∧
  (∀ (s : State) (r : Fin 50), (!(s.runPhases r).isEmpty && !s.railStopped r &&
      decide ((s.get .PWR_RAIL_CFG2_ADD_HI r : Rat) / 100 * railRated r < s.railAmps r / ((s.runPhases r).length : Rat))) =
      true →
    Runs (.phaseAdd r) s (fun t => t = s.setRail r { s.rail r with shed := (s.rail r).shed.drop 1 })) ∧
  (∀ (s : State) (r : Fin 50), (!(s.runPhases r).isEmpty && !s.railStopped r &&
      decide ((s.get .PWR_RAIL_CFG2_ADD_HI r : Rat) / 100 * railRated r < s.railAmps r / ((s.runPhases r).length : Rat))) =
      false →
    Runs (.phaseAdd r) s (fun t => t = s)) ∧
  (∀ (s : State) (r : Fin 50) (mv : BitVec 16),
      (s.bit .PWR_RAIL_STATUS_ON r && decide ((mv.toNat : Rat) <
      (1 - (s.get .PWR_RAIL_CFG2_STEP r : Rat) / 200) * (s.rail r).vset) && !s.railStopped r) = true →
    Runs (.loadStep r mv) s (fun t => (t.rail r).shed = [] ∧ (t.rail r).rampOff = none ∧ (t.rail r).stepped = true ∧
        (t.rail r).trim = [] ∧ (railPhases r).all (fun k => t.get .PWR_RAIL_PH_INFO_SHARE r k == 0) = true ∧
        SameRegs [.PWR_RAIL_PH_INFO_SHARE, .PWR_RAIL_SHED_ABORT_COUNT] s t ∧ SameMem s t)) ∧
  (∀ (s : State) (r : Fin 50) (mv : BitVec 16),
      (s.bit .PWR_RAIL_STATUS_ON r && decide ((mv.toNat : Rat) <
      (1 - (s.get .PWR_RAIL_CFG2_STEP r : Rat) / 200) * (s.rail r).vset) && !s.railStopped r) = false →
    Runs (.loadStep r mv) s (fun t => t = s)) ∧
  (∀ (s : State) (r : Fin 50) (mv : BitVec 16),
      (r != 49 && s.bit .PWR_RAIL_CTRL_BRAKE_EN r && s.bit .PWR_RAIL_STATUS_ON r &&
      decide ((1 + (s.get .PWR_RAIL_CFG2_BRAKE r : Rat) / 200) * (s.rail r).vset < (mv.toNat : Rat)) &&
      !s.bit .PWR_RAIL_STATUS_SOFT_START r && (s.rail r).braking.isEmpty && !s.railProtects r) = true →
    Runs (.brakeStart r mv) s (fun t => (t.rail r).braking = s.runPhases r ∧ SameRegs [.PWR_RAIL_BRAKE_COUNT] s t ∧
        SameMem s t)) ∧
  (∀ (s : State) (r : Fin 50) (mv : BitVec 16),
      (r != 49 && s.bit .PWR_RAIL_CTRL_BRAKE_EN r && s.bit .PWR_RAIL_STATUS_ON r &&
      decide ((1 + (s.get .PWR_RAIL_CFG2_BRAKE r : Rat) / 200) * (s.rail r).vset < (mv.toNat : Rat)) &&
      !s.bit .PWR_RAIL_STATUS_SOFT_START r && (s.rail r).braking.isEmpty && !s.railProtects r) = false →
    Runs (.brakeStart r mv) s (fun t => t = s)) ∧
  (∀ (s : State) (r : Fin 50) (k : Fin 16),
    Runs (.brakeEnd r k) s (fun t => t = s.setRail r { s.rail r with braking := (s.rail r).braking.filter (· != k.val) }))

/-- R364 to R367: synchronisation. -/
def Obligations.SwitchingFollowsSyncIn : Prop :=
  (∀ (s : State) (k : BitVec 16), (s.bit .PWR_SYNC_CFG_ENABLE && s.get .PWR_SYNC_STATUS_STATE == 0 &&
      decide (3200 ≤ k.toNat) && decide (k.toNat ≤ 6400)) = true →
    Runs (.syncInStable k) s (fun t => t.get .PWR_SYNC_STATUS_STATE = 1 ∧ t.bit .PWR_SYNC_STATUS_PRESENT = true ∧
        t.get .PWR_SYNC_STATUS_FREQ_KHZ = k.toNat ∧
        (List.range 6).all (fun g => t.get .PWR_GROUP_DIV 0 g == (2 * k.toNat + groupNom g) / (2 * groupNom g)) = true ∧
        t.pwr.slewAt = s.now ∧ SameRegs [.PWR_SYNC_STATUS_STATE, .PWR_SYNC_STATUS_PRESENT, .PWR_SYNC_STATUS_FREQ_KHZ,
        .PWR_GROUP_DIV] s t ∧ SameMem s t)) ∧
  (∀ (s : State) (k : BitVec 16), (s.bit .PWR_SYNC_CFG_ENABLE && s.get .PWR_SYNC_STATUS_STATE == 0 &&
      decide (3200 ≤ k.toNat) && decide (k.toNat ≤ 6400)) = false →
    Runs (.syncInStable k) s (fun t => t.bit .PWR_SYNC_STATUS_PRESENT = true ∧ t.get .PWR_SYNC_STATUS_FREQ_KHZ = k.toNat ∧
        t.pwr = s.pwr ∧ SameRegs [.PWR_SYNC_STATUS_PRESENT, .PWR_SYNC_STATUS_FREQ_KHZ] s t ∧ SameMem s t)) ∧
  (∀ (s : State), s.get .PWR_SYNC_STATUS_STATE = 1 →
    Runs .syncLocked s (fun t => t = (({ s with pwr := { s.pwr with slewFrom := s.pwr.slewTo } } : State).set
        .PWR_SYNC_STATUS_STATE 2).raise 0x1302 ∧ t.get .PWR_SYNC_STATUS_STATE = 2)) ∧
  (∀ (s : State), s.get .PWR_SYNC_STATUS_STATE ≠ 1 → Runs .syncLocked s (fun t => t = s)) ∧
  (∀ (s : State), s.get .PWR_SYNC_STATUS_STATE = 1 ∨ s.get .PWR_SYNC_STATUS_STATE = 2 →
    Runs .syncInLost s (fun t => t.get .PWR_SYNC_STATUS_STATE = 3 ∧ t.bit .PWR_SYNC_STATUS_PRESENT = false ∧
        (List.range 6).all (fun g => t.get .PWR_GROUP_DIV 0 g == 0) = true ∧
        (s.get .PWR_SYNC_STATUS_STATE = 2 → t.pins.alert = true) ∧ (s.get .PWR_SYNC_STATUS_STATE = 1 → t.log = s.log) ∧
        SameMem s t)) ∧
  (∀ (s : State), s.get .PWR_SYNC_STATUS_STATE = 0 ∨ s.get .PWR_SYNC_STATUS_STATE = 3 →
    Runs .syncInLost s (fun t => t.bit .PWR_SYNC_STATUS_PRESENT = false ∧ t.pwr = s.pwr ∧
        SameRegs [.PWR_SYNC_STATUS_PRESENT] s t ∧ SameMem s t)) ∧
  (∀ (s : State),
    Runs .timebaseSlewDone s (fun t => t.get .PWR_SYNC_STATUS_STATE =
        (if s.get .PWR_SYNC_STATUS_STATE = 3 then 0 else s.get .PWR_SYNC_STATUS_STATE) ∧ t.pwr.slewFrom = s.pwr.slewTo ∧
        SameRegs [.PWR_SYNC_STATUS_STATE] s t ∧ SameMem s t))

/-- R372, R375 to R381: protection of rails. -/
def Obligations.RailProtectionTripsAndLatches : Prop :=
  (∀ (s : State) (r : Fin 50), (railFig r 5 == 1 && s.bit .PWR_RAIL_STATUS_ON r &&
      decide (s.get .PWR_RAIL_PROT_CFG_N_LIMIT r ≤ (s.rail r).limited)) = true →
      s.get .PWR_RAIL_PROT_STATUS_RETRIES r < s.get .PWR_RAIL_PROT_CFG_RETRY_MAX r →
    Runs (.classHTrip r) s (fun t => t.bit .PWR_RAIL_STATUS_ON r = false ∧ t.bit .PWR_RAIL_PROT_STATUS_HICCUP_OFF r = true ∧
        t.get .PWR_RAIL_PROT_STATUS_CAUSE r = 1 ∧ (t.rail r).latch = (s.rail r).latch ∧ SameMem s t)) ∧
  (∀ (s : State) (r : Fin 50), (railFig r 5 == 1 && s.bit .PWR_RAIL_STATUS_ON r &&
      decide (s.get .PWR_RAIL_PROT_CFG_N_LIMIT r ≤ (s.rail r).limited)) = true →
      s.get .PWR_RAIL_PROT_CFG_RETRY_MAX r ≤ s.get .PWR_RAIL_PROT_STATUS_RETRIES r → (s.rail r).latch = none →
    Runs (.classHTrip r) s (fun t => (t.rail r).latch = some 2 ∧ t.get .PWR_RAIL_PROT_STATUS_CAUSE r = 2 ∧
        t.bit .PWR_RAIL_STATUS_ON r = false ∧ (t.wanted r).en = false ∧ t.pins.alert = true ∧ SameMem s t)) ∧
  (∀ (s : State) (r : Fin 50), (railFig r 5 == 1 && s.bit .PWR_RAIL_STATUS_ON r &&
      decide (s.get .PWR_RAIL_PROT_CFG_N_LIMIT r ≤ (s.rail r).limited)) = false →
    Runs (.classHTrip r) s (fun t => t = s)) ∧
  (∀ (s : State) (r : Fin 50), s.bit .PWR_RAIL_PROT_STATUS_HICCUP_OFF r = true →
    Runs (.hiccupRetry r) s (fun t => t.bit .PWR_RAIL_PROT_STATUS_HICCUP_OFF r = false ∧
        t.get .PWR_RAIL_PROT_STATUS_RETRIES r =
        (if (s.rail r).en then min (s.get .PWR_RAIL_PROT_STATUS_RETRIES r +
        1) (2 ^ (Fld.info .PWR_RAIL_PROT_STATUS_RETRIES).width - 1) else s.get .PWR_RAIL_PROT_STATUS_RETRIES r) ∧
        SameRegs [.PWR_RAIL_PROT_STATUS_HICCUP_OFF, .PWR_RAIL_PROT_STATUS_RETRIES] s t ∧ SameMem s t)) ∧
  (∀ (s : State) (r : Fin 50), s.bit .PWR_RAIL_PROT_STATUS_HICCUP_OFF r = false → Runs (.hiccupRetry r) s (fun t => t = s)) ∧
  (∀ (s : State) (r : Fin 50), s.bit .PWR_RAIL_STATUS_IN_REG r = true →
    Runs (.retryCountClear r) s (fun t => t.get .PWR_RAIL_PROT_STATUS_RETRIES r = 0 ∧
        SameRegs [.PWR_RAIL_PROT_STATUS_RETRIES] s t ∧ SameMem s t)) ∧
  (∀ (s : State) (r : Fin 50), s.bit .PWR_RAIL_STATUS_IN_REG r = false → Runs (.retryCountClear r) s (fun t => t = s)) ∧
  (∀ (s : State) (r : Fin 50) (mv : BitVec 16),
      (railFig r 5 == 0 && s.bit .PWR_RAIL_STATUS_ON r && !(s.rail r).half &&
      decide (2 * (mv.toNat : Int) < (s.rail r).target)) = true → (s.rail r).latch = none →
    Runs (.softStartLatch r mv) s (fun t => (t.rail r).latch = some 3 ∧ t.get .PWR_RAIL_PROT_STATUS_CAUSE r = 3 ∧
        t.bit .PWR_RAIL_STATUS_ON r = false ∧ (t.wanted r).en = false ∧ t.pins.alert = true ∧ SameMem s t)) ∧
  (∀ (s : State) (r : Fin 50) (mv : BitVec 16),
      (railFig r 5 == 0 && s.bit .PWR_RAIL_STATUS_ON r && !(s.rail r).half &&
      decide (2 * (mv.toNat : Int) < (s.rail r).target)) = false →
    Runs (.softStartLatch r mv) s (fun t => t = s)) ∧
  (∀ (s : State) (r : Fin 50) (mv : BitVec 16),
      (r != 49 && s.bit .PWR_RAIL_STATUS_ON r && !(s.rail r).decaying && decide (s.ovRef r * 115 / 100 < (mv.toNat : Rat))) =
      true → (s.rail r).latch = none →
    Runs (.overvoltageLatch r mv) s (fun t => (t.rail r).latch = some 4 ∧ t.get .PWR_RAIL_PROT_STATUS_CAUSE r = 4 ∧
        t.bit .PWR_RAIL_STATUS_ON r = false ∧ (t.wanted r).en = false ∧ t.pins.alert = true ∧ SameMem s t)) ∧
  (∀ (s : State) (r : Fin 50) (mv : BitVec 16),
      (r != 49 && s.bit .PWR_RAIL_STATUS_ON r && !(s.rail r).decaying && decide (s.ovRef r * 115 / 100 < (mv.toNat : Rat))) =
      false →
    Runs (.overvoltageLatch r mv) s (fun t => t = s)) ∧
  (∀ (s : State) (r : Fin 50) (k : Fin 16),
      (s.bit .PWR_RAIL_PROT_CFG_HS_CHECK r && !isBoot r && (s.rail r).en && !s.bit .PWR_RAIL_STATUS_ON r &&
      !s.railStopped r) = true →
    Runs (.hsShortCheck r (some k)) s (fun t => (t.rail r).latch = some 5 ∧ t.get .PWR_RAIL_PROT_STATUS_CAUSE r = 5 ∧
        t.bit .PWR_RAIL_STATUS_ON r = false ∧ (t.wanted r).en = false ∧ t.pins.alert = true ∧ SameMem s t)) ∧
  (∀ (s : State) (r : Fin 50), (s.bit .PWR_RAIL_PROT_CFG_HS_CHECK r && !isBoot r && (s.rail r).en &&
      !s.bit .PWR_RAIL_STATUS_ON r && !s.railStopped r) = true →
    Runs (.hsShortCheck r none) s (fun t => t = s.setRail r { s.rail r with checked := true })) ∧
  (∀ (s : State) (r : Fin 50) (o : Option (Fin 16)),
      (s.bit .PWR_RAIL_PROT_CFG_HS_CHECK r && !isBoot r && (s.rail r).en && !s.bit .PWR_RAIL_STATUS_ON r &&
      !s.railStopped r) = false →
    Runs (.hsShortCheck r o) s (fun t => t = s)) ∧
  (∀ (s : State) (r : Fin 50) (k : Fin 16) (temp : Nat),
      (decide (150 ≤ temp) && decide (k.val < railFig r 0) && !(s.rail r).thermal.contains k.val) = true →
      (s.rail r).latched = false → (railFig r 0 - ((s.rail r).thermal.length + 1) < railFig r 1 →
      s.bit .PWR_RAIL_STATUS_ON r = false) →
    Runs (.stageThermalStop r k temp) s (fun t => (t.rail r).thermal = k.val :: (s.rail r).thermal ∧
        t.get .PWR_RAIL_PROT_STATUS_CAUSE r = 6 ∧ t.bit .PWR_RAIL_STATUS_ON r = s.bit .PWR_RAIL_STATUS_ON r ∧
        (t.rail r).latch = (s.rail r).latch ∧ t.pins.alert = true ∧ SameMem s t)) ∧
  (∀ (s : State) (r : Fin 50) (k : Fin 16) (temp : Nat),
      (decide (150 ≤ temp) && decide (k.val < railFig r 0) && !(s.rail r).thermal.contains k.val) = true →
      (s.rail r).latched = true →
    Runs (.stageThermalStop r k temp) s (fun t => (t.rail r).thermal = k.val :: (s.rail r).thermal ∧
        t.get .PWR_RAIL_PROT_STATUS_CAUSE r = s.get .PWR_RAIL_PROT_STATUS_CAUSE r ∧
        t.bit .PWR_RAIL_STATUS_ON r = s.bit .PWR_RAIL_STATUS_ON r ∧ (t.rail r).latch = (s.rail r).latch ∧
        t.pins.alert = true ∧ SameMem s t)) ∧
  (∀ (s : State) (r : Fin 50) (k : Fin 16) (temp : Nat),
      (decide (150 ≤ temp) && decide (k.val < railFig r 0) && !(s.rail r).thermal.contains k.val) = true →
      (s.rail r).latched = false → railFig r 0 - ((s.rail r).thermal.length + 1) < railFig r 1 →
      s.bit .PWR_RAIL_STATUS_ON r = true →
    Runs (.stageThermalStop r k temp) s (fun t => (t.rail r).thermal = k.val :: (s.rail r).thermal ∧
        t.bit .PWR_RAIL_STATUS_ON r = false ∧
        (if s.get .PWR_RAIL_PROT_STATUS_RETRIES r < s.get .PWR_RAIL_PROT_CFG_RETRY_MAX r then (t.rail r).thermalOff = true ∧
        (t.rail r).latch = none ∧ t.get .PWR_RAIL_PROT_STATUS_CAUSE r = 6 else (t.rail r).latch = some 2 ∧
        t.get .PWR_RAIL_PROT_STATUS_CAUSE r = 2) ∧ SameMem s t)) ∧
  (∀ (s : State) (r : Fin 50) (k : Fin 16) (temp : Nat),
      (decide (150 ≤ temp) && decide (k.val < railFig r 0) && !(s.rail r).thermal.contains k.val) = false →
    Runs (.stageThermalStop r k temp) s (fun t => t = s)) ∧
  (∀ (s : State) (r : Fin 50) (k : Fin 16) (temp : Nat), temp ≤ 125 → (s.rail r).thermal.contains k.val = true →
      (s.rail r).thermalOff = false ∨ railFig r 0 - ((s.rail r).thermal.filter (· != k.val)).length < railFig r 1 →
    Runs (.stageRejoin r k temp) s (fun t =>
        t = s.setRail r { s.rail r with thermal := (s.rail r).thermal.filter (· != k.val) })) ∧
  (∀ (s : State) (r : Fin 50) (k : Fin 16) (temp : Nat), temp ≤ 125 → (s.rail r).thermal.contains k.val = true →
      (s.rail r).thermalOff = true → railFig r 1 ≤ railFig r 0 - ((s.rail r).thermal.filter (· != k.val)).length →
    Runs (.stageRejoin r k temp) s (fun t => (t.rail r).thermal = (s.rail r).thermal.filter (· != k.val) ∧
        (t.rail r).thermalOff = false ∧ t.get .PWR_RAIL_PROT_STATUS_RETRIES r =
        min (s.get .PWR_RAIL_PROT_STATUS_RETRIES r + 1) (2 ^ (Fld.info .PWR_RAIL_PROT_STATUS_RETRIES).width - 1) ∧
        SameRegs [.PWR_RAIL_PROT_STATUS_RETRIES] s t ∧ SameMem s t)) ∧
  (∀ (s : State) (r : Fin 50) (k : Fin 16) (temp : Nat), 125 < temp ∨ (s.rail r).thermal.contains k.val = false →
    Runs (.stageRejoin r k temp) s (fun t => t = s)) ∧
  (∀ (s : State) (r : Fin 50), s.bit .PWR_RAIL_PROT_STATUS_INPUT_LOW r = false →
    Runs (.inputLowStop r) s (fun t => t.bit .PWR_RAIL_PROT_STATUS_INPUT_LOW r = true ∧ t.bit .PWR_RAIL_STATUS_ON r = false ∧
        t.pins.alert = true ∧ SameMem s t)) ∧
  (∀ (s : State) (r : Fin 50), s.bit .PWR_RAIL_PROT_STATUS_INPUT_LOW r = true → Runs (.inputLowStop r) s (fun t => t = s)) ∧
  (∀ (s : State) (r : Fin 50),
    Runs (.inputLowRecover r) s (fun t => t.bit .PWR_RAIL_PROT_STATUS_INPUT_LOW r = false ∧
        SameRegs [.PWR_RAIL_PROT_STATUS_INPUT_LOW] s t ∧ SameMem s t)) ∧
  (∀ (s : State) (src : Source) (r : Fin 50) (c : Nat), s.right src = .owner → s.bit .PWR_RAIL_CTRL_EN r = false →
      isBoot r = false → (s.rail r).latch = some c →
    Runs (.pwrRailUnlatch src r 0x1A7C#16) s (fun t => (t.rail r).latch = none ∧ (t.rail r).en = false ∧
        t.get .PWR_RAIL_PROT_STATUS_RETRIES r = 0 ∧ Answered src 0 s t ∧ SameMem s t)) ∧
  (∀ (s : State) (src : Source) (r : Fin 50), s.right src = .owner → s.bit .PWR_RAIL_CTRL_EN r = false → isBoot r = false →
      (s.rail r).latch = none →
    Runs (.pwrRailUnlatch src r 0x1A7C#16) s (fun t => t.pwr = s.pwr ∧ Answered src 0 s t ∧ SameRegs [] s t ∧ SameMem s t)) ∧
  (∀ (s : State) (src : Source) (r : Fin 50) (key : BitVec 16), s.right src = .owner →
      key ≠ 0x1A7C#16 ∨ s.bit .PWR_RAIL_CTRL_EN r = true ∨ isBoot r = true →
    Runs (.pwrRailUnlatch src r key) s (fun t => t.bit .PWR_RAIL_STATUS_LOCK_ERR r = true ∧ t.pwr = s.pwr ∧
        Answered src 4 s t ∧ SameRegs [.PWR_RAIL_STATUS_LOCK_ERR] s t ∧ SameMem s t))

/-- R382 to R387, R389, R561: input protection and records. -/
def Obligations.InputProtectionAndFaultRecords : Prop :=
  (∀ (s : State), s.bit .PWR_IN_PROT_STATUS_UV = false → s.hplState < 5 →
    Runs .inputUvStart s (fun t => t.bit .PWR_IN_PROT_STATUS_UV = true ∧ t.bit .PWR_IN_STATUS_HS_ON = false ∧
        t.bit .PWR_IN_PROT_STATUS_RIDING = true ∧
        t.get .PWR_IN_PROT_CNT_UV = min (s.get .PWR_IN_PROT_CNT_UV + 1) (2 ^ (Fld.info .PWR_IN_PROT_CNT_UV).width - 1) ∧
        t.pins.alert = true ∧ (s.ready rBWR = true → t.hplState = s.hplState ∧
        t.bit .PWR_IN_PROT_STATUS_INPUT_LOST = s.bit .PWR_IN_PROT_STATUS_INPUT_LOST) ∧
        (s.ready rBWR = false → t.bit .PWR_IN_PROT_STATUS_INPUT_LOST = true) ∧ SameMem s t)) ∧
  (∀ (s : State), s.bit .PWR_IN_PROT_STATUS_UV = true ∨ 5 ≤ s.hplState → Runs .inputUvStart s (fun t => t = s)) ∧
  (∀ (s : State), s.bit .PWR_IN_PROT_STATUS_UV = true →
    Runs .inputUvEnd s (fun t => t.bit .PWR_IN_PROT_STATUS_UV = false ∧
        (if s.bit .PWR_IN_PROT_STATUS_OV = true then t.bit .PWR_IN_PROT_STATUS_RIDING = s.bit .PWR_IN_PROT_STATUS_RIDING ∧
        t.pwr.uvSince = s.pwr.uvSince else t.bit .PWR_IN_PROT_STATUS_RIDING = false ∧ t.pwr.uvSince = none) ∧ SameMem s t)) ∧
  (∀ (s : State), s.bit .PWR_IN_PROT_STATUS_UV = false → Runs .inputUvEnd s (fun t => t = s)) ∧
  (∀ (s : State), s.bit .PWR_IN_PROT_STATUS_OV = false → s.hplState < 5 →
    Runs .inputOvStart s (fun t => t.bit .PWR_IN_PROT_STATUS_OV = true ∧ t.bit .PWR_IN_STATUS_HS_ON = false ∧
        t.bit .PWR_IN_PROT_STATUS_RIDING = true ∧
        t.get .PWR_IN_PROT_CNT_OV = min (s.get .PWR_IN_PROT_CNT_OV + 1) (2 ^ (Fld.info .PWR_IN_PROT_CNT_OV).width - 1) ∧
        t.pins.alert = true ∧ (s.ready rBWR = true → t.hplState = s.hplState ∧
        t.bit .PWR_IN_PROT_STATUS_INPUT_LOST = s.bit .PWR_IN_PROT_STATUS_INPUT_LOST) ∧
        (s.ready rBWR = false → t.bit .PWR_IN_PROT_STATUS_INPUT_LOST = true) ∧ t.pins.limiter = false ∧ SameMem s t)) ∧
  (∀ (s : State), s.bit .PWR_IN_PROT_STATUS_OV = true ∨ 5 ≤ s.hplState →
    Runs .inputOvStart s (fun t => t = { s with pins := { s.pins with limiter := s.pins.limiter && !s.bit .PWR_IN_PROT_STATUS_OV } })) ∧
  (∀ (s : State), s.bit .PWR_IN_PROT_STATUS_OV = true →
    Runs .inputOvEnd s (fun t => t.bit .PWR_IN_PROT_STATUS_OV = false ∧
        (if s.bit .PWR_IN_PROT_STATUS_UV = true then t.bit .PWR_IN_PROT_STATUS_RIDING = s.bit .PWR_IN_PROT_STATUS_RIDING ∧
        t.pwr.uvSince = s.pwr.uvSince else t.bit .PWR_IN_PROT_STATUS_RIDING = false ∧ t.pwr.uvSince = none) ∧
        t.pins.limiter = (s.pins.limiter || (!s.hpl.limiterOff && !s.pins.presentN)) ∧ SameMem s t)) ∧
  (∀ (s : State), s.bit .PWR_IN_PROT_STATUS_OV = false → Runs .inputOvEnd s (fun t => t = s)) ∧
  (∀ (s : State), (s.bit .PWR_IN_PROT_STATUS_RIDING &&
      (s.pwr.uvSince.any (fun a => decide (a + s.get .PWR_IN_PROT_RIDE_MS * ms ≤ s.now)) ||
      decide (s.packEnergy ≤ s.reserve)) && !s.bit .PWR_IN_PROT_STATUS_INPUT_LOST) = true →
    Runs .lossOfInput s (fun t => t.bit .PWR_IN_PROT_STATUS_INPUT_LOST = true ∧ t.pins.alert = true ∧
        (if s.hplState ≤ 3 then t.hplState = 5 ∧ t.get .HPL_STATE_TRIGGER = 3 else t.hplState = s.hplState) ∧ SameMem s t)) ∧
  (∀ (s : State), (s.bit .PWR_IN_PROT_STATUS_RIDING &&
      (s.pwr.uvSince.any (fun a => decide (a + s.get .PWR_IN_PROT_RIDE_MS * ms ≤ s.now)) ||
      decide (s.packEnergy ≤ s.reserve)) && !s.bit .PWR_IN_PROT_STATUS_INPUT_LOST) = false →
    Runs .lossOfInput s (fun t => t = s)) ∧
  (∀ (s : State) (rec : Fin 51) (b : List Nat), s.pwr.recs[rec].writing = some b →
    Runs (.faultRecordStored rec true) s (fun t => t.pwr.recs[rec].seq = (s.pwr.recs[rec].seq + 1) % 2 ^ 32 ∧
        t.pwr.recs[rec].writing = s.pwr.recs[rec].next ∧ t.pwr.recs[rec].next = none ∧
        (∀ p : Fin 2, t.pwr.recs[rec].slots[p] =
        (if p = s.act ∨ (s.pilot (otherPilot s.act)).role = .standby then
        sealRec b ((s.pwr.recs[rec].seq + 1) % 2 ^ 32) :: (s.pwr.recs[rec].slots[p]).take 1 else s.pwr.recs[rec].slots[p])) ∧
        SameRegs watchFlds s t ∧ SameMem s t)) ∧
  (∀ (s : State) (rec : Fin 51) (b : List Nat), s.pwr.recs[rec].writing = some b → rec.val < 50 →
    Runs (.faultRecordStored rec false) s (fun t => t.pwr.recs[rec].seq = s.pwr.recs[rec].seq ∧
        t.pwr.recs[rec].slots = s.pwr.recs[rec].slots ∧ t.pwr.recs[rec].writing = s.pwr.recs[rec].next ∧ SameMem s t)) ∧
  (∀ (s : State) (rec : Fin 51) (b : List Nat), s.pwr.recs[rec].writing = some b → rec = 50 →
    Runs (.faultRecordStored rec false) s (fun t => t.pwr.recs[rec].seq = s.pwr.recs[rec].seq ∧
        t.pwr.recs[rec].slots = s.pwr.recs[rec].slots ∧ SameMem s t)) ∧
  (∀ (s : State) (rec : Fin 51) (ok : Bool), s.pwr.recs[rec].writing = none →
    Runs (.faultRecordStored rec ok) s (fun t => t = s)) ∧
  (∀ (s : State) (src : Source) (rec : Fin 51), s.right src = .owner →
    Runs (.pwrRec0Read src rec) s (fun t => t.tx = s.tx ++ [.access src 0 (s.recWord rec 0 % 2 ^ 32)] ∧
        (∀ i : Fin 15, t.recRead src rec (i.val + 1) = s.recWord rec (i.val + 1)) ∧ SameRegs [] s t ∧ SameMem s t)) ∧
  (∀ (s : State) (src : Source) (rec : Fin 51),
    Runs (.recordReadLatchExpiry src rec) s (fun t => t = s.recLatchDrop src rec ∧
        (∀ i : Fin 16, t.recRead src rec i = s.recWord rec i))) ∧
  (∀ (s : State) (src : Source), s.right src = .owner →
    Runs (.pwrRecClear src 0x5EC0#16) s (fun t =>
        t.pwr.recs = s.pwr.recs.map (fun x => { x with seq := 0, slots := Vector.replicate 2 [] }) ∧ Answered src 0 s t ∧
        SameRegs [] s t ∧ SameMem s t)) ∧
  (∀ (s : State) (src : Source) (key : BitVec 16), s.right src = .owner → key ≠ 0x5EC0#16 →
    Runs (.pwrRecClear src key) s (fun t => t.pwr = s.pwr ∧ Answered src 0 s t ∧ SameRegs [] s t ∧ SameMem s t))

/-- R169, R378, R391 to R393, R398, R405, R406, R408, R411: the breakwater outside its loops. -/
def Obligations.BreakwaterIsolatesAnchorsAndBallasts : Prop :=
  (∀ (s : State), (s.iso == 0 && s.isoBase && s.isoFree) = true → s.isoMay = true → s.bwr.retryAt ≤ s.now →
      (s.rail 49).latched = false →
    Runs .isolationPrecharge s (fun t => t.iso = 1 ∧ (t.wanted 49).en = true ∧ (t.wanted 49).set = 0 ∧
        t.bwr.precharge = s.now ∧ t.bwr.refusedPack = false ∧ SameRegs [.BWR_STATUS_ISO] s t ∧ SameMem s t)) ∧
  (∀ (s : State), (s.iso == 0 && s.isoBase && s.isoFree) = true → s.isoMay = false → s.bwr.refusedPack = false →
    Runs .isolationPrecharge s (fun t => t.iso = 0 ∧ t.bwr.refusedPack = true ∧ t.pins.alert = true ∧ SameMem s t)) ∧
  (∀ (s : State), (!(s.iso == 0 && s.isoBase && s.isoFree) || (!s.isoMay && s.bwr.refusedPack) ||
      (s.isoMay && (decide (s.now < s.bwr.retryAt) || (s.rail 49).latched))) = true →
    Runs .isolationPrecharge s (fun t => t = s)) ∧
  (∀ (s : State) (mv : BitVec 16), (s.iso == 1 && decide (((mv.toNat : Int) - s.get .CEL_STACK_MV).natAbs ≤ 500) &&
      s.isoMay && s.isoFree) = true →
    Runs (.isolationClose mv) s (fun t => t.iso = 2 ∧ t.bit .BWR_STATUS_RECOVERY = !s.cellsIn 22000 65535 ∧
        (∀ i : Fin 9, t.pins.tap[i] ≠ .extest) ∧ SameMem s t)) ∧
  (∀ (s : State) (mv : BitVec 16), (s.iso == 1 && decide (((mv.toNat : Int) - s.get .CEL_STACK_MV).natAbs ≤ 500) &&
      s.isoMay && s.isoFree) = false →
    Runs (.isolationClose mv) s (fun t => t = s)) ∧
  (∀ (s : State), s.iso = 1 →
    Runs .isolationPrechargeTimeout s (fun t => t.iso = 0 ∧ t.bwr.retryAt = s.now + second ∧ (t.wanted 49).en = false ∧
        SameRegs [.BWR_STATUS_ISO] s t ∧ SameMem s t)) ∧
  (∀ (s : State), s.iso ≠ 1 → Runs .isolationPrechargeTimeout s (fun t => t = s)) ∧
  (∀ (s : State) (n p : BitVec 16), (s.bit .PWR_RAIL_STATUS_ON 49 &&
      (decide (58000 < n.toNat) || (decide (s.cells ≠ 0) && decide (s.cells * 3900 < p.toNat)))) = true →
      (s.rail 49).latch = none →
    Runs (.bwcOvervoltage n p) s (fun t => (t.rail 49).latch = some 4 ∧ t.bit .PWR_RAIL_STATUS_ON 49 = false ∧ t.iso = 0 ∧
        t.pins.alert = true ∧ SameMem s t)) ∧
  (∀ (s : State) (n p : BitVec 16), (s.bit .PWR_RAIL_STATUS_ON 49 &&
      (decide (58000 < n.toNat) || (decide (s.cells ≠ 0) && decide (s.cells * 3900 < p.toNat)))) = false →
    Runs (.bwcOvervoltage n p) s (fun t => t = s)) ∧
  (∀ (s : State), (s.bit .BWR_STATUS_REGULATING || s.ready rBWR) = true →
    Runs .breakwaterLost s (fun t => t.ready rBWR = false ∧ t.bit .BWR_STATUS_REGULATING = false ∧ t.get .BWR_BWC_CMD_W = 0 ∧
        t.get .BWR_PIN_SET_W = wattsOf (min s.demand s.capNow) ∧ (t.wanted 49).set = 0 ∧ t.pins.alert = true ∧ SameMem s t)) ∧
  (∀ (s : State), (s.bit .BWR_STATUS_REGULATING || s.ready rBWR) = false → Runs .breakwaterLost s (fun t => t = s)) ∧
  (∀ (s : State) (d : Fin 8) (i : Fin 256),
    Runs (.hintHoldClear d i) s (fun t =>
        t.bwr.hints = s.bwr.hints.filterMap (fun h => if h.die = d.val ∧
        h.id = i.val then (if h.start + 200 * us ≤ s.now then none else some { h with held := false }) else some h) ∧
        SameRegs [] s t ∧ SameMem s t)) ∧
  (∀ (s : State) (d : Fin 8) (n : BitVec 32) (a : Nat),
      (s.get .BWR_TIDE_CFG_SRC_DIE == d.val && n.toNat % s.get .BWR_TIDE_CFG_STEP_DIV == 0 && s.bit .BWR_TIDE_CFG_ENABLE) =
      true → s.bwr.lastAnchor = some a →
    Runs (.tideAnchor d n) s (fun t => t.bwr.anchors = (((s.now - a) :: s.bwr.anchors).take 8) ∧
        t.bwr.lastAnchor = some s.now ∧ t.get .BWR_TIDE_STATUS_PERIOD_US =
        min (((((s.now - a) :: s.bwr.anchors).take 8).sum / (((s.now - a) :: s.bwr.anchors).take 8).length) / us)
        (2 ^ 24 - 1) ∧ t.tideLocked = (if s.tideLocked then
        (decide (((((s.now - a) :: s.bwr.anchors).take 8).sum / (((s.now - a) :: s.bwr.anchors).take 8).length) * 90 ≤
        (s.now - a) * 100) && decide ((s.now - a) * 100 ≤
        ((((s.now - a) :: s.bwr.anchors).take 8).sum / (((s.now - a) :: s.bwr.anchors).take 8).length) * 110)) else
        decide ((((s.now - a) :: s.bwr.anchors).take 8).length = 8) &&
        (((s.now - a) :: s.bwr.anchors).take 8).all (fun x =>
        (decide (((((s.now - a) :: s.bwr.anchors).take 8).sum / (((s.now - a) :: s.bwr.anchors).take 8).length) * 98 ≤
        x * 100) && decide (x * 100 ≤ ((((s.now - a) :: s.bwr.anchors).take 8).sum /
        (((s.now - a) :: s.bwr.anchors).take 8).length) * 102))) &&
        decide (10 * ms ≤ ((((s.now - a) :: s.bwr.anchors).take 8).sum / (((s.now - a) :: s.bwr.anchors).take 8).length)) &&
        decide (((((s.now - a) :: s.bwr.anchors).take 8).sum / (((s.now - a) :: s.bwr.anchors).take 8).length) ≤
        10 * second)) ∧ SameMem s t)) ∧
  (∀ (s : State) (d : Fin 8) (n : BitVec 32),
      (s.get .BWR_TIDE_CFG_SRC_DIE == d.val && n.toNat % s.get .BWR_TIDE_CFG_STEP_DIV == 0 && s.bit .BWR_TIDE_CFG_ENABLE) =
      true → s.bwr.lastAnchor = none →
    Runs (.tideAnchor d n) s (fun t => t.bwr.lastAnchor = some s.now ∧ t.bwr.anchors = s.bwr.anchors ∧
        t.tideLocked = s.tideLocked ∧ SameRegs [.BWR_TIDE_STATUS_RIPPLE] s t ∧ SameMem s t)) ∧
  (∀ (s : State) (d : Fin 8) (n : BitVec 32),
      (s.get .BWR_TIDE_CFG_SRC_DIE == d.val && n.toNat % s.get .BWR_TIDE_CFG_STEP_DIV == 0 && s.bit .BWR_TIDE_CFG_ENABLE) =
      false →
    Runs (.tideAnchor d n) s (fun t => t = s)) ∧
  (∀ (s : State), s.tideLocked = true →
    Runs .tideAnchorTimeout s (fun t => t.tideLocked = false ∧ t.outs.ffTide = 0 ∧ SameMem s t)) ∧
  (∀ (s : State), s.tideLocked = false → Runs .tideAnchorTimeout s (fun t => t = s)) ∧
  (∀ (s : State) (d : Fin 8) (g : Fin 128),
      (decide (256 ≤ (s.die d).waitStall) && s.gangBallast d g && s.ballastMay && !(s.die d).ballast.contains g.val) = true →
    Runs (.ballastInWait d g) s (fun t => (t.die d).ballast = g.val :: (s.die d).ballast ∧ t.bit .BWR_STATUS_BALLAST = true ∧
        SameRegs [.BWR_STATUS_BALLAST] s t ∧ SameMem s t)) ∧
  (∀ (s : State) (d : Fin 8) (g : Fin 128),
      (decide (256 ≤ (s.die d).waitStall) && s.gangBallast d g && s.ballastMay && !(s.die d).ballast.contains g.val) = false →
    Runs (.ballastInWait d g) s (fun t => t = s))

/-- R345, R347, R400 to R403, R419, R423, R425: the breakwater's power loops. What the filter holds before its first sample, and the moment from which 10 ms count, are readings (log entry 18). -/
def Obligations.BreakwaterLoopsRunTheirLaws : Prop :=
  (∀ (s : State) (m : LoopSample) (n : Snap), s.samples 0 m n = true → (s.loop 0).first = false ∧
      s.bit .CTE_LOOP_STATE_RAMP 0 0 = false →
    Runs (.cl00Sample m) s (fun t => t.bwr.ref = (s.viewOf n).inputTarget ∧
        t.outs.cmd = clamp (-(s.viewOf n).outs.pChg) (s.viewOf n).outs.pDis ((s.viewOf n).demand + (s.viewOf n).outs.ffTide +
        (s.viewOf n).ffHint - t.bwr.ref + (s.viewOf n).param 0 0 * ((s.viewOf n).pIn - t.bwr.ref) + t.bwr.acc) ∧
        t.bwr.acc = (if s.bwr.atLimit then s.bwr.acc else s.bwr.acc +
        (s.viewOf n).param 0 1 * ((s.viewOf n).pIn - t.bwr.ref)) ∧ t.bit .CTE_LOOP_STATE_RAMP 0 0 = false ∧
        s.ran t 0 m = true ∧ SameMem s t)) ∧
  (∀ (s : State) (m : LoopSample) (n : Snap), s.samples 0 m n = true →
    Runs (.cl00Sample m) s (fun t => t.get .BWR_BWC_CMD_W = enc 16 (wattsCmd t.outs.cmd) ∧
        (t.wanted 49).set = enc 16 (wattsCmd t.outs.cmd) ∧
        (∀ r : Fin 50, r = 49 → t.pwr.cmdSent.find? (fun e => e.1 == r.val) = some (r.val, t.wanted r)) ∧
        t.get .BWR_DEMAND_W = wattsOf (s.viewOf n).demand ∧ t.bit .BWR_STATUS_REGULATING = true ∧
        t.outs.ffHint = (s.viewOf n).ffHint ∧ s.ran t 0 m = true ∧ SameMem s t)) ∧
  (∀ (s : State) (m : LoopSample) (n : Snap), s.staysHeld 0 m n = true →
    Runs (.cl00Sample m) s (fun t => t.outs = s.outs ∧ t.pwr = s.pwr ∧ t.bwr = { s.bwr with ref := s.pIn } ∧
        s.ran t 0 m = true ∧ SameRegs (loopFlds ++ []) s t ∧ SameMem s t)) ∧
  (∀ (s : State) (m : LoopSample) (n : Snap), s.samples 1 m n = true →
    Runs (.cl01Sample m) s (fun t => t.outs = s.outs ∧
        (∀ r : Fin 50, t.wanted r = if r.val < 46 then
        (if (s.wanted r).en = false ∧ (s.viewOf n).railWanted r = true ∧
        (s.rail r).latched = false then { s.wanted r with en := true, set := s.startMv r } else s.wanted r) else if r.val <
        49 ∧ (s.wanted r).set ≠ s.startMv r then { s.wanted r with en := true, set := s.startMv r } else s.wanted r) ∧
        (∀ r : Fin 50, r.val < 49 → t.pwr.cmdSent.find? (fun e => e.1 == r.val) = some (r.val, t.wanted r)) ∧
        s.ran t 1 m = true ∧ SameMem s t)) ∧
  (∀ (s : State) (m : LoopSample) (n : Snap), s.staysHeld 1 m n = true →
    Runs (.cl01Sample m) s (fun t => t.outs = s.outs ∧ t.pwr = s.pwr ∧ s.ran t 1 m = true ∧ SameRegs (loopFlds ++ []) s t ∧
        SameMem s t)) ∧
  (∀ (s : State) (m : LoopSample) (n : Snap), s.samples 4 m n = true →
      ((s.viewOf n).riding || decide (5 ≤ (s.viewOf n).get .HPL_STATE_STATE)) = true →
    Runs (.cl04Sample m) s (fun t => t.outs.pset = 0 ∧ t.get .BWR_PIN_SET_W = 0 ∧ s.ran t 4 m = true ∧ SameMem s t)) ∧
  (∀ (s : State) (m : LoopSample) (n : Snap), s.samples 4 m n = true →
      ((s.viewOf n).riding || decide (5 ≤ (s.viewOf n).get .HPL_STATE_STATE)) = false ∧
      ((s.viewOf n).iso != 2 || !(s.viewOf n).bit .BWR_STATUS_REGULATING) = true →
    Runs (.cl04Sample m) s (fun t => t.outs.pset = min (s.viewOf n).demand (s.viewOf n).outs.capEff ∧
        t.get .BWR_PIN_SET_W = wattsOf t.outs.pset ∧ t.outs.rebase = false ∧ s.ran t 4 m = true ∧ SameMem s t)) ∧
  (∀ (s : State) (m : LoopSample) (n : Snap), s.samples 4 m n = true →
      ((s.viewOf n).riding || decide (5 ≤ (s.viewOf n).get .HPL_STATE_STATE)) = false ∧
      ((s.viewOf n).iso != 2 || !(s.viewOf n).bit .BWR_STATUS_REGULATING) = false ∧ (s.loop 4).first = false ∧
      (s.viewOf n).outs.rebase = false ∧ (s.viewOf n).outs.capEff < s.outs.pset →
    Runs (.cl04Sample m) s (fun t => t.outs.pset = (s.viewOf n).outs.capEff ∧ t.get .BWR_PIN_SET_W = wattsOf t.outs.pset ∧
        s.ran t 4 m = true ∧ SameMem s t)) ∧
  (∀ (s : State) (m : LoopSample) (n : Snap), s.samples 4 m n = true →
      ((s.viewOf n).riding || decide (5 ≤ (s.viewOf n).get .HPL_STATE_STATE)) = false ∧
      ((s.viewOf n).iso != 2 || !(s.viewOf n).bit .BWR_STATUS_REGULATING) = false ∧ (s.loop 4).first = false ∧
      (s.viewOf n).outs.rebase = false ∧ s.outs.pset ≤ (s.viewOf n).outs.capEff ∧ (s.viewOf n).tideLocked = false →
    Runs (.cl04Sample m) s (fun t => t.outs.df = (s.viewOf n).outs.df +
        ((s.viewOf n).demand - (s.viewOf n).outs.df) / (10 * (((s.viewOf n).get .BWR_FILTER_MS : Nat) : Rat)) ∧
        t.outs.pset = s.outs.pset + clamp (-((((s.viewOf n).get .BWR_SLEW_W_PER_S : Nat) : Rat) / 10000))
        ((((s.viewOf n).get .BWR_SLEW_W_PER_S : Nat) : Rat) / 10000) (min (max (t.outs.df +
        (((s.viewOf n).get .BWR_SOC_CFG_G_SOC : Nat) : Rat) * ((if (s.viewOf n).bit .BWR_STATUS_DRAIN then 30 else
        (((s.viewOf n).get .BWR_SOC_CFG_SOC_TARGET : Nat) : Rat)) - (s.viewOf n).soc))
        (((s.viewOf n).get .BWR_FLOOR_W : Nat) : Rat)) (s.viewOf n).outs.capEff - s.outs.pset) ∧
        t.get .BWR_PIN_SET_W = wattsOf t.outs.pset ∧ t.get .BWR_DEMAND_DF_W = wattsOf t.outs.df ∧
        t.get .BWR_DEMAND_W = wattsOf (s.viewOf n).demand ∧ s.ran t 4 m = true ∧
        SameRegs (loopFlds ++ [.BWR_PIN_SET_W, .BWR_DEMAND_DF_W, .BWR_DEMAND_W, .BWR_STATUS_FLOOR_HELD]) s t ∧ SameMem s t)) ∧
  (∀ (s : State) (m : LoopSample) (n : Snap), s.staysHeld 4 m n = true →
    Runs (.cl04Sample m) s (fun t => t.outs.pset = min s.demand s.capNow ∧
        t.get .BWR_PIN_SET_W = wattsOf (min s.demand s.capNow) ∧ s.ran t 4 m = true ∧
        SameRegs (loopFlds ++ [.BWR_PIN_SET_W]) s t ∧ SameMem s t)) ∧
  (∀ (s : State) (m : LoopSample) (n : Snap), s.samples 7 m n = true →
      (s.viewOf n).outs.capEff + (s.viewOf n).outs.pDis < (s.viewOf n).demand →
    Runs (.cl07Sample m) s (fun t => t.bwr.duty = (if s.bwr.duty = 8 then 7 else max 1 (s.bwr.duty - 1)) ∧
        t.bit .BWR_STATUS_RESERVE_PACE = decide (t.bwr.duty ≠ 8) ∧
        (∀ d : Fin 8, (t.die d).duReserve = if t.bwr.duty = 8 ∨ s.running d = false then 0 else t.bwr.duty) ∧
        (∀ b : Fin 8, (s.berth b).desc ≠ none → t.bwr.duty ≠ 8 →
        (t.rhdOf b).ceilings.contains (2, codeOfRank (max 1 (rankOf (s.berthCode b) * t.bwr.duty / 8))) = true) ∧
        s.ran t 7 m = true ∧ SameMem s t)) ∧
  (∀ (s : State) (m : LoopSample) (n : Snap), s.samples 7 m n = true →
      (s.viewOf n).demand < (s.viewOf n).outs.capEff + (s.viewOf n).outs.pDis - (s.viewOf n).outs.capEff / 20 ∧
      s.bwr.dutyAt + 10 * ms ≤ s.now ∧ s.bwr.duty < 8 →
    Runs (.cl07Sample m) s (fun t => t.bwr.duty = s.bwr.duty + 1 ∧
        (∀ d : Fin 8, (t.die d).duReserve = if t.bwr.duty = 8 ∨ s.running d = false then 0 else t.bwr.duty) ∧
        s.ran t 7 m = true ∧ SameMem s t)) ∧
  (∀ (s : State) (m : LoopSample) (n : Snap), s.samples 7 m n = true →
      (s.viewOf n).demand ≤ (s.viewOf n).outs.capEff + (s.viewOf n).outs.pDis ∧
      (8 = s.bwr.duty ∨ (s.viewOf n).outs.capEff + (s.viewOf n).outs.pDis - (s.viewOf n).outs.capEff / 20 ≤
      (s.viewOf n).demand ∨ s.now < s.bwr.dutyAt + 10 * ms) →
    Runs (.cl07Sample m) s (fun t => t.bwr = s.bwr ∧ t.dies = s.dies ∧ t.rhd = s.rhd ∧ s.ran t 7 m = true ∧
        SameRegs (loopFlds ++ []) s t ∧ SameMem s t)) ∧
  (∀ (s : State) (m : LoopSample) (n : Snap), s.staysHeld 7 m n = true →
    Runs (.cl07Sample m) s (fun t => t.outs = s.outs ∧ t.bwr = s.bwr ∧ t.dies = s.dies ∧ s.ran t 7 m = true ∧
        SameRegs (loopFlds ++ []) s t ∧ SameMem s t))

/-- R393, R394, R397, R406 to R409, R419, R423, R451: the tide table, ballast, the limits and the pack's temperature factors. One die at a time, in turn, is how the model reads the turns of ballast (log entry 44). The capacitance estimate is a free value. -/
def Obligations.TideBallastAndLimitLoopsRunTheirLaws : Prop :=
  (∀ (s : State) (m : LoopSample) (n : Snap), s.samples 5 m n = true →
      ((s.viewOf n).tideLocked && (s.viewOf n).bit .BWR_TIDE_CFG_ENABLE) = false →
    Runs (.cl05Sample m) s (fun t => t.outs.ffTide = 0 ∧ t.bwr.tide = s.bwr.tide ∧ s.ran t 5 m = true ∧
        SameRegs (loopFlds ++ []) s t ∧ SameMem s t)) ∧
  (∀ (s : State) (m : LoopSample) (n : Snap), s.samples 5 m n = true →
      ((s.viewOf n).tideLocked && (s.viewOf n).bit .BWR_TIDE_CFG_ENABLE) = true →
    Runs (.cl05Sample m) s (fun t => t.bwr.lastBin = s.tideBin (s.viewOf n).now ∧
        t.outs.ffTide = t.tideAt (s.tideBin ((s.viewOf n).now + 20 * us)) - t.tideAt (s.tideBin (s.viewOf n).now) ∧
        (∀ i : Fin 1024, t.tideAt i = if 0 < (i.val + 1024 - s.bwr.lastBin) % 1024 ∧
        (i.val + 1024 - s.bwr.lastBin) % 1024 ≤ (t.bwr.lastBin + 1024 - s.bwr.lastBin) % 1024 then s.tideAt i +
        ((s.viewOf n).demand - (s.viewOf n).outs.df - s.tideAt i) / 8 else s.tideAt i) ∧ s.ran t 5 m = true ∧
        SameRegs (loopFlds ++ []) s t ∧ SameMem s t)) ∧
  (∀ (s : State) (m : LoopSample) (n : Snap), s.staysHeld 5 m n = true →
    Runs (.cl05Sample m) s (fun t => t.outs.ffTide = 0 ∧ t.tideLocked = false ∧ s.ran t 5 m = true ∧ SameMem s t)) ∧
  (∀ (s : State) (m : LoopSample) (n : Snap), s.samples 6 m n = true → (s.viewOf n).ballastMay = false →
    Runs (.cl06Sample m) s (fun t => (∀ d : Fin 8, (t.die d).ballast = []) ∧ t.get .BWR_BALLAST_STATUS_TILES = 0 ∧
        t.bit .BWR_STATUS_BALLAST = false ∧ t.outs = s.outs ∧ s.ran t 6 m = true ∧ SameMem s t)) ∧
  (∀ (s : State) (m : LoopSample) (n : Snap), s.samples 6 m n = true →
      ((s.viewOf n).ballastMay = false ∧ (∀ d : Fin 8, (s.die d).ballast = []) ∧ (s.viewOf n).get .BWR_FLOOR_W = 0) →
    Runs (.cl06Sample m) s (fun t => t.dies = s.dies ∧ t.get .BWR_BALLAST_STATUS_W = 0 ∧ t.outs = s.outs ∧
        s.ran t 6 m = true ∧ SameRegs (loopFlds ++ [.BWR_BALLAST_J_J, .BWR_BALLAST_STATUS_TILES, .BWR_BALLAST_STATUS_W,
        .BWR_STATUS_BALLAST]) s t ∧ SameMem s t)) ∧
  (∀ (s : State) (m : LoopSample) (n : Snap), s.samples 6 m n = true → (s.viewOf n).ballastMay = true ∧
      (s.viewOf n).demand + (s.viewOf n).outs.pChg < (((s.viewOf n).get .BWR_FLOOR_W : Nat) : Rat) ∧ s.bwr.rotate < 8 →
    Runs (.cl06Sample m) s (fun t => t.bwr.rotate = (s.bwr.rotate + 1) % 8 ∧
        (∀ d : Fin 8, (d.val = s.bwr.rotate → ∀ g : Fin 128, (t.die d).ballast.contains g.val = t.gangBallast d g) ∧
        (d.val ≠ s.bwr.rotate → (t.die d).ballast = (s.die d).ballast)) ∧
        t.get .BWR_BALLAST_STATUS_TILES = t.ballastTiles % 2 ^ (Fld.info .BWR_BALLAST_STATUS_TILES).width ∧
        s.ran t 6 m = true ∧ SameMem s t)) ∧
  (∀ (s : State) (m : LoopSample) (n : Snap), s.samples 6 m n = true → (s.viewOf n).ballastMay = true ∧
      (((s.viewOf n).get .BWR_FLOOR_W : Nat) : Rat) < (s.viewOf n).demand + (s.viewOf n).outs.pChg ∧ s.bwr.rotate < 8 →
    Runs (.cl06Sample m) s (fun t => (∀ d : Fin 8, (d.val = s.bwr.rotate → (t.die d).ballast = []) ∧
        (d.val ≠ s.bwr.rotate → (t.die d).ballast = (s.die d).ballast)) ∧ s.ran t 6 m = true ∧ SameMem s t)) ∧
  (∀ (s : State) (m : LoopSample) (n : Snap), s.staysHeld 6 m n = true →
    Runs (.cl06Sample m) s (fun t => (∀ d : Fin 8, (t.die d).ballast = []) ∧ t.bit .BWR_STATUS_BALLAST = false ∧
        t.bwr.stopBallast = true ∧ s.ran t 6 m = true ∧
        SameRegs (loopFlds ++ [.BWR_STATUS_BALLAST, .BWR_BALLAST_STATUS_TILES, .BWR_BALLAST_STATUS_W]) s t ∧ SameMem s t)) ∧
  (∀ (s : State) (m : LoopSample) (n : Snap), s.samples 12 m n = true →
    Runs (.cl12Sample m) s (fun t => t.outs.energy = (s.viewOf n).packEnergy ∧
        (t.outs.pDis, t.outs.pChg) = (s.viewOf n).bwcLimits ∧ t.get .BWR_LIMITS_DIS_W = wattsOf t.outs.pDis ∧
        t.get .BWR_LIMITS_CHG_W = wattsOf t.outs.pChg ∧ t.bit .BWR_STATUS_FULL = decide (t.outs.pChg = 0) ∧
        t.get .BWR_SOC_PCT_X100 = min 16383 (natOf ((if (s.viewOf n).eUse = 0 ∨ (s.viewOf n).bit .BWR_STATUS_RECOVERY =
        true then 0 else (s.viewOf n).packEnergy / (s.viewOf n).eUse * 100) * 100)) ∧
        t.bit .BWR_STATUS_AT_RESERVE = ((s.viewOf n).iso == 2 && decide ((s.viewOf n).eUse ≠ 0) &&
        decide ((s.viewOf n).packEnergy ≤ (s.viewOf n).reserve + (s.viewOf n).eUse / 100)) ∧ s.ran t 12 m = true ∧
        SameMem s t)) ∧
  (∀ (s : State) (m : LoopSample) (n : Snap), s.samples 12 m n = true → (s.viewOf n).iso ≠ 2 →
    Runs (.cl12Sample m) s (fun t => t.outs.pDis = 0 ∧ t.outs.pChg = 0 ∧ t.get .BWR_CAP_EST_F = s.get .BWR_CAP_EST_F ∧
        s.ran t 12 m = true ∧ SameMem s t)) ∧
  (∀ (s : State) (m : LoopSample) (n : Snap), s.samples 12 m n = true → (s.viewOf n).bit .BWR_STATUS_RECOVERY = true →
    Runs (.cl12Sample m) s (fun t => t.outs.pDis = 0 ∧ s.ran t 12 m = true ∧ SameMem s t)) ∧
  (∀ (s : State) (m : LoopSample) (n : Snap), s.staysHeld 12 m n = true →
    Runs (.cl12Sample m) s (fun t => t.outs.pDis = 0 ∧ t.outs.pChg = 0 ∧ t.get .BWR_LIMITS_DIS_W = 0 ∧
        t.get .BWR_LIMITS_CHG_W = 0 ∧ s.ran t 12 m = true ∧
        SameRegs (loopFlds ++ [.BWR_LIMITS_DIS_W, .BWR_LIMITS_CHG_W]) s t ∧ SameMem s t)) ∧
  (∀ (s : State) (m : LoopSample) (n : Snap), s.samples 16 m n = true →
    Runs (.cl16Sample m) s (fun t => (t.outs.disFactor, t.outs.chgFactor) = packFactors (s.viewOf n).tempsValid ∧
        t.get .CEL_DERATE_DIS_PCT = natOf (t.outs.disFactor * 100) % 2 ^ (Fld.info .CEL_DERATE_DIS_PCT).width ∧
        t.get .CEL_DERATE_CHG_PCT = natOf (t.outs.chgFactor * 100) % 2 ^ (Fld.info .CEL_DERATE_CHG_PCT).width ∧
        t.bit .CEL_STATUS_DERATE = decide (t.outs.disFactor < 1 ∨ t.outs.chgFactor < 1) ∧ s.ran t 16 m = true ∧ SameMem s t)) ∧
  (∀ (s : State) (m : LoopSample) (n : Snap), s.staysHeld 16 m n = true →
    Runs (.cl16Sample m) s (fun t => t.outs = s.outs ∧ t.cel = s.cel ∧ s.ran t 16 m = true ∧ SameRegs (loopFlds ++ []) s t ∧
        SameMem s t))

/-- R458 to R463, R466, R469, R473, R478 to R480: the loops of chapter 18. That a die in reset hold is asked too, to be measured after its release, is how the model reads R478 (log entry 45). -/
def Obligations.CappingLoopsRunTheirLaws : Prop :=
  (∀ (s : State) (m : LoopSample) (n : Snap), s.samples 3 m n = true →
    Runs (.cl03Sample m) s (fun t => t.outs.capEff = clamp 700 4000 (lowestTerm (s.viewOf n).capTerms).2 ∧
        (s.viewOf n).capTerms.all (fun e => decide (t.outs.capEff ≤ max 700 e.2)) = true ∧
        t.get .CAP_EFF_W = natOf t.outs.capEff ∧ t.get .BWR_PIN_CAP_W = natOf t.outs.capEff ∧
        t.get .CAP_TERMS_THERM_W = natOf (s.viewOf n).thermalTerm ∧
        t.get .CAP_TERMS_BERTH_W = min 8191 (natOf ((s.viewOf n).berthTerm.getD 0)) ∧
        t.get .CAP_STATUS_LIMIT_SRC = (if (lowestTerm (s.viewOf n).capTerms).2 < 700 then 6 else
        (lowestTerm (s.viewOf n).capTerms).1) ∧ s.ran t 3 m = true ∧ SameMem s t)) ∧
  (∀ (s : State) (m : LoopSample) (n : Snap), s.samples 13 m n = true →
    Runs (.cl13Sample m) s (fun t => (∀ d : Fin 8, t.cap.tenMs[d] = (s.railMean (2 + d.val) :: s.cap.tenMs[d]).take 10) ∧
        (s.cap.runs = [] → t.cap.learned = s.cap.learned) ∧ s.ran t 13 m = true ∧ SameRegs (loopFlds ++ []) s t ∧
        SameMem s t)) ∧
  (∀ (s : State) (m : LoopSample) (n : Snap), s.samples 14 m n = true →
    Runs (.cl14Sample m) s (fun t => (∀ d : Fin 8, bitAt (t.get .CAP_STATUS_HOT) d = (s.viewOf n).dieHot d 760) ∧
        (∀ b : Fin 8, (s.berth b).desc ≠ none → s.cap.hotReq[b] = none →
        (s.berthDies b).any (fun d : Fin 8 => (s.viewOf n).dieHot d 760) = true →
        (t.rhdOf b).ceilings.contains (0, belowCode (s.berthCode b) 8 1) = true) ∧ s.ran t 14 m = true ∧ SameMem s t)) ∧
  (∀ (s : State) (m : LoopSample) (n : Snap), s.samples 14 m n = true →
      ((∀ d : Fin 8, (s.viewOf n).dieHot d 760 = false) ∧ (∀ b : Fin 8, (s.berth b).desc = none)) →
    Runs (.cl14Sample m) s (fun t => (∀ d : Fin 8, bitAt (t.get .CAP_STATUS_HOT) d = false) ∧ t.rhd = s.rhd ∧
        t.cap.hotReq = s.cap.hotReq ∧ s.ran t 14 m = true ∧ SameRegs (loopFlds ++ [.CAP_STATUS_HOT]) s t ∧ SameMem s t)) ∧
  (∀ (s : State) (m : LoopSample) (n : Snap), s.samples 15 m n = true →
    Runs (.cl15Sample m) s (fun t => (∀ r : Fin 50,
        t.pwr.pMean[r] = if (s.pwr.pAcc[r]).2 = 0 then s.pwr.pMean[r] else
        (((s.pwr.pAcc[r]).1 : Int) : Rat) / 10000 / (((s.pwr.pAcc[r]).2 : Nat) : Rat)) ∧
        t.pwr.pAcc = Vector.replicate 50 (0, 0) ∧
        (∀ d : Fin 8, t.get .CAP_DIE_P_W 0 d = min 8191 (natOf (max 0 (t.railMean (2 + d.val))))) ∧
        (∀ b : Fin 8, (s.berth b).desc = none → t.get .CAP_SHARE_W 0 b = 0 ∧ t.get .CAP_SHARE_CODE 0 b = 0 ∧
        t.get .CAP_SHARE_STAGE 0 b = 0) ∧ s.ran t 15 m = true ∧ SameMem s t)) ∧
  (∀ (s : State) (m : LoopSample) (n : Snap) (b : Fin 8) (e : Fin 8 × Rat), s.samples 15 m n = true →
      (s.berth b).desc ≠ none → (State.shares (s.viewOf n) (State.takeMeans (s.viewOf n) s)).find? (fun e => e.1 == b) =
      some e →
    Runs (.cl15Sample m) s (fun t => t.get .CAP_SHARE_W 0 b = min 8191 (natOf e.2) ∧
        (s.cap.demote[b] = 0 → t.get .CAP_SHARE_CODE 0 b = (State.takeMeans (s.viewOf n) s).codeSought b e.2 % 256) ∧
        SameMem s t)) ∧
  (∀ (s : State) (m : LoopSample) (n : Snap), s.samples 17 m n = true → (s.viewOf n).pins.tinFailed = false →
    Runs (.cl17Sample m) s (fun t => t.outs.coolTerm =
        min (inletTerm (dec 16 ((s.viewOf n).get .CAP_COOL_TIN_X10) / 10)) (flowTerm ((s.viewOf n).flow / 100)) ∧
        t.get .CAP_EFF_COOL_W = natOf t.outs.coolTerm ∧ s.ran t 17 m = true ∧ SameMem s t)) ∧
  (∀ (s : State) (m : LoopSample) (n : Snap), s.samples 17 m n = true → (s.viewOf n).pins.tinFailed = true →
    Runs (.cl17Sample m) s (fun t => t.outs.coolTerm = min 3000 (flowTerm ((s.viewOf n).flow / 100)) ∧ s.ran t 17 m = true ∧
        SameMem s t)) ∧
  (∀ (s : State) (m : LoopSample) (n : Snap), s.samples 17 m n = true → s.cap.coolDerate = true ∧ s.cap.inletHot = true →
    Runs (.cl17Sample m) s (fun t => t.get .CAP_EFF_COOL_W = natOf t.outs.coolTerm ∧ s.ran t 17 m = true ∧
        SameRegs (loopFlds ++ [.CAP_EFF_COOL_W]) s t ∧ SameMem s t)) ∧
  (∀ (s : State) (m : LoopSample) (n : Snap), s.samples 20 m n = true → s.cap.measured = 0 ∧ s.cap.measuring = 0 →
    Runs (.cl20Sample m) s (fun t => (∀ d : Fin 8,
        bitAt t.cap.measuring d = ((s.running d || s.inReset (8 + d.val)) &&
        decide (s.cap.measureReq[d] + (s.viewOf n).get .CAP_AGE_CFG_PERIOD_H * (3600 * second) ≤ s.now)) ∧
        t.cap.measureReq[d] = if bitAt t.cap.measuring d = true then s.now else s.cap.measureReq[d]) ∧ s.ran t 20 m = true ∧
        SameRegs (loopFlds ++ []) s t ∧ SameMem s t)) ∧
  (∀ (s : State) (m : LoopSample) (n : Snap), s.samples 20 m n = true → s.cap.measured = 0 ∧ s.cap.measuring = 255 →
    Runs (.cl20Sample m) s (fun t => (∀ d : Fin 8, bitAt t.cap.measuring d = true ∧
        t.cap.measureReq[d] = s.cap.measureReq[d] ∧
        bitAt t.cap.overdue d = (bitAt s.cap.overdue d || decide (s.cap.measureReq[d] + 24 * (3600 * second) ≤ s.now))) ∧
        s.ran t 20 m = true ∧ SameMem s t)) ∧
  (∀ (s : State) (m : LoopSample) (n : Snap), s.samples 20 m n = true → s.cap.measured ≠ 0 →
    Runs (.cl20Sample m) s (fun t => (∀ d : Fin 8, bitAt s.cap.measured d = true → bitAt t.cap.measured d = false ∧
        t.get .CAP_AGE_STEP 0 d = max (s.get .CAP_AGE_STEP 0 d) (min (s.worstLoss d / 5).ceil.toNat 9)) ∧
        s.ran t 20 m = true ∧ SameMem s t))

/-- R416 to R423, R425, R426: the schedule and manual hold. A hold that begins may record an event: its register frame is left to the loop statements. -/
def Obligations.LoopsAreScheduledHeldAndResumed : Prop :=
  (∀ (s : State), s.engineUp = true → (∀ d : Fin 8, (s.die d).events = []) → s.cte.commit = none → s.cte.ready = [] →
      s.cte.snaps = [] →
    Runs .controlCycleBoundary s (fun t => t.cte.cycle = s.cte.cycle + 1 ∧
        (∀ i : Fin 32, t.cte.ready.contains i.val =
        (s.bit .CTE_LOOP_CFG_PRESENT 0 i && s.served i &&
        decide (s.cte.cycle % s.loopCycles i = s.get .CTE_LOOP_CFG_OFFSET 0 i)) ∧
        (t.cte.ready.contains i.val = true →
        (t.cte.snaps.find? (fun x => x.loop == i.val)).map (fun x => (x.outs, x.time)) = some (s.outs, s.now))) ∧
        SameMem s t)) ∧
  (∀ (s : State), s.engineUp = true →
    Runs .controlCycleBoundary s (fun t => t.cte.cycle = s.cte.cycle + 1 ∧ (∀ d : Fin 8, (t.die d).events = []) ∧
        t.cte.commit = none ∧ SameMem s t)) ∧
  (∀ (s : State), s.engineUp = false → Runs .controlCycleBoundary s (fun t => t = s)) ∧
  (∀ (s : State) (c : Instr) (i : Fin 32) (m : LoopSample), loopOf c = some (i.val, m) →
      s.cte.snaps.any (fun x => x.loop == i.val) = false →
    Runs c s (fun t => t = s)) ∧
  (∀ (s : State) (c : Instr) (i : Fin 32) (m : LoopSample) (n : Snap), loopOf c = some (i.val, m) →
      s.cte.snaps.find? (fun x => x.loop == i.val) = some n → s.deadline i < m.delay → s.get .CTE_LOOP_STATE_CONSEC 0 i < 2 →
    Runs c s (fun t => t.cte.ready.contains i.val = false ∧ t.cte.snaps = s.cte.snaps.filter (fun x => x.loop != i.val) ∧
        t.get .CTE_LOOP_OVR_COUNT 0 i = (if s.bit .CTE_CNT_CTRL_FREEZE = true then s.get .CTE_LOOP_OVR_COUNT 0 i else
        min (s.get .CTE_LOOP_OVR_COUNT 0 i + 1) (2 ^ (Fld.info .CTE_LOOP_OVR_COUNT).width - 1)) ∧
        t.get .CTE_LOOP_STATE_CONSEC 0 i = min (s.get .CTE_LOOP_STATE_CONSEC 0 i + 1) 3 ∧ t.loopModeOf i = s.loopModeOf i ∧
        t.outs = s.outs ∧ SameMem s t)) ∧
  (∀ (s : State) (i : Fin 32), s.cte.ready.contains i.val = true → s.get .CTE_LOOP_STATE_CONSEC 0 i < 2 →
    Runs (.loopDeadline i) s (fun t => t.cte.ready.contains i.val = false ∧
        t.cte.snaps = s.cte.snaps.filter (fun x => x.loop != i.val) ∧
        t.get .CTE_LOOP_OVR_COUNT 0 i = (if s.bit .CTE_CNT_CTRL_FREEZE = true then s.get .CTE_LOOP_OVR_COUNT 0 i else
        min (s.get .CTE_LOOP_OVR_COUNT 0 i + 1) (2 ^ (Fld.info .CTE_LOOP_OVR_COUNT).width - 1)) ∧
        t.get .CTE_LOOP_STATE_CONSEC 0 i = min (s.get .CTE_LOOP_STATE_CONSEC 0 i + 1) 3 ∧ t.loopModeOf i = s.loopModeOf i ∧
        t.outs = s.outs ∧ t.pins.alert = true ∧ SameMem s t)) ∧
  (∀ (s : State) (i : Fin 32), s.cte.ready.contains i.val = true → s.get .CTE_LOOP_STATE_CONSEC 0 i = 2 → s.loopModeOf i = 1 →
    Runs (.loopDeadline i) s (fun t => t.cte.ready.contains i.val = false ∧
        t.cte.snaps = s.cte.snaps.filter (fun x => x.loop != i.val) ∧
        t.get .CTE_LOOP_OVR_COUNT 0 i = (if s.bit .CTE_CNT_CTRL_FREEZE = true then s.get .CTE_LOOP_OVR_COUNT 0 i else
        min (s.get .CTE_LOOP_OVR_COUNT 0 i + 1) (2 ^ (Fld.info .CTE_LOOP_OVR_COUNT).width - 1)) ∧
        t.get .CTE_LOOP_STATE_CONSEC 0 i = min (s.get .CTE_LOOP_STATE_CONSEC 0 i + 1) 3 ∧ t.loopModeOf i = 2 ∧
        t.get .CTE_LOOP_STATE_CAUSE 0 i = 3 ∧ t.bit .CTE_LOOP_STATE_RAMP 0 i = false ∧
        t.get .CTE_LOOP_HOLDS_COUNT 0 i =
        (if s.bit .CTE_CNT_CTRL_FREEZE = true then s.get .CTE_LOOP_HOLDS_COUNT 0 i else
        min (s.get .CTE_LOOP_HOLDS_COUNT 0 i + 1) (2 ^ (Fld.info .CTE_LOOP_HOLDS_COUNT).width - 1)) ∧ t.pins.alert = true ∧
        SameMem s t)) ∧
  (∀ (s : State) (i : Fin 32), s.cte.ready.contains i.val = true → s.get .CTE_LOOP_STATE_CONSEC 0 i = 3 →
    Runs (.loopDeadline i) s (fun t => t.cte.ready.contains i.val = false ∧
        t.cte.snaps = s.cte.snaps.filter (fun x => x.loop != i.val) ∧
        t.get .CTE_LOOP_OVR_COUNT 0 i = (if s.bit .CTE_CNT_CTRL_FREEZE = true then s.get .CTE_LOOP_OVR_COUNT 0 i else
        min (s.get .CTE_LOOP_OVR_COUNT 0 i + 1) (2 ^ (Fld.info .CTE_LOOP_OVR_COUNT).width - 1)) ∧
        t.get .CTE_LOOP_STATE_CONSEC 0 i = min (s.get .CTE_LOOP_STATE_CONSEC 0 i + 1) 3 ∧ t.loopModeOf i = s.loopModeOf i ∧
        t.outs = s.outs ∧ SameRegs [.CTE_LOOP_OVR_COUNT, .CTE_LOOP_STATE_CONSEC] s t ∧ SameMem s t)) ∧
  (∀ (s : State) (i : Fin 32), s.cte.ready.contains i.val = false → Runs (.loopDeadline i) s (fun t => t = s)) ∧
  (∀ (s : State) (c : Instr) (i : Fin 32) (m : LoopSample) (n : Snap), loopOf c = some (i.val, m) → s.inTime i m n = true →
      s.loopModeOf i = 1 → m.stale = true →
    Runs c s (fun t => t.cte.ready.contains i.val = false ∧ t.cte.snaps = s.cte.snaps.filter (fun x => x.loop != i.val) ∧
        t.loopModeOf i = 2 ∧ t.get .CTE_LOOP_STATE_CAUSE 0 i = 2 ∧ t.bit .CTE_LOOP_STATE_RAMP 0 i = false ∧
        t.get .CTE_LOOP_HOLDS_COUNT 0 i =
        (if s.bit .CTE_CNT_CTRL_FREEZE = true then s.get .CTE_LOOP_HOLDS_COUNT 0 i else
        min (s.get .CTE_LOOP_HOLDS_COUNT 0 i + 1) (2 ^ (Fld.info .CTE_LOOP_HOLDS_COUNT).width - 1)) ∧ (t.loop i).fresh = 0 ∧
        t.pins.alert = true ∧ SameMem s t)) ∧
  (∀ (s : State) (c : Instr) (i : Fin 32) (m : LoopSample) (n : Snap), loopOf c = some (i.val, m) → s.inTime i m n = true →
      s.loopModeOf i = 1 → m.stale = false → i.val ≠ 31 → ((s.dropReady i).residual (s.viewOf n) i m).2 = true →
      (s.viewOf n).plausN i ≤ (s.loop i).above + 1 →
    Runs c s (fun t => t.cte.ready.contains i.val = false ∧ t.cte.snaps = s.cte.snaps.filter (fun x => x.loop != i.val) ∧
        t.loopModeOf i = 2 ∧ t.get .CTE_LOOP_STATE_CAUSE 0 i = 1 ∧ t.bit .CTE_LOOP_STATE_RAMP 0 i = false ∧
        t.get .CTE_LOOP_HOLDS_COUNT 0 i =
        (if s.bit .CTE_CNT_CTRL_FREEZE = true then s.get .CTE_LOOP_HOLDS_COUNT 0 i else
        min (s.get .CTE_LOOP_HOLDS_COUNT 0 i + 1) (2 ^ (Fld.info .CTE_LOOP_HOLDS_COUNT).width - 1)) ∧ t.pins.alert = true ∧
        SameMem s t)) ∧
  (∀ (s : State) (c : Instr) (i : Fin 32) (m : LoopSample) (n : Snap), loopOf c = some (i.val, m) → s.inTime i m n = true →
      s.loopModeOf i = 2 → m.stale = false → f32Bad m.u = false → i.val ≠ 31 →
      (if s.get .CTE_LOOP_STATE_CAUSE 0 i = 2 then decide (15 ≤ (s.loop i).fresh) else (s.loop i).autoAsked) = true →
    Runs c s (fun t => t.cte.ready.contains i.val = false ∧ t.cte.snaps = s.cte.snaps.filter (fun x => x.loop != i.val) ∧
        t.loopModeOf i = 1 ∧ t.get .CTE_LOOP_STATE_CAUSE 0 i = 0 ∧ (t.loop i).first = false ∧ (t.loop i).autoAsked = false ∧
        SameMem s t)) ∧
  (∀ (s : State) (c : Instr) (i : Fin 32) (m : LoopSample) (n : Snap), loopOf c = some (i.val, m) → s.inTime i m n = true →
      s.loopModeOf i = 0 → m.stale = false → f32Bad m.u = false → i.val ≠ 31 → (s.viewOf n).plausN i ≠ 0 →
    Runs c s (fun t => t.cte.ready.contains i.val = false ∧ t.cte.snaps = s.cte.snaps.filter (fun x => x.loop != i.val) ∧
        t.loopModeOf i = 1 ∧ (t.loop i).first = false ∧ SameMem s t)) ∧
  (∀ (s : State) (src : Source) (i : Fin 32), s.right src = .owner → s.sel src .CTE_LOOP_SEL_LOOP = i.val →
      s.bit .CTE_LOOP_CFG_PRESENT 0 i = true → s.loopModeOf i < 2 →
    Runs (.cteLoopHold src) s (fun t => t.loopModeOf i = 2 ∧ t.get .CTE_LOOP_STATE_CAUSE 0 i = 4 ∧
        t.bit .CTE_LOOP_STATE_RAMP 0 i = false ∧
        t.get .CTE_LOOP_HOLDS_COUNT 0 i =
        (if s.bit .CTE_CNT_CTRL_FREEZE = true then s.get .CTE_LOOP_HOLDS_COUNT 0 i else
        min (s.get .CTE_LOOP_HOLDS_COUNT 0 i + 1) (2 ^ (Fld.info .CTE_LOOP_HOLDS_COUNT).width - 1)) ∧ Answered src 0 s t ∧
        SameMem s t)) ∧
  (∀ (s : State) (src : Source) (i : Fin 32), s.right src = .owner → s.sel src .CTE_LOOP_SEL_LOOP = i.val →
      s.bit .CTE_LOOP_CFG_PRESENT 0 i = false ∨ 2 ≤ s.loopModeOf i →
    Runs (.cteLoopHold src) s (fun t => t.cte = s.cte ∧ t.outs = s.outs ∧ Answered src 0 s t ∧ SameRegs [] s t ∧ SameMem s t)) ∧
  (∀ (s : State) (src : Source) (i : Fin 32), s.right src = .owner → s.sel src .CTE_LOOP_SEL_LOOP = i.val →
      s.loopModeOf i = 2 ∨ s.loopModeOf i = 3 →
    Runs (.cteLoopAuto src) s (fun t => (t.loop i).autoAsked = true ∧ t.loopModeOf i = s.loopModeOf i ∧ Answered src 0 s t ∧
        SameRegs [] s t ∧ SameMem s t)) ∧
  (∀ (s : State) (src : Source) (i : Fin 32), s.right src = .owner → s.sel src .CTE_LOOP_SEL_LOOP = i.val →
      s.loopModeOf i < 2 →
    Runs (.cteLoopAuto src) s (fun t => t.cte = s.cte ∧ Answered src 0 s t ∧ SameRegs [] s t ∧ SameMem s t)) ∧
  (∀ (s : State) (src : Source), s.right src = .owner →
    Runs (.cteCntClear src) s (fun t => ClearedAll [.CTE_LOOP_LAT_MAX, .CTE_LOOP_OVR_COUNT, .CTE_LOOP_HOLDS_COUNT,
        .CTE_LOOP_RUNS_COUNT] s t ∧ Answered src 0 s t ∧ SameMem s t))

/-- R11, R427 to R429: parameter sets. -/
def Obligations.ParameterSetsAreStagedCommittedAndStored : Prop :=
  (∀ (s : State) (src : Source), s.right src = .owner → s.bit .CTE_PARAM_STATUS_STORING = false →
    Runs (.cteParamCommit src) s (fun t => t.cte = { s.cte with commit := some (s.paramEntries .CTE_PARAM_STAGED_VALUE) } ∧
        t.bit .CTE_STATUS_LOCK_ERR = s.bit .CTE_STATUS_LOCK_ERR ∧ Answered src 0 s t ∧ SameRegs [.CTE_STATUS_LOCK_ERR] s t ∧
        SameMem s t)) ∧
  (∀ (s : State) (src : Source), s.right src = .owner → s.bit .CTE_PARAM_STATUS_STORING = true →
    Runs (.cteParamCommit src) s (fun t => t.cte = s.cte ∧ t.bit .CTE_STATUS_LOCK_ERR = true ∧ Answered src 4 s t ∧
        SameRegs [.CTE_STATUS_LOCK_ERR] s t ∧ SameMem s t)) ∧
  (∀ (s : State) (l : List (RKey × Nat)), s.engineUp = true → s.cte.commit = some l → (∀ d : Fin 8, (s.die d).events = []) →
      l.all (fun e => e.1.f == .CTE_PARAM_STAGED_VALUE) = true →
    Runs .controlCycleBoundary s (fun t =>
        (∀ w : Fin 1024, t.get .CTE_PARAM_ACTIVE_VALUE 0 w =
        ({ s with regs := l } : State).get .CTE_PARAM_STAGED_VALUE 0 w) ∧
        (∀ w : Fin 1024, t.get .CTE_PARAM_STAGED_VALUE 0 w = s.get .CTE_PARAM_STAGED_VALUE 0 w) ∧
        t.bit .CTE_PARAM_STATUS_STORING = true ∧ t.cte.commit = none ∧ t.get .CTE_CP_SET_ID = t.cpSet ∧ SameMem s t)) ∧
  (∀ (s : State) (src : Source), s.right src = .owner →
    Runs (.cteParamDefault src) s (fun t =>
        (∀ w : Fin 1024, t.get .CTE_PARAM_STAGED_VALUE 0 w = (if paramNone w then 0 else (Config.paramDefault w).toNat)) ∧
        t.cte = s.cte ∧ Answered src 0 s t ∧ SameRegs [.CTE_PARAM_STAGED_VALUE] s t ∧ SameMem s t)) ∧
  (∀ (s : State), s.bit .CTE_PARAM_STATUS_STORING = true →
    Runs (.paramStoreDone true) s (fun t => t.bit .CTE_PARAM_STATUS_STORING = false ∧
        t.cte = { s.cte with paramFlash := Vector.replicate 2 ((s.paramEntries .CTE_PARAM_ACTIVE_VALUE).map (fun e => (e.1.item, e.2))) }
        ∧ SameRegs [.CTE_PARAM_STATUS_STORING] s t ∧ SameMem s t)) ∧
  (∀ (s : State), s.bit .CTE_PARAM_STATUS_STORING = true →
    Runs (.paramStoreDone false) s (fun t => t.bit .CTE_PARAM_STATUS_STORING = false ∧
        t.bit .CTE_PARAM_STATUS_STORE_FAIL = true ∧ t.cte.paramFlash = s.cte.paramFlash ∧ t.pins.alert = true ∧ SameMem s t)) ∧
  (∀ (s : State) (ok : Bool), s.bit .CTE_PARAM_STATUS_STORING = false → Runs (.paramStoreDone ok) s (fun t => t = s))

/-- R415, R433, Table 16-2: the customer loop. R432 to R434, Tables 16-2 and 16-3: the customer package. -/
def Obligations.CustomerPackagesAreLoadedAndRun : Prop :=
  (∀ (s : State) (m : LoopSample) (n : Snap) (k : Fin 8) (v : BitVec 32), s.samples 31 m n = true → f32Bad v = false →
      bitAt (s.custField 0x28 4) k = true →
    Runs (.cl31Sample m (.output [(k.val, v)])) s (fun t => t.get .CTE_CUST_OUT_VALUE 0 k = v.toNat ∧ s.ran t 31 m = true ∧
        SameRegs (loopFlds ++ [.CTE_CUST_OUT_VALUE]) s t ∧ SameMem s t)) ∧
  (∀ (s : State) (m : LoopSample) (n : Snap) (v : BitVec 32), s.samples 31 m n = true → bitAt (s.custField 0x28 4) 8 = true →
    Runs (.cl31Sample m (.output [(8, v)])) s (fun t =>
        t.get .BWR_FLOOR_W = (if 0 ≤ v.toNat ∧ v.toNat ≤ 4000 then v.toNat else s.get .BWR_FLOOR_W) ∧ s.ran t 31 m = true ∧
        SameRegs (loopFlds ++ [.BWR_FLOOR_W]) s t ∧ SameMem s t)) ∧
  (∀ (s : State) (m : LoopSample) (n : Snap) (v : BitVec 32), s.samples 31 m n = true → bitAt (s.custField 0x28 4) 9 = true →
    Runs (.cl31Sample m (.output [(9, v)])) s (fun t =>
        t.get .BWR_SLEW_W_PER_S = (if 10 ≤ v.toNat ∧ v.toNat ≤ 50000 then v.toNat else s.get .BWR_SLEW_W_PER_S) ∧
        s.ran t 31 m = true ∧ SameRegs (loopFlds ++ [.BWR_SLEW_W_PER_S]) s t ∧ SameMem s t)) ∧
  (∀ (s : State) (m : LoopSample) (n : Snap) (v : BitVec 32), s.samples 31 m n = true → bitAt (s.custField 0x28 4) 10 = true →
    Runs (.cl31Sample m (.output [(10, v)])) s (fun t =>
        t.get .BWR_SOC_CFG_SOC_TARGET = (if 20 ≤ v.toNat ∧ v.toNat ≤ 90 then v.toNat else s.get .BWR_SOC_CFG_SOC_TARGET) ∧
        s.ran t 31 m = true ∧ SameRegs (loopFlds ++ [.BWR_SOC_CFG_SOC_TARGET]) s t ∧ SameMem s t)) ∧
  (∀ (s : State) (m : LoopSample) (n : Snap), s.samples 31 m n = true →
    Runs (.cl31Sample m .outside) s (fun t => t.loopModeOf 31 = 3 ∧ t.get .CTE_LOOP_STATE_CAUSE 0 31 = 5 ∧
        t.pins.alert = true ∧ (∀ k : Fin 8, t.get .CTE_CUST_OUT_VALUE 0 k = s.get .CTE_CUST_OUT_VALUE 0 k) ∧ SameMem s t)) ∧
  (∀ (s : State) (m : LoopSample) (n : Snap) (k : Nat) (v : BitVec 32), s.samples 31 m n = true → 8 ≤ k ∨ f32Bad v = false →
      11 ≤ k ∨ bitAt (s.custField 0x28 4) k = false →
    Runs (.cl31Sample m (.output [(k, v)])) s (fun t => t.loopModeOf 31 = 3 ∧ t.get .CTE_LOOP_STATE_CAUSE 0 31 = 5 ∧
        t.pins.alert = true ∧ (∀ j : Fin 8, t.get .CTE_CUST_OUT_VALUE 0 j = s.get .CTE_CUST_OUT_VALUE 0 j) ∧
        t.get .BWR_FLOOR_W = s.get .BWR_FLOOR_W ∧ t.get .BWR_SLEW_W_PER_S = s.get .BWR_SLEW_W_PER_S ∧
        t.get .BWR_SOC_CFG_SOC_TARGET = s.get .BWR_SOC_CFG_SOC_TARGET ∧ SameMem s t)) ∧
  (∀ (s : State) (src : Source), s.right src = .owner → s.get .CTE_CUST_STATUS_STATE ≠ 1 → s.get .CTE_CUST_STATUS_STATE ≠ 3 →
    Runs (.cteCustOpen src) s (fun t => t.get .CTE_CUST_STATUS_STATE = 1 ∧
        t.cte = { s.cte with staging := [], custVerified := none } ∧ Answered src 0 s t ∧
        SameRegs [.CTE_CUST_STATUS_STATE] s t ∧ SameMem s t)) ∧
  (∀ (s : State) (src : Source), s.right src = .owner → s.get .CTE_CUST_STATUS_STATE = 1 →
    Runs (.cteCustOpen src) s (fun t => t.cte = s.cte ∧ Answered src 0 s t ∧ SameRegs [] s t ∧ SameMem s t)) ∧
  (∀ (s : State) (src : Source), s.right src = .owner → s.get .CTE_CUST_STATUS_STATE = 3 →
    Runs (.cteCustOpen src) s (fun t => t.get .CTE_CUST_STATUS_ERR = 1 ∧ t.cte = s.cte ∧ Answered src 0 s t ∧
        SameRegs [.CTE_CUST_STATUS_ERR] s t ∧ SameMem s t)) ∧
  (∀ (s : State) (src : Source) (data : BitVec 32), s.right src = .owner → s.get .CTE_CUST_ADDR_OFFSET + 4 ≤ 73728 →
    Runs (.cteCustData src data) s (fun t =>
        t.cte.staging = (s.get .CTE_CUST_ADDR_OFFSET, data.toNat) :: s.cte.staging.filter (fun e =>
        e.1 != s.get .CTE_CUST_ADDR_OFFSET) ∧ t.get .CTE_CUST_ADDR_OFFSET = s.get .CTE_CUST_ADDR_OFFSET + 4 ∧
        Answered src 0 s t ∧ SameRegs [.CTE_CUST_ADDR_OFFSET] s t ∧ SameMem s t)) ∧
  (∀ (s : State) (src : Source) (data : BitVec 32), s.right src = .owner → 73728 < s.get .CTE_CUST_ADDR_OFFSET + 4 →
    Runs (.cteCustData src data) s (fun t => t.get .CTE_CUST_STATUS_ERR = 7 ∧ t.cte = s.cte ∧ Answered src 0 s t ∧
        SameRegs [.CTE_CUST_STATUS_ERR] s t ∧ SameMem s t)) ∧
  (∀ (s : State) (src : Source) (b : List Nat), s.right src = .owner → s.get .CTE_CUST_STATUS_STATE = 1 →
      leAt (stagedBytes s.cte.staging 12) 8 4 ≤ 73728 →
      stagedBytes s.cte.staging (leAt (stagedBytes s.cte.staging 12) 8 4) = b →
    Runs (.cteCustVerify src) s (fun t =>
        (if s.custCode b = 0 then t.get .CTE_CUST_STATUS_STATE = 2 ∧
        t.cte = { s.cte with custVerified := some b } else t.get .CTE_CUST_STATUS_STATE = 5 ∧
        t.get .CTE_CUST_STATUS_ERR = s.custCode b ∧ t.cte = s.cte) ∧ Answered src 0 s t ∧
        SameRegs [.CTE_CUST_STATUS_STATE, .CTE_CUST_STATUS_ERR] s t ∧ SameMem s t)) ∧
  (∀ (s : State) (src : Source), s.right src = .owner → s.get .CTE_CUST_STATUS_STATE = 1 →
      73728 < leAt (stagedBytes s.cte.staging 12) 8 4 →
    Runs (.cteCustVerify src) s (fun t => t.get .CTE_CUST_STATUS_STATE = 5 ∧ t.get .CTE_CUST_STATUS_ERR = 2 ∧ t.cte = s.cte ∧
        Answered src 0 s t ∧ SameRegs [.CTE_CUST_STATUS_STATE, .CTE_CUST_STATUS_ERR] s t ∧ SameMem s t)) ∧
  (∀ (s : State) (src : Source), s.right src = .owner → s.get .CTE_CUST_STATUS_STATE = 3 →
    Runs (.cteCustVerify src) s (fun t => t.get .CTE_CUST_STATUS_ERR = 1 ∧ t.cte = s.cte ∧ Answered src 0 s t ∧
        SameRegs [.CTE_CUST_STATUS_ERR] s t ∧ SameMem s t)) ∧
  (∀ (s : State) (src : Source), s.right src = .owner → s.get .CTE_CUST_STATUS_STATE ≠ 1 → s.get .CTE_CUST_STATUS_STATE ≠ 3 →
    Runs (.cteCustVerify src) s (fun t => t.cte = s.cte ∧ Answered src 0 s t ∧ SameRegs [] s t ∧ SameMem s t)) ∧
  (∀ (s : State) (src : Source), s.right src = .owner → s.get .CTE_CUST_STATUS_STATE = 2 →
    Runs (.cteCustActivate src) s (fun t => t.get .CTE_CUST_STATUS_STATE = 3 ∧ t.cte = s.cte ∧ Answered src 0 s t ∧
        SameRegs [.CTE_CUST_STATUS_STATE] s t ∧ SameMem s t)) ∧
  (∀ (s : State) (src : Source), s.right src = .owner → s.get .CTE_CUST_STATUS_STATE = 3 →
    Runs (.cteCustActivate src) s (fun t => t.get .CTE_CUST_STATUS_ERR = 1 ∧ t.cte = s.cte ∧ Answered src 0 s t ∧
        SameRegs [.CTE_CUST_STATUS_ERR] s t ∧ SameMem s t)) ∧
  (∀ (s : State) (src : Source), s.right src = .owner → s.get .CTE_CUST_STATUS_STATE ≠ 2 → s.get .CTE_CUST_STATUS_STATE ≠ 3 →
    Runs (.cteCustActivate src) s (fun t => t.cte = s.cte ∧ Answered src 0 s t ∧ SameRegs [] s t ∧ SameMem s t)) ∧
  (∀ (s : State) (b : List Nat), s.get .CTE_CUST_STATUS_STATE = 3 → s.cte.custVerified = some b →
    Runs (.custPackageStored true) s (fun t => t.get .CTE_CUST_STATUS_STATE = 4 ∧ t.cte.custActive = some b ∧
        t.cte.custFlash = Vector.replicate 2 (some b) ∧ t.bit .CTE_LOOP_CFG_PRESENT 0 31 = true ∧
        t.get .CTE_LOOP_CFG_CLASS 0 31 = leAt b 6 1 % 2 ^ (Fld.info .CTE_LOOP_CFG_CLASS).width ∧
        t.get .CTE_LOOP_CFG_CORE 0 31 = 3 ∧
        t.get .CTE_LOOP_CFG_OFFSET 0 31 = 10 ^ leAt b 6 1 / 2 % 2 ^ (Fld.info .CTE_LOOP_CFG_OFFSET).width ∧
        t.loopModeOf 31 = 0 ∧ t.loop 31 = {} ∧ SameMem s t)) ∧
  (∀ (s : State) (ok : Bool), s.get .CTE_CUST_STATUS_STATE = 3 → ok = false ∨ s.cte.custVerified = none →
    Runs (.custPackageStored ok) s (fun t => t.get .CTE_CUST_STATUS_STATE = 5 ∧ t.get .CTE_CUST_STATUS_ERR = 8 ∧
        t.cte = s.cte ∧ SameRegs [.CTE_CUST_STATUS_STATE, .CTE_CUST_STATUS_ERR] s t ∧ SameMem s t)) ∧
  (∀ (s : State) (ok : Bool), s.get .CTE_CUST_STATUS_STATE ≠ 3 → Runs (.custPackageStored ok) s (fun t => t = s)) ∧
  (∀ (s : State) (src : Source), s.right src = .owner → s.get .CTE_CUST_STATUS_STATE = 4 →
    Runs (.cteCustDisable src) s (fun t => t.get .CTE_CUST_STATUS_STATE = 0 ∧ t.cte.custActive = none ∧
        t.cte.custFlash = Vector.replicate 2 none ∧ t.bit .CTE_LOOP_CFG_PRESENT 0 31 = false ∧
        t.cte.ready.contains 31 = false ∧ Answered src 0 s t ∧
        SameRegs [.CTE_CUST_STATUS_STATE, .CTE_LOOP_CFG_PRESENT, .CTE_LOOP_STATE_MODE] s t ∧ SameMem s t)) ∧
  (∀ (s : State) (src : Source), s.right src = .owner → s.get .CTE_CUST_STATUS_STATE = 3 →
    Runs (.cteCustDisable src) s (fun t => t.get .CTE_CUST_STATUS_ERR = 1 ∧ t.cte = s.cte ∧ Answered src 0 s t ∧
        SameRegs [.CTE_CUST_STATUS_ERR] s t ∧ SameMem s t)) ∧
  (∀ (s : State) (src : Source), s.right src = .owner → s.get .CTE_CUST_STATUS_STATE ≠ 3 → s.get .CTE_CUST_STATUS_STATE ≠ 4 →
    Runs (.cteCustDisable src) s (fun t => t.cte = s.cte ∧ Answered src 0 s t ∧ SameRegs [] s t ∧ SameMem s t))

/-- R39, R40, R393, R399, R437 to R455: CAFE. The lowest cell out of window, and the window that judges nothing, are readings (log entry 70). -/
def Obligations.CellMonitorScansTestsAndTrips : Prop :=
  (∀ (s : State) (cells : Vector (BitVec 16) 16) (mv a b : BitVec 16), s.bit .CEL_STATUS_SCANNING = true → refBad a = false ∧
      refBad b = false → s.get .CEL_OW_TAPS = 0 →
    Runs (.cellScan cells mv a b) s (fun t =>
        (∀ k : Fin 16, t.get .CEL_CELL_V 0 k = if k.val < s.cells then (cells[k]).toNat else 0) ∧
        t.get .CEL_STACK_MV = mv.toNat ∧ t.cel.badScans = 0 ∧ SameMem s t)) ∧
  (∀ (s : State) (cells : Vector (BitVec 16) 16) (mv a b : BitVec 16), s.bit .CEL_STATUS_SCANNING = true → refBad a = false ∧
      refBad b = false →
    Runs (.cellScan cells mv a b) s (fun t =>
        (∀ k : Fin 15, (t.bit .CEL_CELL_BAL 0 k && t.bit .CEL_CELL_BAL 0 (k.val + 1)) = false) ∧
        (∀ k : Fin 16, t.bit .CEL_CELL_BAL 0 k = true → s.bit .CEL_BAL_CFG_ENABLE = true ∧ s.ready rCEL = true ∧
        (k.val < s.cells → t.bit .CEL_CELL_SUBST 0 k = false)) ∧
        ((allFin 16).filter (fun k : Fin 16 => t.bit .CEL_CELL_BAL 0 k)).length ≤ s.get .CEL_BAL_CFG_MAX_CELLS ∧
        t.cel.badScans = 0 ∧ SameMem s t)) ∧
  (∀ (s : State) (cells : Vector (BitVec 16) 16) (mv a b : BitVec 16), s.bit .CEL_STATUS_SCANNING = true →
      (refBad a || refBad b) = true → s.cel.badScans ≠ 2 →
    Runs (.cellScan cells mv a b) s (fun t =>
        t.get .CEL_BAD_SCANS_COUNT 0 = (if s.bit .CEL_CNT_CTRL_FREEZE = true then s.get .CEL_BAD_SCANS_COUNT 0 else
        min (s.get .CEL_BAD_SCANS_COUNT 0 + 1) (2 ^ (Fld.info .CEL_BAD_SCANS_COUNT).width - 1)) ∧
        t.cel = { s.cel with badScans := min (s.cel.badScans + 1) 3 } ∧ t.tx = s.tx ∧ SameRegs [.CEL_BAD_SCANS_COUNT] s t ∧
        SameMem s t)) ∧
  (∀ (s : State) (cells : Vector (BitVec 16) 16) (mv a b : BitVec 16), s.bit .CEL_STATUS_SCANNING = true →
      (refBad a || refBad b) = true → s.cel.badScans = 2 →
    Runs (.cellScan cells mv a b) s (fun t => t.pins.alert = true ∧ t.cel = { s.cel with badScans := 3 } ∧
        (∀ k : Fin 16, t.get .CEL_CELL_V 0 k = s.get .CEL_CELL_V 0 k) ∧ SameMem s t)) ∧
  (∀ (s : State) (cells : Vector (BitVec 16) 16) (mv a b : BitVec 16), s.bit .CEL_STATUS_SCANNING = true → refBad a = false ∧
      refBad b = false → s.cel.mismatch = 2 → s.get .CEL_OW_TAPS = 0 →
      s.get .CEL_STACK_TOL_MV * 10 < (((mv.toNat * 10 : Nat) : Int) -
      ((((cells.toList.map (·.toNat)).take s.cells).sum : Nat) : Int)).natAbs →
    Runs (.cellScan cells mv a b) s (fun t => t.bit .CEL_STATUS_MISMATCH = true ∧ t.cel.mismatch = 3 ∧ t.pins.alert = true ∧
        SameMem s t)) ∧
  (∀ (s : State) (cells : Vector (BitVec 16) 16) (mv a b : BitVec 16) (k : Fin 16), s.bit .CEL_STATUS_SCANNING = true →
      refBad a = false ∧ refBad b = false → s.iso = 2 → k.val < s.cells → s.get .CEL_OW_TAPS = 0 → 38500 < (cells[k]).toNat →
      bitAt s.bwr.beyond k = true →
    Runs (.cellScan cells mv a b) s (fun t => t.iso = 0 ∧ t.bit .BWR_STATUS_REGULATING = false ∧ t.get .BWR_BWC_CMD_W = 0 ∧
        t.pins.alert = true ∧ SameMem s t)) ∧
  (∀ (s : State) (cells : Vector (BitVec 16) 16) (mv a b : BitVec 16), s.bit .CEL_STATUS_SCANNING = true → refBad a = false ∧
      refBad b = false → s.iso = 2 → s.bit .BWR_STATUS_RECOVERY = true → s.get .CEL_OW_TAPS = 0 →
      ((cells.toList.map (·.toNat)).take s.cells).all (fun v => decide (22000 ≤ v)) = true →
    Runs (.cellScan cells mv a b) s (fun t => t.bit .BWR_STATUS_RECOVERY = false ∧ t.bwr.recovered = true ∧ SameMem s t)) ∧
  (∀ (s : State) (cells : Vector (BitVec 16) 16) (mv a b : BitVec 16), s.bit .CEL_STATUS_SCANNING = false →
    Runs (.cellScan cells mv a b) s (fun t => t = s)) ∧
  (∀ (s : State) (cells : Vector (BitVec 16) 16) (mv : BitVec 16), s.bit .CEL_STATUS_SCANNING = true → s.cells ≠ 0 →
      ((mv.toNat * 10 : Nat) - (s.cel.raw.toList.sum : Nat) : Int).natAbs ≤ s.get .CEL_STACK_TOL_MV * 10 →
    Runs (.openWireWindow cells mv) s (fun t =>
        t.cel.candidates = (s.tapCandidates ((cells.toList.map (·.toNat)).take s.cells)).foldl (fun a j => a + 2 ^ j) 0 ∧
        (∀ j : Fin 17, j.val ≤ s.cells → bitAt (t.get .CEL_OW_TAPS) j = if s.tapOpen j then
        ((s.tapCandidates ((cells.toList.map (·.toNat)).take s.cells)).contains j.val ||
        decide ((((s.cel.clear.find? (fun e => e.1 == j.val)).map (·.2)).getD 0) + 1 < 10)) else
        ((s.tapCandidates ((cells.toList.map (·.toNat)).take s.cells)).contains j.val && bitAt s.cel.candidates j)) ∧
        t.bit .CEL_STATUS_OPEN_WIRE = decide (t.get .CEL_OW_TAPS ≠ 0) ∧ SameMem s t)) ∧
  (∀ (s : State) (cells : Vector (BitVec 16) 16) (mv : BitVec 16), s.bit .CEL_STATUS_SCANNING = true →
      s.get .CEL_STACK_TOL_MV * 10 < ((mv.toNat * 10 : Nat) - (s.cel.raw.toList.sum : Nat) : Int).natAbs →
    Runs (.openWireWindow cells mv) s (fun t =>
        t.get .CEL_OW_TESTS_COUNT 0 = (if s.bit .CEL_CNT_CTRL_FREEZE = true then s.get .CEL_OW_TESTS_COUNT 0 else
        min (s.get .CEL_OW_TESTS_COUNT 0 + 1) (2 ^ (Fld.info .CEL_OW_TESTS_COUNT).width - 1)) ∧
        t.get .CEL_SCANS_COUNT 0 = (if s.bit .CEL_CNT_CTRL_FREEZE = true then s.get .CEL_SCANS_COUNT 0 else
        min (s.get .CEL_SCANS_COUNT 0 + 2) (2 ^ (Fld.info .CEL_SCANS_COUNT).width - 1)) ∧
        t.cel = { s.cel with candidates := 0 } ∧ t.tx = s.tx ∧ SameRegs [.CEL_OW_TESTS_COUNT, .CEL_SCANS_COUNT] s t ∧
        SameMem s t)) ∧
  (∀ (s : State) (cells : Vector (BitVec 16) 16) (mv : BitVec 16), s.bit .CEL_STATUS_SCANNING = false →
    Runs (.openWireWindow cells mv) s (fun t => t = s)) ∧
  (∀ (s : State) (k : Fin 16), s.cells = 16 →
    Runs (.cellComparatorTrip k true) s (fun t => t.bit .CEL_CELL_OV_TRIP 0 k = true ∧ t.bit .CEL_STATUS_COMP_OV = true ∧
        t.iso = 0 ∧ t.pins.alert = true ∧ SameMem s t)) ∧
  (∀ (s : State) (k : Fin 16), s.cells = 16 →
    Runs (.cellComparatorTrip k false) s (fun t => t.bit .CEL_CELL_UV_TRIP 0 k = true ∧ t.bit .CEL_STATUS_COMP_UV = true ∧
        t.iso = s.iso ∧ t.pins.alert = true ∧ SameMem s t)) ∧
  (∀ (s : State) (k : Fin 16) (ov : Bool), s.cells ≠ 16 → Runs (.cellComparatorTrip k ov) s (fun t => t = s)) ∧
  (∀ (s : State) (k : Fin 16) (ov : Bool),
    Runs (.cellComparatorRelease k ov) s (fun t => t.bit (if ov then .CEL_CELL_OV_TRIP else .CEL_CELL_UV_TRIP) 0 k = false ∧
        (∀ j : Fin 16, j ≠ k → t.bit (if ov then .CEL_CELL_OV_TRIP else .CEL_CELL_UV_TRIP) 0 j =
        s.bit (if ov then .CEL_CELL_OV_TRIP else .CEL_CELL_UV_TRIP) 0 j) ∧ t.iso = s.iso ∧
        SameRegs [.CEL_CELL_OV_TRIP, .CEL_CELL_UV_TRIP, .CEL_STATUS_COMP_OV, .CEL_STATUS_COMP_UV] s t ∧ SameMem s t)) ∧
  (∀ (s : State) (v : Vector (BitVec 16) 12) (k : Fin 12), s.cells = 12 → s.bit .PWR_RAIL_STATUS_IN_REG 46 = false →
      (v[k]).toNat < s.get .CEL_SLEEP_CFG_LO_MV ∨ s.get .CEL_SLEEP_CFG_HI_MV < (v[k]).toNat →
      (∀ j : Fin 12, j < k → s.get .CEL_SLEEP_CFG_LO_MV ≤ (v[j]).toNat ∧ (v[j]).toNat ≤ s.get .CEL_SLEEP_CFG_HI_MV) →
    Runs (.sleepCheck v) s (fun t => t.pins.wake = true ∧ t.bit .CEL_SLEEP_LOG_VALID = true ∧ t.get .CEL_SLEEP_LOG_CELL = k ∧
        t.get .CEL_SLEEP_LOG_MV = min (v[k]).toNat 4095 ∧
        SameRegs [.CEL_SLEEP_LOG_CELL, .CEL_SLEEP_LOG_MV, .CEL_SLEEP_LOG_VALID] s t ∧ SameMem s t)) ∧
  (∀ (s : State) (v : Vector (BitVec 16) 12), s.cells ≠ 12 ∨ s.bit .PWR_RAIL_STATUS_IN_REG 46 = true →
    Runs (.sleepCheck v) s (fun t => t = s)) ∧
  (∀ (s : State) (v : Vector (BitVec 16) 12),
      (∀ j : Fin 12, s.get .CEL_SLEEP_CFG_LO_MV ≤ (v[j]).toNat ∧ (v[j]).toNat ≤ s.get .CEL_SLEEP_CFG_HI_MV) →
    Runs (.sleepCheck v) s (fun t => t = s)) ∧
  (∀ (s : State) (v : Vector (BitVec 16) 4) (i : Fin 4), s.iso = 2 →
      (ntcTemp (v[i]).toNat).any (fun x => decide (75 < (((tenths x : Int) : Rat) / 10) ∧ x ≤ 120)) = true →
      bitAt s.cel.hot i = true →
    Runs (.thermistorConvert v) s (fun t => t.iso = 0 ∧ t.cel.packOver = true ∧ bitAt t.cel.hot i = true ∧
        t.pins.alert = true ∧ SameMem s t)) ∧
  (∀ (s : State) (v : Vector (BitVec 16) 4),
    Runs (.thermistorConvert v) s (fun t =>
        (∀ i : Fin 4, t.bit .CEL_TEMP_FAILED 0 i = (ntcTemp (v[i]).toNat).all (fun x => decide (x < -50 ∨ 120 < x)) ∧
        (ntcTemp (v[i]).toNat).all (fun x => t.get .CEL_TEMP_T 0 i == enc 16 (max (-32768) (min 32767 (tenths x)))) = true) ∧
        SameMem s t)) ∧
  (∀ (s : State) (ohms : Nat), s.iso = 0 → packDecode ohms ≠ s.get .CEL_PACK_ID_DECODE →
    Runs (.packIdDecode ohms) s (fun t => t.get .CEL_PACK_ID_DECODE = packDecode ohms ∧ s.iso = t.iso ∧
        t.cells = (if packDecode ohms = 1 then 12 else if packDecode ohms = 2 then 16 else 0) ∧ t.get .CEL_OW_TAPS = 0 ∧
        (∀ k : Fin 16, t.bit .CEL_CELL_SUBST 0 k = false) ∧ SameMem s t)) ∧
  (∀ (s : State) (ohms : Nat), s.iso = 0 → packDecode ohms = s.get .CEL_PACK_ID_DECODE →
      s.cells = (if packDecode ohms = 1 then 12 else if packDecode ohms = 2 then 16 else 0) →
    Runs (.packIdDecode ohms) s (fun t => t.cel = { s.cel with idDecoded := true } ∧
        t.get .CEL_PACK_ID_OHM_X10 = min (ohms / 10) 65535 ∧ t.tx = s.tx ∧
        SameRegs [.CEL_PACK_ID_OHM_X10, .CEL_PACK_ID_DECODE] s t ∧ SameMem s t)) ∧
  (∀ (s : State) (ohms : Nat), s.iso = 2 → packDecode ohms ≠ (if s.cells = 12 then 1 else 2) →
    Runs (.packIdDecode ohms) s (fun t => t.get .CEL_PACK_ID_DECODE = packDecode ohms ∧ t.iso = 0 ∧ t.cells = s.cells ∧
        t.pins.alert = true ∧ SameMem s t)) ∧
  (∀ (s : State) (ohms : Nat), s.iso ≠ 0 →
    Runs (.packIdDecode ohms) s (fun t => t.get .CEL_PACK_ID_DECODE = packDecode ohms ∧ t.cells = s.cells ∧ SameMem s t)) ∧
  (∀ (s : State),
    Runs .interlockClosed s (fun t => t.bit .CEL_ILK_CLOSED = true ∧ 40 ≤ t.get .CEL_ILK_MA_X10 ∧ t.pins.ilkClosed = true ∧
        SameRegs [.CEL_ILK_CLOSED, .CEL_ILK_MA_X10] s t ∧ SameMem s t)) ∧
  (∀ (s : State),
    Runs .interlockOpen s (fun t => t.bit .CEL_ILK_CLOSED = false ∧ t.get .CEL_ILK_MA_X10 < 40 ∧ t.pins.ilkClosed = false ∧
        t.iso = 0 ∧ (s.iso = 2 → t.pins.alert = true ∧ (s.get .HPL_STATE_STATE = 5 → t.hpl.noHoldup = true)) ∧ SameMem s t)) ∧
  (∀ (s : State), s.bit .CEL_STATUS_SELFTEST_FAIL = false →
    Runs (.cafeSelfTest true) s (fun t => t.bit .CEL_STATUS_SCANNING = true ∧ SameRegs [.CEL_STATUS_SCANNING] s t ∧
        SameMem s t)) ∧
  (∀ (s : State), s.bit .CEL_STATUS_SELFTEST_FAIL = true → Runs (.cafeSelfTest true) s (fun t => t = s)) ∧
  (∀ (s : State),
    Runs (.cafeSelfTest false) s (fun t => t.bit .CEL_STATUS_SCANNING = false ∧ t.bit .CEL_STATUS_SELFTEST_FAIL = true ∧
        t.ready rCEL = false ∧ t.pins.alert = true ∧ SameMem s t))

/-- R109 to R111, R470 to R474, R478, R481: chapter 18 outside the loops. -/
def Obligations.ThermalProtectionAndAgeing : Prop :=
  (∀ (s : State) (d : Fin 8) (k : Fin 24) (raw : BitVec 16), s.inReset (8 + d.val) = true →
    Runs (.hotspotReading d k raw) s (fun t => t = s.siteTemp d k raw ∧ SameRegs [] s t ∧ SameMem s t)) ∧
  (∀ (s : State) (d : Fin 8) (k : Fin 24) (raw : BitVec 16), s.inReset (8 + d.val) = false →
      s.bit .PWR_RAIL_STATUS_IN_REG (2 + d.val) = true → -320 ≤ raw.toInt ∧ raw.toInt ≤ 1200 →
    Runs (.hotspotReading d k raw) s (fun t => t.get .CDC_TEMP_TEMP d k = raw.toNat ∧
        bitAt t.cap.sitesHot[d] k = decide (800 ≤ raw.toInt) ∧ SameRegs [.CDC_TEMP_TEMP] s t ∧ SameMem s t)) ∧
  (∀ (s : State) (d : Fin 8) (k : Fin 24) (raw : BitVec 16), s.inReset (8 + d.val) = false →
      s.bit .PWR_RAIL_STATUS_IN_REG (2 + d.val) = true → raw ≠ 0x8000#16 → raw.toInt < -320 ∨ 1200 < raw.toInt →
      s.bit .CDC_TEMP_FAILED d k = false →
    Runs (.hotspotReading d k raw) s (fun t => t.get .CDC_TEMP_TEMP d k = raw.toNat ∧ t.bit .CDC_TEMP_FAILED d k = true ∧
        t.bit .CDC_STATUS_SENSOR_FAIL d = true ∧ t.pins.alert = true ∧ SameMem s t)) ∧
  (∀ (s : State) (d : Fin 8) (k : Fin 24) (raw : BitVec 16), s.inReset (8 + d.val) = false →
      s.bit .PWR_RAIL_STATUS_IN_REG (2 + d.val) = false →
    Runs (.hotspotReading d k raw) s (fun t => t.get .CDC_TEMP_TEMP d k = 0x8000 ∧ SameRegs [.CDC_TEMP_TEMP] s t ∧
        SameMem s t)) ∧
  (∀ (s : State) (d : Fin 8) (v : Vector (BitVec 24) 32), bitAt s.cap.measuring d = true → s.mayMeasure d = true →
    Runs (.sentinelMeasurement d v) s (fun t =>
        (∀ k : Fin 32, t.get .CDC_SENT_VAL_VALUE d k = (v[k]).toNat ∧ t.bit .CDC_SENT_VAL_VALID d k = true) ∧
        bitAt t.cap.measuring d = false ∧ bitAt t.cap.measured d = true ∧ t.cap.measureAt[d] = s.now ∧
        SameRegs [.CDC_SENT_VAL_VALUE, .CDC_SENT_VAL_VALID] s t ∧ SameMem s t)) ∧
  (∀ (s : State) (d : Fin 8) (v : Vector (BitVec 24) 32), bitAt s.cap.measuring d = false ∨ s.mayMeasure d = false →
    Runs (.sentinelMeasurement d v) s (fun t => t = s)) ∧
  (∀ (s : State) (d b : Fin 8) (x : Int), (s.die d).berth = some b → s.hottest d = some x → 840 ≤ x →
    Runs (.localThermalPacing d) s (fun t =>
        (if (s.berthDies b).all (fun e => (s.die e).duThermal == 0) = true then t.get .CAP_THERM_PACE_COUNT 0 =
        (if s.bit .CAP_CNT_CTRL_FREEZE = true then s.get .CAP_THERM_PACE_COUNT 0 else
        min (s.get .CAP_THERM_PACE_COUNT 0 + 1) (2 ^ (Fld.info .CAP_THERM_PACE_COUNT).width - 1)) else
        t.get .CAP_THERM_PACE_COUNT 0 = s.get .CAP_THERM_PACE_COUNT 0) ∧
        (∀ e : Fin 8, (t.die e).duThermal = if (s.berthDies b).contains e then
        (if (s.die e).duThermal = 0 then (if 880 ≤ x then 1 else 4) else
        min (if 880 ≤ x then 1 else 4) (s.die e).duThermal) else (s.die e).duThermal) ∧ SameMem s t)) ∧
  (∀ (s : State) (d : Fin 8), (s.die d).berth = none ∨ (s.hottest d).all (fun x => decide (x < 840)) = true →
    Runs (.localThermalPacing d) s (fun t => t = s)) ∧
  (∀ (s : State) (b : Fin 8), s.cooler b 816 = true → s.noDomain b = true →
    Runs (.thermalPacingWithdraw b) s (fun t =>
        (∀ e : Fin 8, (t.die e).duThermal = if (s.berthDies b).contains e then 0 else (s.die e).duThermal) ∧
        SameRegs [] s t ∧ SameMem s t)) ∧
  (∀ (s : State) (b : Fin 8), s.cooler b 816 = true → s.noDomain b = false →
    Runs (.thermalPacingWithdraw b) s (fun t =>
        (∀ e : Fin 8, (t.die e).duThermal = if (s.berthDies b).contains e &&
        ((s.rhdOf b).ceilings.find? (fun x => x.1 == 0)).all (fun x => decide (rankOf (s.rhdOf b).domRate ≤ rankOf x.2)) then
        0 else (s.die e).duThermal) ∧ SameRegs [] s t ∧ SameMem s t)) ∧
  (∀ (s : State) (b : Fin 8), s.cooler b 816 = false → Runs (.thermalPacingWithdraw b) s (fun t => t = s)) ∧
  (∀ (s : State) (x : BitVec 8), x ≠ 0#8 →
    Runs (.bollardTrip x) s (fun t => t.get .CAP_STATUS_BOLLARD = Nat.lor (s.get .CAP_STATUS_BOLLARD) x.toNat % 256 ∧
        (∀ d : Fin 8, (t.rail (vcRail d)).bollard = true ∧ t.bit .PWR_RAIL_STATUS_ON (vcRail d) = false ∧
        t.inReset (8 + d.val) = true) ∧ t.get .CAP_BOLLARD_TRIPS_COUNT 0 =
        (if s.bit .CAP_CNT_CTRL_FREEZE = true then s.get .CAP_BOLLARD_TRIPS_COUNT 0 else
        min (s.get .CAP_BOLLARD_TRIPS_COUNT 0 + 1) (2 ^ (Fld.info .CAP_BOLLARD_TRIPS_COUNT).width - 1)) ∧
        t.pins.alert = true)) ∧
  (∀ (s : State), Runs (.bollardTrip 0#8) s (fun t => t = s)) ∧
  (∀ (s : State) (src : Source), s.right src = .owner → (∀ d : Fin 8, s.cap.sitesHot[d] = 0) →
    Runs (.capBollardClear src 0xB0A7#16) s (fun t => t.get .CAP_STATUS_BOLLARD = 0 ∧
        (∀ d : Fin 8, (t.rail (vcRail d)).bollard = false) ∧ Answered src 0 s t ∧ SameMem s t)) ∧
  (∀ (s : State) (src : Source) (key : BitVec 16), s.right src = .owner →
      key ≠ 0xB0A7#16 ∨ (s.cap.sitesHot.toList.any (fun m => m != 0)) = true →
    Runs (.capBollardClear src key) s (fun t => t.bit .CAP_STATUS_LOCK_ERR = true ∧ t.pwr = s.pwr ∧ Answered src 4 s t ∧
        SameRegs [.CAP_STATUS_LOCK_ERR] s t ∧ SameMem s t)) ∧
  (∀ (s : State), s.bit .CAP_STATUS_COOL_TRIP = false → s.flow < 200 →
    Runs .coolantTrip s (fun t => t.bit .CAP_STATUS_COOL_TRIP = true ∧
        (∀ d : Fin 8, (t.wanted (vcRail d)).en = false ∧ t.inReset (8 + d.val) = true) ∧ t.pins.alert = true)) ∧
  (∀ (s : State), s.bit .CAP_STATUS_COOL_TRIP = true ∨ 200 ≤ s.flow → Runs .coolantTrip s (fun t => t = s)) ∧
  (∀ (s : State), s.bit .CAP_STATUS_COOL_TRIP = true → 400 ≤ s.flow →
    Runs .coolantTripEnd s (fun t => t.bit .CAP_STATUS_COOL_TRIP = false ∧ (∀ d : Fin 8, (t.wanted (vcRail d)).en = true) ∧
        SameMem s t)) ∧
  (∀ (s : State), s.bit .CAP_STATUS_COOL_TRIP = false ∨ s.flow < 400 → Runs .coolantTripEnd s (fun t => t = s)) ∧
  (∀ (s : State), s.cap.ageDirty = true → s.flashHalted s.act = false →
    Runs .ageStateStore s (fun t => t.cap.ageDirty = false ∧
        t.cap.ageStored = (allFin 8).map (fun d : Fin 8 => (d.val, s.get .CAP_AGE_STEP 0 d, s.cap.reduction[d])) ∧
        SameRegs [] s t ∧ SameMem s t)) ∧
  (∀ (s : State), s.cap.ageDirty = false ∨ s.flashHalted s.act = true → Runs .ageStateStore s (fun t => t = s))

/-- R485 to R493, R496, R498, R499: the pilots and HMA. -/
def Obligations.PilotsAreGrantedJudgedAndTakenOver : Prop :=
  (∀ (s : State) (p : Fin 2), s.hma.grant = none → s.grantee = some p → s.hmaOk = true →
    Runs .firstGrant s (fun t => t.hma.grant = some p ∧ (t.pilot p).role = .active ∧ (t.pilot p).linkEn = true ∧
        t.hma.bwcZero = false ∧ t.hma.noGrant = none ∧ t.cte.ready = [] ∧ t.net.sessions = [] ∧ t.outs.pset = s.pIn ∧
        t.pins.alert = true ∧ SameMem s t)) ∧
  (∀ (s : State), s.hma.grant ≠ none ∨ s.grantee = none ∨ s.hmaOk = false → Runs .firstGrant s (fun t => t = s)) ∧
  (∀ (s : State) (p : Fin 2), (s.pilot p).role ≠ .out → (s.pilot p).lockstepOk = true → s.inReset (1 + p.val) = false ∧
      s.inReset (4 + p.val) = false →
    Runs (.heartbeatToggle p) s (fun t => (t.pilot p).hbRunning = true ∧ (t.pilot p).hbLast = s.now ∧
        ((s.pilot p).hbRunning = true → (t.pilot p).hbGap = s.now - (s.pilot p).hbLast) ∧
        (s.activePilot = some p → (t.pilot (otherPilot p)).sinceCopy = min 4 ((s.pilot (otherPilot p)).sinceCopy + 1)) ∧
        SameRegs [] s t ∧ SameMem s t)) ∧
  (∀ (s : State) (p : Fin 2), (s.pilot p).role = .out ∨ (s.pilot p).lockstepOk = false ∨ s.inReset (1 + p.val) =
      true ∨ s.inReset (4 + p.val) = true →
    Runs (.heartbeatToggle p) s (fun t => t = s)) ∧
  (∀ (s : State) (p : Fin 2),
    Runs (.lockstepMismatch p) s (fun t => (t.pilot p).lockstepOk = false ∧ (t.pilot p).hbRunning = false ∧
        (t.pilot p).linkOut = false ∧ t.pilot (otherPilot p) = s.pilot (otherPilot p) ∧ t.hma = s.hma ∧ SameRegs [] s t ∧
        SameMem s t)) ∧
  (∀ (s : State) (p : Fin 2) (c : PilotFail), s.hma.grant = some p → s.hmaOk = true → s.failSign p c = true →
      (s.pilot (otherPilot p)).role = .standby → (s.pilot (otherPilot p)).hbRunning = true →
    Runs (.pilotFailureJudged p c) s (fun t => t.hma.grant = some (otherPilot p) ∧ (t.pilot (otherPilot p)).role = .active ∧
        (t.pilot (otherPilot p)).linkEn = true ∧ (t.pilot p).linkEn = false ∧ (t.pilot p).role = .out ∧
        t.hma.takeover = some (s.synced (otherPilot p)) ∧ t.hma.gapFrom = some (s.pilot p).hbLast ∧
        t.get .PLT_LAST_CAUSE_CODE = failCode c ∧ t.cte.ready = [] ∧ t.pins.alert = true ∧ SameMem s t)) ∧
  (∀ (s : State) (p : Fin 2) (c : PilotFail),
      s.hmaOk = false ∨ s.failSign p c =
      false ∨ (s.hma.grant ≠ some p ∧ (s.pilot p).role ≠ .standby ∧ (s.pilot p).role ≠ .active) →
    Runs (.pilotFailureJudged p c) s (fun t => t = s)) ∧
  (∀ (s : State) (p : Fin 2) (c : PilotFail), s.hma.grant = some p → s.hmaOk = true → s.failSign p c = true →
      (s.pilot (otherPilot p)).role = .out ∨ (s.pilot (otherPilot p)).role = .selfTest ∨ (s.pilot (otherPilot p)).hbRunning =
      false →
    Runs (.pilotFailureJudged p c) s (fun t => t.hma.grant = none ∧ t.hma.noGrant = some s.now ∧ (t.pilot p).linkEn = false ∧
        (t.pilot p).role = .out ∧ t.ready rSUP = false ∧ SameMem s t)) ∧
  (∀ (s : State) (p : Fin 2) (c : PilotFail), s.hma.grant ≠ some p → s.hmaOk = true → s.failSign p c = true →
      (s.pilot p).role = .standby →
    Runs (.pilotFailureJudged p c) s (fun t => t.hma.grant = s.hma.grant ∧ (t.pilot p).role = .out ∧
        (t.pilot p).linkEn = false ∧ (t.pilot p).hbRunning = false ∧ SameMem s t)) ∧
  (∀ (s : State) (p : Fin 2) (w : Bool), s.hma.takeover = some w → s.activePilot = some p → s.inReset (4 + p.val) = false →
    Runs .takeover s (fun t => t.hma.takeover = none ∧ t.cte.ready = [] ∧ t.cte.snaps = [] ∧
        (w = false → t.outs.pset = s.pIn ∧ t.net.sessions = []) ∧ SameMem s t)) ∧
  (∀ (s : State) (p : Fin 2) (c : CopyLoad), s.hma.takeover = some true → s.activePilot = some p →
      s.inReset (4 + p.val) = false → s.copyHeld = some c →
      s.iso = 2 ∨ ({ s with regs := c.regs } : State).bit .BWR_STATUS_REGULATING = false →
    Runs .takeover s (fun t => t.hma.takeover = none ∧ t.outs = c.outs ∧ t.bwr = c.bwr ∧
        t.cte.loops = c.loops.map (fun x => { x with first := true, above := 0 }) ∧
        t.net.sessions = s.net.sessions.filterMap (Session.continued c.sessions) ∧ t.iso = s.iso ∧ t.cte.ready = [] ∧
        SameMem s t)) ∧
  (∀ (s : State), s.hma.takeover = none ∨ s.activePilot.all (fun p => s.inReset (4 + p.val)) = true →
    Runs .takeover s (fun t => t = s)) ∧
  (∀ (s : State) (p : Fin 2), s.activePilot = some p → s.engineUp = true → (s.pilot p).linkOut = true →
      s.hma.handover = none →
    Runs .stateCopySend s (fun t => t.copySent = some s.copyLoad ∧ (t.pilot p).aliveTx = ((s.pilot p).aliveTx + 1) % 256 ∧
        t.tx = s.tx ++ [.copy p (s.pilot p).aliveTx (s.pilot p).cycleTx false] ∧ t.hma = s.hma ∧ SameRegs watchFlds s t ∧
        SameMem s t)) ∧
  (∀ (s : State) (p : Fin 2) (h : Handover), s.activePilot = some p → s.engineUp = true → (s.pilot p).linkOut = true →
      s.hma.handover = some h → h.granted = none →
    Runs .stateCopySend s (fun t => t.copySent = some s.copyLoad ∧
        t.tx = s.tx ++ [.copy p (s.pilot p).aliveTx (s.pilot p).cycleTx true] ∧
        t.hma.handover = some { h with sent := true } ∧ t.cte.ready = [] ∧ SameRegs watchFlds s t ∧ SameMem s t)) ∧
  (∀ (s : State), s.activePilot.all (fun p => !(s.pilot p).linkOut) = true ∨ s.engineUp = false →
    Runs .stateCopySend s (fun t => t = s)) ∧
  (∀ (s : State) (q : Fin 2) (mg : BitVec 16) (al : BitVec 8) (cy : BitVec 32) (r : Bool), s.standby = some q →
    Runs (.stateCopyReceive false mg al cy r) s (fun t =>
        t.get .PLT_COPY_ERR_CRC 0 = (if s.bit .PLT_CNT_CTRL_FREEZE = true then s.get .PLT_COPY_ERR_CRC 0 else
        min (s.get .PLT_COPY_ERR_CRC 0 + 1) (2 ^ (Fld.info .PLT_COPY_ERR_CRC).width - 1)) ∧
        (t.pilot q).accepted = (s.pilot q).accepted ∧ t.copyHeld = s.copyHeld ∧ SameMem s t)) ∧
  (∀ (s : State) (q : Fin 2) (al : BitVec 8) (cy : BitVec 32) (r : Bool), s.standby = some q →
      (s.pilot q).lastAlive = some al.toNat ∨ (s.pilot q).lastCycle.any (fun c => decide (cy.toNat ≤ c)) = true →
    Runs (.stateCopyReceive true 0x9A1C#16 al cy r) s (fun t =>
        t.get .PLT_COPY_ERR_ALIVE 0 = (if s.bit .PLT_CNT_CTRL_FREEZE = true then s.get .PLT_COPY_ERR_ALIVE 0 else
        min (s.get .PLT_COPY_ERR_ALIVE 0 + 1) (2 ^ (Fld.info .PLT_COPY_ERR_ALIVE).width - 1)) ∧
        (t.pilot q).accepted = (s.pilot q).accepted ∧ t.copyHeld = s.copyHeld ∧ SameMem s t)) ∧
  (∀ (s : State) (q : Fin 2) (mg : BitVec 16) (al : BitVec 8) (cy : BitVec 32) (r : Bool), s.standby = some q →
      mg ≠ 0x9A1C#16 →
    Runs (.stateCopyReceive true mg al cy r) s (fun t => (t.pilot q).accepted = (s.pilot q).accepted ∧
        t.copyHeld = s.copyHeld ∧ SameMem s t)) ∧
  (∀ (s : State) (ok : Bool) (mg : BitVec 16) (al : BitVec 8) (cy : BitVec 32) (r : Bool), s.standby = none →
    Runs (.stateCopyReceive ok mg al cy r) s (fun t => t = s)) ∧
  (∀ (s : State) (q : Fin 2) (al : BitVec 8) (cy : BitVec 32) (r : Bool), s.standby = some q →
      (s.pilot q).lastAlive ≠ some al.toNat → (s.pilot q).lastCycle.any (fun c => decide (cy.toNat ≤ c)) = false →
    Runs (.stateCopyReceive true 0x9A1C#16 al cy r) s (fun t => (t.pilot q).accepted = min 32 ((s.pilot q).accepted + 1) ∧
        (t.pilot q).lastAlive = some al.toNat ∧ (t.pilot q).lastCycle = some cy.toNat ∧ (t.pilot q).sinceCopy = 0 ∧
        t.copyHeld = some (s.copySent.getD s.copyLoad) ∧ SameRegs [] s t ∧ SameMem s t)) ∧
  (∀ (s : State) (p : Fin 2), (s.pilot p).role = .selfTest → (s.pilot p).held = false → s.inReset (1 + p.val) = false →
      (s.pilot p).identityOk = true ∧ (s.pilot p).firmwareOk = true → s.hma.grant = some (otherPilot p) →
    Runs (.pilotStandbyEntry p) s (fun t => (t.pilot p).role = .standby ∧ (t.pilot p).accepted = 0 ∧ t.synced p = false ∧
        t.hma = s.hma ∧ SameRegs [] s t ∧ SameMem s t)) ∧
  (∀ (s : State) (p : Fin 2), (s.pilot p).role ≠ .selfTest ∨ (s.pilot p).held = true ∨ s.inReset (1 + p.val) =
      true ∨ (s.pilot p).identityOk = false ∨ (s.pilot p).firmwareOk = false ∨ s.hma.grant ≠ some (otherPilot p) →
    Runs (.pilotStandbyEntry p) s (fun t => t = s)) ∧
  (∀ (s : State) (h : Handover), s.hma.handover = some h → h.accepted = true → h.granted = none → s.hmaOk = true →
    Runs .handoverCopyAccepted s (fun t => t.hma.grant = some (otherPilot h.old) ∧
        (t.pilot (otherPilot h.old)).linkEn = true ∧ (t.pilot h.old).linkEn = (s.pilot h.old).linkEn ∧
        t.hma.handover = some { h with granted := some s.now } ∧
        t.hma.takeover = some (s.synced (otherPilot h.old) && s.copyCompat) ∧
        SameRegs [.PLT_LAST_CAUSE_CODE, .PLT_LAST_CAUSE_PILOT] s t ∧ SameMem s t)) ∧
  (∀ (s : State), s.hmaOk = false ∨ s.hma.handover.all (fun h => !h.accepted || h.granted.isSome) = true →
    Runs .handoverCopyAccepted s (fun t => t = s)) ∧
  (∀ (s : State) (h : Handover), s.hma.handover = some h → h.sent = true → h.accepted = false →
    Runs .handoverAbandon s (fun t => t.hma.handover = none ∧ t.hma.grant = s.hma.grant ∧
        (∀ p : Fin 2, (t.pilot p).role = (s.pilot p).role ∧ (t.pilot p).linkEn = (s.pilot p).linkEn) ∧
        (t.pilot (otherPilot h.old)).syncedSince = (if s.synced (otherPilot h.old) = true then some s.now else none) ∧
        SameRegs [] s t ∧ SameMem s t)) ∧
  (∀ (s : State), s.hma.handover.all (fun h => !h.sent || h.accepted) = true → Runs .handoverAbandon s (fun t => t = s)) ∧
  (∀ (s : State), s.hmaOk = false ∨ s.hma.handover.all (fun h => h.granted.isNone) = true →
    Runs .handoverOverlapEnd s (fun t => t = s)) ∧
  (∀ (s : State) (h : Handover) (g : Nat), s.hma.handover = some h → h.granted = some g → s.hmaOk = true →
      s.get .SEC_PKG_STATUS_STATE ≠ 3 →
    Runs .handoverOverlapEnd s (fun t => t.hma.handover = none ∧ (t.pilot h.old).linkEn = false ∧
        (t.pilot h.old).role = .standby ∧ t.get .PLT_OVERLAP_LAST = 100 ∧ SameMem s t)) ∧
  (∀ (s : State), s.hma.grant = none → s.hma.noGrant.any (fun x => decide (x + ms ≤ s.now)) = true → s.hma.bwcZero = false →
      s.hmaOk = true →
    Runs .noPilotBwcZero s (fun t => t.hma.bwcZero = true ∧ (∀ p : Fin 2, (t.pilot p).role = .out) ∧ SameMem s t)) ∧
  (∀ (s : State), s.hma.grant ≠ none ∨ s.hmaOk = false ∨ s.hma.bwcZero =
      true ∨ s.hma.noGrant.all (fun x => decide (s.now < x + ms)) = true →
    Runs .noPilotBwcZero s (fun t => t = s)) ∧
  (∀ (s : State) (p : Fin 2), s.hmaOk = true → (s.pilot p).role ≠ .out →
    Runs (.hmaFault p) s (fun t => t.hmaOk = false ∧ t.hma.grant = s.hma.grant ∧ t.hma.handover = none ∧
        (∀ q : Fin 2, (t.pilot q).linkEn = (s.pilot q).linkEn) ∧ t.pins.alert = true ∧ SameMem s t)) ∧
  (∀ (s : State) (p : Fin 2), s.hmaOk = false ∨ (s.pilot p).role = .out → Runs (.hmaFault p) s (fun t => t = s))

/-- R497: the host switch. Which status a refused write has the spec does not say: it is free (log entry 29). That HMA is OK is R499's condition on every handover. -/
def Obligations.HostSwitchStartsAHandoverOrIsRefused : Prop :=
  (∀ (s : State) (src : Source) (p : Fin 2), s.right src = .owner → s.hmaOk = true → s.activePilot = some p →
      (allFin 2).any (fun p : Fin 2 => s.synced p) = true → s.hma.handover = none →
    Runs (.pltSwitch src 0x5A17#16) s (fun t => t.hma = { s.hma with handover := some { cause := 6, old := p } } ∧
        Answered src 0 s t ∧ SameRegs [] s t ∧ SameMem s t)) ∧
  (∀ (s : State) (src : Source), s.right src = .owner →
      s.hma.handover ≠ none ∨ (allFin 2).any (fun p : Fin 2 => s.synced p) = false →
    Runs (.pltSwitch src 0x5A17#16) s (fun t => t.bit .PLT_STATUS_SW_REFUSED = true ∧ t.hma = s.hma ∧ t.pilots = s.pilots ∧
        Answered src s.freeRefusal.2 s t ∧ 1 ≤ s.freeRefusal.2 ∧ s.freeRefusal.2 ≤ 6 ∧
        SameRegs [.PLT_STATUS_SW_REFUSED] s t ∧ SameMem s t)) ∧
  (∀ (s : State) (src : Source) (key : BitVec 16), s.right src = .owner → key ≠ 0x5A17#16 →
    Runs (.pltSwitch src key) s (fun t => t = s.out (.access src 0 0))) ∧
  (∀ (s : State), s.hmaOk = true → s.hma.grant = some 1 → s.activePilot = some 1 → s.synced 0 = true →
      s.hma.handover = none → s.bit .PLT_CFG_AUTO_RETURN = true →
      (s.pilot 0).syncedSince.any (fun x => decide (x + 500 * ms ≤ s.now)) = true →
    Runs .autoReturnStart s (fun t => t.hma = { s.hma with handover := some { cause := 7, old := 1 } } ∧ SameRegs [] s t ∧
        SameMem s t)) ∧
  (∀ (s : State), s.hmaOk = false ∨ s.hma.grant ≠ some 1 ∨ s.synced 0 =
      false ∨ s.hma.handover ≠ none ∨ (s.pilot 0).syncedSince.all (fun x => decide (s.now < x + 500 * ms)) = true →
    Runs .autoReturnStart s (fun t => t = s)) ∧
  (∀ (s : State), s.bit .PLT_CFG_AUTO_RETURN = false → Runs .autoReturnStart s (fun t => t = s))

/-- R504 to R509, R511, R513, Table 20-1: the slipway. -/
def Obligations.SlipwayDrainsAndRemovals : Prop :=
  (∀ (s : State) (src : Source), s.right src = .owner → s.hplState = 0 → s.ready rSUP = true →
    Runs (.hplDrain src 0xD2A1#16) s (fun t => t.hplState = 1 ∧ t.get .HPL_STATE_DRAIN_SRC = 0 ∧ t.hpl.since = s.now ∧
        t.bit .HPL_STATE_REFUSED = s.bit .HPL_STATE_REFUSED ∧
        (∀ b : Fin 8, (s.berth b).desc.isSome = true → (t.berth b).hold = true) ∧ Answered src 0 s t ∧ SameMem s t)) ∧
  (∀ (s : State) (src : Source), s.right src = .owner → s.hplState ≠ 0 ∨ s.ready rSUP = false →
    Runs (.hplDrain src 0xD2A1#16) s (fun t => t.bit .HPL_STATE_REFUSED = true ∧ t.hpl = s.hpl ∧ Answered src 5 s t ∧
        SameRegs [.HPL_STATE_REFUSED] s t ∧ SameMem s t)) ∧
  (∀ (s : State) (src : Source) (key : BitVec 16), s.right src = .owner → key ≠ 0xD2A1#16 → key ≠ 0xCA9C#16 →
    Runs (.hplDrain src key) s (fun t => t = s.out (.access src 0 0))) ∧
  (∀ (s : State) (src : Source), s.right src = .owner → s.hplState = 1 ∨ s.hplState = 2 →
    Runs (.hplCancel src 0xCA9C#16) s (fun t => t.hplState = 0 ∧ t.bit .BWR_STATUS_DRAIN = false ∧ t.berths = s.berths ∧
        t.rhd = s.rhd ∧ Answered src 0 s t ∧ SameMem s t)) ∧
  (∀ (s : State) (src : Source), s.right src = .owner → s.hplState ≠ 1 → s.hplState ≠ 2 →
    Runs (.hplCancel src 0xCA9C#16) s (fun t => t.bit .HPL_STATE_REFUSED = true ∧ t.hpl = s.hpl ∧ Answered src 5 s t ∧
        SameRegs [.HPL_STATE_REFUSED] s t ∧ SameMem s t)) ∧
  (∀ (s : State), s.hplState = 1 → (s.berthsHere.all (fun b : Fin 8 => s.quiesced b && s.outOfDomain b)) = true →
    Runs .drainQuiesced s (fun t => t.hplState = 2 ∧ t.bit .BWR_STATUS_DRAIN = true ∧ t.hpl.since = s.now ∧
        SameRegs [.HPL_STATE_STATE, .BWR_STATUS_DRAIN] s t ∧ SameMem s t)) ∧
  (∀ (s : State), s.hplState ≠ 1 ∨ (s.berthsHere.all (fun b : Fin 8 => s.quiesced b && s.outOfDomain b)) = false →
    Runs .drainQuiesced s (fun t => t = s)) ∧
  (∀ (s : State) (b : Fin 8), s.hplState = 1 → s.rhdState b = 4 ∨ s.rhdState b = 5 →
      (s.berthDies b).all (fun d : Fin 8 => s.streamState d == 0 || s.streamState d == 2) = true →
    Runs (.drainBerthLeave b) s (fun t => t.rhdState b = 0 ∧ t.get .RHD_MEMBERS_COUNT b = 0 ∧ SameMem s t)) ∧
  (∀ (s : State) (b : Fin 8), s.hplState ≠ 1 ∨ (s.rhdState b ≠ 4 ∧ s.rhdState b ≠ 5) ∨ (s.berthDies b).all (fun d : Fin 8 =>
      s.streamState d == 0 || s.streamState d == 2) = false →
    Runs (.drainBerthLeave b) s (fun t => t = s)) ∧
  (∀ (s : State), s.hplState = 1 → s.hplLong (s.get .HPL_CFG_QUIESCE_S) = true →
    Runs .quiesceTimeout s (fun t => t.hplState = 2 ∧ t.bit .BWR_STATUS_DRAIN = true ∧
        (s.flashBusy 0 = false → s.flashBusy 1 = false →
        ∀ b : Fin 8, bitAt t.rst.requested (24 + b.val) =
        (bitAt s.rst.requested (24 + b.val) || (s.berthsHere.contains b && !s.quiesced b))) ∧
        (s.berthsHere.any (fun b : Fin 8 => !s.quiesced b) = true → t.pins.alert = true) ∧ SameMem s t)) ∧
  (∀ (s : State), s.hplState ≠ 1 ∨ s.hplLong (s.get .HPL_CFG_QUIESCE_S) = false → Runs .quiesceTimeout s (fun t => t = s)) ∧
  (∀ (s : State), s.hplState = 2 → s.get .BWR_SOC_PCT_X100 ≤ 3050 ∨ s.ready rBWR = false →
    Runs .dischargeEnd s (fun t => t.hplState = 3 ∧ t.hpl.since = s.now ∧ SameRegs [.HPL_STATE_STATE] s t ∧ SameMem s t)) ∧
  (∀ (s : State), s.hplState ≠ 2 ∨ (3050 < s.get .BWR_SOC_PCT_X100 ∧ s.ready rBWR = true) →
    Runs .dischargeEnd s (fun t => t = s)) ∧
  (∀ (s : State), s.hplState = 2 → s.hplLong (s.get .HPL_CFG_DISCH_S) = true →
    Runs .dischargeTimeout s (fun t => t.hplState = 3 ∧ t.hpl.since = s.now ∧ t.pins.alert = true ∧ SameMem s t)) ∧
  (∀ (s : State), s.hplState ≠ 2 ∨ s.hplLong (s.get .HPL_CFG_DISCH_S) = false → Runs .dischargeTimeout s (fun t => t = s)) ∧
  (∀ (s : State), s.hplState = 3 →
    Runs .drainStopping s (fun t => t.hplState = 4 ∧ t.net.sessions = [] ∧ t.iso = 0 ∧ t.get .BWR_BWC_CMD_W = 0 ∧
        t.bit .PWR_IN_STATUS_HS_ON = false ∧ t.inReset 6 = true ∧ (∀ r : Fin 46, (t.wanted (Fin.ofNat 50 r.val)).en = false))) ∧
  (∀ (s : State), s.hplState ≠ 3 → Runs .drainStopping s (fun t => t = s)) ∧
  (∀ (s : State), s.hplState = 5 → s.iso = 0 ∨ (s.bit .LOG_STATUS_FLUSHING = false ∧ s.hpl.recorded = true) →
    Runs .surpriseHoldOpen s (fun t => t.hplState = 6 ∧ t.iso = 0 ∧ t.riding = false ∧ t.get .BWR_BWC_CMD_W = 0 ∧
        SameMem s t)) ∧
  (∀ (s : State), s.hplState ≠ 5 ∨ (s.iso ≠ 0 ∧ (s.bit .LOG_STATUS_FLUSHING = true ∨ s.hpl.recorded = false)) →
    Runs .surpriseHoldOpen s (fun t => t = s))

/-- R7, R8, R10, R113, R457: register accesses. Statuses 1, 2 and 4 are Table 2-8's. -/
def Obligations.RegisterAccessesFollowTheirCodes : Prop :=
  (∀ (s : State) (src : Source) (a v : BitVec 32), s.right src = .owner → a.toNat % 4 ≠ 0 →
    Runs (.registerWrite src a v) s (fun t => t = s.out (.access src 1 0))) ∧
  (∀ (s : State) (src : Source) (a v : BitVec 32), s.right src = .owner → a.toNat % 4 = 0 → spotOf a.toNat = none →
    Runs (.registerWrite src a v) s (fun t => t = s.out (.access src 2 0))) ∧
  (∀ (s : State) (src : Source) (v : BitVec 32), s.right src = .owner →
    Runs (.registerWrite src 0x00000000#32 v) s (fun t => t = s.out (.access src 0 0))) ∧
  (∀ (s : State) (src : Source) (v : BitVec 32), s.right src = .owner →
    Runs (.registerWrite src 0x001B0028#32 v) s (fun t => t.get .CAP_MEMB_RATIO = v.toNat % 2 ^ 16 ∧ Answered src 0 s t ∧
        SameRegs [.CAP_MEMB_RATIO, .CAP_MEMB_ENABLE] s t ∧ SameMem s t)) ∧
  (∀ (s : State) (src : Source) (v : BitVec 32), s.right src = .owner →
    Runs (.registerWrite src 0x001A0014#32 v) s (fun t =>
        t.get .CEL_STACK_TOL_MV = (if 20 ≤ v.toNat % 256 then v.toNat % 256 else s.get .CEL_STACK_TOL_MV) ∧
        Answered src 0 s t ∧ SameRegs [.CEL_STACK_TOL_MV] s t ∧ SameMem s t)) ∧
  (∀ (s : State) (src : Source), s.right src = .owner →
    Runs (.registerWrite src 0x00020000#32 0x40#32) s (fun t => t.bit .PLT_STATUS_SW_REFUSED = false ∧ Answered src 0 s t ∧
        SameRegs [.PLT_STATUS_SW_REFUSED] s t ∧ SameMem s t)) ∧
  (∀ (s : State) (src : Source), s.right src = .owner →
    Runs (.registerWrite src 0x00020000#32 0#32) s (fun t => t = s.out (.access src 0 0))) ∧
  (∀ (s : State) (src : Source) (v : BitVec 32), s.right src = .owner → s.iso ≠ 0 →
    Runs (.registerWrite src 0x001A000C#32 v) s (fun t => t.bit .CEL_STATUS_LOCK_ERR = true ∧ Answered src 4 s t ∧
        SameRegs [.CEL_STATUS_LOCK_ERR] s t ∧ SameMem s t)) ∧
  (∀ (s : State) (src : Source) (v : BitVec 32), s.right src = .owner → s.iso = 0 → 1900 ≤ v.toNat % 2 ^ 12 ∧
      v.toNat % 2 ^ 12 ≤ 2150 → 3900 ≤ v.toNat / 2 ^ 16 % 2 ^ 12 ∧ v.toNat / 2 ^ 16 % 2 ^ 12 ≤ 4100 →
    Runs (.registerWrite src 0x001A000C#32 v) s (fun t => t.get .CEL_COMP_UV_MV = v.toNat % 2 ^ 12 ∧
        t.get .CEL_COMP_OV_MV = v.toNat / 2 ^ 16 % 2 ^ 12 ∧ Answered src 0 s t ∧
        SameRegs [.CEL_COMP_UV_MV, .CEL_COMP_OV_MV] s t ∧ SameMem s t)) ∧
  (∀ (s : State) (src : Source) (a : BitVec 32), s.right src = .owner → a.toNat % 4 ≠ 0 →
    Runs (.counterLoRead src a) s (fun t => t = s.out (.access src 1 0))) ∧
  (∀ (s : State) (src : Source) (a : BitVec 32), s.right src = .owner → a.toNat % 4 = 0 → spotOf a.toNat = none →
    Runs (.counterLoRead src a) s (fun t => t = s.out (.access src 2 0))) ∧
  (∀ (s : State) (src : Source) (d : Fin 8), s.right src = .owner →
    Runs (.counterLoRead src (BitVec.ofNat 32 (0x1B0080 + 8 * d.val))) s (fun t =>
        t.tx = s.tx ++ [.access src 0 (s.get .CAP_DIE_J_J 0 d % 2 ^ 32)] ∧
        t.hiLatch.head? = some (⟨.CAP_DIE_J_J, 0, d.val⟩, s.get .CAP_DIE_J_J 0 d / 2 ^ 32) ∧
        t.wordAt src .cap 0 (0x84 + 8 * d.val) = s.get .CAP_DIE_J_J 0 d / 2 ^ 32 % 2 ^ 32 ∧ SameRegs [] s t ∧ SameMem s t))
end

