-- ==== Sys2Proof/Laws/State.lean ====
section
/-! SUPPORT. Small laws of the named operations on the state: what each leaves alone, one lemma for each field of `State`, and what
a register field reads after a write. -/

namespace Sys2Proof.Machine

variable (s : State)

/-! ### `State.set` -/

@[simp] theorem State.set_now (f : Fld) (v i j : Nat) : (s.set f v i j).now = s.now := rfl
@[simp] theorem State.set_fresh (f : Fld) (v i j : Nat) : (s.set f v i j).fresh = s.fresh := rfl
@[simp] theorem State.set_tx (f : Fld) (v i j : Nat) : (s.set f v i j).tx = s.tx := rfl
@[simp] theorem State.set_pending (f : Fld) (v i j : Nat) : (s.set f v i j).pending = s.pending := rfl
@[simp] theorem State.set_hiLatch (f : Fld) (v i j : Nat) : (s.set f v i j).hiLatch = s.hiLatch := rfl
@[simp] theorem State.set_mem (f : Fld) (v i j : Nat) : (s.set f v i j).mem = s.mem := rfl
@[simp] theorem State.set_pins (f : Fld) (v i j : Nat) : (s.set f v i j).pins = s.pins := rfl
@[simp] theorem State.set_rst (f : Fld) (v i j : Nat) : (s.set f v i j).rst = s.rst := rfl
@[simp] theorem State.set_dies (f : Fld) (v i j : Nat) : (s.set f v i j).dies = s.dies := rfl
@[simp] theorem State.set_quays (f : Fld) (v i j : Nat) : (s.set f v i j).quays = s.quays := rfl
@[simp] theorem State.set_fwy (f : Fld) (v i j : Nat) : (s.set f v i j).fwy = s.fwy := rfl
@[simp] theorem State.set_net (f : Fld) (v i j : Nat) : (s.set f v i j).net = s.net := rfl
@[simp] theorem State.set_rhd (f : Fld) (v i j : Nat) : (s.set f v i j).rhd = s.rhd := rfl
@[simp] theorem State.set_berths (f : Fld) (v i j : Nat) : (s.set f v i j).berths = s.berths := rfl
@[simp] theorem State.set_img (f : Fld) (v i j : Nat) : (s.set f v i j).img = s.img := rfl
@[simp] theorem State.set_pilots (f : Fld) (v i j : Nat) : (s.set f v i j).pilots = s.pilots := rfl
@[simp] theorem State.set_hma (f : Fld) (v i j : Nat) : (s.set f v i j).hma = s.hma := rfl
@[simp] theorem State.set_hpl (f : Fld) (v i j : Nat) : (s.set f v i j).hpl = s.hpl := rfl
@[simp] theorem State.set_log (f : Fld) (v i j : Nat) : (s.set f v i j).log = s.log := rfl
@[simp] theorem State.set_cvu (f : Fld) (v i j : Nat) : (s.set f v i j).cvu = s.cvu := rfl
@[simp] theorem State.set_pwr (f : Fld) (v i j : Nat) : (s.set f v i j).pwr = s.pwr := rfl
@[simp] theorem State.set_bwr (f : Fld) (v i j : Nat) : (s.set f v i j).bwr = s.bwr := rfl
@[simp] theorem State.set_outs (f : Fld) (v i j : Nat) : (s.set f v i j).outs = s.outs := rfl
@[simp] theorem State.set_cte (f : Fld) (v i j : Nat) : (s.set f v i j).cte = s.cte := rfl
@[simp] theorem State.set_cel (f : Fld) (v i j : Nat) : (s.set f v i j).cel = s.cel := rfl
@[simp] theorem State.set_cap (f : Fld) (v i j : Nat) : (s.set f v i j).cap = s.cap := rfl
@[simp] theorem State.set_sec (f : Fld) (v i j : Nat) : (s.set f v i j).sec = s.sec := rfl
@[simp] theorem State.set_flashLoaded (f : Fld) (v i j : Nat) : (s.set f v i j).flashLoaded = s.flashLoaded := rfl
@[simp] theorem State.set_copySent (f : Fld) (v i j : Nat) : (s.set f v i j).copySent = s.copySent := rfl
@[simp] theorem State.set_copyHeld (f : Fld) (v i j : Nat) : (s.set f v i j).copyHeld = s.copyHeld := rfl

/-! ### `State.setBit` -/

@[simp] theorem State.setBit_now (f : Fld) (v : Bool) (i j : Nat) : (s.setBit f v i j).now = s.now := rfl
@[simp] theorem State.setBit_fresh (f : Fld) (v : Bool) (i j : Nat) : (s.setBit f v i j).fresh = s.fresh := rfl
@[simp] theorem State.setBit_tx (f : Fld) (v : Bool) (i j : Nat) : (s.setBit f v i j).tx = s.tx := rfl
@[simp] theorem State.setBit_pending (f : Fld) (v : Bool) (i j : Nat) : (s.setBit f v i j).pending = s.pending := rfl
@[simp] theorem State.setBit_hiLatch (f : Fld) (v : Bool) (i j : Nat) : (s.setBit f v i j).hiLatch = s.hiLatch := rfl
@[simp] theorem State.setBit_mem (f : Fld) (v : Bool) (i j : Nat) : (s.setBit f v i j).mem = s.mem := rfl
@[simp] theorem State.setBit_pins (f : Fld) (v : Bool) (i j : Nat) : (s.setBit f v i j).pins = s.pins := rfl
@[simp] theorem State.setBit_rst (f : Fld) (v : Bool) (i j : Nat) : (s.setBit f v i j).rst = s.rst := rfl
@[simp] theorem State.setBit_dies (f : Fld) (v : Bool) (i j : Nat) : (s.setBit f v i j).dies = s.dies := rfl
@[simp] theorem State.setBit_quays (f : Fld) (v : Bool) (i j : Nat) : (s.setBit f v i j).quays = s.quays := rfl
@[simp] theorem State.setBit_fwy (f : Fld) (v : Bool) (i j : Nat) : (s.setBit f v i j).fwy = s.fwy := rfl
@[simp] theorem State.setBit_net (f : Fld) (v : Bool) (i j : Nat) : (s.setBit f v i j).net = s.net := rfl
@[simp] theorem State.setBit_rhd (f : Fld) (v : Bool) (i j : Nat) : (s.setBit f v i j).rhd = s.rhd := rfl
@[simp] theorem State.setBit_berths (f : Fld) (v : Bool) (i j : Nat) : (s.setBit f v i j).berths = s.berths := rfl
@[simp] theorem State.setBit_img (f : Fld) (v : Bool) (i j : Nat) : (s.setBit f v i j).img = s.img := rfl
@[simp] theorem State.setBit_pilots (f : Fld) (v : Bool) (i j : Nat) : (s.setBit f v i j).pilots = s.pilots := rfl
@[simp] theorem State.setBit_hma (f : Fld) (v : Bool) (i j : Nat) : (s.setBit f v i j).hma = s.hma := rfl
@[simp] theorem State.setBit_hpl (f : Fld) (v : Bool) (i j : Nat) : (s.setBit f v i j).hpl = s.hpl := rfl
@[simp] theorem State.setBit_log (f : Fld) (v : Bool) (i j : Nat) : (s.setBit f v i j).log = s.log := rfl
@[simp] theorem State.setBit_cvu (f : Fld) (v : Bool) (i j : Nat) : (s.setBit f v i j).cvu = s.cvu := rfl
@[simp] theorem State.setBit_pwr (f : Fld) (v : Bool) (i j : Nat) : (s.setBit f v i j).pwr = s.pwr := rfl
@[simp] theorem State.setBit_bwr (f : Fld) (v : Bool) (i j : Nat) : (s.setBit f v i j).bwr = s.bwr := rfl
@[simp] theorem State.setBit_outs (f : Fld) (v : Bool) (i j : Nat) : (s.setBit f v i j).outs = s.outs := rfl
@[simp] theorem State.setBit_cte (f : Fld) (v : Bool) (i j : Nat) : (s.setBit f v i j).cte = s.cte := rfl
@[simp] theorem State.setBit_cel (f : Fld) (v : Bool) (i j : Nat) : (s.setBit f v i j).cel = s.cel := rfl
@[simp] theorem State.setBit_cap (f : Fld) (v : Bool) (i j : Nat) : (s.setBit f v i j).cap = s.cap := rfl
@[simp] theorem State.setBit_sec (f : Fld) (v : Bool) (i j : Nat) : (s.setBit f v i j).sec = s.sec := rfl
@[simp] theorem State.setBit_flashLoaded (f : Fld) (v : Bool) (i j : Nat) : (s.setBit f v i j).flashLoaded = s.flashLoaded := rfl
@[simp] theorem State.setBit_copySent (f : Fld) (v : Bool) (i j : Nat) : (s.setBit f v i j).copySent = s.copySent := rfl
@[simp] theorem State.setBit_copyHeld (f : Fld) (v : Bool) (i j : Nat) : (s.setBit f v i j).copyHeld = s.copyHeld := rfl

/-! ### `State.clearFlds` -/

@[simp] theorem State.clearFlds_now (fs : List Fld) (i : Nat) : (s.clearFlds fs i).now = s.now := rfl
@[simp] theorem State.clearFlds_fresh (fs : List Fld) (i : Nat) : (s.clearFlds fs i).fresh = s.fresh := rfl
@[simp] theorem State.clearFlds_tx (fs : List Fld) (i : Nat) : (s.clearFlds fs i).tx = s.tx := rfl
@[simp] theorem State.clearFlds_pending (fs : List Fld) (i : Nat) : (s.clearFlds fs i).pending = s.pending := rfl
@[simp] theorem State.clearFlds_hiLatch (fs : List Fld) (i : Nat) : (s.clearFlds fs i).hiLatch = s.hiLatch := rfl
@[simp] theorem State.clearFlds_mem (fs : List Fld) (i : Nat) : (s.clearFlds fs i).mem = s.mem := rfl
@[simp] theorem State.clearFlds_pins (fs : List Fld) (i : Nat) : (s.clearFlds fs i).pins = s.pins := rfl
@[simp] theorem State.clearFlds_rst (fs : List Fld) (i : Nat) : (s.clearFlds fs i).rst = s.rst := rfl
@[simp] theorem State.clearFlds_dies (fs : List Fld) (i : Nat) : (s.clearFlds fs i).dies = s.dies := rfl
@[simp] theorem State.clearFlds_quays (fs : List Fld) (i : Nat) : (s.clearFlds fs i).quays = s.quays := rfl
@[simp] theorem State.clearFlds_fwy (fs : List Fld) (i : Nat) : (s.clearFlds fs i).fwy = s.fwy := rfl
@[simp] theorem State.clearFlds_net (fs : List Fld) (i : Nat) : (s.clearFlds fs i).net = s.net := rfl
@[simp] theorem State.clearFlds_rhd (fs : List Fld) (i : Nat) : (s.clearFlds fs i).rhd = s.rhd := rfl
@[simp] theorem State.clearFlds_berths (fs : List Fld) (i : Nat) : (s.clearFlds fs i).berths = s.berths := rfl
@[simp] theorem State.clearFlds_img (fs : List Fld) (i : Nat) : (s.clearFlds fs i).img = s.img := rfl
@[simp] theorem State.clearFlds_pilots (fs : List Fld) (i : Nat) : (s.clearFlds fs i).pilots = s.pilots := rfl
@[simp] theorem State.clearFlds_hma (fs : List Fld) (i : Nat) : (s.clearFlds fs i).hma = s.hma := rfl
@[simp] theorem State.clearFlds_hpl (fs : List Fld) (i : Nat) : (s.clearFlds fs i).hpl = s.hpl := rfl
@[simp] theorem State.clearFlds_log (fs : List Fld) (i : Nat) : (s.clearFlds fs i).log = s.log := rfl
@[simp] theorem State.clearFlds_cvu (fs : List Fld) (i : Nat) : (s.clearFlds fs i).cvu = s.cvu := rfl
@[simp] theorem State.clearFlds_pwr (fs : List Fld) (i : Nat) : (s.clearFlds fs i).pwr = s.pwr := rfl
@[simp] theorem State.clearFlds_bwr (fs : List Fld) (i : Nat) : (s.clearFlds fs i).bwr = s.bwr := rfl
@[simp] theorem State.clearFlds_outs (fs : List Fld) (i : Nat) : (s.clearFlds fs i).outs = s.outs := rfl
@[simp] theorem State.clearFlds_cte (fs : List Fld) (i : Nat) : (s.clearFlds fs i).cte = s.cte := rfl
@[simp] theorem State.clearFlds_cel (fs : List Fld) (i : Nat) : (s.clearFlds fs i).cel = s.cel := rfl
@[simp] theorem State.clearFlds_cap (fs : List Fld) (i : Nat) : (s.clearFlds fs i).cap = s.cap := rfl
@[simp] theorem State.clearFlds_sec (fs : List Fld) (i : Nat) : (s.clearFlds fs i).sec = s.sec := rfl
@[simp] theorem State.clearFlds_flashLoaded (fs : List Fld) (i : Nat) : (s.clearFlds fs i).flashLoaded = s.flashLoaded := rfl
@[simp] theorem State.clearFlds_copySent (fs : List Fld) (i : Nat) : (s.clearFlds fs i).copySent = s.copySent := rfl
@[simp] theorem State.clearFlds_copyHeld (fs : List Fld) (i : Nat) : (s.clearFlds fs i).copyHeld = s.copyHeld := rfl

/-! ### `State.clearAll` -/

@[simp] theorem State.clearAll_now (fs : List Fld) : (s.clearAll fs).now = s.now := rfl
@[simp] theorem State.clearAll_fresh (fs : List Fld) : (s.clearAll fs).fresh = s.fresh := rfl
@[simp] theorem State.clearAll_tx (fs : List Fld) : (s.clearAll fs).tx = s.tx := rfl
@[simp] theorem State.clearAll_pending (fs : List Fld) : (s.clearAll fs).pending = s.pending := rfl
@[simp] theorem State.clearAll_hiLatch (fs : List Fld) : (s.clearAll fs).hiLatch = s.hiLatch := rfl
@[simp] theorem State.clearAll_mem (fs : List Fld) : (s.clearAll fs).mem = s.mem := rfl
@[simp] theorem State.clearAll_pins (fs : List Fld) : (s.clearAll fs).pins = s.pins := rfl
@[simp] theorem State.clearAll_rst (fs : List Fld) : (s.clearAll fs).rst = s.rst := rfl
@[simp] theorem State.clearAll_dies (fs : List Fld) : (s.clearAll fs).dies = s.dies := rfl
@[simp] theorem State.clearAll_quays (fs : List Fld) : (s.clearAll fs).quays = s.quays := rfl
@[simp] theorem State.clearAll_fwy (fs : List Fld) : (s.clearAll fs).fwy = s.fwy := rfl
@[simp] theorem State.clearAll_net (fs : List Fld) : (s.clearAll fs).net = s.net := rfl
@[simp] theorem State.clearAll_rhd (fs : List Fld) : (s.clearAll fs).rhd = s.rhd := rfl
@[simp] theorem State.clearAll_berths (fs : List Fld) : (s.clearAll fs).berths = s.berths := rfl
@[simp] theorem State.clearAll_img (fs : List Fld) : (s.clearAll fs).img = s.img := rfl
@[simp] theorem State.clearAll_pilots (fs : List Fld) : (s.clearAll fs).pilots = s.pilots := rfl
@[simp] theorem State.clearAll_hma (fs : List Fld) : (s.clearAll fs).hma = s.hma := rfl
@[simp] theorem State.clearAll_hpl (fs : List Fld) : (s.clearAll fs).hpl = s.hpl := rfl
@[simp] theorem State.clearAll_log (fs : List Fld) : (s.clearAll fs).log = s.log := rfl
@[simp] theorem State.clearAll_cvu (fs : List Fld) : (s.clearAll fs).cvu = s.cvu := rfl
@[simp] theorem State.clearAll_pwr (fs : List Fld) : (s.clearAll fs).pwr = s.pwr := rfl
@[simp] theorem State.clearAll_bwr (fs : List Fld) : (s.clearAll fs).bwr = s.bwr := rfl
@[simp] theorem State.clearAll_outs (fs : List Fld) : (s.clearAll fs).outs = s.outs := rfl
@[simp] theorem State.clearAll_cte (fs : List Fld) : (s.clearAll fs).cte = s.cte := rfl
@[simp] theorem State.clearAll_cel (fs : List Fld) : (s.clearAll fs).cel = s.cel := rfl
@[simp] theorem State.clearAll_cap (fs : List Fld) : (s.clearAll fs).cap = s.cap := rfl
@[simp] theorem State.clearAll_sec (fs : List Fld) : (s.clearAll fs).sec = s.sec := rfl
@[simp] theorem State.clearAll_flashLoaded (fs : List Fld) : (s.clearAll fs).flashLoaded = s.flashLoaded := rfl
@[simp] theorem State.clearAll_copySent (fs : List Fld) : (s.clearAll fs).copySent = s.copySent := rfl
@[simp] theorem State.clearAll_copyHeld (fs : List Fld) : (s.clearAll fs).copyHeld = s.copyHeld := rfl

/-! ### `State.count` -/

@[simp] theorem State.count_now (z f : Fld) (n i j : Nat) : (s.count z f n i j).now = s.now := by unfold State.count; split <;> rfl
@[simp] theorem State.count_fresh (z f : Fld) (n i j : Nat) : (s.count z f n i j).fresh = s.fresh := by unfold State.count; split <;> rfl
@[simp] theorem State.count_tx (z f : Fld) (n i j : Nat) : (s.count z f n i j).tx = s.tx := by unfold State.count; split <;> rfl
@[simp] theorem State.count_pending (z f : Fld) (n i j : Nat) : (s.count z f n i j).pending = s.pending := by unfold State.count; split <;> rfl
@[simp] theorem State.count_hiLatch (z f : Fld) (n i j : Nat) : (s.count z f n i j).hiLatch = s.hiLatch := by unfold State.count; split <;> rfl
@[simp] theorem State.count_mem (z f : Fld) (n i j : Nat) : (s.count z f n i j).mem = s.mem := by unfold State.count; split <;> rfl
@[simp] theorem State.count_pins (z f : Fld) (n i j : Nat) : (s.count z f n i j).pins = s.pins := by unfold State.count; split <;> rfl
@[simp] theorem State.count_rst (z f : Fld) (n i j : Nat) : (s.count z f n i j).rst = s.rst := by unfold State.count; split <;> rfl
@[simp] theorem State.count_dies (z f : Fld) (n i j : Nat) : (s.count z f n i j).dies = s.dies := by unfold State.count; split <;> rfl
@[simp] theorem State.count_quays (z f : Fld) (n i j : Nat) : (s.count z f n i j).quays = s.quays := by unfold State.count; split <;> rfl
@[simp] theorem State.count_fwy (z f : Fld) (n i j : Nat) : (s.count z f n i j).fwy = s.fwy := by unfold State.count; split <;> rfl
@[simp] theorem State.count_net (z f : Fld) (n i j : Nat) : (s.count z f n i j).net = s.net := by unfold State.count; split <;> rfl
@[simp] theorem State.count_rhd (z f : Fld) (n i j : Nat) : (s.count z f n i j).rhd = s.rhd := by unfold State.count; split <;> rfl
@[simp] theorem State.count_berths (z f : Fld) (n i j : Nat) : (s.count z f n i j).berths = s.berths := by unfold State.count; split <;> rfl
@[simp] theorem State.count_img (z f : Fld) (n i j : Nat) : (s.count z f n i j).img = s.img := by unfold State.count; split <;> rfl
@[simp] theorem State.count_pilots (z f : Fld) (n i j : Nat) : (s.count z f n i j).pilots = s.pilots := by unfold State.count; split <;> rfl
@[simp] theorem State.count_hma (z f : Fld) (n i j : Nat) : (s.count z f n i j).hma = s.hma := by unfold State.count; split <;> rfl
@[simp] theorem State.count_hpl (z f : Fld) (n i j : Nat) : (s.count z f n i j).hpl = s.hpl := by unfold State.count; split <;> rfl
@[simp] theorem State.count_log (z f : Fld) (n i j : Nat) : (s.count z f n i j).log = s.log := by unfold State.count; split <;> rfl
@[simp] theorem State.count_cvu (z f : Fld) (n i j : Nat) : (s.count z f n i j).cvu = s.cvu := by unfold State.count; split <;> rfl
@[simp] theorem State.count_pwr (z f : Fld) (n i j : Nat) : (s.count z f n i j).pwr = s.pwr := by unfold State.count; split <;> rfl
@[simp] theorem State.count_bwr (z f : Fld) (n i j : Nat) : (s.count z f n i j).bwr = s.bwr := by unfold State.count; split <;> rfl
@[simp] theorem State.count_outs (z f : Fld) (n i j : Nat) : (s.count z f n i j).outs = s.outs := by unfold State.count; split <;> rfl
@[simp] theorem State.count_cte (z f : Fld) (n i j : Nat) : (s.count z f n i j).cte = s.cte := by unfold State.count; split <;> rfl
@[simp] theorem State.count_cel (z f : Fld) (n i j : Nat) : (s.count z f n i j).cel = s.cel := by unfold State.count; split <;> rfl
@[simp] theorem State.count_cap (z f : Fld) (n i j : Nat) : (s.count z f n i j).cap = s.cap := by unfold State.count; split <;> rfl
@[simp] theorem State.count_sec (z f : Fld) (n i j : Nat) : (s.count z f n i j).sec = s.sec := by unfold State.count; split <;> rfl
@[simp] theorem State.count_flashLoaded (z f : Fld) (n i j : Nat) : (s.count z f n i j).flashLoaded = s.flashLoaded := by unfold State.count; split <;> rfl
@[simp] theorem State.count_copySent (z f : Fld) (n i j : Nat) : (s.count z f n i j).copySent = s.copySent := by unfold State.count; split <;> rfl
@[simp] theorem State.count_copyHeld (z f : Fld) (n i j : Nat) : (s.count z f n i j).copyHeld = s.copyHeld := by unfold State.count; split <;> rfl

/-! ### `State.tally` -/

@[simp] theorem State.tally_now (f : Fld) (n i j : Nat) : (s.tally f n i j).now = s.now := rfl
@[simp] theorem State.tally_fresh (f : Fld) (n i j : Nat) : (s.tally f n i j).fresh = s.fresh := rfl
@[simp] theorem State.tally_tx (f : Fld) (n i j : Nat) : (s.tally f n i j).tx = s.tx := rfl
@[simp] theorem State.tally_pending (f : Fld) (n i j : Nat) : (s.tally f n i j).pending = s.pending := rfl
@[simp] theorem State.tally_hiLatch (f : Fld) (n i j : Nat) : (s.tally f n i j).hiLatch = s.hiLatch := rfl
@[simp] theorem State.tally_mem (f : Fld) (n i j : Nat) : (s.tally f n i j).mem = s.mem := rfl
@[simp] theorem State.tally_pins (f : Fld) (n i j : Nat) : (s.tally f n i j).pins = s.pins := rfl
@[simp] theorem State.tally_rst (f : Fld) (n i j : Nat) : (s.tally f n i j).rst = s.rst := rfl
@[simp] theorem State.tally_dies (f : Fld) (n i j : Nat) : (s.tally f n i j).dies = s.dies := rfl
@[simp] theorem State.tally_quays (f : Fld) (n i j : Nat) : (s.tally f n i j).quays = s.quays := rfl
@[simp] theorem State.tally_fwy (f : Fld) (n i j : Nat) : (s.tally f n i j).fwy = s.fwy := rfl
@[simp] theorem State.tally_net (f : Fld) (n i j : Nat) : (s.tally f n i j).net = s.net := rfl
@[simp] theorem State.tally_rhd (f : Fld) (n i j : Nat) : (s.tally f n i j).rhd = s.rhd := rfl
@[simp] theorem State.tally_berths (f : Fld) (n i j : Nat) : (s.tally f n i j).berths = s.berths := rfl
@[simp] theorem State.tally_img (f : Fld) (n i j : Nat) : (s.tally f n i j).img = s.img := rfl
@[simp] theorem State.tally_pilots (f : Fld) (n i j : Nat) : (s.tally f n i j).pilots = s.pilots := rfl
@[simp] theorem State.tally_hma (f : Fld) (n i j : Nat) : (s.tally f n i j).hma = s.hma := rfl
@[simp] theorem State.tally_hpl (f : Fld) (n i j : Nat) : (s.tally f n i j).hpl = s.hpl := rfl
@[simp] theorem State.tally_log (f : Fld) (n i j : Nat) : (s.tally f n i j).log = s.log := rfl
@[simp] theorem State.tally_cvu (f : Fld) (n i j : Nat) : (s.tally f n i j).cvu = s.cvu := rfl
@[simp] theorem State.tally_pwr (f : Fld) (n i j : Nat) : (s.tally f n i j).pwr = s.pwr := rfl
@[simp] theorem State.tally_bwr (f : Fld) (n i j : Nat) : (s.tally f n i j).bwr = s.bwr := rfl
@[simp] theorem State.tally_outs (f : Fld) (n i j : Nat) : (s.tally f n i j).outs = s.outs := rfl
@[simp] theorem State.tally_cte (f : Fld) (n i j : Nat) : (s.tally f n i j).cte = s.cte := rfl
@[simp] theorem State.tally_cel (f : Fld) (n i j : Nat) : (s.tally f n i j).cel = s.cel := rfl
@[simp] theorem State.tally_cap (f : Fld) (n i j : Nat) : (s.tally f n i j).cap = s.cap := rfl
@[simp] theorem State.tally_sec (f : Fld) (n i j : Nat) : (s.tally f n i j).sec = s.sec := rfl
@[simp] theorem State.tally_flashLoaded (f : Fld) (n i j : Nat) : (s.tally f n i j).flashLoaded = s.flashLoaded := rfl
@[simp] theorem State.tally_copySent (f : Fld) (n i j : Nat) : (s.tally f n i j).copySent = s.copySent := rfl
@[simp] theorem State.tally_copyHeld (f : Fld) (n i j : Nat) : (s.tally f n i j).copyHeld = s.copyHeld := rfl

/-! ### `State.setDie` -/

@[simp] theorem State.setDie_now (d : Fin 8) (x : DieSt) : (s.setDie d x).now = s.now := rfl
@[simp] theorem State.setDie_fresh (d : Fin 8) (x : DieSt) : (s.setDie d x).fresh = s.fresh := rfl
@[simp] theorem State.setDie_tx (d : Fin 8) (x : DieSt) : (s.setDie d x).tx = s.tx := rfl
@[simp] theorem State.setDie_pending (d : Fin 8) (x : DieSt) : (s.setDie d x).pending = s.pending := rfl
@[simp] theorem State.setDie_regs (d : Fin 8) (x : DieSt) : (s.setDie d x).regs = s.regs := rfl
@[simp] theorem State.setDie_hiLatch (d : Fin 8) (x : DieSt) : (s.setDie d x).hiLatch = s.hiLatch := rfl
@[simp] theorem State.setDie_mem (d : Fin 8) (x : DieSt) : (s.setDie d x).mem = s.mem := rfl
@[simp] theorem State.setDie_pins (d : Fin 8) (x : DieSt) : (s.setDie d x).pins = s.pins := rfl
@[simp] theorem State.setDie_rst (d : Fin 8) (x : DieSt) : (s.setDie d x).rst = s.rst := rfl
@[simp] theorem State.setDie_quays (d : Fin 8) (x : DieSt) : (s.setDie d x).quays = s.quays := rfl
@[simp] theorem State.setDie_fwy (d : Fin 8) (x : DieSt) : (s.setDie d x).fwy = s.fwy := rfl
@[simp] theorem State.setDie_net (d : Fin 8) (x : DieSt) : (s.setDie d x).net = s.net := rfl
@[simp] theorem State.setDie_rhd (d : Fin 8) (x : DieSt) : (s.setDie d x).rhd = s.rhd := rfl
@[simp] theorem State.setDie_berths (d : Fin 8) (x : DieSt) : (s.setDie d x).berths = s.berths := rfl
@[simp] theorem State.setDie_img (d : Fin 8) (x : DieSt) : (s.setDie d x).img = s.img := rfl
@[simp] theorem State.setDie_pilots (d : Fin 8) (x : DieSt) : (s.setDie d x).pilots = s.pilots := rfl
@[simp] theorem State.setDie_hma (d : Fin 8) (x : DieSt) : (s.setDie d x).hma = s.hma := rfl
@[simp] theorem State.setDie_hpl (d : Fin 8) (x : DieSt) : (s.setDie d x).hpl = s.hpl := rfl
@[simp] theorem State.setDie_log (d : Fin 8) (x : DieSt) : (s.setDie d x).log = s.log := rfl
@[simp] theorem State.setDie_cvu (d : Fin 8) (x : DieSt) : (s.setDie d x).cvu = s.cvu := rfl
@[simp] theorem State.setDie_pwr (d : Fin 8) (x : DieSt) : (s.setDie d x).pwr = s.pwr := rfl
@[simp] theorem State.setDie_bwr (d : Fin 8) (x : DieSt) : (s.setDie d x).bwr = s.bwr := rfl
@[simp] theorem State.setDie_outs (d : Fin 8) (x : DieSt) : (s.setDie d x).outs = s.outs := rfl
@[simp] theorem State.setDie_cte (d : Fin 8) (x : DieSt) : (s.setDie d x).cte = s.cte := rfl
@[simp] theorem State.setDie_cel (d : Fin 8) (x : DieSt) : (s.setDie d x).cel = s.cel := rfl
@[simp] theorem State.setDie_cap (d : Fin 8) (x : DieSt) : (s.setDie d x).cap = s.cap := rfl
@[simp] theorem State.setDie_sec (d : Fin 8) (x : DieSt) : (s.setDie d x).sec = s.sec := rfl
@[simp] theorem State.setDie_flashLoaded (d : Fin 8) (x : DieSt) : (s.setDie d x).flashLoaded = s.flashLoaded := rfl
@[simp] theorem State.setDie_copySent (d : Fin 8) (x : DieSt) : (s.setDie d x).copySent = s.copySent := rfl
@[simp] theorem State.setDie_copyHeld (d : Fin 8) (x : DieSt) : (s.setDie d x).copyHeld = s.copyHeld := rfl

/-! ### `State.modDie` -/

@[simp] theorem State.modDie_now (d : Fin 8) (g : DieSt → DieSt) : (s.modDie d g).now = s.now := rfl
@[simp] theorem State.modDie_fresh (d : Fin 8) (g : DieSt → DieSt) : (s.modDie d g).fresh = s.fresh := rfl
@[simp] theorem State.modDie_tx (d : Fin 8) (g : DieSt → DieSt) : (s.modDie d g).tx = s.tx := rfl
@[simp] theorem State.modDie_pending (d : Fin 8) (g : DieSt → DieSt) : (s.modDie d g).pending = s.pending := rfl
@[simp] theorem State.modDie_regs (d : Fin 8) (g : DieSt → DieSt) : (s.modDie d g).regs = s.regs := rfl
@[simp] theorem State.modDie_hiLatch (d : Fin 8) (g : DieSt → DieSt) : (s.modDie d g).hiLatch = s.hiLatch := rfl
@[simp] theorem State.modDie_mem (d : Fin 8) (g : DieSt → DieSt) : (s.modDie d g).mem = s.mem := rfl
@[simp] theorem State.modDie_pins (d : Fin 8) (g : DieSt → DieSt) : (s.modDie d g).pins = s.pins := rfl
@[simp] theorem State.modDie_rst (d : Fin 8) (g : DieSt → DieSt) : (s.modDie d g).rst = s.rst := rfl
@[simp] theorem State.modDie_quays (d : Fin 8) (g : DieSt → DieSt) : (s.modDie d g).quays = s.quays := rfl
@[simp] theorem State.modDie_fwy (d : Fin 8) (g : DieSt → DieSt) : (s.modDie d g).fwy = s.fwy := rfl
@[simp] theorem State.modDie_net (d : Fin 8) (g : DieSt → DieSt) : (s.modDie d g).net = s.net := rfl
@[simp] theorem State.modDie_rhd (d : Fin 8) (g : DieSt → DieSt) : (s.modDie d g).rhd = s.rhd := rfl
@[simp] theorem State.modDie_berths (d : Fin 8) (g : DieSt → DieSt) : (s.modDie d g).berths = s.berths := rfl
@[simp] theorem State.modDie_img (d : Fin 8) (g : DieSt → DieSt) : (s.modDie d g).img = s.img := rfl
@[simp] theorem State.modDie_pilots (d : Fin 8) (g : DieSt → DieSt) : (s.modDie d g).pilots = s.pilots := rfl
@[simp] theorem State.modDie_hma (d : Fin 8) (g : DieSt → DieSt) : (s.modDie d g).hma = s.hma := rfl
@[simp] theorem State.modDie_hpl (d : Fin 8) (g : DieSt → DieSt) : (s.modDie d g).hpl = s.hpl := rfl
@[simp] theorem State.modDie_log (d : Fin 8) (g : DieSt → DieSt) : (s.modDie d g).log = s.log := rfl
@[simp] theorem State.modDie_cvu (d : Fin 8) (g : DieSt → DieSt) : (s.modDie d g).cvu = s.cvu := rfl
@[simp] theorem State.modDie_pwr (d : Fin 8) (g : DieSt → DieSt) : (s.modDie d g).pwr = s.pwr := rfl
@[simp] theorem State.modDie_bwr (d : Fin 8) (g : DieSt → DieSt) : (s.modDie d g).bwr = s.bwr := rfl
@[simp] theorem State.modDie_outs (d : Fin 8) (g : DieSt → DieSt) : (s.modDie d g).outs = s.outs := rfl
@[simp] theorem State.modDie_cte (d : Fin 8) (g : DieSt → DieSt) : (s.modDie d g).cte = s.cte := rfl
@[simp] theorem State.modDie_cel (d : Fin 8) (g : DieSt → DieSt) : (s.modDie d g).cel = s.cel := rfl
@[simp] theorem State.modDie_cap (d : Fin 8) (g : DieSt → DieSt) : (s.modDie d g).cap = s.cap := rfl
@[simp] theorem State.modDie_sec (d : Fin 8) (g : DieSt → DieSt) : (s.modDie d g).sec = s.sec := rfl
@[simp] theorem State.modDie_flashLoaded (d : Fin 8) (g : DieSt → DieSt) : (s.modDie d g).flashLoaded = s.flashLoaded := rfl
@[simp] theorem State.modDie_copySent (d : Fin 8) (g : DieSt → DieSt) : (s.modDie d g).copySent = s.copySent := rfl
@[simp] theorem State.modDie_copyHeld (d : Fin 8) (g : DieSt → DieSt) : (s.modDie d g).copyHeld = s.copyHeld := rfl

/-! ### `State.setQuay` -/

@[simp] theorem State.setQuay_now (d : Fin 8) (x : QuaySt) : (s.setQuay d x).now = s.now := rfl
@[simp] theorem State.setQuay_fresh (d : Fin 8) (x : QuaySt) : (s.setQuay d x).fresh = s.fresh := rfl
@[simp] theorem State.setQuay_tx (d : Fin 8) (x : QuaySt) : (s.setQuay d x).tx = s.tx := rfl
@[simp] theorem State.setQuay_pending (d : Fin 8) (x : QuaySt) : (s.setQuay d x).pending = s.pending := rfl
@[simp] theorem State.setQuay_regs (d : Fin 8) (x : QuaySt) : (s.setQuay d x).regs = s.regs := rfl
@[simp] theorem State.setQuay_hiLatch (d : Fin 8) (x : QuaySt) : (s.setQuay d x).hiLatch = s.hiLatch := rfl
@[simp] theorem State.setQuay_mem (d : Fin 8) (x : QuaySt) : (s.setQuay d x).mem = s.mem := rfl
@[simp] theorem State.setQuay_pins (d : Fin 8) (x : QuaySt) : (s.setQuay d x).pins = s.pins := rfl
@[simp] theorem State.setQuay_rst (d : Fin 8) (x : QuaySt) : (s.setQuay d x).rst = s.rst := rfl
@[simp] theorem State.setQuay_dies (d : Fin 8) (x : QuaySt) : (s.setQuay d x).dies = s.dies := rfl
@[simp] theorem State.setQuay_fwy (d : Fin 8) (x : QuaySt) : (s.setQuay d x).fwy = s.fwy := rfl
@[simp] theorem State.setQuay_net (d : Fin 8) (x : QuaySt) : (s.setQuay d x).net = s.net := rfl
@[simp] theorem State.setQuay_rhd (d : Fin 8) (x : QuaySt) : (s.setQuay d x).rhd = s.rhd := rfl
@[simp] theorem State.setQuay_berths (d : Fin 8) (x : QuaySt) : (s.setQuay d x).berths = s.berths := rfl
@[simp] theorem State.setQuay_img (d : Fin 8) (x : QuaySt) : (s.setQuay d x).img = s.img := rfl
@[simp] theorem State.setQuay_pilots (d : Fin 8) (x : QuaySt) : (s.setQuay d x).pilots = s.pilots := rfl
@[simp] theorem State.setQuay_hma (d : Fin 8) (x : QuaySt) : (s.setQuay d x).hma = s.hma := rfl
@[simp] theorem State.setQuay_hpl (d : Fin 8) (x : QuaySt) : (s.setQuay d x).hpl = s.hpl := rfl
@[simp] theorem State.setQuay_log (d : Fin 8) (x : QuaySt) : (s.setQuay d x).log = s.log := rfl
@[simp] theorem State.setQuay_cvu (d : Fin 8) (x : QuaySt) : (s.setQuay d x).cvu = s.cvu := rfl
@[simp] theorem State.setQuay_pwr (d : Fin 8) (x : QuaySt) : (s.setQuay d x).pwr = s.pwr := rfl
@[simp] theorem State.setQuay_bwr (d : Fin 8) (x : QuaySt) : (s.setQuay d x).bwr = s.bwr := rfl
@[simp] theorem State.setQuay_outs (d : Fin 8) (x : QuaySt) : (s.setQuay d x).outs = s.outs := rfl
@[simp] theorem State.setQuay_cte (d : Fin 8) (x : QuaySt) : (s.setQuay d x).cte = s.cte := rfl
@[simp] theorem State.setQuay_cel (d : Fin 8) (x : QuaySt) : (s.setQuay d x).cel = s.cel := rfl
@[simp] theorem State.setQuay_cap (d : Fin 8) (x : QuaySt) : (s.setQuay d x).cap = s.cap := rfl
@[simp] theorem State.setQuay_sec (d : Fin 8) (x : QuaySt) : (s.setQuay d x).sec = s.sec := rfl
@[simp] theorem State.setQuay_flashLoaded (d : Fin 8) (x : QuaySt) : (s.setQuay d x).flashLoaded = s.flashLoaded := rfl
@[simp] theorem State.setQuay_copySent (d : Fin 8) (x : QuaySt) : (s.setQuay d x).copySent = s.copySent := rfl
@[simp] theorem State.setQuay_copyHeld (d : Fin 8) (x : QuaySt) : (s.setQuay d x).copyHeld = s.copyHeld := rfl

/-! ### `State.modQuay` -/

@[simp] theorem State.modQuay_now (d : Fin 8) (g : QuaySt → QuaySt) : (s.modQuay d g).now = s.now := rfl
@[simp] theorem State.modQuay_fresh (d : Fin 8) (g : QuaySt → QuaySt) : (s.modQuay d g).fresh = s.fresh := rfl
@[simp] theorem State.modQuay_tx (d : Fin 8) (g : QuaySt → QuaySt) : (s.modQuay d g).tx = s.tx := rfl
@[simp] theorem State.modQuay_pending (d : Fin 8) (g : QuaySt → QuaySt) : (s.modQuay d g).pending = s.pending := rfl
@[simp] theorem State.modQuay_regs (d : Fin 8) (g : QuaySt → QuaySt) : (s.modQuay d g).regs = s.regs := rfl
@[simp] theorem State.modQuay_hiLatch (d : Fin 8) (g : QuaySt → QuaySt) : (s.modQuay d g).hiLatch = s.hiLatch := rfl
@[simp] theorem State.modQuay_mem (d : Fin 8) (g : QuaySt → QuaySt) : (s.modQuay d g).mem = s.mem := rfl
@[simp] theorem State.modQuay_pins (d : Fin 8) (g : QuaySt → QuaySt) : (s.modQuay d g).pins = s.pins := rfl
@[simp] theorem State.modQuay_rst (d : Fin 8) (g : QuaySt → QuaySt) : (s.modQuay d g).rst = s.rst := rfl
@[simp] theorem State.modQuay_dies (d : Fin 8) (g : QuaySt → QuaySt) : (s.modQuay d g).dies = s.dies := rfl
@[simp] theorem State.modQuay_fwy (d : Fin 8) (g : QuaySt → QuaySt) : (s.modQuay d g).fwy = s.fwy := rfl
@[simp] theorem State.modQuay_net (d : Fin 8) (g : QuaySt → QuaySt) : (s.modQuay d g).net = s.net := rfl
@[simp] theorem State.modQuay_rhd (d : Fin 8) (g : QuaySt → QuaySt) : (s.modQuay d g).rhd = s.rhd := rfl
@[simp] theorem State.modQuay_berths (d : Fin 8) (g : QuaySt → QuaySt) : (s.modQuay d g).berths = s.berths := rfl
@[simp] theorem State.modQuay_img (d : Fin 8) (g : QuaySt → QuaySt) : (s.modQuay d g).img = s.img := rfl
@[simp] theorem State.modQuay_pilots (d : Fin 8) (g : QuaySt → QuaySt) : (s.modQuay d g).pilots = s.pilots := rfl
@[simp] theorem State.modQuay_hma (d : Fin 8) (g : QuaySt → QuaySt) : (s.modQuay d g).hma = s.hma := rfl
@[simp] theorem State.modQuay_hpl (d : Fin 8) (g : QuaySt → QuaySt) : (s.modQuay d g).hpl = s.hpl := rfl
@[simp] theorem State.modQuay_log (d : Fin 8) (g : QuaySt → QuaySt) : (s.modQuay d g).log = s.log := rfl
@[simp] theorem State.modQuay_cvu (d : Fin 8) (g : QuaySt → QuaySt) : (s.modQuay d g).cvu = s.cvu := rfl
@[simp] theorem State.modQuay_pwr (d : Fin 8) (g : QuaySt → QuaySt) : (s.modQuay d g).pwr = s.pwr := rfl
@[simp] theorem State.modQuay_bwr (d : Fin 8) (g : QuaySt → QuaySt) : (s.modQuay d g).bwr = s.bwr := rfl
@[simp] theorem State.modQuay_outs (d : Fin 8) (g : QuaySt → QuaySt) : (s.modQuay d g).outs = s.outs := rfl
@[simp] theorem State.modQuay_cte (d : Fin 8) (g : QuaySt → QuaySt) : (s.modQuay d g).cte = s.cte := rfl
@[simp] theorem State.modQuay_cel (d : Fin 8) (g : QuaySt → QuaySt) : (s.modQuay d g).cel = s.cel := rfl
@[simp] theorem State.modQuay_cap (d : Fin 8) (g : QuaySt → QuaySt) : (s.modQuay d g).cap = s.cap := rfl
@[simp] theorem State.modQuay_sec (d : Fin 8) (g : QuaySt → QuaySt) : (s.modQuay d g).sec = s.sec := rfl
@[simp] theorem State.modQuay_flashLoaded (d : Fin 8) (g : QuaySt → QuaySt) : (s.modQuay d g).flashLoaded = s.flashLoaded := rfl
@[simp] theorem State.modQuay_copySent (d : Fin 8) (g : QuaySt → QuaySt) : (s.modQuay d g).copySent = s.copySent := rfl
@[simp] theorem State.modQuay_copyHeld (d : Fin 8) (g : QuaySt → QuaySt) : (s.modQuay d g).copyHeld = s.copyHeld := rfl

/-! ### `State.setRhd` -/

@[simp] theorem State.setRhd_now (d : Fin 8) (x : RhdSt) : (s.setRhd d x).now = s.now := rfl
@[simp] theorem State.setRhd_fresh (d : Fin 8) (x : RhdSt) : (s.setRhd d x).fresh = s.fresh := rfl
@[simp] theorem State.setRhd_tx (d : Fin 8) (x : RhdSt) : (s.setRhd d x).tx = s.tx := rfl
@[simp] theorem State.setRhd_pending (d : Fin 8) (x : RhdSt) : (s.setRhd d x).pending = s.pending := rfl
@[simp] theorem State.setRhd_regs (d : Fin 8) (x : RhdSt) : (s.setRhd d x).regs = s.regs := rfl
@[simp] theorem State.setRhd_hiLatch (d : Fin 8) (x : RhdSt) : (s.setRhd d x).hiLatch = s.hiLatch := rfl
@[simp] theorem State.setRhd_mem (d : Fin 8) (x : RhdSt) : (s.setRhd d x).mem = s.mem := rfl
@[simp] theorem State.setRhd_pins (d : Fin 8) (x : RhdSt) : (s.setRhd d x).pins = s.pins := rfl
@[simp] theorem State.setRhd_rst (d : Fin 8) (x : RhdSt) : (s.setRhd d x).rst = s.rst := rfl
@[simp] theorem State.setRhd_dies (d : Fin 8) (x : RhdSt) : (s.setRhd d x).dies = s.dies := rfl
@[simp] theorem State.setRhd_quays (d : Fin 8) (x : RhdSt) : (s.setRhd d x).quays = s.quays := rfl
@[simp] theorem State.setRhd_fwy (d : Fin 8) (x : RhdSt) : (s.setRhd d x).fwy = s.fwy := rfl
@[simp] theorem State.setRhd_net (d : Fin 8) (x : RhdSt) : (s.setRhd d x).net = s.net := rfl
@[simp] theorem State.setRhd_berths (d : Fin 8) (x : RhdSt) : (s.setRhd d x).berths = s.berths := rfl
@[simp] theorem State.setRhd_img (d : Fin 8) (x : RhdSt) : (s.setRhd d x).img = s.img := rfl
@[simp] theorem State.setRhd_pilots (d : Fin 8) (x : RhdSt) : (s.setRhd d x).pilots = s.pilots := rfl
@[simp] theorem State.setRhd_hma (d : Fin 8) (x : RhdSt) : (s.setRhd d x).hma = s.hma := rfl
@[simp] theorem State.setRhd_hpl (d : Fin 8) (x : RhdSt) : (s.setRhd d x).hpl = s.hpl := rfl
@[simp] theorem State.setRhd_log (d : Fin 8) (x : RhdSt) : (s.setRhd d x).log = s.log := rfl
@[simp] theorem State.setRhd_cvu (d : Fin 8) (x : RhdSt) : (s.setRhd d x).cvu = s.cvu := rfl
@[simp] theorem State.setRhd_pwr (d : Fin 8) (x : RhdSt) : (s.setRhd d x).pwr = s.pwr := rfl
@[simp] theorem State.setRhd_bwr (d : Fin 8) (x : RhdSt) : (s.setRhd d x).bwr = s.bwr := rfl
@[simp] theorem State.setRhd_outs (d : Fin 8) (x : RhdSt) : (s.setRhd d x).outs = s.outs := rfl
@[simp] theorem State.setRhd_cte (d : Fin 8) (x : RhdSt) : (s.setRhd d x).cte = s.cte := rfl
@[simp] theorem State.setRhd_cel (d : Fin 8) (x : RhdSt) : (s.setRhd d x).cel = s.cel := rfl
@[simp] theorem State.setRhd_cap (d : Fin 8) (x : RhdSt) : (s.setRhd d x).cap = s.cap := rfl
@[simp] theorem State.setRhd_sec (d : Fin 8) (x : RhdSt) : (s.setRhd d x).sec = s.sec := rfl
@[simp] theorem State.setRhd_flashLoaded (d : Fin 8) (x : RhdSt) : (s.setRhd d x).flashLoaded = s.flashLoaded := rfl
@[simp] theorem State.setRhd_copySent (d : Fin 8) (x : RhdSt) : (s.setRhd d x).copySent = s.copySent := rfl
@[simp] theorem State.setRhd_copyHeld (d : Fin 8) (x : RhdSt) : (s.setRhd d x).copyHeld = s.copyHeld := rfl

/-! ### `State.modRhd` -/

@[simp] theorem State.modRhd_now (d : Fin 8) (g : RhdSt → RhdSt) : (s.modRhd d g).now = s.now := rfl
@[simp] theorem State.modRhd_fresh (d : Fin 8) (g : RhdSt → RhdSt) : (s.modRhd d g).fresh = s.fresh := rfl
@[simp] theorem State.modRhd_tx (d : Fin 8) (g : RhdSt → RhdSt) : (s.modRhd d g).tx = s.tx := rfl
@[simp] theorem State.modRhd_pending (d : Fin 8) (g : RhdSt → RhdSt) : (s.modRhd d g).pending = s.pending := rfl
@[simp] theorem State.modRhd_regs (d : Fin 8) (g : RhdSt → RhdSt) : (s.modRhd d g).regs = s.regs := rfl
@[simp] theorem State.modRhd_hiLatch (d : Fin 8) (g : RhdSt → RhdSt) : (s.modRhd d g).hiLatch = s.hiLatch := rfl
@[simp] theorem State.modRhd_mem (d : Fin 8) (g : RhdSt → RhdSt) : (s.modRhd d g).mem = s.mem := rfl
@[simp] theorem State.modRhd_pins (d : Fin 8) (g : RhdSt → RhdSt) : (s.modRhd d g).pins = s.pins := rfl
@[simp] theorem State.modRhd_rst (d : Fin 8) (g : RhdSt → RhdSt) : (s.modRhd d g).rst = s.rst := rfl
@[simp] theorem State.modRhd_dies (d : Fin 8) (g : RhdSt → RhdSt) : (s.modRhd d g).dies = s.dies := rfl
@[simp] theorem State.modRhd_quays (d : Fin 8) (g : RhdSt → RhdSt) : (s.modRhd d g).quays = s.quays := rfl
@[simp] theorem State.modRhd_fwy (d : Fin 8) (g : RhdSt → RhdSt) : (s.modRhd d g).fwy = s.fwy := rfl
@[simp] theorem State.modRhd_net (d : Fin 8) (g : RhdSt → RhdSt) : (s.modRhd d g).net = s.net := rfl
@[simp] theorem State.modRhd_berths (d : Fin 8) (g : RhdSt → RhdSt) : (s.modRhd d g).berths = s.berths := rfl
@[simp] theorem State.modRhd_img (d : Fin 8) (g : RhdSt → RhdSt) : (s.modRhd d g).img = s.img := rfl
@[simp] theorem State.modRhd_pilots (d : Fin 8) (g : RhdSt → RhdSt) : (s.modRhd d g).pilots = s.pilots := rfl
@[simp] theorem State.modRhd_hma (d : Fin 8) (g : RhdSt → RhdSt) : (s.modRhd d g).hma = s.hma := rfl
@[simp] theorem State.modRhd_hpl (d : Fin 8) (g : RhdSt → RhdSt) : (s.modRhd d g).hpl = s.hpl := rfl
@[simp] theorem State.modRhd_log (d : Fin 8) (g : RhdSt → RhdSt) : (s.modRhd d g).log = s.log := rfl
@[simp] theorem State.modRhd_cvu (d : Fin 8) (g : RhdSt → RhdSt) : (s.modRhd d g).cvu = s.cvu := rfl
@[simp] theorem State.modRhd_pwr (d : Fin 8) (g : RhdSt → RhdSt) : (s.modRhd d g).pwr = s.pwr := rfl
@[simp] theorem State.modRhd_bwr (d : Fin 8) (g : RhdSt → RhdSt) : (s.modRhd d g).bwr = s.bwr := rfl
@[simp] theorem State.modRhd_outs (d : Fin 8) (g : RhdSt → RhdSt) : (s.modRhd d g).outs = s.outs := rfl
@[simp] theorem State.modRhd_cte (d : Fin 8) (g : RhdSt → RhdSt) : (s.modRhd d g).cte = s.cte := rfl
@[simp] theorem State.modRhd_cel (d : Fin 8) (g : RhdSt → RhdSt) : (s.modRhd d g).cel = s.cel := rfl
@[simp] theorem State.modRhd_cap (d : Fin 8) (g : RhdSt → RhdSt) : (s.modRhd d g).cap = s.cap := rfl
@[simp] theorem State.modRhd_sec (d : Fin 8) (g : RhdSt → RhdSt) : (s.modRhd d g).sec = s.sec := rfl
@[simp] theorem State.modRhd_flashLoaded (d : Fin 8) (g : RhdSt → RhdSt) : (s.modRhd d g).flashLoaded = s.flashLoaded := rfl
@[simp] theorem State.modRhd_copySent (d : Fin 8) (g : RhdSt → RhdSt) : (s.modRhd d g).copySent = s.copySent := rfl
@[simp] theorem State.modRhd_copyHeld (d : Fin 8) (g : RhdSt → RhdSt) : (s.modRhd d g).copyHeld = s.copyHeld := rfl

/-! ### `State.setBerth` -/

@[simp] theorem State.setBerth_now (d : Fin 8) (x : BerthSt) : (s.setBerth d x).now = s.now := rfl
@[simp] theorem State.setBerth_fresh (d : Fin 8) (x : BerthSt) : (s.setBerth d x).fresh = s.fresh := rfl
@[simp] theorem State.setBerth_tx (d : Fin 8) (x : BerthSt) : (s.setBerth d x).tx = s.tx := rfl
@[simp] theorem State.setBerth_pending (d : Fin 8) (x : BerthSt) : (s.setBerth d x).pending = s.pending := rfl
@[simp] theorem State.setBerth_regs (d : Fin 8) (x : BerthSt) : (s.setBerth d x).regs = s.regs := rfl
@[simp] theorem State.setBerth_hiLatch (d : Fin 8) (x : BerthSt) : (s.setBerth d x).hiLatch = s.hiLatch := rfl
@[simp] theorem State.setBerth_mem (d : Fin 8) (x : BerthSt) : (s.setBerth d x).mem = s.mem := rfl
@[simp] theorem State.setBerth_pins (d : Fin 8) (x : BerthSt) : (s.setBerth d x).pins = s.pins := rfl
@[simp] theorem State.setBerth_rst (d : Fin 8) (x : BerthSt) : (s.setBerth d x).rst = s.rst := rfl
@[simp] theorem State.setBerth_dies (d : Fin 8) (x : BerthSt) : (s.setBerth d x).dies = s.dies := rfl
@[simp] theorem State.setBerth_quays (d : Fin 8) (x : BerthSt) : (s.setBerth d x).quays = s.quays := rfl
@[simp] theorem State.setBerth_fwy (d : Fin 8) (x : BerthSt) : (s.setBerth d x).fwy = s.fwy := rfl
@[simp] theorem State.setBerth_net (d : Fin 8) (x : BerthSt) : (s.setBerth d x).net = s.net := rfl
@[simp] theorem State.setBerth_rhd (d : Fin 8) (x : BerthSt) : (s.setBerth d x).rhd = s.rhd := rfl
@[simp] theorem State.setBerth_img (d : Fin 8) (x : BerthSt) : (s.setBerth d x).img = s.img := rfl
@[simp] theorem State.setBerth_pilots (d : Fin 8) (x : BerthSt) : (s.setBerth d x).pilots = s.pilots := rfl
@[simp] theorem State.setBerth_hma (d : Fin 8) (x : BerthSt) : (s.setBerth d x).hma = s.hma := rfl
@[simp] theorem State.setBerth_hpl (d : Fin 8) (x : BerthSt) : (s.setBerth d x).hpl = s.hpl := rfl
@[simp] theorem State.setBerth_log (d : Fin 8) (x : BerthSt) : (s.setBerth d x).log = s.log := rfl
@[simp] theorem State.setBerth_cvu (d : Fin 8) (x : BerthSt) : (s.setBerth d x).cvu = s.cvu := rfl
@[simp] theorem State.setBerth_pwr (d : Fin 8) (x : BerthSt) : (s.setBerth d x).pwr = s.pwr := rfl
@[simp] theorem State.setBerth_bwr (d : Fin 8) (x : BerthSt) : (s.setBerth d x).bwr = s.bwr := rfl
@[simp] theorem State.setBerth_outs (d : Fin 8) (x : BerthSt) : (s.setBerth d x).outs = s.outs := rfl
@[simp] theorem State.setBerth_cte (d : Fin 8) (x : BerthSt) : (s.setBerth d x).cte = s.cte := rfl
@[simp] theorem State.setBerth_cel (d : Fin 8) (x : BerthSt) : (s.setBerth d x).cel = s.cel := rfl
@[simp] theorem State.setBerth_cap (d : Fin 8) (x : BerthSt) : (s.setBerth d x).cap = s.cap := rfl
@[simp] theorem State.setBerth_sec (d : Fin 8) (x : BerthSt) : (s.setBerth d x).sec = s.sec := rfl
@[simp] theorem State.setBerth_flashLoaded (d : Fin 8) (x : BerthSt) : (s.setBerth d x).flashLoaded = s.flashLoaded := rfl
@[simp] theorem State.setBerth_copySent (d : Fin 8) (x : BerthSt) : (s.setBerth d x).copySent = s.copySent := rfl
@[simp] theorem State.setBerth_copyHeld (d : Fin 8) (x : BerthSt) : (s.setBerth d x).copyHeld = s.copyHeld := rfl

/-! ### `State.modBerth` -/

@[simp] theorem State.modBerth_now (d : Fin 8) (g : BerthSt → BerthSt) : (s.modBerth d g).now = s.now := rfl
@[simp] theorem State.modBerth_fresh (d : Fin 8) (g : BerthSt → BerthSt) : (s.modBerth d g).fresh = s.fresh := rfl
@[simp] theorem State.modBerth_tx (d : Fin 8) (g : BerthSt → BerthSt) : (s.modBerth d g).tx = s.tx := rfl
@[simp] theorem State.modBerth_pending (d : Fin 8) (g : BerthSt → BerthSt) : (s.modBerth d g).pending = s.pending := rfl
@[simp] theorem State.modBerth_regs (d : Fin 8) (g : BerthSt → BerthSt) : (s.modBerth d g).regs = s.regs := rfl
@[simp] theorem State.modBerth_hiLatch (d : Fin 8) (g : BerthSt → BerthSt) : (s.modBerth d g).hiLatch = s.hiLatch := rfl
@[simp] theorem State.modBerth_mem (d : Fin 8) (g : BerthSt → BerthSt) : (s.modBerth d g).mem = s.mem := rfl
@[simp] theorem State.modBerth_pins (d : Fin 8) (g : BerthSt → BerthSt) : (s.modBerth d g).pins = s.pins := rfl
@[simp] theorem State.modBerth_rst (d : Fin 8) (g : BerthSt → BerthSt) : (s.modBerth d g).rst = s.rst := rfl
@[simp] theorem State.modBerth_dies (d : Fin 8) (g : BerthSt → BerthSt) : (s.modBerth d g).dies = s.dies := rfl
@[simp] theorem State.modBerth_quays (d : Fin 8) (g : BerthSt → BerthSt) : (s.modBerth d g).quays = s.quays := rfl
@[simp] theorem State.modBerth_fwy (d : Fin 8) (g : BerthSt → BerthSt) : (s.modBerth d g).fwy = s.fwy := rfl
@[simp] theorem State.modBerth_net (d : Fin 8) (g : BerthSt → BerthSt) : (s.modBerth d g).net = s.net := rfl
@[simp] theorem State.modBerth_rhd (d : Fin 8) (g : BerthSt → BerthSt) : (s.modBerth d g).rhd = s.rhd := rfl
@[simp] theorem State.modBerth_img (d : Fin 8) (g : BerthSt → BerthSt) : (s.modBerth d g).img = s.img := rfl
@[simp] theorem State.modBerth_pilots (d : Fin 8) (g : BerthSt → BerthSt) : (s.modBerth d g).pilots = s.pilots := rfl
@[simp] theorem State.modBerth_hma (d : Fin 8) (g : BerthSt → BerthSt) : (s.modBerth d g).hma = s.hma := rfl
@[simp] theorem State.modBerth_hpl (d : Fin 8) (g : BerthSt → BerthSt) : (s.modBerth d g).hpl = s.hpl := rfl
@[simp] theorem State.modBerth_log (d : Fin 8) (g : BerthSt → BerthSt) : (s.modBerth d g).log = s.log := rfl
@[simp] theorem State.modBerth_cvu (d : Fin 8) (g : BerthSt → BerthSt) : (s.modBerth d g).cvu = s.cvu := rfl
@[simp] theorem State.modBerth_pwr (d : Fin 8) (g : BerthSt → BerthSt) : (s.modBerth d g).pwr = s.pwr := rfl
@[simp] theorem State.modBerth_bwr (d : Fin 8) (g : BerthSt → BerthSt) : (s.modBerth d g).bwr = s.bwr := rfl
@[simp] theorem State.modBerth_outs (d : Fin 8) (g : BerthSt → BerthSt) : (s.modBerth d g).outs = s.outs := rfl
@[simp] theorem State.modBerth_cte (d : Fin 8) (g : BerthSt → BerthSt) : (s.modBerth d g).cte = s.cte := rfl
@[simp] theorem State.modBerth_cel (d : Fin 8) (g : BerthSt → BerthSt) : (s.modBerth d g).cel = s.cel := rfl
@[simp] theorem State.modBerth_cap (d : Fin 8) (g : BerthSt → BerthSt) : (s.modBerth d g).cap = s.cap := rfl
@[simp] theorem State.modBerth_sec (d : Fin 8) (g : BerthSt → BerthSt) : (s.modBerth d g).sec = s.sec := rfl
@[simp] theorem State.modBerth_flashLoaded (d : Fin 8) (g : BerthSt → BerthSt) : (s.modBerth d g).flashLoaded = s.flashLoaded := rfl
@[simp] theorem State.modBerth_copySent (d : Fin 8) (g : BerthSt → BerthSt) : (s.modBerth d g).copySent = s.copySent := rfl
@[simp] theorem State.modBerth_copyHeld (d : Fin 8) (g : BerthSt → BerthSt) : (s.modBerth d g).copyHeld = s.copyHeld := rfl

/-! ### `State.setPilot` -/

@[simp] theorem State.setPilot_now (p : Fin 2) (x : PilotSt) : (s.setPilot p x).now = s.now := rfl
@[simp] theorem State.setPilot_fresh (p : Fin 2) (x : PilotSt) : (s.setPilot p x).fresh = s.fresh := rfl
@[simp] theorem State.setPilot_tx (p : Fin 2) (x : PilotSt) : (s.setPilot p x).tx = s.tx := rfl
@[simp] theorem State.setPilot_pending (p : Fin 2) (x : PilotSt) : (s.setPilot p x).pending = s.pending := rfl
@[simp] theorem State.setPilot_regs (p : Fin 2) (x : PilotSt) : (s.setPilot p x).regs = s.regs := rfl
@[simp] theorem State.setPilot_hiLatch (p : Fin 2) (x : PilotSt) : (s.setPilot p x).hiLatch = s.hiLatch := rfl
@[simp] theorem State.setPilot_mem (p : Fin 2) (x : PilotSt) : (s.setPilot p x).mem = s.mem := rfl
@[simp] theorem State.setPilot_pins (p : Fin 2) (x : PilotSt) : (s.setPilot p x).pins = s.pins := rfl
@[simp] theorem State.setPilot_rst (p : Fin 2) (x : PilotSt) : (s.setPilot p x).rst = s.rst := rfl
@[simp] theorem State.setPilot_dies (p : Fin 2) (x : PilotSt) : (s.setPilot p x).dies = s.dies := rfl
@[simp] theorem State.setPilot_quays (p : Fin 2) (x : PilotSt) : (s.setPilot p x).quays = s.quays := rfl
@[simp] theorem State.setPilot_fwy (p : Fin 2) (x : PilotSt) : (s.setPilot p x).fwy = s.fwy := rfl
@[simp] theorem State.setPilot_net (p : Fin 2) (x : PilotSt) : (s.setPilot p x).net = s.net := rfl
@[simp] theorem State.setPilot_rhd (p : Fin 2) (x : PilotSt) : (s.setPilot p x).rhd = s.rhd := rfl
@[simp] theorem State.setPilot_berths (p : Fin 2) (x : PilotSt) : (s.setPilot p x).berths = s.berths := rfl
@[simp] theorem State.setPilot_img (p : Fin 2) (x : PilotSt) : (s.setPilot p x).img = s.img := rfl
@[simp] theorem State.setPilot_hma (p : Fin 2) (x : PilotSt) : (s.setPilot p x).hma = s.hma := rfl
@[simp] theorem State.setPilot_hpl (p : Fin 2) (x : PilotSt) : (s.setPilot p x).hpl = s.hpl := rfl
@[simp] theorem State.setPilot_log (p : Fin 2) (x : PilotSt) : (s.setPilot p x).log = s.log := rfl
@[simp] theorem State.setPilot_cvu (p : Fin 2) (x : PilotSt) : (s.setPilot p x).cvu = s.cvu := rfl
@[simp] theorem State.setPilot_pwr (p : Fin 2) (x : PilotSt) : (s.setPilot p x).pwr = s.pwr := rfl
@[simp] theorem State.setPilot_bwr (p : Fin 2) (x : PilotSt) : (s.setPilot p x).bwr = s.bwr := rfl
@[simp] theorem State.setPilot_outs (p : Fin 2) (x : PilotSt) : (s.setPilot p x).outs = s.outs := rfl
@[simp] theorem State.setPilot_cte (p : Fin 2) (x : PilotSt) : (s.setPilot p x).cte = s.cte := rfl
@[simp] theorem State.setPilot_cel (p : Fin 2) (x : PilotSt) : (s.setPilot p x).cel = s.cel := rfl
@[simp] theorem State.setPilot_cap (p : Fin 2) (x : PilotSt) : (s.setPilot p x).cap = s.cap := rfl
@[simp] theorem State.setPilot_sec (p : Fin 2) (x : PilotSt) : (s.setPilot p x).sec = s.sec := rfl
@[simp] theorem State.setPilot_flashLoaded (p : Fin 2) (x : PilotSt) : (s.setPilot p x).flashLoaded = s.flashLoaded := rfl
@[simp] theorem State.setPilot_copySent (p : Fin 2) (x : PilotSt) : (s.setPilot p x).copySent = s.copySent := rfl
@[simp] theorem State.setPilot_copyHeld (p : Fin 2) (x : PilotSt) : (s.setPilot p x).copyHeld = s.copyHeld := rfl

/-! ### `State.modPilot` -/

@[simp] theorem State.modPilot_now (p : Fin 2) (g : PilotSt → PilotSt) : (s.modPilot p g).now = s.now := rfl
@[simp] theorem State.modPilot_fresh (p : Fin 2) (g : PilotSt → PilotSt) : (s.modPilot p g).fresh = s.fresh := rfl
@[simp] theorem State.modPilot_tx (p : Fin 2) (g : PilotSt → PilotSt) : (s.modPilot p g).tx = s.tx := rfl
@[simp] theorem State.modPilot_pending (p : Fin 2) (g : PilotSt → PilotSt) : (s.modPilot p g).pending = s.pending := rfl
@[simp] theorem State.modPilot_regs (p : Fin 2) (g : PilotSt → PilotSt) : (s.modPilot p g).regs = s.regs := rfl
@[simp] theorem State.modPilot_hiLatch (p : Fin 2) (g : PilotSt → PilotSt) : (s.modPilot p g).hiLatch = s.hiLatch := rfl
@[simp] theorem State.modPilot_mem (p : Fin 2) (g : PilotSt → PilotSt) : (s.modPilot p g).mem = s.mem := rfl
@[simp] theorem State.modPilot_pins (p : Fin 2) (g : PilotSt → PilotSt) : (s.modPilot p g).pins = s.pins := rfl
@[simp] theorem State.modPilot_rst (p : Fin 2) (g : PilotSt → PilotSt) : (s.modPilot p g).rst = s.rst := rfl
@[simp] theorem State.modPilot_dies (p : Fin 2) (g : PilotSt → PilotSt) : (s.modPilot p g).dies = s.dies := rfl
@[simp] theorem State.modPilot_quays (p : Fin 2) (g : PilotSt → PilotSt) : (s.modPilot p g).quays = s.quays := rfl
@[simp] theorem State.modPilot_fwy (p : Fin 2) (g : PilotSt → PilotSt) : (s.modPilot p g).fwy = s.fwy := rfl
@[simp] theorem State.modPilot_net (p : Fin 2) (g : PilotSt → PilotSt) : (s.modPilot p g).net = s.net := rfl
@[simp] theorem State.modPilot_rhd (p : Fin 2) (g : PilotSt → PilotSt) : (s.modPilot p g).rhd = s.rhd := rfl
@[simp] theorem State.modPilot_berths (p : Fin 2) (g : PilotSt → PilotSt) : (s.modPilot p g).berths = s.berths := rfl
@[simp] theorem State.modPilot_img (p : Fin 2) (g : PilotSt → PilotSt) : (s.modPilot p g).img = s.img := rfl
@[simp] theorem State.modPilot_hma (p : Fin 2) (g : PilotSt → PilotSt) : (s.modPilot p g).hma = s.hma := rfl
@[simp] theorem State.modPilot_hpl (p : Fin 2) (g : PilotSt → PilotSt) : (s.modPilot p g).hpl = s.hpl := rfl
@[simp] theorem State.modPilot_log (p : Fin 2) (g : PilotSt → PilotSt) : (s.modPilot p g).log = s.log := rfl
@[simp] theorem State.modPilot_cvu (p : Fin 2) (g : PilotSt → PilotSt) : (s.modPilot p g).cvu = s.cvu := rfl
@[simp] theorem State.modPilot_pwr (p : Fin 2) (g : PilotSt → PilotSt) : (s.modPilot p g).pwr = s.pwr := rfl
@[simp] theorem State.modPilot_bwr (p : Fin 2) (g : PilotSt → PilotSt) : (s.modPilot p g).bwr = s.bwr := rfl
@[simp] theorem State.modPilot_outs (p : Fin 2) (g : PilotSt → PilotSt) : (s.modPilot p g).outs = s.outs := rfl
@[simp] theorem State.modPilot_cte (p : Fin 2) (g : PilotSt → PilotSt) : (s.modPilot p g).cte = s.cte := rfl
@[simp] theorem State.modPilot_cel (p : Fin 2) (g : PilotSt → PilotSt) : (s.modPilot p g).cel = s.cel := rfl
@[simp] theorem State.modPilot_cap (p : Fin 2) (g : PilotSt → PilotSt) : (s.modPilot p g).cap = s.cap := rfl
@[simp] theorem State.modPilot_sec (p : Fin 2) (g : PilotSt → PilotSt) : (s.modPilot p g).sec = s.sec := rfl
@[simp] theorem State.modPilot_flashLoaded (p : Fin 2) (g : PilotSt → PilotSt) : (s.modPilot p g).flashLoaded = s.flashLoaded := rfl
@[simp] theorem State.modPilot_copySent (p : Fin 2) (g : PilotSt → PilotSt) : (s.modPilot p g).copySent = s.copySent := rfl
@[simp] theorem State.modPilot_copyHeld (p : Fin 2) (g : PilotSt → PilotSt) : (s.modPilot p g).copyHeld = s.copyHeld := rfl

/-! ### `State.out` -/

@[simp] theorem State.out_now (x : Tx) : (s.out x).now = s.now := rfl
@[simp] theorem State.out_fresh (x : Tx) : (s.out x).fresh = s.fresh := rfl
@[simp] theorem State.out_pending (x : Tx) : (s.out x).pending = s.pending := rfl
@[simp] theorem State.out_regs (x : Tx) : (s.out x).regs = s.regs := rfl
@[simp] theorem State.out_hiLatch (x : Tx) : (s.out x).hiLatch = s.hiLatch := rfl
@[simp] theorem State.out_mem (x : Tx) : (s.out x).mem = s.mem := rfl
@[simp] theorem State.out_pins (x : Tx) : (s.out x).pins = s.pins := rfl
@[simp] theorem State.out_rst (x : Tx) : (s.out x).rst = s.rst := rfl
@[simp] theorem State.out_dies (x : Tx) : (s.out x).dies = s.dies := rfl
@[simp] theorem State.out_quays (x : Tx) : (s.out x).quays = s.quays := rfl
@[simp] theorem State.out_fwy (x : Tx) : (s.out x).fwy = s.fwy := rfl
@[simp] theorem State.out_net (x : Tx) : (s.out x).net = s.net := rfl
@[simp] theorem State.out_rhd (x : Tx) : (s.out x).rhd = s.rhd := rfl
@[simp] theorem State.out_berths (x : Tx) : (s.out x).berths = s.berths := rfl
@[simp] theorem State.out_img (x : Tx) : (s.out x).img = s.img := rfl
@[simp] theorem State.out_pilots (x : Tx) : (s.out x).pilots = s.pilots := rfl
@[simp] theorem State.out_hma (x : Tx) : (s.out x).hma = s.hma := rfl
@[simp] theorem State.out_hpl (x : Tx) : (s.out x).hpl = s.hpl := rfl
@[simp] theorem State.out_log (x : Tx) : (s.out x).log = s.log := rfl
@[simp] theorem State.out_cvu (x : Tx) : (s.out x).cvu = s.cvu := rfl
@[simp] theorem State.out_pwr (x : Tx) : (s.out x).pwr = s.pwr := rfl
@[simp] theorem State.out_bwr (x : Tx) : (s.out x).bwr = s.bwr := rfl
@[simp] theorem State.out_outs (x : Tx) : (s.out x).outs = s.outs := rfl
@[simp] theorem State.out_cte (x : Tx) : (s.out x).cte = s.cte := rfl
@[simp] theorem State.out_cel (x : Tx) : (s.out x).cel = s.cel := rfl
@[simp] theorem State.out_cap (x : Tx) : (s.out x).cap = s.cap := rfl
@[simp] theorem State.out_sec (x : Tx) : (s.out x).sec = s.sec := rfl
@[simp] theorem State.out_flashLoaded (x : Tx) : (s.out x).flashLoaded = s.flashLoaded := rfl
@[simp] theorem State.out_copySent (x : Tx) : (s.out x).copySent = s.copySent := rfl
@[simp] theorem State.out_copyHeld (x : Tx) : (s.out x).copyHeld = s.copyHeld := rfl

/-! ### `State.setReady` -/

@[simp] theorem State.setReady_now (n : Nat) (v : Bool) : (s.setReady n v).now = s.now := by unfold State.setReady; split <;> rfl
@[simp] theorem State.setReady_fresh (n : Nat) (v : Bool) : (s.setReady n v).fresh = s.fresh := by unfold State.setReady; split <;> rfl
@[simp] theorem State.setReady_tx (n : Nat) (v : Bool) : (s.setReady n v).tx = s.tx := by unfold State.setReady; split <;> rfl
@[simp] theorem State.setReady_pending (n : Nat) (v : Bool) : (s.setReady n v).pending = s.pending := by unfold State.setReady; split <;> rfl
@[simp] theorem State.setReady_hiLatch (n : Nat) (v : Bool) : (s.setReady n v).hiLatch = s.hiLatch := by unfold State.setReady; split <;> rfl
@[simp] theorem State.setReady_mem (n : Nat) (v : Bool) : (s.setReady n v).mem = s.mem := by unfold State.setReady; split <;> rfl
@[simp] theorem State.setReady_dies (n : Nat) (v : Bool) : (s.setReady n v).dies = s.dies := by unfold State.setReady; split <;> rfl
@[simp] theorem State.setReady_quays (n : Nat) (v : Bool) : (s.setReady n v).quays = s.quays := by unfold State.setReady; split <;> rfl
@[simp] theorem State.setReady_fwy (n : Nat) (v : Bool) : (s.setReady n v).fwy = s.fwy := by unfold State.setReady; split <;> rfl
@[simp] theorem State.setReady_net (n : Nat) (v : Bool) : (s.setReady n v).net = s.net := by unfold State.setReady; split <;> rfl
@[simp] theorem State.setReady_rhd (n : Nat) (v : Bool) : (s.setReady n v).rhd = s.rhd := by unfold State.setReady; split <;> rfl
@[simp] theorem State.setReady_berths (n : Nat) (v : Bool) : (s.setReady n v).berths = s.berths := by unfold State.setReady; split <;> rfl
@[simp] theorem State.setReady_img (n : Nat) (v : Bool) : (s.setReady n v).img = s.img := by unfold State.setReady; split <;> rfl
@[simp] theorem State.setReady_pilots (n : Nat) (v : Bool) : (s.setReady n v).pilots = s.pilots := by unfold State.setReady; split <;> rfl
@[simp] theorem State.setReady_hma (n : Nat) (v : Bool) : (s.setReady n v).hma = s.hma := by unfold State.setReady; split <;> rfl
@[simp] theorem State.setReady_hpl (n : Nat) (v : Bool) : (s.setReady n v).hpl = s.hpl := by unfold State.setReady; split <;> rfl
@[simp] theorem State.setReady_log (n : Nat) (v : Bool) : (s.setReady n v).log = s.log := by unfold State.setReady; split <;> rfl
@[simp] theorem State.setReady_cvu (n : Nat) (v : Bool) : (s.setReady n v).cvu = s.cvu := by unfold State.setReady; split <;> rfl
@[simp] theorem State.setReady_pwr (n : Nat) (v : Bool) : (s.setReady n v).pwr = s.pwr := by unfold State.setReady; split <;> rfl
@[simp] theorem State.setReady_bwr (n : Nat) (v : Bool) : (s.setReady n v).bwr = s.bwr := by unfold State.setReady; split <;> rfl
@[simp] theorem State.setReady_outs (n : Nat) (v : Bool) : (s.setReady n v).outs = s.outs := by unfold State.setReady; split <;> rfl
@[simp] theorem State.setReady_cte (n : Nat) (v : Bool) : (s.setReady n v).cte = s.cte := by unfold State.setReady; split <;> rfl
@[simp] theorem State.setReady_cel (n : Nat) (v : Bool) : (s.setReady n v).cel = s.cel := by unfold State.setReady; split <;> rfl
@[simp] theorem State.setReady_cap (n : Nat) (v : Bool) : (s.setReady n v).cap = s.cap := by unfold State.setReady; split <;> rfl
@[simp] theorem State.setReady_sec (n : Nat) (v : Bool) : (s.setReady n v).sec = s.sec := by unfold State.setReady; split <;> rfl
@[simp] theorem State.setReady_flashLoaded (n : Nat) (v : Bool) : (s.setReady n v).flashLoaded = s.flashLoaded := by unfold State.setReady; split <;> rfl
@[simp] theorem State.setReady_copySent (n : Nat) (v : Bool) : (s.setReady n v).copySent = s.copySent := by unfold State.setReady; split <;> rfl
@[simp] theorem State.setReady_copyHeld (n : Nat) (v : Bool) : (s.setReady n v).copyHeld = s.copyHeld := by unfold State.setReady; split <;> rfl

/-! ### `State.setByte` -/

@[simp] theorem State.setByte_now (a : Nat) (v : BitVec 8) : (s.setByte a v).now = s.now := rfl
@[simp] theorem State.setByte_fresh (a : Nat) (v : BitVec 8) : (s.setByte a v).fresh = s.fresh := rfl
@[simp] theorem State.setByte_tx (a : Nat) (v : BitVec 8) : (s.setByte a v).tx = s.tx := rfl
@[simp] theorem State.setByte_pending (a : Nat) (v : BitVec 8) : (s.setByte a v).pending = s.pending := rfl
@[simp] theorem State.setByte_regs (a : Nat) (v : BitVec 8) : (s.setByte a v).regs = s.regs := rfl
@[simp] theorem State.setByte_hiLatch (a : Nat) (v : BitVec 8) : (s.setByte a v).hiLatch = s.hiLatch := rfl
@[simp] theorem State.setByte_pins (a : Nat) (v : BitVec 8) : (s.setByte a v).pins = s.pins := rfl
@[simp] theorem State.setByte_rst (a : Nat) (v : BitVec 8) : (s.setByte a v).rst = s.rst := rfl
@[simp] theorem State.setByte_dies (a : Nat) (v : BitVec 8) : (s.setByte a v).dies = s.dies := rfl
@[simp] theorem State.setByte_quays (a : Nat) (v : BitVec 8) : (s.setByte a v).quays = s.quays := rfl
@[simp] theorem State.setByte_fwy (a : Nat) (v : BitVec 8) : (s.setByte a v).fwy = s.fwy := rfl
@[simp] theorem State.setByte_net (a : Nat) (v : BitVec 8) : (s.setByte a v).net = s.net := rfl
@[simp] theorem State.setByte_rhd (a : Nat) (v : BitVec 8) : (s.setByte a v).rhd = s.rhd := rfl
@[simp] theorem State.setByte_berths (a : Nat) (v : BitVec 8) : (s.setByte a v).berths = s.berths := rfl
@[simp] theorem State.setByte_img (a : Nat) (v : BitVec 8) : (s.setByte a v).img = s.img := rfl
@[simp] theorem State.setByte_pilots (a : Nat) (v : BitVec 8) : (s.setByte a v).pilots = s.pilots := rfl
@[simp] theorem State.setByte_hma (a : Nat) (v : BitVec 8) : (s.setByte a v).hma = s.hma := rfl
@[simp] theorem State.setByte_hpl (a : Nat) (v : BitVec 8) : (s.setByte a v).hpl = s.hpl := rfl
@[simp] theorem State.setByte_log (a : Nat) (v : BitVec 8) : (s.setByte a v).log = s.log := rfl
@[simp] theorem State.setByte_cvu (a : Nat) (v : BitVec 8) : (s.setByte a v).cvu = s.cvu := rfl
@[simp] theorem State.setByte_pwr (a : Nat) (v : BitVec 8) : (s.setByte a v).pwr = s.pwr := rfl
@[simp] theorem State.setByte_bwr (a : Nat) (v : BitVec 8) : (s.setByte a v).bwr = s.bwr := rfl
@[simp] theorem State.setByte_outs (a : Nat) (v : BitVec 8) : (s.setByte a v).outs = s.outs := rfl
@[simp] theorem State.setByte_cte (a : Nat) (v : BitVec 8) : (s.setByte a v).cte = s.cte := rfl
@[simp] theorem State.setByte_cel (a : Nat) (v : BitVec 8) : (s.setByte a v).cel = s.cel := rfl
@[simp] theorem State.setByte_cap (a : Nat) (v : BitVec 8) : (s.setByte a v).cap = s.cap := rfl
@[simp] theorem State.setByte_sec (a : Nat) (v : BitVec 8) : (s.setByte a v).sec = s.sec := rfl
@[simp] theorem State.setByte_flashLoaded (a : Nat) (v : BitVec 8) : (s.setByte a v).flashLoaded = s.flashLoaded := rfl
@[simp] theorem State.setByte_copySent (a : Nat) (v : BitVec 8) : (s.setByte a v).copySent = s.copySent := rfl
@[simp] theorem State.setByte_copyHeld (a : Nat) (v : BitVec 8) : (s.setByte a v).copyHeld = s.copyHeld := rfl

/-! ### `State.setBytes` -/

@[simp] theorem State.setBytes_now (bs : List Nat) : ∀ (s : State) (a : Nat), (s.setBytes a bs).now = s.now := by
  induction bs with
  | nil => intro s a; rfl
  | cons b bs ih => intro s a; exact (ih _ _).trans rfl
@[simp] theorem State.setBytes_fresh (bs : List Nat) : ∀ (s : State) (a : Nat), (s.setBytes a bs).fresh = s.fresh := by
  induction bs with
  | nil => intro s a; rfl
  | cons b bs ih => intro s a; exact (ih _ _).trans rfl
@[simp] theorem State.setBytes_tx (bs : List Nat) : ∀ (s : State) (a : Nat), (s.setBytes a bs).tx = s.tx := by
  induction bs with
  | nil => intro s a; rfl
  | cons b bs ih => intro s a; exact (ih _ _).trans rfl
@[simp] theorem State.setBytes_pending (bs : List Nat) : ∀ (s : State) (a : Nat), (s.setBytes a bs).pending = s.pending := by
  induction bs with
  | nil => intro s a; rfl
  | cons b bs ih => intro s a; exact (ih _ _).trans rfl
@[simp] theorem State.setBytes_regs (bs : List Nat) : ∀ (s : State) (a : Nat), (s.setBytes a bs).regs = s.regs := by
  induction bs with
  | nil => intro s a; rfl
  | cons b bs ih => intro s a; exact (ih _ _).trans rfl
@[simp] theorem State.setBytes_hiLatch (bs : List Nat) : ∀ (s : State) (a : Nat), (s.setBytes a bs).hiLatch = s.hiLatch := by
  induction bs with
  | nil => intro s a; rfl
  | cons b bs ih => intro s a; exact (ih _ _).trans rfl
@[simp] theorem State.setBytes_pins (bs : List Nat) : ∀ (s : State) (a : Nat), (s.setBytes a bs).pins = s.pins := by
  induction bs with
  | nil => intro s a; rfl
  | cons b bs ih => intro s a; exact (ih _ _).trans rfl
@[simp] theorem State.setBytes_rst (bs : List Nat) : ∀ (s : State) (a : Nat), (s.setBytes a bs).rst = s.rst := by
  induction bs with
  | nil => intro s a; rfl
  | cons b bs ih => intro s a; exact (ih _ _).trans rfl
@[simp] theorem State.setBytes_dies (bs : List Nat) : ∀ (s : State) (a : Nat), (s.setBytes a bs).dies = s.dies := by
  induction bs with
  | nil => intro s a; rfl
  | cons b bs ih => intro s a; exact (ih _ _).trans rfl
@[simp] theorem State.setBytes_quays (bs : List Nat) : ∀ (s : State) (a : Nat), (s.setBytes a bs).quays = s.quays := by
  induction bs with
  | nil => intro s a; rfl
  | cons b bs ih => intro s a; exact (ih _ _).trans rfl
@[simp] theorem State.setBytes_fwy (bs : List Nat) : ∀ (s : State) (a : Nat), (s.setBytes a bs).fwy = s.fwy := by
  induction bs with
  | nil => intro s a; rfl
  | cons b bs ih => intro s a; exact (ih _ _).trans rfl
@[simp] theorem State.setBytes_net (bs : List Nat) : ∀ (s : State) (a : Nat), (s.setBytes a bs).net = s.net := by
  induction bs with
  | nil => intro s a; rfl
  | cons b bs ih => intro s a; exact (ih _ _).trans rfl
@[simp] theorem State.setBytes_rhd (bs : List Nat) : ∀ (s : State) (a : Nat), (s.setBytes a bs).rhd = s.rhd := by
  induction bs with
  | nil => intro s a; rfl
  | cons b bs ih => intro s a; exact (ih _ _).trans rfl
@[simp] theorem State.setBytes_berths (bs : List Nat) : ∀ (s : State) (a : Nat), (s.setBytes a bs).berths = s.berths := by
  induction bs with
  | nil => intro s a; rfl
  | cons b bs ih => intro s a; exact (ih _ _).trans rfl
@[simp] theorem State.setBytes_img (bs : List Nat) : ∀ (s : State) (a : Nat), (s.setBytes a bs).img = s.img := by
  induction bs with
  | nil => intro s a; rfl
  | cons b bs ih => intro s a; exact (ih _ _).trans rfl
@[simp] theorem State.setBytes_pilots (bs : List Nat) : ∀ (s : State) (a : Nat), (s.setBytes a bs).pilots = s.pilots := by
  induction bs with
  | nil => intro s a; rfl
  | cons b bs ih => intro s a; exact (ih _ _).trans rfl
@[simp] theorem State.setBytes_hma (bs : List Nat) : ∀ (s : State) (a : Nat), (s.setBytes a bs).hma = s.hma := by
  induction bs with
  | nil => intro s a; rfl
  | cons b bs ih => intro s a; exact (ih _ _).trans rfl
@[simp] theorem State.setBytes_hpl (bs : List Nat) : ∀ (s : State) (a : Nat), (s.setBytes a bs).hpl = s.hpl := by
  induction bs with
  | nil => intro s a; rfl
  | cons b bs ih => intro s a; exact (ih _ _).trans rfl
@[simp] theorem State.setBytes_log (bs : List Nat) : ∀ (s : State) (a : Nat), (s.setBytes a bs).log = s.log := by
  induction bs with
  | nil => intro s a; rfl
  | cons b bs ih => intro s a; exact (ih _ _).trans rfl
@[simp] theorem State.setBytes_cvu (bs : List Nat) : ∀ (s : State) (a : Nat), (s.setBytes a bs).cvu = s.cvu := by
  induction bs with
  | nil => intro s a; rfl
  | cons b bs ih => intro s a; exact (ih _ _).trans rfl
@[simp] theorem State.setBytes_pwr (bs : List Nat) : ∀ (s : State) (a : Nat), (s.setBytes a bs).pwr = s.pwr := by
  induction bs with
  | nil => intro s a; rfl
  | cons b bs ih => intro s a; exact (ih _ _).trans rfl
@[simp] theorem State.setBytes_bwr (bs : List Nat) : ∀ (s : State) (a : Nat), (s.setBytes a bs).bwr = s.bwr := by
  induction bs with
  | nil => intro s a; rfl
  | cons b bs ih => intro s a; exact (ih _ _).trans rfl
@[simp] theorem State.setBytes_outs (bs : List Nat) : ∀ (s : State) (a : Nat), (s.setBytes a bs).outs = s.outs := by
  induction bs with
  | nil => intro s a; rfl
  | cons b bs ih => intro s a; exact (ih _ _).trans rfl
@[simp] theorem State.setBytes_cte (bs : List Nat) : ∀ (s : State) (a : Nat), (s.setBytes a bs).cte = s.cte := by
  induction bs with
  | nil => intro s a; rfl
  | cons b bs ih => intro s a; exact (ih _ _).trans rfl
@[simp] theorem State.setBytes_cel (bs : List Nat) : ∀ (s : State) (a : Nat), (s.setBytes a bs).cel = s.cel := by
  induction bs with
  | nil => intro s a; rfl
  | cons b bs ih => intro s a; exact (ih _ _).trans rfl
@[simp] theorem State.setBytes_cap (bs : List Nat) : ∀ (s : State) (a : Nat), (s.setBytes a bs).cap = s.cap := by
  induction bs with
  | nil => intro s a; rfl
  | cons b bs ih => intro s a; exact (ih _ _).trans rfl
@[simp] theorem State.setBytes_sec (bs : List Nat) : ∀ (s : State) (a : Nat), (s.setBytes a bs).sec = s.sec := by
  induction bs with
  | nil => intro s a; rfl
  | cons b bs ih => intro s a; exact (ih _ _).trans rfl
@[simp] theorem State.setBytes_flashLoaded (bs : List Nat) : ∀ (s : State) (a : Nat), (s.setBytes a bs).flashLoaded = s.flashLoaded := by
  induction bs with
  | nil => intro s a; rfl
  | cons b bs ih => intro s a; exact (ih _ _).trans rfl
@[simp] theorem State.setBytes_copySent (bs : List Nat) : ∀ (s : State) (a : Nat), (s.setBytes a bs).copySent = s.copySent := by
  induction bs with
  | nil => intro s a; rfl
  | cons b bs ih => intro s a; exact (ih _ _).trans rfl
@[simp] theorem State.setBytes_copyHeld (bs : List Nat) : ∀ (s : State) (a : Nat), (s.setBytes a bs).copyHeld = s.copyHeld := by
  induction bs with
  | nil => intro s a; rfl
  | cons b bs ih => intro s a; exact (ih _ _).trans rfl

/-! ### Register fields -/

@[simp] theorem lookupKey_cons (k k' : RKey) (v : Nat) (l : List (RKey × Nat)) :
    lookupKey k ((k', v) :: l) = if k' = k then some v else lookupKey k l := rfl

theorem lookupKey_filter_of_true (k : RKey) (p : RKey × Nat → Bool) (l : List (RKey × Nat))
    (h : ∀ e ∈ l, e.1 = k → p e = true) : lookupKey k (l.filter p) = lookupKey k l := by
  induction l with
  | nil => rfl
  | cons e l ih =>
    have ih := ih (fun x hx => h x (List.mem_cons_of_mem _ hx))
    obtain ⟨k', v⟩ := e
    by_cases hk : k' = k
    · have hp : p (k', v) = true := h (k', v) List.mem_cons_self hk
      subst hk; simp [hp]
    · by_cases hp : p (k', v) = true <;> simp [hp, hk, ih]

/-- What a field reads depends on the register store and on whether flash has been loaded alone. -/
theorem State.get_congr {s t : State} (hr : t.regs = s.regs) (hf : t.flashLoaded = s.flashLoaded) (f : Fld) (i j : Nat) :
    t.get f i j = s.get f i j := by
  unfold State.get State.unlisted; rw [hr, hf]

/-- What a field reads after a write: the value cut to the field's width where it is the field written, else what it read. -/
theorem State.get_set (f g : Fld) (v i j i' j' : Nat) :
    (s.set f v i j).get g i' j' = if g = f ∧ i' = i ∧ j' = j then v % 2 ^ f.info.width else s.get g i' j' := by
  unfold State.get State.set
  by_cases h : g = f ∧ i' = i ∧ j' = j
  · obtain ⟨rfl, rfl, rfl⟩ := h
    simp
  · have hk : (⟨f, i, j⟩ : RKey) ≠ ⟨g, i', j'⟩ := by
      intro e; cases e; exact h ⟨rfl, rfl, rfl⟩
    rw [if_neg h, lookupKey_cons, if_neg hk, lookupKey_filter_of_true]
    · rfl
    · intro e _ he
      simp only [Bool.not_eq_true', decide_eq_false_iff_not]
      rw [he]; exact fun e => hk e.symm

@[simp] theorem State.get_set_same (f : Fld) (v i j : Nat) : (s.set f v i j).get f i j = v % 2 ^ f.info.width := by
  simp [State.get_set]

theorem State.get_set_ne {f g : Fld} {i j i' j' : Nat} (v : Nat) (h : ¬(g = f ∧ i' = i ∧ j' = j)) :
    (s.set f v i j).get g i' j' = s.get g i' j' := by
  rw [State.get_set, if_neg h]

/-- A field other than the one written, whatever its instance, reads as before. -/
@[simp] theorem State.get_set_fld {f g : Fld} (v i j i' j' : Nat) (h : g ≠ f) : (s.set f v i j).get g i' j' = s.get g i' j' :=
  State.get_set_ne s v (fun e => h e.1)

/-- Every register field has at least one bit. -/
theorem Fld.width_pos (f : Fld) : 0 < f.info.width := by cases f <;> decide

@[simp] theorem State.bit_setBit_same (f : Fld) (v : Bool) (i j : Nat) : (s.setBit f v i j).bit f i j = v := by
  have h : 2 ≤ 2 ^ f.info.width := by
    calc 2 = 2 ^ 1 := rfl
      _ ≤ 2 ^ f.info.width := Nat.pow_le_pow_right (by decide) (Fld.width_pos f)
  unfold State.bit State.setBit
  rw [State.get_set_same]
  cases v
  · simp
  · rw [Bool.toNat_true, Nat.mod_eq_of_lt (by omega)]; rfl

@[simp] theorem State.get_setBit_fld {f g : Fld} (v : Bool) (i j i' j' : Nat) (h : g ≠ f) :
    (s.setBit f v i j).get g i' j' = s.get g i' j' := State.get_set_fld s _ i j i' j' h

@[simp] theorem State.bit_set_fld {f g : Fld} (v i j i' j' : Nat) (h : g ≠ f) : (s.set f v i j).bit g i' j' = s.bit g i' j' := by
  unfold State.bit; rw [State.get_set_fld s v i j i' j' h]

@[simp] theorem State.bit_setBit_fld {f g : Fld} (v : Bool) (i j i' j' : Nat) (h : g ≠ f) :
    (s.setBit f v i j).bit g i' j' = s.bit g i' j' := State.bit_set_fld s _ i j i' j' h

/-- What a one-bit field reads after a write of one. -/
theorem State.bit_setBit (f g : Fld) (v : Bool) (i j i' j' : Nat) :
    (s.setBit f v i j).bit g i' j' = if g = f ∧ i' = i ∧ j' = j then v else s.bit g i' j' := by
  by_cases h : g = f ∧ i' = i ∧ j' = j
  · obtain ⟨rfl, rfl, rfl⟩ := h
    rw [State.bit_setBit_same, if_pos ⟨rfl, rfl, rfl⟩]
  · rw [if_neg h]; unfold State.bit State.setBit; rw [State.get_set_ne s _ h]

/-- A counter that no FREEZE holds rises by `n`, up to the largest value of its field. -/
theorem State.get_count (z f : Fld) (n i j : Nat) (h : s.bit z i = false) :
    (s.count z f n i j).get f i j = min (s.get f i j + n) (2 ^ f.info.width - 1) := by
  have hp : 0 < 2 ^ f.info.width := Nat.two_pow_pos _
  unfold State.count
  rw [h, if_neg (by decide), State.get_set_same, Nat.mod_eq_of_lt]
  omega

@[simp] theorem State.get_count_fld {z f g : Fld} (n i j i' j' : Nat) (h : g ≠ f) :
    (s.count z f n i j).get g i' j' = s.get g i' j' := by
  unfold State.count; split
  · rfl
  · exact State.get_set_fld s _ i j i' j' h

@[simp] theorem State.bit_count_fld {z f g : Fld} (n i j i' j' : Nat) (h : g ≠ f) :
    (s.count z f n i j).bit g i' j' = s.bit g i' j' := by
  unfold State.bit; rw [State.get_count_fld s n i j i' j' h]

theorem State.get_tally (f : Fld) (n i j : Nat) :
    (s.tally f n i j).get f i j = min (s.get f i j + n) (2 ^ f.info.width - 1) := by
  have hp : 0 < 2 ^ f.info.width := Nat.two_pow_pos _
  unfold State.tally
  rw [State.get_set_same, Nat.mod_eq_of_lt]
  omega

@[simp] theorem State.get_tally_fld {f g : Fld} (n i j i' j' : Nat) (h : g ≠ f) :
    (s.tally f n i j).get g i' j' = s.get g i' j' := State.get_set_fld s _ i j i' j' h

/-! ### Vectors -/

@[simp] theorem State.die_setDie (d : Fin 8) (x : DieSt) : (s.setDie d x).die d = x := by simp [State.die, State.setDie]
@[simp] theorem State.die_modDie (d : Fin 8) (g : DieSt → DieSt) : (s.modDie d g).die d = g (s.die d) := by simp [State.modDie]
theorem State.die_modDie_ne {d e : Fin 8} (g : DieSt → DieSt) (h : e ≠ d) : (s.modDie d g).die e = s.die e := by
  have : (d : Nat) ≠ e := fun x => h (Fin.ext x.symm)
  simp [State.modDie, State.setDie, State.die, this]
@[simp] theorem State.rhdOf_modRhd (b : Fin 8) (g : RhdSt → RhdSt) : (s.modRhd b g).rhdOf b = g (s.rhdOf b) := by
  simp [State.modRhd, State.setRhd, State.rhdOf]
@[simp] theorem State.berth_modBerth (b : Fin 8) (g : BerthSt → BerthSt) : (s.modBerth b g).berth b = g (s.berth b) := by
  simp [State.modBerth, State.setBerth, State.berth]
@[simp] theorem State.pilot_modPilot (p : Fin 2) (g : PilotSt → PilotSt) : (s.modPilot p g).pilot p = g (s.pilot p) := by
  simp [State.modPilot, State.setPilot, State.pilot]

end Sys2Proof.Machine
end

