-- ==== Sys2Proof/Laws/Access.lean ====
section
/-! SUPPORT. Register accesses: what an access of an owner session answers, and what clearing fields leaves. -/

namespace Sys2Proof.Machine

/-- A field that no entry names reads its unlisted value. -/
theorem lookupKey_none {k : RKey} {l : List (RKey × Nat)} (h : ∀ e ∈ l, e.1 ≠ k) : lookupKey k l = none := by
  induction l with
  | nil => rfl
  | cons e l ih =>
    obtain ⟨k', v⟩ := e
    rw [lookupKey_cons, if_neg (h (k', v) List.mem_cons_self)]
    exact ih (fun e he => h e (List.mem_cons_of_mem _ he))

/-- Clearing a list of fields everywhere: they read their unlisted value, and no other field changes. -/
theorem State.get_clearAll (s : State) (fs : List Fld) (f : Fld) (i j : Nat) :
    (s.clearAll fs).get f i j = if f ∈ fs then s.unlisted ⟨f, i, j⟩ else s.get f i j := by
  unfold State.clearAll State.get
  by_cases h : f ∈ fs
  · rw [if_pos h, lookupKey_none]
    · rfl
    · intro e he hk
      have := (List.mem_filter.mp he).2
      rw [hk] at this
      simp [h] at this
  · rw [if_neg h, lookupKey_filter_of_true]
    · rfl
    · intro e _ hk
      rw [hk]; simp [h]

/-- Setting the fields of a list to 0 in one instance. -/
theorem State.get_clearCnt (fs : List Fld) : ∀ (s : State) (inst : Nat) (f : Fld) (i j : Nat),
    (s.clearCnt fs inst).get f i j = if f ∈ fs ∧ i = inst ∧ j = 0 then 0 else s.get f i j := by
  induction fs with
  | nil => intro s inst f i j; simp [State.clearCnt]
  | cons g fs ih =>
    intro s inst f i j
    have : s.clearCnt (g :: fs) inst = (s.set g 0 inst).clearCnt fs inst := rfl
    rw [this, ih, State.get_set]
    by_cases h1 : f ∈ fs ∧ i = inst ∧ j = 0
    · rw [if_pos h1, if_pos ⟨List.mem_cons_of_mem _ h1.1, h1.2⟩]
    · rw [if_neg h1]
      by_cases h2 : f = g ∧ i = inst ∧ j = 0
      · obtain ⟨rfl, rfl, rfl⟩ := h2
        simp
      · rw [if_neg h2, if_neg]
        rintro ⟨hm, hr⟩
        rcases List.mem_cons.mp hm with e | hm
        · exact h2 ⟨e, hr⟩
        · exact h1 ⟨hm, hr⟩

/-- Setting the fields of a list to 0 in one instance clears them there and leaves every other field. -/
theorem State.clearCnt_cleared (s : State) (fs : List Fld) (inst : Nat) : Cleared fs inst s (s.clearCnt fs inst) := by
  constructor
  · intro f hf; rw [State.get_clearCnt, if_pos ⟨hf, rfl, rfl⟩]
  · intro f hf i j; rw [State.get_clearCnt, if_neg (fun h => hf h.1)]

@[simp] theorem State.get_out (s : State) (x : Tx) (f : Fld) (i j : Nat) : (s.out x).get f i j = s.get f i j := rfl
@[simp] theorem State.bit_out (s : State) (x : Tx) (f : Fld) (i j : Nat) : (s.out x).bit f i j = s.bit f i j := rfl
@[simp] theorem State.out_tx (s : State) (x : Tx) : (s.out x).tx = s.tx ++ [x] := rfl

/-- An output changes no field. -/
theorem Cleared.out {fs : List Fld} {inst : Nat} {s t : State} (h : Cleared fs inst s t) (x : Tx) : Cleared fs inst s (t.out x) := h

/-- The sources with the rights of an owner are sessions. -/
theorem State.right_owner {s : State} {src : Source} (h : s.right src = .owner) : s.carried src = none ∧ src ≠ .smbus := by
  cases src with
  | smbus => simp [State.right] at h
  | internal => simp [State.right] at h
  | session n => simp [State.carried, h]

/-- A write access of an owner is made, and its status goes out. -/
theorem State.writeAccess_owner {s : State} {src : Source} (h : s.right src = .owner) (act : State → State × Nat) :
    s.writeAccess src act = (act s).1.out (.access src (act s).2 0) := by
  obtain ⟨hc, hs⟩ := State.right_owner h
  unfold State.writeAccess
  rw [hc]
  simp [hs]

/-- An owner may write every register. -/
theorem State.writeSpot_owner {s : State} {src : Source} (h : s.right src = .owner) (p : Spot) (data : Nat)
    (act : State → State × Nat) : s.writeSpot src p data act = act s := by
  unfold State.writeSpot State.mayWrite
  rw [h]; rfl

/-- What the command of one action field does for an owner. -/
theorem State.actRow_owner {s : State} {src : Source} (h : s.right src = .owner) (p : Spot) (data : Nat) (f : Fld) (i v : Nat)
    (hw : s.writeIgnored p = false) :
    s.actRow src p data f i v = (s.fieldAct src p f i v).1.out (.access src (s.fieldAct src p f i v).2 0) := by
  unfold State.actRow
  rw [State.writeAccess_owner h, State.writeSpot_owner h, hw]
  rfl

/-- What the command that writes one field does for an owner. -/
theorem State.fieldRow_owner {s : State} {src : Source} (h : s.right src = .owner) (p : Spot) (data : Nat) (act : State → State)
    (hw : s.writeIgnored p = false) : s.fieldRow src p data act = (act s).out (.access src 0 0) := by
  unfold State.fieldRow
  rw [State.writeAccess_owner h, State.writeSpot_owner h, hw]
  rfl

end Sys2Proof.Machine
end

