-- ==== Sys2Proof/Laws/Memory.lean ====
section
/-! SUPPORT. Memory: every operation keeps the canonical form, a byte reads what was last written to it, and a write leaves every
other byte alone. -/

namespace Sys2Proof.Machine

/-- Canonical lists by their head: its byte is not 0, its address below every later one, and the rest is canonical. -/
theorem Memory.wf_cons {a : Nat} {v : BitVec 8} {l : List Host.Cell} :
    Memory.wf ((a, v) :: l) = true ↔ v ≠ 0#8 ∧ (∀ c ∈ l, a < c.1) ∧ Memory.wf l = true := by
  induction l generalizing a v with
  | nil => simp [Memory.wf]
  | cons c l ih =>
    obtain ⟨b, w⟩ := c
    constructor
    · intro h
      simp only [Memory.wf, Bool.and_eq_true, decide_eq_true_eq] at h
      obtain ⟨⟨hv, hab⟩, hl⟩ := h
      refine ⟨hv, ?_, hl⟩
      intro c hc
      rcases List.mem_cons.mp hc with rfl | hc
      · exact hab
      · exact Nat.lt_trans hab ((ih.mp hl).2.1 c hc)
    · rintro ⟨hv, ha, hl⟩
      simp only [Memory.wf, Bool.and_eq_true, decide_eq_true_eq]
      exact ⟨⟨hv, ha (b, w) List.mem_cons_self⟩, hl⟩

/-- A canonical list without some of its entries is canonical. -/
theorem Memory.wf_filter (p : Host.Cell → Bool) {l : List Host.Cell} (h : Memory.wf l = true) : Memory.wf (l.filter p) = true := by
  induction l with
  | nil => rfl
  | cons c l ih =>
    obtain ⟨a, v⟩ := c
    obtain ⟨hv, ha, hl⟩ := Memory.wf_cons.mp h
    rw [List.filter_cons]
    split
    · exact Memory.wf_cons.mpr ⟨hv, fun c hc => ha c (List.mem_filter.mp hc).1, ih hl⟩
    · exact ih hl

/-- An address of a written list is the one written or was there before. -/
theorem mem_memPut {a : Nat} {v : BitVec 8} {l : List Host.Cell} {c : Host.Cell} (h : c ∈ memPut a v l) :
    c.1 = a ∨ c ∈ l := by
  induction l with
  | nil =>
    unfold memPut at h; split at h
    · cases h
    · simp only [List.mem_singleton] at h; exact .inl (by rw [h])
  | cons e l ih =>
    obtain ⟨a', v'⟩ := e
    unfold memPut at h
    split at h
    · split at h
      · exact .inr h
      · rcases List.mem_cons.mp h with rfl | h
        · exact .inl rfl
        · exact .inr h
    · split at h
      · split at h
        · exact .inr (List.mem_cons_of_mem _ h)
        · rcases List.mem_cons.mp h with rfl | h
          · exact .inl rfl
          · exact .inr (List.mem_cons_of_mem _ h)
      · rcases List.mem_cons.mp h with rfl | h
        · exact .inr List.mem_cons_self
        · exact (ih h).imp id (List.mem_cons_of_mem _)

/-- A write keeps the canonical form. -/
theorem Memory.wf_memPut (a : Nat) (v : BitVec 8) {l : List Host.Cell} (h : Memory.wf l = true) : Memory.wf (memPut a v l) = true := by
  induction l with
  | nil =>
    unfold memPut; split
    · rfl
    · exact Memory.wf_cons.mpr ⟨‹_›, (by simp), rfl⟩
  | cons e l ih =>
    obtain ⟨a', v'⟩ := e
    have hc := Memory.wf_cons.mp h
    unfold memPut
    split
    · split
      · exact h
      · refine Memory.wf_cons.mpr ⟨‹_›, ?_, h⟩
        intro c hm
        rcases List.mem_cons.mp hm with rfl | hm
        · assumption
        · exact Nat.lt_trans ‹_› (hc.2.1 c hm)
    · split
      · split
        · exact hc.2.2
        · rename_i _ he _
          subst he
          exact Memory.wf_cons.mpr ⟨‹_›, hc.2.1, hc.2.2⟩
      · refine Memory.wf_cons.mpr ⟨hc.1, ?_, ih hc.2.2⟩
        intro c hm
        rcases mem_memPut hm with he | hm
        · omega
        · exact hc.2.1 c hm

/-- Below the lowest listed address every byte reads 0. -/
theorem memGet_below {b : Nat} {l : List Host.Cell} (h : ∀ c ∈ l, b < c.1) : memGet b l = 0#8 := by
  induction l with
  | nil => rfl
  | cons e l ih =>
    obtain ⟨a, v⟩ := e
    have : a ≠ b := fun x => Nat.lt_irrefl b (x ▸ h (a, v) List.mem_cons_self)
    unfold memGet; rw [if_neg this]
    exact ih (fun c hc => h c (List.mem_cons_of_mem _ hc))

/-- What a byte of a canonical list reads after a write. -/
theorem memGet_memPut (a b : Nat) (v : BitVec 8) {l : List Host.Cell} (h : Memory.wf l = true) :
    memGet b (memPut a v l) = if b = a then v else memGet b l := by
  induction l with
  | nil =>
    unfold memPut; split
    · rename_i hv; subst hv; simp [memGet]
    · simp only [memGet, eq_comm]
  | cons e l ih =>
    obtain ⟨a', v'⟩ := e
    have hc := Memory.wf_cons.mp h
    unfold memPut
    split
    · rename_i hlt
      have hz : memGet a ((a', v') :: l) = 0#8 := memGet_below (by
        intro c hm
        rcases List.mem_cons.mp hm with rfl | hm
        · exact hlt
        · exact Nat.lt_trans hlt (hc.2.1 c hm))
      split
      · rename_i hv
        by_cases hb : b = a
        · rw [if_pos hb, hb, hz, hv]
        · rw [if_neg hb]
      · show (if a = b then v else memGet b ((a', v') :: l)) = _
        simp only [eq_comm]
    · split
      · rename_i _ he
        subst he
        have hz : memGet a l = 0#8 := memGet_below hc.2.1
        split
        · rename_i hv
          by_cases hb : b = a
          · rw [if_pos hb, hb, hz, hv]
          · have : ¬a = b := fun x => hb x.symm
            simp [memGet, hb, this]
        · by_cases hb : b = a
          · simp [memGet, hb]
          · have : ¬a = b := fun x => hb x.symm
            simp [memGet, hb, this]
      · show (if a' = b then v' else memGet b (memPut a v l)) = _
        rw [ih hc.2.2]
        by_cases hb : b = a
        · have : ¬a' = b := by omega
          simp [hb]; omega
        · by_cases h2 : a' = b <;> simp [memGet, hb, h2]

/-! ### On the state -/

/-- The state's memory has its canonical form. -/
theorem State.setByte_wf {s : State} (a : Nat) (v : BitVec 8) (h : Memory.wf s.mem = true) :
    Memory.wf (s.setByte a v).mem = true := Memory.wf_memPut a v h

theorem State.setBytes_wf (bs : List Nat) : ∀ {s : State} (a : Nat), Memory.wf s.mem = true → Memory.wf (s.setBytes a bs).mem = true := by
  induction bs with
  | nil => intro s a h; exact h
  | cons b bs ih => intro s a h; exact ih _ (State.setByte_wf a _ h)

theorem State.byte_setByte {s : State} (a b : Nat) (v : BitVec 8) (h : Memory.wf s.mem = true) :
    (s.setByte a v).byte b = if b = a then v else s.byte b := memGet_memPut a b v h

/-- A write of bytes leaves every byte outside them alone. -/
theorem State.byte_setBytes_outside (bs : List Nat) : ∀ {s : State} (a b : Nat), Memory.wf s.mem = true →
    b < a ∨ a + bs.length ≤ b → (s.setBytes a bs).byte b = s.byte b := by
  induction bs with
  | nil => intro s a b _ _; rfl
  | cons x bs ih =>
    intro s a b h hb
    simp only [List.length_cons] at hb
    have := ih (s := s.setByte a (BitVec.ofNat 8 x)) (a + 1) b (State.setByte_wf a _ h) (by omega)
    rw [show s.setBytes a (x :: bs) = (s.setByte a (BitVec.ofNat 8 x)).setBytes (a + 1) bs from rfl, this, State.byte_setByte _ _ _ h,
      if_neg (by omega)]

/-- A write of bytes gives each byte its value. -/
theorem State.byte_setBytes_inside (bs : List Nat) : ∀ {s : State} (a i : Nat) (hi : i < bs.length), Memory.wf s.mem = true →
    (s.setBytes a bs).byte (a + i) = BitVec.ofNat 8 bs[i] := by
  induction bs with
  | nil => intro s a i hi _; exact absurd hi (Nat.not_lt_zero i)
  | cons x bs ih =>
    intro s a i hi h
    have hw := State.setByte_wf a (BitVec.ofNat 8 x) h
    rw [show s.setBytes a (x :: bs) = (s.setByte a (BitVec.ofNat 8 x)).setBytes (a + 1) bs from rfl]
    cases i with
    | zero =>
      rw [State.byte_setBytes_outside bs (a + 1) (a + 0) hw (by omega), State.byte_setByte _ _ _ h]
      simp
    | succ i =>
      have := ih (s := s.setByte a (BitVec.ofNat 8 x)) (a + 1) i (by simpa using hi) hw
      rw [show a + (i + 1) = a + 1 + i by omega, this]
      simp

/-- At reset memory has its canonical form. -/
theorem State.reset_mem_wf : Memory.wf State.reset.mem = true := rfl

end Sys2Proof.Machine
end

