-- ==== Sys2Proof/Tests/Slice0.lean ====
section
/-! SUPPORT. Tests of the model on small states, and a witness for the hypotheses of each statement. -/

set_option Elab.async false

namespace Sys2Proof.Tests

open Sys2Proof Sys2Proof.Machine

/-- The module at reset with some register fields given: field, instance, item, value. -/
def ws (l : List (Fld × Nat × Nat × Nat)) : State :=
  { State.reset with regs := l.map (fun e => (⟨e.1, e.2.1, e.2.2.1⟩, e.2.2.2)) }

/-- The same with an open session 1 of the owner. -/
def owned (l : List (Fld × Nat × Nat × Nat)) : State :=
  { ws l with net := { State.reset.net with sessions := [{ id := 1, role := 0xFF, isOpen := true, kc := [], km := [], setup := [], since := 0 }] } }

/-- A record of level 2, unread. -/
def aRecord : LogRecord :=
  { seq := 5, time := 0, code := 0x2201, level := 2, ptp := false, onPB := false, unit := 0xFF, arg0 := 0, arg1 := 0 }

/-- SUP ready, with one unread record in the ring of PA. -/
def aFault : State :=
  { ws [(.MOD_READY_SUP, 0, 0, 1)] with log := { ring := #v[[aRecord], []], unread := [5] } }
/-- PA active while a log flush drives its flash. -/
def busy : State :=
  { ws [(.LOG_STATUS_FLUSHING, 0, 0, 1)] with pilots := #v[{ role := .active }, {}], hma := { grant := some 0 } }
/-- PA active with a mounted ring of one record. -/
def logging : State :=
  { ws [] with log := { mounted := #v[true, false], ring := #v[[aRecord], []], nextSeq := 6 } }

/-- The same with a latched rail. -/
def latched : State := { logging with log := { logging.log with latches := [⟨0x14, 3, 4⟩] } }

/-- PA holds control. -/
def activePA : State := { ws [] with pilots := #v[{ role := .active }, {}], hma := { grant := some 0 } }
/-- A berth of die 0 and quay 0 with channel 0 on tug 0 and four queue pairs. -/
def aDesc : BerthDesc :=
  { dieMask := 1, quayMask := 1, capWeight := 1, qpCount := 4, ballastMaxW := 100, hbm := [(0, 24), (0, 24)], qsram := [(64, 64)],
    chan := [(0, 0)], bamporKey := [], imgKey := [], qpBase := 0,
    ports := [⟨0x020000000001, 0, 0x0A000001, 0⟩, ⟨0x020000000002, 0, 0x0A000002, 0⟩], classW := [], hints := [] }

/-- An owner session, and berth 0 with die 0. -/
def berthed : State :=
  { owned [] with
    berths := State.reset.berths.set 0 { desc := some aDesc }
    dies := State.reset.dies.set 0 { berth := some 0, image := some {} } }

/-- A stored full image whose directory names berth 0. -/
def storedImg : List Nat := List.replicate 12 0 ++ [1, 0] ++ List.replicate 50 0 ++ [0x10] ++ List.replicate 15 0
/-- An image that names berth 0 with dies 0 and 1, and an owner session over it in a state of the loader. -/
def anImage : List Nat :=
  List.replicate 12 0 ++ [3] ++ List.replicate 51 0 ++
    [0x10, 0x11, 0x12].flatMap (fun t => [t, 0, 0, 0, 11, 0, 0, 0, 4, 0, 0, 0, 0, 0, 0, 0])
def loaded (st ready : Nat) : State :=
  { owned [(.BTH_IMG_STATE_STATE, 0, 0, st), (.BTH_IMG_FRAMES_EXPECTED, 0, 0, 1), (.MOD_READY_CD, 0, 0, ready)] with
    img := { frames := [(0, anImage)], length := some anImage.length } }

/-- Die 0 out of reset, with values in registers 2, 3, 5, 6 and 7 of lane 1. -/
def lanes : State :=
  { ws [(.RST_IN_RESET_STATE, 0, 0, 0xFFFFFE78), (.CDC_STEP_STEP, 0, 0, 9)] with
    dies := State.reset.dies.set 0
      { scalars := [((1, 2), 0xFFFFFFFFBF800000#64), ((1, 3), 0x40200003#64), ((1, 5), 0x1122334455667788#64), ((1, 6), 64#64),
                    ((1, 7), 1024#64)] } }

/-- The same with an LDT of lane 1's register 9 that waits for its bank. -/
def ldting : State := { lanes with dies := lanes.dies.set 0 { ext := [⟨3, 64, .ldt 1 9, 0⟩] } }
/-- The same with a fixed-latency write of that register pending. -/
def pended : State := { lanes with dies := lanes.dies.set 0 { scoreboard := [(1, 9, 3)] } }

/-- Die 0 out of reset with one gang of one tile, linked to its north, and three operation-table entries. -/
def ganged : State :=
  ({ ws [(.RST_IN_RESET_STATE, 0, 0, 0xFFFFFE78)] with
    dies := State.reset.dies.set 0 { image := some { gangs := [{ nw := 12, shape := 0 }], links := [2], use := [(1, 0)] } } } :
    State).setBytes (bstoreBase 0)
      ([0, 0, 0, 0, 1, 0, 0, 0] ++ List.replicate 24 0 ++ [0x30, 0, 0, 0, 1, 0, 0, 0] ++ List.replicate 24 0 ++
        [0, 0, 0, 0, 1, 0, 0, 0] ++ List.replicate 24 0)
/-- Die 0 of berth 0 and quay 0 out of reset. -/
def streaming : State := { berthed with regs := [(⟨.RST_IN_RESET_STATE, 0, 0⟩, 0)] }

/-- The same with group 0 of two members, the module itself and one behind queue pair 0 in RTS on a linked sub-port. -/
def grouped : State :=
  { streaming with regs :=
    [(⟨.RST_IN_RESET_STATE, 0, 0⟩, 0), (⟨.NET_GRP_CFG_SIZE_M1, 0, 0⟩, 1), (⟨.NET_GRP_ENTRY_VALID, 0, 0⟩, 1),
     (⟨.NET_GRP_ENTRY_SELF, 0, 0⟩, 1), (⟨.NET_GRP_ENTRY_VALID, 0, 1⟩, 1), (⟨.NET_QP_CTRL_STATE, 0, 0⟩, 3),
     (⟨.NET_P_LINK_UP, 0, 0⟩, 1)] }

/-- Die 0 out of reset with a tally of 5, two loop counters and a completed handle. -/
def waiting : State :=
  { ws [(.RST_IN_RESET_STATE, 0, 0, 0)] with
    dies := State.reset.dies.set 0
      { tallies := (Vector.replicate 16 0).set 1 5, tallyErr := [(1, 1)], loops := #v[3#32, 0#32, 7#32, 1#32]
        handles := [⟨3, [], 0, some 0⟩] } }

/-- Berth 0 with a frame period while PTP is ready. -/
def framed : State :=
  { berthed with regs := [(⟨.BTH_B_FRAME_PERIOD_US, 0, 0⟩, 1000), (⟨.MOD_READY_PTP, 0, 0⟩, 1)] }

/-- Berth 0 after an abandoned frame, its die back at the snapshot's place. -/
def aSnap : Snapshot :=
  { pc := 7, step := 3, scalars := [((0, 1), 5#64)], preds := 6, loops := #v[1#32, 2#32, 0#32, 0#32], tallies := Vector.replicate 16 2 }
def restored : State :=
  { framed with
    berths := framed.berths.set 0 { desc := some aDesc, loopWait := true }
    dies := framed.dies.set 0 { berth := some 0, image := some {}, restoring := true, snapshot := some aSnap } }

/-- Die 0 out of reset with a change to code 0x20 pending. -/
def changing : State :=
  { ws [(.RST_IN_RESET_STATE, 0, 0, 0)] with dies := State.reset.dies.set 0 { ratePend := some ⟨0x20, 4, 0, false⟩ } }
/-- A FILL of one line of berth 0's scratch on quay 0 with 0x04030201, from channel 0 on tally 2. -/
def aFill : TugIssue := { chan := 0, tally := 2, entry := [1, 1, 0x04030201, 0, 0, 0x80, 0, 0], rep := 0, frame := 0 }

/-- Die 0 of berth 0 with that descriptor issued. -/
def tugged : State := { streaming with dies := streaming.dies.set 0 { berth := some 0, image := some {}, chans := [aFill] } }

/-- The same with the descriptor running on tug 0 of quay 0. -/
def tugRunning : State :=
  { tugged with quays := State.reset.quays.set 0 { tugs := (Vector.replicate 32 {}).set 0 { runs := [{ die := 0, issue := aFill }], nextRun := 1 } } }

/-- Die 0 of berth 0 with a gather of one scratch line. -/
def gathering : State :=
  { streaming with
    dies := streaming.dies.set 0
      { berth := some 0, image := some {}, gathers := [{ id := 3, scatter := false, tally := 2, rows := [{ idx := 1, tile := 0, sram := 0, addr := 0x8000000000 }], frame := 0 }] } }

/-- Every link trained, between dies out of reset. -/
def linked : State := { ws [(.RST_IN_RESET_STATE, 0, 0, 0)] with fwy := { trained := List.range 18 } }

/-- Queue pair 2 of berth 0 in RTS on a linked sub-port, its ring of one entry at the start of scratch of quay 0, the entry owned
by the module with a buffer of 64 bytes 4 KiB further on. -/
def netted : State :=
  ({ berthed with
    regs := [(⟨.RST_IN_RESET_STATE, 0, 0⟩, 0), (⟨.NET_QP_CTRL_STATE, 0, 2⟩, 3), (⟨.NET_P_LINK_UP, 0, 0⟩, 1),
      (⟨.NET_QP_RKEY_RKEY, 0, 2⟩, 0xABCD), (⟨.NET_QP_RQ_BASE_HI_ADDR, 0, 2⟩, 0x80), (⟨.NET_QP_RQ_PSN_PSN, 0, 2⟩, 9)]
    fwy := { trained := List.range 18, timeoutAt := some 0 } } : State).setBytes (scratchBase 0 0)
      [0, 0x10, 0, 0, 0x80, 0, 0, 0, 64, 0, 0, 0, 1, 0, 0, 0]

/-- The same with two packets of it not acknowledged. -/
def sending : State := { netted with net := { netted.net with qps := [{ qp := 2, rateMbps := 1600000, unacked := [(4, []), (5, [])] }] } }

/-- Die 0 with a collective of group 0 in flight on handle 3. -/
def collecting : State :=
  { grouped with
    net := { grouped.net with colls := [{ die := 0, handle := 3, berth := 0, group := 0, entry := [1, 4, 0, 0x80, 0x1000, 0x80, 0, 0], rep := 0, posted := 0 }] }
    dies := grouped.dies.set 0 { berth := some 0, image := some {}, handles := [⟨3, [1, 4, 0, 0x80, 0x1000, 0x80, 0, 0], 0, none⟩] } }

/-- The same with a broadcast of 16 bytes from position 1 into scratch. -/
def casting : State :=
  { grouped with
    net := { grouped.net with colls := [{ die := 0, handle := 3, berth := 0, group := 0, entry := [3, 4, 0, 0, 0x1000, 0x80, 1, 0], rep := 0, posted := 0 }] }
    fwy := { trained := List.range 18 }
    dies := grouped.dies.set 0 { berth := some 0, image := some {}, handles := [⟨3, [3, 4, 0, 0, 0x1000, 0x80, 1, 0], 0, none⟩] } }

/-- An owner session while NET is out of reset and PA is active. -/
def asking : State :=
  { owned [(.RST_IN_RESET_STATE, 0, 0, 0), (.NET_P_LINK_UP, 0, 0, 1)] with pilots := #v[{ role := .active, linkEn := true }, {}], hma := { grant := some 0 } }

/-- Its session. -/
def anOwner : Session := { id := 1, role := 0xFF, isOpen := true, kc := [], km := [], setup := [], since := 0 }

/-- A tagged request of it. -/
def aVia : BpVia := { magic := 0xBA40, version := 1, port := 0, sub := 0, peer := ⟨0x020000000009, false, 0x0A000009⟩ }
def ask (type : Nat) (payload : List Nat) : BpHdr :=
  ⟨aVia, none, none, 1, 5, bpTag [] (bpBytes ⟨aVia, none, none, 1, 5, []⟩ type payload)⟩

/-- The same with a payload of a wrong length. -/
def askBad : BpHdr :=
  let h : BpHdr := ⟨aVia, none, some [1], 1, 5, []⟩
  { h with tag := bpTag [] (bpBytes h 0x10 []) }

/-- The same after a request of it that wrote the rack cap. -/
def repeating : State :=
  { asking with net := { asking.net with sessions :=
    [{ anOwner with
       highSeq := some 5, reply := some (0x11, 0, [1, 0, 0, 0])
       lastReq := bpBytes (ask 0x11 (toBe 0x1B000C 4 ++ [1, 0, 0, 0] ++ toBe 9 4)) 0x11 (toBe 0x1B000C 4 ++ [1, 0, 0, 0] ++ toBe 9 4) }] } }

/-- Berth 0 in a rate-hold state with some fields and rate-hold data, its port linked. -/
def tuned (st : Nat) (l : List (Fld × Nat)) (r : RhdSt) : State :=
  { berthed with
    regs := [(⟨.RST_IN_RESET_STATE, 0, 0⟩, 0), (⟨.RHD_STATE_STATE, 0, 0⟩, st), (⟨.NET_P_LINK_UP, 0, 0⟩, 1)] ++
      l.map (fun e => (⟨e.1, 0, 0⟩, e.2))
    net := (owned []).net, rhd := State.reset.rhd.set 0 r
    pilots := #v[{ role := .active, linkEn := true }, {}], hma := { grant := some 0 } }

/-- A valid Tidemark header of domain 0 without a tag. -/
def tmSrc : Addr := ⟨0x020000000009, false, 0x0A000009⟩
def tmh (sender alive epoch type : Nat) (payload : List Nat) : TmHdr :=
  let h : TmHdr := ⟨tmSrc, 0x7D3C, 1, 0, sender, epoch, alive, payload.length, 0, [], 0⟩
  { h with crc := crc32c (tmBytes h type payload) }

/-- PA active and linked to the helm controllers, IB out of reset, rail 5 as given. -/
def powered (l : List (Fld × Nat × Nat × Nat)) (x : RailSt) : State :=
  { ws ((.RST_IN_RESET_STATE, 0, 0, 0) :: l) with
    pilots := #v[{ role := .active, linkEn := true }, {}], hma := { grant := some 0 }, now := 1000
    pwr := { State.reset.pwr with rails := State.reset.pwr.rails.set 5 x } }

/-- A helm command for rail 5: EN, ALIVE 3, set-point 800 mV. -/
def aCommand : Vector (BitVec 8) 8 :=
  let h := [5, 1, 0x20, 3, 3, 0]
  let c := crc16 h
  #v[5, 1, 0x20, 3, 3, 0, BitVec.ofNat 8 c, BitVec.ofNat 8 (c / 256)]

/-- An owner session, and the record of rail 5 in writing. -/
def recording : State := { owned [] with pwr := { State.reset.pwr with recs := State.reset.pwr.recs.set 5 { writing := some (List.replicate 64 7) } } }

/-- The same record stored. -/
def recorded : State :=
  { owned [] with pwr := { State.reset.pwr with recs := State.reset.pwr.recs.set 5 { seq := 1, slots := #v[[List.range 64], []] } } }

/-- A pack of 12 cells at 3.00 V that fits every closing condition, isolation in a state, with more fields. -/
def packed (iso : Nat) (l : List (Fld × Nat × Nat × Nat)) : State :=
  { ws ((.BWR_STATUS_ISO, 0, 0, iso) :: (.BWR_PACK_CELLS, 0, 0, 12) :: (.BWR_PACK_CELL_F, 0, 0, 400) :: (.CEL_PACK_ID_DECODE, 0, 0, 1) ::
      (.CEL_ILK_CLOSED, 0, 0, 1) :: (.MOD_READY_CEL, 0, 0, 1) :: (.MOD_READY_RG_IB, 0, 0, 1) :: (.CEL_STACK_MV, 0, 0, 36000) ::
      ((List.range 12).map (fun k => (.CEL_CELL_V, 0, k, 30000)) ++ l)) with
    pins := { ilkClosed := true } }

/-- Die 0 of berth 0 in a long wait with a gang that may run ballast, the input set at its floor of 500 W. -/
def idling : State :=
  { packed 2 [(.BWR_BALLAST_CFG_ENABLE, 0, 0, 1), (.BWR_FLOOR_W, 0, 0, 500), (.CAP_EFF_W, 0, 0, 1000), (.BWR_SOC_PCT_X100, 0, 0, 9500)] with
    outs := { State.reset.outs with pset := 500 }, berths := berthed.berths
    dies := State.reset.dies.set 0 { berth := some 0, image := some { gangs := [{ nw := 12, shape := 0, ballast := true }] }, waitStall := 300 } }
/-- A loop in a mode, without a threshold for its residual, whose sample has started on this state. -/
def sampling (i mode : Nat) (s : State) : State :=
  let l := (RKey.mk .CTE_LOOP_STATE_MODE 0 i, mode) :: (RKey.mk .CTE_LOOP_STATE_CAUSE 0 i, 4) ::
    (List.range 32).map (fun w => (RKey.mk .CTE_PARAM_ACTIVE_VALUE 0 (32 * i + w), 0))
  let s : State := { s with regs := l ++ s.regs }
  { s with cte := { s.cte with ready := [i], snaps := [⟨i, s.regs, s.outs, { s.pins with capFastN := true }, s.now⟩] } }

/-- A state whose loop has had its first automatic sample. -/
def loopRun (i : Nat) (s : State) : State := s.modLoop i (fun x => { x with first := false })

/-- A period of 20 ms since an anchor 10 ms ago, the phase of the table last seen 2 bins back. -/
def tideOn (s : State) : State :=
  { s with now := 30 * ms, bwr := { s.bwr with anchors := [20 * ms], lastAnchor := some (20 * ms), lastBin := 510, tide := [(3, 5), (511, 40)] } }

/-- The input set at 900 W under a cap of 1000 W, CL04 running. -/
def paced : State :=
  { loopRun 4 (packed 2 [(.BWR_STATUS_REGULATING, 0, 0, 1), (.BWR_SLEW_W_PER_S, 0, 0, 1000), (.BWR_FILTER_MS, 0, 0, 100)]) with outs := { State.reset.outs with pset := 900, capEff := 1000 } }

/-- A demand of 5000 W against a cap of 1000 W, no pacing. -/
def short : State :=
  { packed 2 [(.PWR_IN_V_NODE_MV, 0, 0, 50000), (.PWR_IN_I_A_X100, 0, 0, 10000)] with outs := { State.reset.outs with capEff := 1000 } }
/-- Die 0 of berth 0 runs. -/
def sharing : State :=
  { packed 2 [(.RST_IN_RESET_STATE, 0, 0, 0xFFFFFE78), (.CDC_STREAM_STATE_STATE, 0, 0, 1), (.CAP_SHARE_CODE, 0, 0, 9)] with outs := { State.reset.outs with capEff := 1000 }, berths := berthed.berths, dies := berthed.dies }

/-- A customer package of class 1 with a latency bound of 1000 cycles that may write outputs 0 to 3 and the limits, running. -/
def custRuns : State :=
  { packed 2 [(.CTE_LOOP_CFG_CLASS, 0, 31, 1)] with
    cte := { State.reset.cte with custActive := some ((List.replicate 28 0) ++ [232, 3, 0, 0] ++ List.replicate 8 0 ++ [15, 7, 0, 0]) } }

/-- A frame of an image. -/
def frame0 : List Nat := List.replicate 4096 0

/-- A frame from a station of the segment to berth 0 on port 0. -/
def toBerth (k : FrameKind) : EthFrame := ⟨⟨0x020000000009, false, 0x0A000009⟩, ⟨0x020000000001, false, 0x0A000001⟩, none, false, k, 64⟩

/-- Such a frame is taken by berth 0's identity, whatever the module's own MAC address is. -/
theorem taken_by_berth (k : FrameKind) (hk : (⟨0x020000000001, 0, 0x0A000001, [0]⟩ : Identity).takes (toBerth k) = true) :
    (netted.identities 0).any (fun i => i.takes (toBerth k)) = true := by
  rw [List.any_eq_true]
  exact ⟨⟨0x020000000001, 0, 0x0A000001, [0]⟩, List.mem_cons_of_mem _ (by decide +kernel), hk⟩

theorem delivered_arp : netted.delivers 0 (toBerth .arp) = true ∧ ctrlKind .arp = some 0 := by
  exact ⟨by simp only [State.delivers, taken_by_berth .arp (by decide +kernel)]; rfl, rfl⟩

theorem delivered_other : netted.delivers 0 (toBerth .other) = true ∧ ctrlKind .other = none := by
  exact ⟨by simp only [State.delivers, taken_by_berth .other (by decide +kernel)]; rfl, rfl⟩

/-- A request with the tag that its session's key gives is accepted. -/
theorem asked (s : State) (x : Session) (type : Nat) (payload : List Nat) (hu : s.bpUp = true) (ho : s.openSession 1 = some x)
    (hk : x.kc = []) (hq : x.highSeq = none) (hw : bpWellFormed (ask 0 []) type payload = true) :
    s.accepts (ask type payload) x type payload = true := by
  have hw' : bpWellFormed (ask type payload) type payload = true := hw
  have ht : bpTagOk x (ask type payload) type payload = true := by simp [bpTagOk, ask, hk, bpBytes, bpPayload, bpType, bpKnown, aVia]
  have hs : (ask type payload).session = 1 := rfl
  simp [State.accepts, hu, hs, ho, hq, hw', ht]

theorem asked_frame (s : State) (x : Session) (hu : s.bpUp = true) (ho : s.openSession 1 = some x) (hk : x.kc = [])
    (hq : x.highSeq = none) : s.accepts (ask 0x20 frame0) x 0x20 frame0 = true :=
  asked s x 0x20 frame0 hu ho hk hq (by decide +kernel)

theorem tagged (x : Session) (type : Nat) (payload : List Nat) (hk : x.kc = []) :
    bpTagOk x (ask type payload) type payload = true := by
  simp [bpTagOk, ask, hk, bpBytes, bpPayload, bpType, bpKnown, aVia]

theorem badTagged (x : Session) (hk : x.kc = []) (payload : List Nat) : bpTagOk x askBad 0x10 payload = true := by
  simp [bpTagOk, askBad, hk, bpBytes, bpPayload, bpType, bpKnown, aVia, bpLengthOk]

/-! Ill-formed commands. -/

/-- Well-formed headers; each row below breaks one operand. -/
def goodVia : BpVia := ⟨0xBA40, 1, 0, 0, ⟨1, false, 1⟩⟩
def goodHdr : BpHdr := ⟨goodVia, none, none, 1, 1, List.replicate 32 0⟩
def goodTm : TmHdr := ⟨⟨1, false, 1⟩, 0x7D3C, 1, 0, 0, 0, 0, 0, 0, [], 0⟩
def goodPtp : PtpMsg := ⟨0, 0, 0, .ethernet, none, .peerDelay⟩
def goodEth : EthFrame := ⟨⟨1, false, 1⟩, ⟨1, false, 1⟩, none, false, .arp, 64⟩

/-- Each check of well-formedness refuses a command whose operand breaks it: widths of sessions and headers. -/
theorem test_wf_refuses_sources_and_headers :
    (Instr.registerWrite (.session (2 ^ 32)) 0 0).wf = false ∧
    (Instr.bpClose { goodHdr with via := { goodVia with magic := 0x10000 } }).wf = false ∧
    (Instr.bpClose { goodHdr with via := { goodVia with version := 256 } }).wf = false ∧
    (Instr.bpClose { goodHdr with via := { goodVia with peer := ⟨2 ^ 48, false, 0⟩ } }).wf = false ∧
    (Instr.bpClose { goodHdr with badPayload := some [256] }).wf = false ∧ (Instr.bpClose { goodHdr with session := 2 ^ 32 }).wf = false ∧
    (Instr.bpClose { goodHdr with seq := 2 ^ 64 }).wf = false ∧ (Instr.bpClose { goodHdr with tag := [] }).wf = false ∧
    (Instr.tmClaimRx 0 { goodTm with src := ⟨0, false, 2 ^ 32⟩ } 0).wf = false ∧ (Instr.tmClaimRx 0 { goodTm with crc := 2 ^ 32 } 0).wf = false ∧
    (Instr.tmClaimRx 0 { goodTm with tag := [256] } 0).wf = false ∧ (Instr.tmClaimRx 0 { goodTm with magic := 0x10000 } 0).wf = false ∧
    (Instr.tmClaimRx 0 { goodTm with version := 256 } 0).wf = false ∧ (Instr.tmClaimRx 0 { goodTm with sender := 0x10000 } 0).wf = false ∧
    (Instr.tmClaimRx 0 { goodTm with domain := 0x10000 } 0).wf = false ∧ (Instr.tmClaimRx 0 { goodTm with length := 0x10000 } 0).wf = false ∧
    (Instr.tmClaimRx 0 { goodTm with epoch := 2 ^ 32 } 0).wf = false ∧ (Instr.tmClaimRx 0 { goodTm with alive := 0x10000 } 0).wf = false ∧
    (Instr.tmClaimRx 0 { goodTm with flags := 256 } 0).wf = false ∧ (Instr.tmClaimRx 0 goodTm 0).wf = true ∧
    (Instr.bpClose goodHdr).wf = true := by decide

/-- The same of frames and protocol messages. -/
theorem test_wf_refuses_frames :
    (Instr.netFrameReceive 0 0 { goodEth with src := ⟨2 ^ 48, false, 0⟩ } 0 0).wf = false ∧
    (Instr.netFrameReceive 0 0 { goodEth with dst := ⟨0, true, 2 ^ 128⟩ } 0 0).wf = false ∧
    (Instr.netFrameReceive 0 0 { goodEth with vlan := some 4096 } 0 0).wf = false ∧ (Instr.netFrameReceive 0 0 goodEth 0 0).wf = true ∧
    (Instr.ptpMessage 0 { goodPtp with domain := 256 } false).wf = false ∧ (Instr.ptpMessage 0 { goodPtp with sender := 2 ^ 80 } false).wf = false ∧
    (Instr.ptpMessage 0 { goodPtp with seq := 0x10000 } false).wf = false ∧ (Instr.ptpMessage 0 { goodPtp with vlan := some 4096 } false).wf = false ∧
    (Instr.ptpMessage 0 goodPtp false).wf = true ∧ (Instr.rdmaReadIn 0 0 0 (2 ^ 32)).wf = false ∧ (Instr.nakReceive 0 (2 ^ 24)).wf = false ∧
    (Instr.bpHello { goodVia with magic := 0x10000 } 0 0 (List.replicate 32 0) (List.replicate 56 0)).wf = false ∧
    (Instr.bpHello goodVia 0 256 (List.replicate 32 0) (List.replicate 56 0)).wf = false ∧
    (Instr.bpHello goodVia 0 0 [] (List.replicate 56 0)).wf = false ∧ (Instr.bpHello goodVia 0 0 (List.replicate 32 0) []).wf = false ∧
    (Instr.bpProve goodVia 1 []).wf = false ∧ (Instr.bpProve goodVia (2 ^ 32) (List.replicate 114 0)).wf = false ∧
    (Instr.bpProve { goodVia with version := 256 } 1 (List.replicate 114 0)).wf = false ∧
    (Instr.bpChallengeTimeout (2 ^ 32)).wf = false ∧ (Instr.bpSessionIdleTimeout (2 ^ 32)).wf = false ∧
    (Instr.bpRegWrite goodHdr 0 (List.replicate 256 0)).wf = false ∧ (Instr.bpImgFrame goodHdr [256]).wf = false ∧
    (Instr.bpAttest goodHdr [256]).wf = false ∧ (Instr.tmBeaconRx 0 goodTm 0 0 0 (2 ^ 48 * 1000000000) 0 0 0).wf = false := by
  decide +kernel

/-- The same of the other checks: readings, lengths and indices. -/
theorem test_wf_refuses_operands :
    (Instr.coolantMeasure 32768 0).wf = false ∧ (Instr.coolantMeasure 0 (-32769)).wf = false ∧ (Instr.resetWaitEnd 0 1201).wf = false ∧
    (Instr.collectiveComplete 0 0 [[256]] 0).wf = false ∧ (Instr.collectiveComplete 0 0 [] 256).wf = false ∧
    (Instr.requestHoldExpiry 0 16384).wf = false ∧ (Instr.memberLost 0 16384).wf = false ∧
    (Instr.helmTelemetry 0 0 (List.replicate 17 0) []).wf = false ∧ (Instr.helmTelemetry 0 0 [] (List.replicate 17 0)).wf = false ∧
    (Instr.switchingPeriod 0 0 (List.replicate 17 ⟨0, 0, 0⟩)).wf = false ∧ (Instr.phaseBalance 0 (List.replicate 17 0)).wf = false ∧
    (Instr.cl31Sample ⟨0, 0, 0, false⟩ (.output [(11, 0)])).wf = false := by
  decide +kernel

/-! Worked examples of the manual. -/

/-- Chapter 5, after R134: 0.3 (as FP32), 0.003, 500 and 3.0 converted. -/
theorem test_conversions :
    (convFmt 3 .rne true (ofF32 0x3E99999A#32)).bits = 0x2A ∧ (convFmt 3 .rtz true (ofF32 0x3E99999A#32)).bits = 0x29 ∧
    (convFmt 3 .rne true (ofF32 0x3B449BA6#32)).bits = 0x02 ∧ (convFmt 3 .rne true (ofF32 0x43FA0000#32)).bits = 0x7E ∧
    (convFmt 3 .rne false (ofF32 0x43FA0000#32)).bits = 0x7F ∧ (convFmt 4 .rne true (ofF32 0x43FA0000#32)).bits = 0x60 ∧
    (convFmt 10 .rne true (ofF32 0x40400000#32)).bits = 0x4D ∧ (convFmt 10 .rtz true (ofF32 0x40400000#32)).bits = 0x4C := by
  decide +kernel

/-- Chapter 5, after R119: the product of the LG8 codes 0x4D and 0x47 is T[4] × 2^2. -/
theorem test_lg_product : lgProduct 0x4D 0x47 = .num false 11863283 (-21) := by decide +kernel

/-- Chapter 21, after R535: the check values of "123456789", and the CRC of a helm command to rail 4. -/
theorem test_check_values :
    crc32c [0x31, 0x32, 0x33, 0x34, 0x35, 0x36, 0x37, 0x38, 0x39] = 0xE3069283 ∧
    crc16 [0x31, 0x32, 0x33, 0x34, 0x35, 0x36, 0x37, 0x38, 0x39] = 0x29B1 ∧
    crc16 [0x04, 0x01, 0x20, 0x03, 0x05, 0x00] = 0x330B := by decide +kernel

/-- Chapter 23, after R569: three addresses of the management map, and one outside it. -/
theorem test_address_map :
    spotOf 0x0010D108 = some ⟨.rail, 13, 0x108⟩ ∧ spotOf 0x00360200 = some ⟨.cdc, 6, 0x200⟩ ∧ spotOf 0x00250000 = none ∧
    Blk.rail.at 0x400 = [] := by decide +kernel

/-- Chapter 15: E_use of 16 cells of 750 F is 57,600 J. -/
theorem test_usable_energy : (ws [(.BWR_PACK_CELLS, 0, 0, 16), (.BWR_PACK_CELL_F, 0, 0, 750)]).eUse = 57600 := by decide +kernel

/-- R450: half of 3.3 V is 10 kΩ, at 25.0 °C; Table 2-4 decodes 10 kΩ as 12 cells, 20 kΩ as 16. -/
theorem test_pack_inputs :
    (ntcTemp 1650).map tenths = some 250 ∧ packDecode 10000 = 1 ∧ packDecode 20000 = 2 ∧ packDecode 999 = 3 ∧ packDecode 200001 = 0 := by
  decide +kernel

/-- The opcode table gives no row bits: no word spells a command, and none is put in the queue. -/
theorem test_no_words : decodeTableWord 32 5 = none ∧ State.reset.withFetchWord 32 5 = State.reset := by decide +kernel

/-- On an empty queue a pilot cycle of 1.25 ns passes; a waiting command runs and leaves the queue. -/
theorem test_queue :
    step { ws [] with pending := [] } = .next (ws []).tick ∧ (ws []).tick.now = 1250 ∧
    step { ws [] with pending := [.cdcStreamStop .smbus 0] } = exec (.cdcStreamStop .smbus 0) (ws []) := by
  exact ⟨rfl, rfl, rfl⟩

/-- StepRunsFrontCommand: a state with a command in front, and one with an empty queue. -/
theorem witness_step : ({ State.reset with pending := [.smbReadReady 0x60] } : State).pending = .smbReadReady 0x60 :: [] ∧
    State.reset.pending = [] := ⟨rfl, rfl⟩

/-- CommandsFollowQueueClockAndTrace: a command that answers. -/
theorem witness_follows : ∃ t, exec .capFastNFall State.reset = .next t := ⟨_, rfl⟩

/-- StepKeepsMemoryCanonical: a state with canonical memory that steps. -/
theorem witness_stepMemory : Memory.wf State.reset.mem = true ∧ ∃ t, step State.reset = .next t := ⟨rfl, _, rfl⟩

/-- OnlyStoringCommandsChangeMemory: a command that stores nothing and answers. -/
theorem witness_sameMem : mayStore .capFastNFall = false ∧ ∃ t, exec .capFastNFall State.reset = .next t := ⟨rfl, _, rfl⟩

/-- OnlyStoringCommandsChangeMemory: a command that may end a collective, with one that no engine has taken, and answers. -/
theorem witness_sameMem_ends : endsColls (.collectiveTimeout 0 3) = true ∧ collecting.net.colls.all (fun x => x.own.isNone) = true ∧
    ∃ t, exec (.collectiveTimeout 0 3) collecting = .next t := ⟨rfl, by decide +kernel, _, rfl⟩

/-- CounterClearsZeroTheirCounters: an owner session, and a die out of reset. -/
theorem witness_counterClears : (owned []).right (.session 1) = .owner ∧
    (owned [(.RST_IN_RESET_STATE, 0, 0, 0xFFFFFE78)]).right (.session 1) = .owner ∧
    (owned [(.RST_IN_RESET_STATE, 0, 0, 0xFFFFFE78)]).inReset 8 = false := by decide +kernel

/-- PinEventsAndSensors: what its hypotheses ask, clause by clause. -/
theorem witness_pinEventsAndSensors :
    (∃ (s : State), s.pins.presentN = true) ∧
    (∃ (s : State), s.pins.presentN = false ∧ (s.moduleRuns = false ∨ 3 < s.hplState)) ∧
    (∃ (s : State), s.pins.presentN = false ∧ s.moduleRuns = true ∧ s.hplState ≤ 3) ∧
    (∃ (s : State), s.bit .PWR_IN_STATUS_HS_ON = true ∧ s.hplState ≤ 3) ∧
    (∃ (s : State), (s.bit .PWR_IN_STATUS_HS_ON = false ∨ 3 < s.hplState)) ∧
    (∃ (s : State) (tin : Int) (tout : Int), (coolBad tin = false ∨ s.pins.tinFailed = true) ∧
        (coolBad tout = false ∨ s.pins.toutFailed = true)) ∧
    (∃ (s : State) (tin : Int) (tout : Int), coolBad tin = true ∧ s.pins.tinFailed = false ∧
        (coolBad tout = false ∨ s.pins.toutFailed = true)) ∧
    (∃ (s : State) (tin : Int) (tout : Int), coolBad tout = true ∧ s.pins.toutFailed = false ∧
        (coolBad tin = false ∨ s.pins.tinFailed = true)) ∧
    (∃ (s : State) (tin : Int) (tout : Int), coolBad tin = true ∧ s.pins.tinFailed = false ∧ coolBad tout = true ∧
        s.pins.toutFailed = false) ∧
    (∃ (s : State), s.tapLive = false) ∧
    (∃ (s : State) (is : Vector TapInstr 9), s.tapLive = true ∧ TapInstr.extest ∉ is.toList) ∧
    (∃ (s : State) (is : Vector TapInstr 9), s.tapLive = true ∧ TapInstr.extest ∈ is.toList) ∧
    (∃ (s : State), s.ready rPTP = true ∧ s.get .NET_PTP_STATUS_SRC = 2) ∧
    (∃ (s : State), (s.ready rPTP = false ∨ s.get .NET_PTP_STATUS_SRC ≠ 2)) :=
  ⟨⟨{ ws [(.PWR_IN_STATUS_TRIPS, 0, 0, 2)] with pins := { presentN := true } }, by decide +kernel⟩,
    ⟨ws [(.RST_IN_RESET_STATE, 0, 0, 0xFFFFFF7E), (.PWR_IN_STATUS_TRIPS, 0, 0, 2)], by decide +kernel⟩,
    ⟨ws [(.HPL_STATE_TRIGGER, 0, 0, 2), (.PWR_IN_STATUS_HS_ON, 0, 0, 1)], by decide +kernel⟩,
    ⟨ws [(.PWR_IN_STATUS_HS_ON, 0, 0, 1)], by decide +kernel⟩,
    ⟨{ ws [] with pins := { pwrEn := true } }, by decide +kernel⟩,
    ⟨{ ws [] with pins := { toutFailed := true } }, (-30), 1001, by decide +kernel⟩,
    ⟨ws [], (-201), 451, by decide +kernel⟩,
    ⟨ws [], 1000, 1001, by decide +kernel⟩,
    ⟨ws [], 1001, (-201), by decide +kernel⟩,
    ⟨ws [], by decide +kernel⟩,
    ⟨ws [(.PWR_IN_STATUS_HS_ON, 0, 0, 1)], Vector.replicate 9 .sample, by decide +kernel⟩,
    ⟨ws [(.PWR_IN_STATUS_HS_ON, 0, 0, 1)], Vector.replicate 9 .extest, by decide +kernel⟩,
    ⟨{ ws [(.MOD_READY_PTP, 0, 0, 1), (.NET_PTP_STATUS_SRC, 0, 0, 2)] with now := 7123456789012 }, by decide +kernel⟩,
    ⟨ws [], by decide +kernel⟩⟩

/-- ButtonPressIsADrainRequest: what its hypotheses ask, clause by clause. -/
theorem witness_buttonPressIsADrainRequest :
    (∃ (s : State), s.ready rSUP = true ∧ s.bit .HPL_CFG_BTN_EN = true ∧ s.hplState = 0) ∧
    (∃ (s : State), s.ready rSUP = true ∧ s.bit .HPL_CFG_BTN_EN = true ∧ s.hplState ≠ 0) ∧
    (∃ (s : State), s.ready rSUP = true ∧ s.bit .HPL_CFG_BTN_EN = false) :=
  ⟨⟨ws [(.MOD_READY_SUP, 0, 0, 1), (.HPL_CFG_BTN_EN, 0, 0, 1)], by decide +kernel⟩,
    ⟨ws [(.MOD_READY_SUP, 0, 0, 1), (.HPL_CFG_BTN_EN, 0, 0, 1), (.HPL_STATE_STATE, 0, 0, 2)], by decide +kernel⟩,
    ⟨ws [(.MOD_READY_SUP, 0, 0, 1), (.HPL_CFG_BTN_EN, 0, 0, 0)], by decide +kernel⟩⟩

/-- SmbusCommandsAnswer: what its hypotheses ask, clause by clause. -/
theorem witness_smbusCommandsAnswer :
    (∃ (s : State) (dev : BitVec 7), (s.ready rSUP = false ∨ dev.toNat ≠ s.smbAddr)) ∧
    (∃ (s : State) (dev : BitVec 7), (s.ready rSUP = false ∨ dev.toNat ≠ s.smbAddr)) ∧
    (∃ (s : State) (dev : BitVec 7), (s.ready rSUP = false ∨ dev.toNat ≠ s.smbAddr)) ∧
    (∃ (s : State) (dev : BitVec 7), (s.ready rSUP = false ∨ dev.toNat ≠ s.smbAddr)) ∧
    (∃ (s : State) (dev : BitVec 7), (s.ready rSUP = false ∨ dev.toNat ≠ s.smbAddr)) ∧
    (∃ (s : State) (dev : BitVec 7), (s.ready rSUP = false ∨ dev.toNat ≠ s.smbAddr)) ∧
    (∃ (s : State) (dev : BitVec 7), (s.ready rSUP = false ∨ dev.toNat ≠ s.smbAddr)) ∧
    (∃ (s : State) (dev : BitVec 7), (s.ready rSUP = false ∨ dev.toNat ≠ s.smbAddr)) ∧
    (∃ (dev : BitVec 7) (addr : BitVec 32) (data : BitVec 32) (pec : Option (BitVec 8)),
        pec ≠ some (pecOf (smbSent dev 0x02 (8 :: toLe addr.toNat 4 ++ toLe data.toNat 4)))) ∧
    (∃ (dev : BitVec 7) (watts : BitVec 16) (pec : Option (BitVec 8)),
        pec ≠ some (pecOf (smbSent dev 0x20 (toLe watts.toNat 2)))) ∧
    (∃ (dev : BitVec 7) (v : BitVec 8) (pec : Option (BitVec 8)), pec ≠ some (pecOf (smbSent dev 0x30 ([v.toNat])))) ∧
    (∃ (s : State) (dev : BitVec 7) (addr : BitVec 32) (p : Spot), s.ready rSUP = true ∧ dev.toNat = s.smbAddr ∧
        addr.toNat % 4 = 0 ∧ spotOf addr.toNat = some p ∧ p.blk = .mod) ∧
    (∃ (s : State) (dev : BitVec 7) (addr : BitVec 32) (data : BitVec 32) (p : Spot), s.ready rSUP = true ∧
        dev.toNat = s.smbAddr ∧ addr.toNat % 4 = 0 ∧ spotOf addr.toNat = some p ∧ s.mayWrite .smbus p data.toNat = false) ∧
    (∃ (s : State) (dev : BitVec 7) (data : BitVec 32), s.ready rSUP = true ∧ dev.toNat = s.smbAddr ∧ data.toNat < 8192) ∧
    (∃ (s : State) (dev : BitVec 7), s.ready rSUP = true ∧ dev.toNat = s.smbAddr) ∧
    (∃ (s : State) (dev : BitVec 7), s.ready rSUP = true ∧ dev.toNat = s.smbAddr) ∧
    (∃ (s : State) (dev : BitVec 7) (u : State) (r : LogRecord), s.ready rSUP = true ∧ dev.toNat = s.smbAddr ∧
        s.readFault = (some r, u)) ∧
    (∃ (s : State) (dev : BitVec 7) (u : State), s.ready rSUP = true ∧ dev.toNat = s.smbAddr ∧ s.readFault = (none, u)) ∧
    (∃ (s : State) (dev : BitVec 7), s.ready rSUP = true ∧ dev.toNat = s.smbAddr) ∧
    (∃ (s : State) (dev : BitVec 7), s.ready rSUP = true ∧ dev.toNat = s.smbAddr) ∧
    (∃ (s : State) (dev : BitVec 7), s.ready rSUP = true ∧ dev.toNat = s.smbAddr ∧ s.hplState = 0) ∧
    (∃ (s : State) (dev : BitVec 7), s.ready rSUP = true ∧ dev.toNat = s.smbAddr ∧ s.hplState ≠ 0) ∧
    (∃ (s : State) (dev : BitVec 7) (v : BitVec 8), s.ready rSUP = true ∧ dev.toNat = s.smbAddr ∧ v ≠ 0xA5#8) ∧
    (∃ (s : State), s.ready rSUP = true ∧ s.pins.alert = true) ∧
    (∃ (s : State), (s.ready rSUP = false ∨ s.pins.alert = false)) :=
  ⟨⟨ws [(.MOD_READY_SUP, 0, 0, 1)], 0x5A, by decide +kernel⟩,
    ⟨ws [(.MOD_READY_SUP, 0, 0, 1)], 0x5A, by decide +kernel⟩,
    ⟨ws [(.MOD_READY_SUP, 0, 0, 1)], 0x5A, by decide +kernel⟩,
    ⟨ws [(.MOD_READY_SUP, 0, 0, 1)], 0x5A, by decide +kernel⟩,
    ⟨ws [(.MOD_READY_SUP, 0, 0, 1)], 0x5A, by decide +kernel⟩,
    ⟨ws [(.MOD_READY_SUP, 0, 0, 1)], 0x5A, by decide +kernel⟩,
    ⟨ws [(.MOD_READY_SUP, 0, 0, 1)], 0x5A, by decide +kernel⟩,
    ⟨ws [(.MOD_READY_SUP, 0, 0, 1)], 0x5A, by decide +kernel⟩,
    ⟨0x6F, 0x10, 0, none, by decide +kernel⟩,
    ⟨0x6F, 7, none, by decide +kernel⟩,
    ⟨0x6F, 0xA5, none, by decide +kernel⟩,
    ⟨ws [(.MOD_READY_SUP, 0, 0, 1)], 0x6F, 0x10, ⟨.mod, 0, 0x10⟩, by decide +kernel⟩,
    ⟨ws [(.MOD_READY_SUP, 0, 0, 1)], 0x6F, 0x300100, 1, ⟨.cdc, 0, 0x100⟩, by decide +kernel⟩,
    ⟨ws [(.MOD_READY_SUP, 0, 0, 1)], 0x6F, 4500, by decide +kernel⟩,
    ⟨ws [(.MOD_READY_SUP, 0, 0, 1)], 0x6F, by decide +kernel⟩,
    ⟨ws [(.MOD_READY_SUP, 0, 0, 1)], 0x6F, by decide +kernel⟩,
    ⟨aFault, 0x6F, aFault.readFault.2, aRecord, by decide +kernel⟩,
    ⟨ws [(.MOD_READY_SUP, 0, 0, 1)], 0x6F, (ws [(.MOD_READY_SUP, 0, 0, 1)]).readFault.2, by decide +kernel⟩,
    ⟨ws [(.MOD_READY_SUP, 0, 0, 1)], 0x6F, by decide +kernel⟩,
    ⟨ws [(.MOD_READY_SUP, 0, 0, 1), (.PWR_IN_P_W, 0, 0, 1200)], 0x6F, by decide +kernel⟩,
    ⟨ws [(.MOD_READY_SUP, 0, 0, 1)], 0x6F, by decide +kernel⟩,
    ⟨ws [(.MOD_READY_SUP, 0, 0, 1), (.HPL_STATE_STATE, 0, 0, 3)], 0x6F, by decide +kernel⟩,
    ⟨ws [(.MOD_READY_SUP, 0, 0, 1)], 0x6F, 0xA4, by decide +kernel⟩,
    ⟨{ ws [(.MOD_READY_SUP, 0, 0, 1)] with pins := { alert := true } }, by decide +kernel⟩,
    ⟨ws [], by decide +kernel⟩⟩

/-- ColdResetsPutTheModuleInReset: what its hypotheses ask, clause by clause. -/
theorem witness_coldResetsPutTheModuleInReset :
    (∃ (s : State), s.flashBusy 0 = false ∧ s.flashBusy 1 = false) ∧
    (∃ (s : State), (s.flashBusy 0 = true ∨ s.flashBusy 1 = true)) ∧
    (∃ (s : State), s.flashBusy 0 = false ∧ s.flashBusy 1 = false) ∧
    (∃ (s : State), (s.flashBusy 0 = true ∨ s.flashBusy 1 = true)) ∧
    (∃ (s : State), s.pins.presentN = false) ∧
    (∃ (s : State), s.pins.presentN = true ∧ s.insertable = false) ∧
    (∃ (s : State), s.pins.presentN = true ∧ s.insertable = true ∧ s.flashBusy 0 = false ∧ s.flashBusy 1 = false) ∧
    (∃ (s : State), s.pins.presentN = true ∧ s.insertable = true ∧ (s.flashBusy 0 = true ∨ s.flashBusy 1 = true)) ∧
    (∃ (s : State) (l : List Nat), s.rst.waitCold = some l) ∧
    (∃ (s : State), (s.pins.pwrEn = false ∨ s.pins.presentN = true)) ∧
    (∃ (s : State), s.pins.pwrEn = true ∧ s.pins.presentN = false) :=
  ⟨⟨ws [(.MOD_READY_SUP, 0, 0, 1)], by decide +kernel⟩,
    ⟨busy, by decide +kernel⟩,
    ⟨ws [(.MOD_READY_SUP, 0, 0, 1)], by decide +kernel⟩,
    ⟨busy, by decide +kernel⟩,
    ⟨ws [], by decide +kernel⟩,
    ⟨{ ws [(.PWR_RAIL_STATUS_ON, 47, 0, 1)] with pins := { presentN := true } }, by decide +kernel⟩,
    ⟨{ ws [(.MOD_READY_SUP, 0, 0, 1)] with pins := { presentN := true, limiter := false } }, by decide +kernel⟩,
    ⟨{ busy with pins := { presentN := true } }, by decide +kernel⟩,
    ⟨{ busy with rst := { waitCold := some [0] } }, [0], by decide +kernel⟩,
    ⟨ws [(.PWR_IN_STATUS_TRIPS, 0, 0, 3)], by decide +kernel⟩,
    ⟨{ ws [] with pins := { pwrEn := true } }, by decide +kernel⟩⟩

/-- WarmResetRequests: what its hypotheses ask, clause by clause. -/
theorem witness_warmResetRequests :
    (∃ (s : State) (p : Fin 2), s.flashBusy p = false) ∧
    (∃ (s : State) (p : Fin 2), s.flashBusy p = true) ∧
    (∃ (s : State) (ns : Nat), 10000 ≤ ns ∧ s.hplState < 5) ∧
    (∃ (s : State) (ns : Nat), 10000 ≤ ns ∧ 5 ≤ s.hplState) ∧
    (∃ (ns : Nat), ns < 1000) ∧
    (∃ (ns : Nat), 1000 ≤ ns ∧ ns < 10000) ∧
    (∃ (s : State) (src : Source), s.right src = .owner ∧ s.resetRefused (s.get .RST_REQ_MAP_MAP) = none ∧
        s.flashBusy 0 = false ∧ s.flashBusy 1 = false) ∧
    (∃ (s : State) (src : Source), s.right src = .owner ∧ s.resetRefused (s.get .RST_REQ_MAP_MAP) = none ∧
        ((bitAt (s.get .RST_REQ_MAP_MAP) 1 = true ∧ s.flashBusy 0 = true) ∨ (bitAt (s.get .RST_REQ_MAP_MAP) 2 = true ∧
        s.flashBusy 1 = true))) ∧
    (∃ (s : State) (src : Source) (key : BitVec 16), s.right src = .owner ∧ key ≠ 0x0A5C#16) ∧
    (∃ (s : State) (src : Source) (r : Nat × Nat), s.right src = .owner ∧ s.resetRefused (s.get .RST_REQ_MAP_MAP) = some r) ∧
    (∃ (s : State) (src : Source) (mask : BitVec 32), s.right src = .owner ∧ Nat.lor (s.get .RST_HOLD_HOLD) mask.toNat ≠ 0 ∧
        s.resetRefused (Nat.lor (s.get .RST_HOLD_HOLD) mask.toNat) = none ∧ s.flashBusy 0 = false ∧ s.flashBusy 1 = false) ∧
    (∃ (s : State) (src : Source) (mask : BitVec 32) (r : Nat × Nat), s.right src = .owner ∧
        s.resetRefused (Nat.lor (s.get .RST_HOLD_HOLD) mask.toNat) = some r) ∧
    (∃ (s : State) (src : Source) (mask : BitVec 32), s.right src = .owner ∧
        s.resetRefused (Nat.land (s.get .RST_HOLD_HOLD) (2 ^ 32 - 1 - mask.toNat)) = none ∧
        (∀ d : Fin 32, bitAt (s.get .RST_HOLD_HOLD) d = true → bitAt mask.toNat d = true → 3 ≤ d.val ∧ s.clkGood d = true ∧
        s.releaseNeeds d = true) ∧ s.flashBusy 0 = false ∧ s.flashBusy 1 = false) ∧
    (∃ (s : State) (src : Source) (mask : BitVec 32) (r : Nat × Nat), s.right src = .owner ∧
        s.resetRefused (Nat.land (s.get .RST_HOLD_HOLD) (2 ^ 32 - 1 - mask.toNat)) = some r) ∧
    (∃ (s : State) (src : Source) (mask : BitVec 32) (d : Fin 32), s.right src = .owner ∧
        s.resetRefused (Nat.land (s.get .RST_HOLD_HOLD) (2 ^ 32 - 1 - mask.toNat)) = none ∧
        bitAt (s.get .RST_HOLD_HOLD) d = true ∧ bitAt mask.toNat d = true ∧
        (∀ e : Fin 32, e < d → bitAt (s.get .RST_HOLD_HOLD) e = true → bitAt mask.toNat e = false) ∧ d.val < 3) ∧
    (∃ (s : State) (src : Source) (mask : BitVec 32) (d : Fin 32), s.right src = .owner ∧
        s.resetRefused (Nat.land (s.get .RST_HOLD_HOLD) (2 ^ 32 - 1 - mask.toNat)) = none ∧
        bitAt (s.get .RST_HOLD_HOLD) d = true ∧ bitAt mask.toNat d = true ∧
        (∀ e : Fin 32, e < d → bitAt (s.get .RST_HOLD_HOLD) e = true → bitAt mask.toNat e = false) ∧ 3 ≤ d.val ∧
        s.clkGood d = false) ∧
    (∃ (s : State) (src : Source) (mask : BitVec 32) (d : Fin 32), s.right src = .owner ∧
        s.resetRefused (Nat.land (s.get .RST_HOLD_HOLD) (2 ^ 32 - 1 - mask.toNat)) = none ∧
        bitAt (s.get .RST_HOLD_HOLD) d = true ∧ bitAt mask.toNat d = true ∧
        (∀ e : Fin 32, e < d → bitAt (s.get .RST_HOLD_HOLD) e = true → bitAt mask.toNat e = false) ∧ 3 ≤ d.val ∧
        s.clkGood d = true ∧ s.releaseNeeds d = false) ∧
    (∃ (s : State), s.rst.waitCold = none ∧ s.rst.waiting ≠ 0) ∧
    (∃ (s : State), s.rst.waitCold = none ∧ s.rst.waiting = 0) ∧
    (∃ (s : State) (d : Fin 32), bitAt s.rst.requested d = false) ∧
    (∃ (s : State) (d : Fin 32), bitAt s.rst.requested d = true ∧ (d.val = 0 ∨ d.val = 7)) ∧
    (∃ (s : State) (d : Fin 32), bitAt s.rst.requested d = true ∧ d.val ≠ 0 ∧ d.val ≠ 7) ∧
    (∃ (s : State) (d : Fin 32), bitAt s.rst.requested d = true ∧ d.val = 6) ∧
    (∃ (s : State) (d : Fin 32), bitAt s.rst.requested d = true ∧ 8 ≤ d.val ∧ d.val < 16) ∧
    (∃ (s : State) (d : Fin 32), bitAt s.rst.requested d = true ∧ 16 ≤ d.val ∧ d.val < 24) :=
  ⟨⟨ws [], 1, by decide +kernel⟩,
    ⟨busy, 0, by decide +kernel⟩,
    ⟨ws [], 10000, by decide +kernel⟩,
    ⟨ws [(.HPL_STATE_STATE, 0, 0, 5)], 10000, by decide +kernel⟩,
    ⟨999, by decide +kernel⟩,
    ⟨9999, by decide +kernel⟩,
    ⟨owned [(.RST_REQ_MAP_MAP, 0, 0, 0x100)], .session 1, by decide +kernel⟩,
    ⟨{ owned [(.RST_REQ_MAP_MAP, 0, 0, 0x102), (.LOG_STATUS_FLUSHING, 0, 0, 1)] with pilots := busy.pilots, hma := busy.hma },
        .session 1, by decide +kernel⟩,
    ⟨owned [(.RST_REQ_MAP_MAP, 0, 0, 0x100)], .session 1, 0x0A5D, by decide +kernel⟩,
    ⟨owned [(.RST_REQ_MAP_MAP, 0, 0, 6)], .session 1, (5, 1), by decide +kernel⟩,
    ⟨owned [(.RST_HOLD_HOLD, 0, 0, 0x100)], .session 1, 0x500, by decide +kernel⟩,
    ⟨owned [], .session 1, 1, (3, 0), by decide +kernel⟩,
    ⟨owned [(.RST_HOLD_HOLD, 0, 0, 0x208), (.RST_CLK_GOOD_GOOD, 0, 0, 8), (.MOD_READY_RG_BOOT, 0, 0, 1)], .session 1, 8,
        by decide +kernel⟩,
    ⟨owned [(.RST_HOLD_HOLD, 0, 0, 0x106)], .session 1, 0x100, (5, 1), by decide +kernel⟩,
    ⟨owned [(.RST_HOLD_HOLD, 0, 0, 2)], .session 1, 2, 1, by decide +kernel⟩,
    ⟨owned [(.RST_HOLD_HOLD, 0, 0, 8)], .session 1, 8, 3, by decide +kernel⟩,
    ⟨owned [(.RST_HOLD_HOLD, 0, 0, 8), (.RST_CLK_GOOD_GOOD, 0, 0, 8)], .session 1, 8, 3, by decide +kernel⟩,
    ⟨{ ws [] with rst := { waiting := 2 } }, by decide +kernel⟩,
    ⟨ws [], by decide +kernel⟩,
    ⟨ws [], 8, by decide +kernel⟩,
    ⟨{ ws [] with rst := { requested := 0x80 } }, 7, by decide +kernel⟩,
    ⟨{ ws [(.RST_IN_RESET_STATE, 0, 0, 0)] with rst := { requested := 0x100 } }, 8, by decide +kernel⟩,
    ⟨{ ws [(.RST_IN_RESET_STATE, 0, 0, 0), (.MOD_READY_PORT0, 0, 0, 1), (.MOD_READY_PTP, 0, 0, 1)] with rst := { requested := 0x40 } },
        6, by decide +kernel⟩,
    ⟨{ ws [(.RST_IN_RESET_STATE, 0, 0, 0), (.MOD_READY_CD, 0, 0, 1)] with rst := { requested := 0x100 } }, 8,
        by decide +kernel⟩,
    ⟨{ ws [(.RST_IN_RESET_STATE, 0, 0, 0), (.MOD_READY_QD, 0, 0, 1)] with rst := { requested := 0x10000 } }, 16,
        by decide +kernel⟩⟩

/-- ClocksReleaseAndReadiness: what its hypotheses ask, clause by clause. -/
theorem witness_clocksReleaseAndReadiness :
    (∃ (d : Fin 32), d.val ≠ 0 ∧ d.val ≠ 7 ∧ d.val < 24) ∧
    (∃ (d : Fin 32), (d.val = 0 ∨ d.val = 7 ∨ 24 ≤ d.val)) ∧
    (∃ (d : Fin 32), d.val ≠ 0 ∧ d.val ≠ 7 ∧ d.val < 24) ∧
    (∃ (d : Fin 32), (d.val = 0 ∨ d.val = 7 ∨ 24 ≤ d.val)) ∧
    (∃ (s : State) (d : Fin 32), s.releasable d = true ∧ s.inOrder d = true) ∧
    (∃ (s : State) (d : Fin 32), (s.releasable d = false ∨ s.inOrder d = false)) ∧
    (∃ (s : State) (k : Fin 48), k.val ≠ 15 ∧ s.ready k = false ∧ s.readyNeeds k = true ∧ s.boundMissed k = false) ∧
    (∃ (s : State), s.ready rFWV = false ∧ s.ready rSUP = true ∧ s.boundMissed 15 = false) ∧
    (∃ (s : State), s.ready rFWV = false ∧ s.ready rSUP = true ∧ s.boundMissed 15 = false) ∧
    (∃ (s : State) (k : Fin 48), (s.ready k = true ∨ s.readyNeeds k = false ∨ s.boundMissed k = true)) ∧
    (∃ (s : State) (k : Fin 48), s.ready k = false) ∧
    (∃ (s : State) (k : Fin 48), s.ready k = true) :=
  ⟨⟨8, by decide +kernel⟩,
    ⟨24, by decide +kernel⟩,
    ⟨8, by decide +kernel⟩,
    ⟨7, by decide +kernel⟩,
    ⟨ws [(.RST_CLK_GOOD_GOOD, 0, 0, 2), (.RST_IN_RESET_STATE, 0, 0, 0xFFFFFF7E), (.MOD_READY_RG_BOOT, 0, 0, 1)], 1,
        by decide +kernel⟩,
    ⟨ws [], 1, by decide +kernel⟩,
    ⟨ws [(.MOD_READY_PORT0, 0, 0, 1)], 12, by decide +kernel⟩,
    ⟨ws [(.MOD_READY_SUP, 0, 0, 1)], by decide +kernel⟩,
    ⟨ws [(.MOD_READY_SUP, 0, 0, 1)], by decide +kernel⟩,
    ⟨ws [], 15, by decide +kernel⟩,
    ⟨ws [], 4, by decide +kernel⟩,
    ⟨ws [(.MOD_READY_RG_NET, 0, 0, 1)], 4, by decide +kernel⟩⟩

/-- EventsAreRecordedLatchedAndHandled: what its hypotheses ask, clause by clause. -/
theorem witness_eventsAreRecordedLatchedAndHandled :
    (∃ (s : State) (code : BitVec 16) (unit : BitVec 8),
        s.log.latches.find? (fun l => l.chapter == code.toNat / 256 && l.unit == unit.toNat) = none ∧
        eventLevel code.toNat < 3 ∧ s.log.mounted[s.act] = true ∧ (s.log.ring[s.act]).length < 2048 ∧ s.log.handling = none) ∧
    (∃ (s : State) (code : BitVec 16) (unit : BitVec 8) (c : Handling),
        s.log.latches.find? (fun l => l.chapter == code.toNat / 256 && l.unit == unit.toNat) = none ∧
        eventLevel code.toNat < 3 ∧ s.log.mounted[s.act] = true ∧ (s.log.ring[s.act]).length < 2048 ∧
        s.log.handling = some c ∧ c.level < eventLevel code.toNat) ∧
    (∃ (s : State) (code : BitVec 16) (unit : BitVec 8) (c : Handling),
        s.log.latches.find? (fun l => l.chapter == code.toNat / 256 && l.unit == unit.toNat) = none ∧
        eventLevel code.toNat < 3 ∧ s.log.mounted[s.act] = true ∧ (s.log.ring[s.act]).length < 2048 ∧
        s.log.handling = some c ∧ eventLevel code.toNat ≤ c.level ∧ s.log.queue.length < 64) ∧
    (∃ (s : State) (code : BitVec 16) (unit : BitVec 8),
        s.log.latches.find? (fun l => l.chapter == code.toNat / 256 && l.unit == unit.toNat) = none ∧
        eventLevel code.toNat < 3 ∧ s.log.mounted[s.act] = false ∧ (s.log.held[s.act]).length < 256) ∧
    (∃ (s : State) (code : BitVec 16) (unit : BitVec 8),
        s.log.latches.find? (fun l => l.chapter == code.toNat / 256 && l.unit == unit.toNat) = none ∧
        3 ≤ eventLevel code.toNat ∧ s.log.mounted[s.act] = true) ∧
    (∃ (s : State) (code : BitVec 16) (unit : BitVec 8) (l : Latch),
        s.log.latches.find? (fun l => l.chapter == code.toNat / 256 && l.unit == unit.toNat) = some l) ∧
    (∃ (s : State) (h : Handling), s.log.handling = some h ∧ s.log.preempted = [] ∧ s.log.queue = []) ∧
    (∃ (s : State) (h : Handling), s.log.handling = some h) ∧
    (∃ (s : State), s.log.handling = none) ∧
    (∃ (s : State) (ch : BitVec 8) (unit : BitVec 8),
        s.log.latches.find? (fun l => l.chapter == ch.toNat && l.unit == unit.toNat) = none) ∧
    (∃ (s : State) (ch : BitVec 8) (unit : BitVec 8) (l : Latch),
        s.log.latches.find? (fun l => l.chapter == ch.toNat && l.unit == unit.toNat) = some l) :=
  ⟨⟨logging, 0x2204, 0xFF, by decide +kernel⟩,
    ⟨{ logging with log := { logging.log with handling := some ⟨0, 0x2001, 0xFF, 0⟩ } }, 0x2204, 0xFF, ⟨0, 0x2001, 0xFF, 0⟩,
        by decide +kernel⟩,
    ⟨{ logging with log := { logging.log with handling := some ⟨0, 0x1404, 3, 3⟩ } }, 0x2204, 0xFF, ⟨0, 0x1404, 3, 3⟩,
        by decide +kernel⟩,
    ⟨ws [], 0x2204, 0xFF, by decide +kernel⟩,
    ⟨logging, 0x1404, 3, by decide +kernel⟩,
    ⟨latched, 0x1404, 3, ⟨0x14, 3, 4⟩, by decide +kernel⟩,
    ⟨{ ws [] with log := { handling := some ⟨0, 0x2204, 0xFF, 2⟩ } }, ⟨0, 0x2204, 0xFF, 2⟩, by decide +kernel⟩,
    ⟨{ ws [] with log := { handling := some ⟨0, 0x2204, 0xFF, 2⟩, queue := [⟨1, 0x1404, 3, 3⟩] } }, ⟨0, 0x2204, 0xFF, 2⟩,
        by decide +kernel⟩,
    ⟨ws [], by decide +kernel⟩,
    ⟨latched, 0x14, 4, by decide +kernel⟩,
    ⟨latched, 0x14, 3, ⟨0x14, 3, 4⟩, by decide +kernel⟩⟩

/-- LogbookFlushMountAndWindow: what its hypotheses ask, clause by clause. -/
theorem witness_logbookFlushMountAndWindow :
    (∃ (s : State) (src : Source), s.right src = .owner ∧ s.flashHalted s.act = false) ∧
    (∃ (s : State) (src : Source), s.right src = .owner ∧ s.flashHalted s.act = true) ∧
    (∃ (s : State), s.bit .LOG_STATUS_FLUSHING = true ∧ s.log.lostPending = none ∧ s.log.secPending = [] ∧
        (s.log.flash[s.act]).length + (s.log.ring[s.act]).length ≤ 131072) ∧
    (∃ (s : State) (p : Fin 2), s.bit .LOG_STATUS_FLUSHING = true ∧ p ≠ s.act ∧ s.log.lostPending = none) ∧
    (∃ (s : State), s.bit .LOG_STATUS_FLUSHING = false) ∧
    (∃ (s : State), s.bit .LOG_STATUS_FLUSHING = true) ∧
    (∃ (s : State) (p : Fin 2), s.bit .LOG_STATUS_FLUSHING = true ∧ p ≠ s.act) ∧
    (∃ (s : State), s.bit .LOG_STATUS_FLUSHING = false) ∧
    (∃ (s : State) (p : Fin 2), s.log.mounted[p] = false ∧ (s.pilot p).role ≠ .out) ∧
    (∃ (s : State) (p : Fin 2), (s.log.mounted[p] = true ∨ (s.pilot p).role = .out)) ∧
    (∃ (s : State) (src : Source), s.right src = .owner) ∧
    (∃ (s : State) (q : Nat) (r : LogRecord), s.log.wantSeq = some q ∧ s.bit .LOG_WIN_STATE_BUSY = true ∧
        (s.log.all s.act).find? (fun r => r.seq == q) = some r) ∧
    (∃ (s : State) (q : Nat) (r : LogRecord), s.log.wantSeq = some q ∧ s.bit .LOG_WIN_STATE_BUSY = true ∧
        (s.log.all s.act).find? (fun r => r.seq == q) = none ∧ (s.log.all s.act).find? (fun r => seqOlder q r.seq) = some r) ∧
    (∃ (s : State) (q : Nat), s.log.wantSeq = some q ∧ s.bit .LOG_WIN_STATE_BUSY = true ∧
        (s.log.all s.act).find? (fun r => r.seq == q) = none ∧ (s.log.all s.act).find? (fun r => seqOlder q r.seq) = none) ∧
    (∃ (s : State), (s.log.wantSeq = none ∨ s.bit .LOG_WIN_STATE_BUSY = false)) ∧
    (∃ (s : State) (src : Source), s.right src = .owner) :=
  ⟨⟨owned [], .session 1, by decide +kernel⟩,
    ⟨{ owned [] with rst := { waiting := 2 } }, .session 1, by decide +kernel⟩,
    ⟨{ logging with regs := [(⟨.LOG_STATUS_FLUSHING, 0, 0⟩, 1)] }, by decide +kernel⟩,
    ⟨{ logging with regs := [(⟨.LOG_STATUS_FLUSHING, 0, 0⟩, 1)], log := { logging.log with ring := #v[[], [aRecord]] } }, 1,
        by decide +kernel⟩,
    ⟨logging, by decide +kernel⟩,
    ⟨{ logging with regs := [(⟨.LOG_STATUS_FLUSHING, 0, 0⟩, 1)] }, by decide +kernel⟩,
    ⟨{ logging with regs := [(⟨.LOG_STATUS_FLUSHING, 0, 0⟩, 1)] }, 1, by decide +kernel⟩,
    ⟨logging, by decide +kernel⟩,
    ⟨ws [(.MOD_READY_SUP, 0, 0, 1)], 0, by decide +kernel⟩,
    ⟨logging, 0, by decide +kernel⟩,
    ⟨owned [], .session 1, by decide +kernel⟩,
    ⟨{ logging with regs := [(⟨.LOG_WIN_STATE_BUSY, 0, 0⟩, 1)], log := { logging.log with wantSeq := some 5 } }, 5, aRecord,
        by decide +kernel⟩,
    ⟨{ logging with regs := [(⟨.LOG_WIN_STATE_BUSY, 0, 0⟩, 1)], log := { logging.log with wantSeq := some 4 } }, 4, aRecord,
        by decide +kernel⟩,
    ⟨{ logging with regs := [(⟨.LOG_WIN_STATE_BUSY, 0, 0⟩, 1)], log := { logging.log with wantSeq := some 6 } }, 6,
        by decide +kernel⟩,
    ⟨logging, by decide +kernel⟩,
    ⟨owned [(.LOG_CURSOR_SEQ, 0, 0, 8)], .session 1, by decide +kernel⟩⟩

/-- CheckValueUnitsCompute: what its hypotheses ask, clause by clause. -/
theorem witness_checkValueUnitsCompute :
    (∃ (s : State) (src : Source) (u : Fin 8), s.right src = .owner ∧ s.cvuFree u = true) ∧
    (∃ (s : State) (src : Source) (u : Fin 8), s.right src = .owner ∧ s.cvuFree u = false) ∧
    (∃ (s : State) (src : Source) (u : Fin 8), s.right src = .owner ∧ s.cvuFree u = true ∧ s.cvu[u].running = true) ∧
    (∃ (s : State) (src : Source) (u : Fin 8), s.right src = .owner ∧ (s.cvuFree u = false ∨ s.cvu[u].running = false)) ∧
    (∃ (s : State) (src : Source), s.right src = .owner) :=
  ⟨⟨owned [], .session 1, 6, by decide +kernel⟩,
    ⟨owned [], .session 1, 5, by decide +kernel⟩,
    ⟨{ owned [(.CVU_U_CFG_FEED_N, 6, 0, 4), (.CVU_U_CFG_WIDTH_M1, 6, 0, 31), (.CVU_U_POLY_POLY, 6, 0, 0x1EDC6F41)] with cvu := (Vector.replicate 8 {}).set 6 { running := true, crc := 0xFFFFFFFF } },
        .session 1, 6, by decide +kernel⟩,
    ⟨owned [], .session 1, 6, by decide +kernel⟩,
    ⟨owned [(.CVU_U_PASS_COUNT, 3, 0, 9)], .session 1, by decide +kernel⟩⟩

/-- SecurityCommandsAct: what its hypotheses ask, clause by clause. -/
theorem witness_securityCommandsAct :
    (∃ (s : State) (p : Fin 2), (s.pilot p).role = .selfTest ∧ s.inReset (1 + p.val) = false) ∧
    (∃ (s : State) (p : Fin 2), (s.pilot p).role = .selfTest ∧ s.inReset (1 + p.val) = false) ∧
    (∃ (s : State) (p : Fin 2), (s.pilot p).role = .selfTest ∧ s.inReset (1 + p.val) = false) ∧
    (∃ (s : State) (p : Fin 2), (s.pilot p).role = .selfTest ∧ s.inReset (1 + p.val) = false ∧
        s.rbOf p rbFirmware ≤ leAt (s.fwOtherSlot p) 0x0C 4) ∧
    (∃ (s : State) (p : Fin 2), (s.pilot p).role = .selfTest ∧ s.inReset (1 + p.val) = false) ∧
    (∃ (s : State) (p : Fin 2), s.inSelfTest p = false) ∧
    (∃ (s : State) (p : Fin 2), (s.pilot p).role = .selfTest ∧ s.inReset (1 + p.val) = false ∧
        leAt (s.fwOtherSlot p) 0x0C 4 < s.rbOf p rbFirmware) ∧
    (∃ (s : State) (p : Fin 2), s.inSelfTest p = false) ∧
    (∃ (s : State) (a : BitVec 13) (b : BitVec 13), s.activePilot.isSome = true ∧ s.flashHalted s.act = false ∧ a &&& b = 0) ∧
    (∃ (s : State), (s.activePilot = none ∨ s.flashHalted s.act = true)) ∧
    (∃ (s : State) (src : Source), s.right src = .owner ∧ s.pkgState ≠ 1 ∧ s.pkgState ≠ 3) ∧
    (∃ (s : State) (src : Source), s.right src = .owner ∧ s.get .SEC_PKG_ADDR_OFFSET + 4 ≤ 6 * MiB) ∧
    (∃ (s : State) (src : Source), s.right src = .owner ∧ s.pkgState = 1 ∧ leAt (stagedBytes s.sec.staging 12) 8 4 ≤ 6 * MiB) ∧
    (∃ (s : State) (src : Source), s.right src = .owner ∧ s.pkgState = 2 ∧ s.pkgMay = true) ∧
    (∃ (s : State) (src : Source), s.right src = .owner ∧ (s.pkgState = 1 ∨ s.pkgState = 3)) ∧
    (∃ (s : State) (src : Source), s.right src = .owner ∧ 6 * MiB < s.get .SEC_PKG_ADDR_OFFSET + 4) ∧
    (∃ (s : State) (src : Source), s.right src = .owner ∧ s.pkgState ≠ 1) ∧
    (∃ (s : State) (src : Source), s.right src = .owner ∧ s.pkgState = 1 ∧ 6 * MiB < leAt (stagedBytes s.sec.staging 12) 8 4) ∧
    (∃ (s : State) (src : Source), s.right src = .owner ∧ s.pkgState ≠ 2) ∧
    (∃ (s : State) (src : Source), s.right src = .owner ∧ s.pkgState = 2 ∧ s.pkgMay = false) ∧
    (∃ (s : State), (s.pkgState ≠ 3 ∨ s.sec.verified = none)) ∧
    (∃ (s : State) (bs : List Nat), s.pkgState = 3 ∧ s.sec.verified = some bs ∧ s.standby = none ∧
        (leAt bs 6 1 = 2 ∨ s.sec.stored = false)) ∧
    (∃ (s : State) (bs : List Nat), s.pkgState = 3 ∧ s.sec.verified = some bs ∧ leAt bs 6 1 ≠ 2 ∧ s.sec.stored = true ∧
        s.sec.fwRun[0] = some bs ∧ s.sec.fwRun[1] = some bs) ∧
    (∃ (s : State) (bs : List Nat), s.pkgState = 3 ∧ s.sec.verified = some bs ∧ leAt bs 6 1 ≠ 2 ∧ s.sec.stored = true ∧
        (s.sec.fwRun[0] ≠ some bs ∨ s.sec.fwRun[1] ≠ some bs)) ∧
    (∃ (s : State) (src : Source) (key : BitVec 16), s.right src = .owner ∧ key ≠ 0x0E3A#16) ∧
    (∃ (s : State) (bs : List Nat), s.pkgState = 3 ∧ s.sec.verified = some bs) ∧
    (∃ (s : State) (bs : List Nat), s.pkgState = 3 ∧ s.sec.verified = some bs ∧ leAt bs 6 1 = 2 ∧ s.standby.isSome = true) ∧
    (∃ (s : State) (bs : List Nat) (q : Fin 2), s.pkgState = 3 ∧ s.sec.verified = some bs ∧ leAt bs 6 1 = 1 ∧
        s.sec.stored = false ∧ s.standby = some q) ∧
    (∃ (s : State) (src : Source), s.right src = .owner ∧ s.get .BTH_COMMITTED_BERTHS = 0) ∧
    (∃ (s : State) (src : Source), s.right src = .owner ∧ s.get .BTH_COMMITTED_BERTHS ≠ 0) ∧
    (∃ (s : State) (src : Source), s.right src = .owner) :=
  ⟨⟨ws [(.RST_IN_RESET_STATE, 0, 0, 0xFFFFFF78)], 0, by decide +kernel⟩,
    ⟨ws [(.RST_IN_RESET_STATE, 0, 0, 0xFFFFFF78)], 0, by decide +kernel⟩,
    ⟨ws [(.RST_IN_RESET_STATE, 0, 0, 0xFFFFFF78)], 0, by decide +kernel⟩,
    ⟨{ ws [(.RST_IN_RESET_STATE, 0, 0, 0xFFFFFF78)] with sec := { rb := Vector.replicate 2 [(0, 0)] } }, 0,
        by decide +kernel⟩,
    ⟨ws [(.RST_IN_RESET_STATE, 0, 0, 0xFFFFFF78)], 0, by decide +kernel⟩,
    ⟨activePA, 0, by decide +kernel⟩,
    ⟨{ ws [(.RST_IN_RESET_STATE, 0, 0, 0xFFFFFF78)] with sec := { rb := Vector.replicate 2 [(0, 2 ^ 32)], fwOther := Vector.replicate 2 (some []) } },
        0, by decide +kernel⟩,
    ⟨activePA, 0, by decide +kernel⟩,
    ⟨{ activePA with sec := { rb := #v[[(3, 4)], [(3, 5)]] } }, 1, 8, by decide +kernel⟩,
    ⟨ws [], by decide +kernel⟩,
    ⟨owned [], .session 1, by decide +kernel⟩,
    ⟨owned [(.SEC_PKG_ADDR_OFFSET, 0, 0, 8)], .session 1, by decide +kernel⟩,
    ⟨owned [(.SEC_PKG_STATUS_STATE, 0, 0, 1)], .session 1, by decide +kernel⟩,
    ⟨owned [(.SEC_PKG_STATUS_STATE, 0, 0, 2)], .session 1, by decide +kernel⟩,
    ⟨owned [(.SEC_PKG_STATUS_STATE, 0, 0, 1)], .session 1, by decide +kernel⟩,
    ⟨owned [(.SEC_PKG_ADDR_OFFSET, 0, 0, 0x600000)], .session 1, by decide +kernel⟩,
    ⟨owned [], .session 1, by decide +kernel⟩,
    ⟨{ owned [(.SEC_PKG_STATUS_STATE, 0, 0, 1)] with sec := { staging := [(8, 0x700000)] } }, .session 1, by decide +kernel⟩,
    ⟨owned [], .session 1, by decide +kernel⟩,
    ⟨owned [(.SEC_PKG_STATUS_STATE, 0, 0, 2), (.RHD_STATE_STATE, 0, 0, 4)], .session 1, by decide +kernel⟩,
    ⟨ws [], by decide +kernel⟩,
    ⟨{ ws [(.SEC_PKG_STATUS_STATE, 0, 0, 3)] with sec := { verified := some [1] } }, [1], by decide +kernel⟩,
    ⟨{ ws [(.SEC_PKG_STATUS_STATE, 0, 0, 3)] with sec := { verified := some [1], stored := true, fwRun := Vector.replicate 2 (some [1]) } },
        [1], by decide +kernel⟩,
    ⟨{ ws [(.SEC_PKG_STATUS_STATE, 0, 0, 3)] with sec := { verified := some [1], stored := true } }, [1], by decide +kernel⟩,
    ⟨owned [], .session 1, 0x0E3B, by decide +kernel⟩,
    ⟨{ ws [(.SEC_PKG_STATUS_STATE, 0, 0, 3)] with sec := { verified := some [1] } }, [1], by decide +kernel⟩,
    ⟨{ ws [(.SEC_PKG_STATUS_STATE, 0, 0, 3)] with sec := { verified := some [0, 0, 0, 0, 0, 0, 2] }, pilots := #v[{ role := .active }, { role := .standby }] },
        [0, 0, 0, 0, 0, 0, 2], by decide +kernel⟩,
    ⟨{ ws [(.SEC_PKG_STATUS_STATE, 0, 0, 3)] with sec := { verified := some [0, 0, 0, 0, 0, 0, 1] }, pilots := #v[{ role := .active }, { role := .standby }] },
        [0, 0, 0, 0, 0, 0, 1], 1, by decide +kernel⟩,
    ⟨owned [], .session 1, by decide +kernel⟩,
    ⟨owned [(.BTH_COMMITTED_BERTHS, 0, 0, 1)], .session 1, by decide +kernel⟩,
    ⟨owned [], .session 1, by decide +kernel⟩⟩

/-- ImageLoadsAndBerthHolds: what its hypotheses ask, clause by clause. -/
theorem witness_imageLoadsAndBerthHolds :
    (∃ (s : State) (src : Source), s.right src = .owner ∧ s.imgState ≠ 1 ∧ s.imgState ≠ 2 ∧ s.imgState ≠ 4) ∧
    (∃ (s : State) (src : Source), s.right src = .owner ∧ 1 ≤ s.imgState ∧ s.imgState ≤ 3) ∧
    (∃ (s : State) (src : Source), s.right src = .owner ∧ s.imgState = 2) ∧
    (∃ (s : State) (src : Source), s.right src = .owner ∧ (s.imgState = 1 ∨ s.imgState = 4)) ∧
    (∃ (s : State) (src : Source), s.right src = .owner ∧ s.imgState = 4) ∧
    (∃ (s : State) (src : Source), s.right src = .owner ∧ (s.imgState = 0 ∨ 5 ≤ s.imgState)) ∧
    (∃ (s : State), s.imgState ≠ 1) ∧
    (∃ (s : State), s.imgState ≠ 2) ∧
    (∃ (s : State) (src : Source), s.right src = .owner ∧ s.imgState = 3 ∧
        (s.imgTouched s.staged).any (fun b => (s.berth b).desc.isSome && !s.quiesced b) = true) ∧
    (∃ (s : State) (src : Source), s.right src = .owner ∧ s.imgState = 3 ∧
        (∀ b ∈ s.imgTouched s.staged, (s.berth b).desc = none ∨ s.quiesced b = true) ∧
        s.namedReady ((imgDescs s.staged).map (·.2)) = false) ∧
    (∃ (s : State) (src : Source), s.right src = .owner ∧ s.imgState = 3 ∧
        (∀ b ∈ s.imgTouched s.staged, (s.berth b).desc = none ∨ s.quiesced b = true) ∧
        s.namedReady ((imgDescs s.staged).map (·.2)) = true ∧ s.resourcesOk s.staged = false) ∧
    (∃ (s : State) (src : Source), s.right src = .owner ∧ s.imgState = 4) ∧
    (∃ (s : State), (s.imgState ≠ 4 ∨ s.img.stored = true)) ∧
    (∃ (s : State), (s.imgState ≠ 4 ∨ s.img.stored = false)) ∧
    (∃ (s : State) (b : Fin 8) (m : List Nat), s.storedFor b = some m ∧
        (bitAt s.img.tried b = true ∨ (s.berth b).desc.isSome = true ∨ s.namedReady (imgGives m b).toList = false)) ∧
    (∃ (s : State), s.imgState = 1) ∧
    (∃ (s : State), s.imgState = 2) ∧
    (∃ (s : State) (src : Source), s.right src = .owner ∧ s.imgState = 3 ∧
        (∀ b ∈ s.imgTouched s.staged, (s.berth b).desc = none ∨ s.quiesced b = true) ∧
        s.namedReady ((imgDescs s.staged).map (·.2)) = true ∧ s.resourcesOk s.staged = true) ∧
    (∃ (s : State) (src : Source), s.right src = .owner ∧ s.imgState ≠ 3 ∧ s.imgState ≠ 4) ∧
    (∃ (s : State), s.imgState = 4 ∧ s.img.stored = false) ∧
    (∃ (s : State) (a : Bool) (b : Bool), s.imgState = 4 ∧ s.img.stored = false ∧
        ((if s.act = 0 then a else b) = false ∨ ((s.pilot (otherPilot s.act)).role = .standby ∧
        (if s.act = 0 then b else a) = false))) ∧
    (∃ (s : State) (a : Bool) (b : Bool), s.imgState = 4 ∧ s.img.stored = false ∧ (if s.act = 0 then a else b) = true ∧
        (s.pilot (otherPilot s.act)).role ≠ .standby) ∧
    (∃ (s : State), s.imgState = 4 ∧ s.img.stored = true) ∧
    (∃ (s : State) (b : Fin 8) (m : List Nat), s.storedFor b = some m ∧ bitAt s.img.tried b = false ∧
        (s.berth b).desc = none ∧ s.namedReady (imgGives m b).toList = true) ∧
    (∃ (s : State) (b : Fin 8), s.storedFor b = none) ∧
    (∃ (s : State) (src : Source) (b : Fin 8), s.right src = .owner ∧ (s.berth b).desc.isSome = true) ∧
    (∃ (s : State) (src : Source) (b : Fin 8), s.right src = .owner ∧ (s.berth b).desc.isSome = true ∧
        (s.berth b).hold = true) ∧
    (∃ (s : State) (src : Source) (b : Fin 8), s.right src = .owner ∧ (s.berth b).desc = none) ∧
    (∃ (s : State) (src : Source) (b : Fin 8), s.right src = .owner ∧ (s.berth b).hold = false) ∧
    (∃ (s : State) (src : Source) (b : Fin 8), s.right src = .owner ∧ (s.berth b).desc = none) :=
  ⟨⟨owned [(.BTH_IMG_LOAD_ID_ID, 0, 0, 0xFFFFFFFF)], .session 1, by decide +kernel⟩,
    ⟨owned [(.BTH_IMG_STATE_STATE, 0, 0, 3)], .session 1, by decide +kernel⟩,
    ⟨owned [(.BTH_IMG_STATE_STATE, 0, 0, 2)], .session 1, by decide +kernel⟩,
    ⟨owned [(.BTH_IMG_STATE_STATE, 0, 0, 1)], .session 1, by decide +kernel⟩,
    ⟨owned [(.BTH_IMG_STATE_STATE, 0, 0, 4)], .session 1, by decide +kernel⟩,
    ⟨owned [(.BTH_IMG_STATE_STATE, 0, 0, 5)], .session 1, by decide +kernel⟩,
    ⟨ws [], by decide +kernel⟩,
    ⟨ws [], by decide +kernel⟩,
    ⟨{ berthed with regs := [(⟨.BTH_IMG_STATE_STATE, 0, 0⟩, 3), (⟨.CDC_STREAM_STATE_STATE, 0, 0⟩, 1)] }, .session 1,
        by decide +kernel⟩,
    ⟨loaded 3 0, .session 1, by decide +kernel⟩,
    ⟨loaded 3 3, .session 1, by decide +kernel⟩,
    ⟨owned [(.BTH_IMG_STATE_STATE, 0, 0, 4)], .session 1, by decide +kernel⟩,
    ⟨ws [], by decide +kernel⟩,
    ⟨ws [], by decide +kernel⟩,
    ⟨{ ws [] with img := { full := #v[some storedImg, none], tried := 1 } }, 0, storedImg, by decide +kernel⟩,
    ⟨ws [(.BTH_IMG_STATE_STATE, 0, 0, 1)], by decide +kernel⟩,
    ⟨ws [(.BTH_IMG_STATE_STATE, 0, 0, 2)], by decide +kernel⟩,
    ⟨owned [(.BTH_IMG_STATE_STATE, 0, 0, 3)], .session 1, by decide +kernel⟩,
    ⟨owned [], .session 1, by decide +kernel⟩,
    ⟨{ berthed with regs := [(⟨.BTH_IMG_STATE_STATE, 0, 0⟩, 4)] }, by decide +kernel⟩,
    ⟨ws [(.BTH_IMG_STATE_STATE, 0, 0, 4)], false, true, by decide +kernel⟩,
    ⟨{ berthed with regs := [(⟨.BTH_IMG_STATE_STATE, 0, 0⟩, 4)] }, true, false, by decide +kernel⟩,
    ⟨{ ws [(.BTH_IMG_STATE_STATE, 0, 0, 4)] with img := { stored := true } }, by decide +kernel⟩,
    ⟨{ ws [] with img := { full := #v[some storedImg, none] } }, 0, storedImg, by decide +kernel⟩,
    ⟨ws [], 0, by decide +kernel⟩,
    ⟨{ berthed with regs := [(⟨.CDC_STREAM_STATE_STATE, 0, 0⟩, 1)] }, .session 1, 0, by decide +kernel⟩,
    ⟨{ berthed with regs := [(⟨.CDC_STREAM_STATE_STATE, 0, 0⟩, 2)], berths := berthed.berths.set 0 { desc := some aDesc, hold := true, parkedDies := [0] } },
        .session 1, 0, by decide +kernel⟩,
    ⟨owned [], .session 1, 3, by decide +kernel⟩,
    ⟨berthed, .session 1, 0, by decide +kernel⟩,
    ⟨owned [], .session 1, 3, by decide +kernel⟩⟩

/-- SlotsThatCannotActWaitOrFault: what its hypotheses ask, clause by clause. -/
theorem witness_slotsThatCannotActWaitOrFault :
    (∃ (s : State) (c : Instr) (n : SlotNeed), s.slotNeed c = some n ∧ s.inReset (8 + n.die.val) = true) ∧
    (∃ (s : State) (c : Instr) (n : SlotNeed), s.slotNeed c = some n ∧ s.inReset (8 + n.die.val) = false ∧
        n.pendLdt (s.die n.die) = true) ∧
    (∃ (s : State) (c : Instr) (n : SlotNeed) (f : Fld) (w : Bool), s.slotNeed c = some n ∧
        s.inReset (8 + n.die.val) = false ∧ n.pendLdt (s.die n.die) = false ∧ n.why = some (f, w)) ∧
    (∃ (s : State) (c : Instr) (n : SlotNeed), s.slotNeed c = some n ∧ s.inReset (8 + n.die.val) = false ∧
        n.pendLdt (s.die n.die) = false ∧ n.why = none ∧ n.busy (s.die n.die) = true) ∧
    (∃ (s : State) (c : Instr) (n : SlotNeed), s.slotNeed c = some n ∧ s.inReset (8 + n.die.val) = false ∧
        n.pendLdt (s.die n.die) = false ∧ n.why = none ∧ n.busy (s.die n.die) = false ∧ n.code ≠ 0) :=
  ⟨⟨ws [], .slotNop 0, { die := 0 }, ⟨rfl, by decide +kernel⟩⟩,
    ⟨ldting, .sclMov 0 1 5 9, ldting.sclNeed 0 0x1E 1 5 9 0, ⟨rfl, by decide +kernel, by decide +kernel⟩⟩,
    ⟨waiting, .syncTwait 0 1 6 0, { die := 0, regs := [(4, 0)], why := some (.CDC_STALL_MEM_COUNT, true) },
        .CDC_STALL_MEM_COUNT, true, ⟨by decide +kernel, by decide +kernel, by decide +kernel, rfl⟩⟩,
    ⟨pended, .sclMov 0 1 5 9, pended.sclNeed 0 0x1E 1 5 9 0,
        ⟨rfl, by decide +kernel, by decide +kernel, rfl, by decide +kernel⟩⟩,
    ⟨lanes, .sclCmpeq 0 1 20 2 3, lanes.sclNeed 0 0x0C 1 20 2 3,
        ⟨rfl, by decide +kernel, by decide +kernel, rfl, by decide +kernel, by decide +kernel⟩⟩⟩

/-- ScalarIntegerOperationsAndComparisons: what its hypotheses ask, clause by clause. -/
theorem witness_scalarIntegerOperationsAndComparisons :
    (∃ (s : State) (die : Fin 8) (lane : Fin 4) (rd : Fin 64) (ra : Fin 64) (rb : Fin 64),
        s.slotFree (.sclAdd die lane rd ra rb) = true) ∧
    (∃ (s : State) (die : Fin 8) (lane : Fin 4) (rd : Fin 64) (ra : Fin 64) (rb : Fin 64),
        s.slotFree (.sclSub die lane rd ra rb) = true) ∧
    (∃ (s : State) (die : Fin 8) (lane : Fin 4) (rd : Fin 64) (ra : Fin 64) (rb : Fin 64),
        s.slotFree (.sclAnd die lane rd ra rb) = true) ∧
    (∃ (s : State) (die : Fin 8) (lane : Fin 4) (rd : Fin 64) (ra : Fin 64) (rb : Fin 64),
        s.slotFree (.sclOr die lane rd ra rb) = true) ∧
    (∃ (s : State) (die : Fin 8) (lane : Fin 4) (rd : Fin 64) (ra : Fin 64) (rb : Fin 64),
        s.slotFree (.sclXor die lane rd ra rb) = true) ∧
    (∃ (s : State) (die : Fin 8) (lane : Fin 4) (rd : Fin 64) (ra : Fin 64) (rb : Fin 64),
        s.slotFree (.sclShl die lane rd ra rb) = true) ∧
    (∃ (s : State) (die : Fin 8) (lane : Fin 4) (rd : Fin 64) (ra : Fin 64) (rb : Fin 64),
        s.slotFree (.sclShr die lane rd ra rb) = true) ∧
    (∃ (s : State) (die : Fin 8) (lane : Fin 4) (rd : Fin 64) (ra : Fin 64) (rb : Fin 64),
        s.slotFree (.sclSar die lane rd ra rb) = true) ∧
    (∃ (s : State) (die : Fin 8) (lane : Fin 4) (rd : Fin 64) (ra : Fin 64) (rb : Fin 64),
        s.slotFree (.sclMul die lane rd ra rb) = true) ∧
    (∃ (s : State) (die : Fin 8) (lane : Fin 4) (rd : Fin 64) (ra : Fin 64) (rb : Fin 64),
        s.slotFree (.sclAddi die lane rd ra rb) = true) ∧
    (∃ (s : State) (die : Fin 8) (lane : Fin 4) (rd : Fin 64) (ra : Fin 64) (rb : Fin 64),
        s.slotFree (.sclLdi die lane rd ra rb) = true) ∧
    (∃ (s : State) (die : Fin 8) (lane : Fin 4) (rd : Fin 64) (ra : Fin 64) (rb : Fin 64),
        s.slotFree (.sclShli12 die lane rd ra rb) = true) ∧
    (∃ (s : State) (die : Fin 8) (lane : Fin 4) (rd : Fin 64) (ra : Fin 64), s.slotFree (.sclMov die lane rd ra) = true) ∧
    (∃ (s : State) (die : Fin 8) (lane : Fin 4) (rd : Fin 64), s.slotFree (.sclGetstep die lane rd) = true) ∧
    (∃ (s : State) (die : Fin 8) (lane : Fin 4) (rd : Fin 64) (ra : Fin 64), s.slotFree (.sclSetl die lane rd ra) = true) ∧
    (∃ (s : State) (die : Fin 8) (lane : Fin 4) (rd : Fin 64) (ra : Fin 64) (rb : Fin 64),
        s.slotFree (.sclCmpeq die lane rd ra rb) = true) ∧
    (∃ (s : State) (die : Fin 8) (lane : Fin 4) (rd : Fin 64) (ra : Fin 64) (rb : Fin 64),
        s.slotFree (.sclCmplt die lane rd ra rb) = true) ∧
    (∃ (s : State) (die : Fin 8) (lane : Fin 4) (rd : Fin 64) (ra : Fin 64) (rb : Fin 64),
        s.slotFree (.sclCmpltu die lane rd ra rb) = true) ∧
    (∃ (s : State) (die : Fin 8) (lane : Fin 4) (rd : Fin 64) (ra : Fin 64) (rb : Fin 64),
        s.slotFree (.sclFcmplt die lane rd ra rb) = true) ∧
    (∃ (s : State) (die : Fin 8) (lane : Fin 4) (rd : Fin 64) (ra : Fin 64) (rb : Fin 64),
        s.slotFree (.sclPlogic die lane rd ra rb) = true ∧ rd.val / 16 = 0) ∧
    (∃ (s : State) (die : Fin 8) (lane : Fin 4) (rd : Fin 64) (ra : Fin 64) (rb : Fin 64),
        s.slotFree (.sclPlogic die lane rd ra rb) = true ∧ rd.val / 16 = 1) ∧
    (∃ (s : State) (die : Fin 8) (lane : Fin 4) (rd : Fin 64) (ra : Fin 64) (rb : Fin 64),
        s.slotFree (.sclPlogic die lane rd ra rb) = true ∧ rd.val / 16 = 2) ∧
    (∃ (s : State) (die : Fin 8) (lane : Fin 4) (rd : Fin 64) (ra : Fin 64) (rb : Fin 64),
        s.slotFree (.sclPlogic die lane rd ra rb) = true ∧ rd.val / 16 = 3) :=
  ⟨⟨lanes, 0, 1, 5, 2, 3, by decide +kernel⟩,
    ⟨lanes, 0, 1, 5, 2, 3, by decide +kernel⟩,
    ⟨lanes, 0, 1, 5, 2, 3, by decide +kernel⟩,
    ⟨lanes, 0, 1, 5, 2, 3, by decide +kernel⟩,
    ⟨lanes, 0, 1, 5, 2, 3, by decide +kernel⟩,
    ⟨lanes, 0, 1, 5, 2, 3, by decide +kernel⟩,
    ⟨lanes, 0, 1, 5, 2, 3, by decide +kernel⟩,
    ⟨lanes, 0, 1, 5, 2, 3, by decide +kernel⟩,
    ⟨lanes, 0, 1, 5, 2, 3, by decide +kernel⟩,
    ⟨lanes, 0, 1, 5, 2, 3, by decide +kernel⟩,
    ⟨lanes, 0, 1, 5, 2, 3, by decide +kernel⟩,
    ⟨lanes, 0, 1, 5, 2, 3, by decide +kernel⟩,
    ⟨lanes, 0, 1, 5, 2, by decide +kernel⟩,
    ⟨lanes, 0, 1, 5, by decide +kernel⟩,
    ⟨lanes, 0, 1, 5, 2, by decide +kernel⟩,
    ⟨lanes, 0, 1, 3, 2, 3, by decide +kernel⟩,
    ⟨lanes, 0, 1, 3, 2, 3, by decide +kernel⟩,
    ⟨lanes, 0, 1, 3, 2, 3, by decide +kernel⟩,
    ⟨lanes, 0, 1, 3, 2, 3, by decide +kernel⟩,
    ⟨lanes, 0, 1, 3, 0, 4, by decide +kernel⟩,
    ⟨lanes, 0, 1, 19, 0, 4, by decide +kernel⟩,
    ⟨lanes, 0, 1, 35, 0, 4, by decide +kernel⟩,
    ⟨lanes, 0, 1, 51, 0, 4, by decide +kernel⟩⟩

/-- ScalarFloatResults: what its hypotheses ask, clause by clause. -/
theorem witness_scalarFloatResults :
    (∃ (s : State) (die : Fin 8) (lane : Fin 4) (rd : Fin 64) (ra : Fin 64) (rb : Fin 64),
        s.slotFree (.sclFadd die lane rd ra rb) = true) ∧
    (∃ (s : State) (die : Fin 8) (lane : Fin 4) (rd : Fin 64) (ra : Fin 64) (rb : Fin 64),
        s.slotFree (.sclFmul die lane rd ra rb) = true) ∧
    (∃ (s : State) (die : Fin 8) (lane : Fin 4) (rd : Fin 64) (ra : Fin 64) (rb : Fin 64),
        s.slotFree (.sclFfma die lane rd ra rb) = true) ∧
    (∃ (s : State) (die : Fin 8) (lane : Fin 4) (rd : Fin 64) (ra : Fin 64) (rb : Fin 64),
        s.slotFree (.sclFmin die lane rd ra rb) = true) ∧
    (∃ (s : State) (die : Fin 8) (lane : Fin 4) (rd : Fin 64) (ra : Fin 64) (rb : Fin 64),
        s.slotFree (.sclFmax die lane rd ra rb) = true) ∧
    (∃ (s : State) (die : Fin 8) (lane : Fin 4) (rd : Fin 64) (ra : Fin 64), s.slotFree (.sclItof die lane rd ra) = true) ∧
    (∃ (s : State) (die : Fin 8) (lane : Fin 4) (rd : Fin 64) (ra : Fin 64), s.slotFree (.sclFtoi die lane rd ra) = true ∧
        (f32ToIntC (((s.die die).sreg lane ra).setWidth 32)).sat = false ∧
        (f32ToIntC (((s.die die).sreg lane ra).setWidth 32)).nan = false) ∧
    (∃ (s : State) (die : Fin 8) (lane : Fin 4) (rd : Fin 64) (ra : Fin 64), s.slotFree (.sclFtoi die lane rd ra) = true ∧
        (f32ToIntC (((s.die die).sreg lane ra).setWidth 32)).sat = true ∧ s.bit .CDC_FMT_CNT_CTRL_FREEZE die = false) ∧
    (∃ (s : State) (die : Fin 8) (lane : Fin 4) (rd : Fin 64) (ra : Fin 64), s.slotFree (.sclFtoi die lane rd ra) = true ∧
        (f32ToIntC (((s.die die).sreg lane ra).setWidth 32)).nan = true ∧ s.bit .CDC_FMT_CNT_CTRL_FREEZE die = false) ∧
    (∃ (s : State) (die : Fin 8) (lane : Fin 4) (rd : Fin 64) (ra : Fin 64), s.slotFree (.sclFtoi die lane rd ra) = true ∧
        ((f32ToIntC (((s.die die).sreg lane ra).setWidth 32)).sat =
        true ∨ (f32ToIntC (((s.die die).sreg lane ra).setWidth 32)).nan = true) ∧ s.bit .CDC_FMT_CNT_CTRL_FREEZE die = true) :=
  ⟨⟨lanes, 0, 1, 5, 2, 3, by decide +kernel⟩,
    ⟨lanes, 0, 1, 5, 2, 3, by decide +kernel⟩,
    ⟨lanes, 0, 1, 5, 2, 3, by decide +kernel⟩,
    ⟨lanes, 0, 1, 5, 2, 3, by decide +kernel⟩,
    ⟨lanes, 0, 1, 5, 2, 3, by decide +kernel⟩,
    ⟨lanes, 0, 1, 5, 2, by decide +kernel⟩,
    ⟨lanes, 0, 1, 5, 2, by decide +kernel⟩,
    ⟨{ lanes with dies := lanes.dies.set 0 { scalars := [((1, 2), 0x7F000000#64)] } }, 0, 1, 5, 2, by decide +kernel⟩,
    ⟨{ lanes with dies := lanes.dies.set 0 { scalars := [((1, 2), 0x7FC00001#64)] } }, 0, 1, 5, 2, by decide +kernel⟩,
    ⟨{ lanes with dies := lanes.dies.set 0 { scalars := [((1, 2), 0xFF000000#64)] }, regs := (⟨.CDC_FMT_CNT_CTRL_FREEZE, 0, 0⟩, 1) :: lanes.regs },
        0, 1, 5, 2, by decide +kernel⟩⟩

/-- ScalarMemoryAccesses: what its hypotheses ask, clause by clause. -/
theorem witness_scalarMemoryAccesses :
    (∃ (s : State) (die : Fin 8) (lane : Fin 4) (rd : Fin 64) (ra : Fin 64) (rb : Fin 64),
        s.slotFree (.sclLdp die lane rd ra rb) = true) ∧
    (∃ (s : State) (die : Fin 8) (lane : Fin 4) (rd : Fin 64) (ra : Fin 64) (rb : Fin 64),
        s.slotFree (.sclStp die lane rd ra rb) = true) ∧
    (∃ (s : State) (die : Fin 8) (lane : Fin 4) (rd : Fin 64) (ra : Fin 64) (rb : Fin 64),
        s.slotFree (.sclLdt die lane rd ra rb) = true) ∧
    (∃ (s : State) (die : Fin 8) (lane : Fin 4) (rd : Fin 64) (ra : Fin 64) (rb : Fin 64),
        s.slotFree (.sclStt die lane rd ra rb) = true) ∧
    (∃ (s : State) (die : Fin 8) (e : ExtAcc) (es : List ExtAcc) (v : Nat), (s.die die).ext = e :: es ∧ e.work = .stt v ∧
        s.bit .CDC_CNT_CTRL_FREEZE die = false) ∧
    (∃ (s : State) (die : Fin 8) (e : ExtAcc) (es : List ExtAcc) (lane : Nat) (rd : Nat), (s.die die).ext = e :: es ∧
        e.work = .ldt lane rd) ∧
    (∃ (s : State) (die : Fin 8), (s.die die).ext = []) ∧
    (∃ (s : State) (die : Fin 8) (l : LdtDone) (ls : List LdtDone), (s.die die).ldts = l :: ls) ∧
    (∃ (s : State) (die : Fin 8) (e : ExtAcc) (lane : Nat) (rd : Nat), (s.die die).ldts = [] ∧ (s.die die).ext = [e] ∧
        e.work = .ldt lane rd) ∧
    (∃ (s : State) (die : Fin 8), (s.die die).ldts = [] ∧ (s.die die).ext = []) :=
  ⟨⟨lanes, 0, 1, 5, 6, 7, by decide +kernel⟩,
    ⟨lanes, 0, 1, 5, 6, 7, by decide +kernel⟩,
    ⟨lanes, 0, 1, 5, 6, 7, by decide +kernel⟩,
    ⟨lanes, 0, 1, 5, 6, 7, by decide +kernel⟩,
    ⟨{ lanes with dies := lanes.dies.set 0 { ext := [⟨3, 64, .stt 258, 256⟩] } }, 0, ⟨3, 64, .stt 258, 256⟩, [], 258,
        by decide +kernel⟩,
    ⟨ldting, 0, ⟨3, 64, .ldt 1 9, 0⟩, [], 1, 9, by decide +kernel⟩,
    ⟨lanes, 0, by decide +kernel⟩,
    ⟨{ lanes with dies := lanes.dies.set 0 { ldts := [⟨2, 9, 77, 4⟩] } }, 0, ⟨2, 9, 77, 4⟩, [], by decide +kernel⟩,
    ⟨ldting, 0, ⟨3, 64, .ldt 1 9, 0⟩, 1, 9, by decide +kernel⟩,
    ⟨lanes, 0, by decide +kernel⟩⟩

/-- GangOperationsAreLaidDown: what its hypotheses ask, clause by clause. -/
theorem witness_gangOperationsAreLaidDown :
    (∃ (s : State) (die : Fin 8) (g : Fin 128) (desc : Fin 4096) (rep : Fin 256),
        s.slotFree (.matWload die g desc rep) = true) ∧
    (∃ (s : State) (die : Fin 8) (g : Fin 128) (desc : Fin 4096) (rep : Fin 256),
        s.slotFree (.matWpass die g desc rep) = true) ∧
    (∃ (s : State) (die : Fin 8) (g : Fin 128) (desc : Fin 4096) (rep : Fin 256),
        s.slotFree (.matWpassa die g desc rep) = true) ∧
    (∃ (s : State) (die : Fin 8) (g : Fin 128) (desc : Fin 4096) (rep : Fin 256),
        s.slotFree (.matOsacc die g desc rep) = true) ∧
    (∃ (s : State) (die : Fin 8) (g : Fin 128) (desc : Fin 4096) (rep : Fin 256),
        s.slotFree (.matOsacca die g desc rep) = true) ∧
    (∃ (s : State) (die : Fin 8) (g : Fin 128) (desc : Fin 4096) (rep : Fin 256),
        s.slotFree (.matOsdrain die g desc rep) = true) ∧
    (∃ (s : State) (die : Fin 8) (g : Fin 128) (desc : Fin 4096), s.slotFree (.matIdle die g desc) = true ∧ desc.val ≠ 0) ∧
    (∃ (s : State) (die : Fin 8) (g : Fin 128) (desc : Fin 4096), s.slotFree (.matIdle die g desc) = true ∧ desc.val = 0) ∧
    (∃ (s : State) (die : Fin 8) (g : Fin 128) (desc : Fin 4096) (rep : Fin 256), s.slotFree (.vecVld die g desc rep) = true) ∧
    (∃ (s : State) (die : Fin 8) (g : Fin 128) (desc : Fin 4096) (rep : Fin 256), s.slotFree (.vecVst die g desc rep) = true) ∧
    (∃ (s : State) (die : Fin 8) (g : Fin 128) (desc : Fin 4096) (rep : Fin 256), s.slotFree (.vecValu die g desc rep) = true) ∧
    (∃ (s : State) (die : Fin 8) (g : Fin 128) (desc : Fin 4096) (rep : Fin 256), s.slotFree (.vecVsfu die g desc rep) = true) ∧
    (∃ (s : State) (die : Fin 8) (g : Fin 128) (desc : Fin 4096) (rep : Fin 256), s.slotFree (.vecVcvt die g desc rep) = true) ∧
    (∃ (s : State) (die : Fin 8) (g : Fin 128) (desc : Fin 4096) (rep : Fin 256),
        s.slotFree (.vecVcvtmx die g desc rep) = true) ∧
    (∃ (s : State) (die : Fin 8) (g : Fin 128) (desc : Fin 4096) (rep : Fin 256),
        s.slotFree (.vecVgather die g desc rep) = true) ∧
    (∃ (s : State) (die : Fin 8) (g : Fin 128) (desc : Fin 4096) (rep : Fin 256),
        s.slotFree (.vecVscatter die g desc rep) = true) ∧
    (∃ (s : State) (die : Fin 8) (g : Fin 128) (desc : Fin 4096) (rep : Fin 256),
        s.slotFree (.rteRsend die g desc rep) = true) :=
  ⟨⟨ganged, 0, 0, 0, 0, by decide +kernel⟩,
    ⟨ganged, 0, 0, 0, 0, by decide +kernel⟩,
    ⟨ganged, 0, 0, 0, 0, by decide +kernel⟩,
    ⟨ganged, 0, 0, 0, 0, by decide +kernel⟩,
    ⟨ganged, 0, 0, 0, 0, by decide +kernel⟩,
    ⟨ganged, 0, 0, 0, 0, by decide +kernel⟩,
    ⟨ganged, 0, 0, 3, by decide +kernel⟩,
    ⟨ganged, 0, 0, 0, by decide +kernel⟩,
    ⟨ganged, 0, 0, 0, 0, by decide +kernel⟩,
    ⟨ganged, 0, 0, 0, 0, by decide +kernel⟩,
    ⟨ganged, 0, 0, 0, 0, by decide +kernel⟩,
    ⟨ganged, 0, 0, 0, 0, by decide +kernel⟩,
    ⟨ganged, 0, 0, 0, 0, by decide +kernel⟩,
    ⟨ganged, 0, 0, 1, 0, by decide +kernel⟩,
    ⟨ganged, 0, 0, 0, 0, by decide +kernel⟩,
    ⟨ganged, 0, 0, 0, 0, by decide +kernel⟩,
    ⟨ganged, 0, 0, 2, 0, by decide +kernel⟩⟩

/-- TugAndCollectiveSlotsAct: what its hypotheses ask, clause by clause. -/
theorem witness_tugAndCollectiveSlotsAct :
    (∃ (s : State) (die : Fin 8) (tally : Fin 16) (chan : Fin 16) (desc : Fin 4096) (rep : Fin 256) (q : Fin 8) (g : Fin 32),
        s.slotFree (.tugIssue die tally chan desc rep) = true ∧ s.chanMap die chan = some (q, g) ∧
        s.inReset (16 + q.val) = false) ∧
    (∃ (s : State) (die : Fin 8) (tally : Fin 16) (chan : Fin 16) (desc : Fin 4096) (rep : Fin 256) (q : Fin 8) (g : Fin 32),
        s.slotFree (.tugDefer die tally chan desc rep) = true ∧ s.chanMap die chan = some (q, g) ∧
        s.inReset (16 + q.val) = false) ∧
    (∃ (s : State) (die : Fin 8) (tally : Fin 16) (chan : Fin 16) (desc : Fin 4096) (rep : Fin 256) (q : Fin 8) (g : Fin 32),
        s.slotFree (.tugIssue die tally chan desc rep) = true ∧ s.chanMap die chan = some (q, g) ∧
        s.inReset (16 + q.val) = true ∧ (s.die die).tallies[tally] < 65535) ∧
    (∃ (s : State) (die : Fin 8) (tally : Fin 16) (chan : Fin 16) (desc : Fin 4096) (rep : Fin 256) (q : Fin 8) (g : Fin 32),
        s.slotFree (.tugDefer die tally chan desc rep) = true ∧ s.chanMap die chan = some (q, g) ∧
        s.inReset (16 + q.val) = true ∧ (s.die die).tallies[tally] < 65535) ∧
    (∃ (s : State) (die : Fin 8) (tally : Fin 16) (chan : Fin 16) (desc : Fin 4096) (rep : Fin 256) (q : Fin 8) (g : Fin 32),
        s.slotFree (.tugIssue die tally chan desc rep) = true ∧ s.chanMap die chan = some (q, g) ∧
        s.inReset (16 + q.val) = true ∧ 65535 ≤ (s.die die).tallies[tally]) ∧
    (∃ (s : State) (die : Fin 8) (handle : Fin 16) (desc : Fin 4096) (rep : Fin 256) (b : Fin 8),
        s.slotFree (.tugColl die handle desc rep) = true ∧ (s.die die).berth = some b ∧
        collFieldsOk (s.opEntry die desc) = true ∧ s.collGroupOk b (s.opEntry die desc) = true ∧
        ((∀ q ∈ s.collNeeds (s.opEntry die desc), s.get .NET_QP_CTRL_STATE 0 q ≠ 4 ∧ s.qpLink q = true))) ∧
    (∃ (s : State) (die : Fin 8) (handle : Fin 16) (desc : Fin 4096) (rep : Fin 256),
        s.slotFree (.tugColl die handle desc rep) = true ∧ (s.die die).berth = none) ∧
    (∃ (s : State) (die : Fin 8) (handle : Fin 16) (desc : Fin 4096) (rep : Fin 256) (b : Fin 8),
        s.slotFree (.tugColl die handle desc rep) = true ∧ (s.die die).berth = some b ∧
        (collFieldsOk (s.opEntry die desc) = false ∨ s.collGroupOk b (s.opEntry die desc) = false)) ∧
    (∃ (s : State) (die : Fin 8) (handle : Fin 16) (desc : Fin 4096) (rep : Fin 256) (b : Fin 8),
        s.slotFree (.tugColl die handle desc rep) = true ∧ (s.die die).berth = some b ∧
        collFieldsOk (s.opEntry die desc) = true ∧ s.collGroupOk b (s.opEntry die desc) = true ∧
        ((∃ q ∈ s.collNeeds (s.opEntry die desc), s.get .NET_QP_CTRL_STATE 0 q = 4))) ∧
    (∃ (s : State) (die : Fin 8) (handle : Fin 16) (desc : Fin 4096) (rep : Fin 256) (b : Fin 8),
        s.slotFree (.tugColl die handle desc rep) = true ∧ (s.die die).berth = some b ∧
        collFieldsOk (s.opEntry die desc) = true ∧ s.collGroupOk b (s.opEntry die desc) = true ∧
        ((∀ q ∈ s.collNeeds (s.opEntry die desc), s.get .NET_QP_CTRL_STATE 0 q ≠ 4)) ∧
        ((∃ q ∈ s.collNeeds (s.opEntry die desc), s.qpLink q = false))) ∧
    (∃ (s : State) (die : Fin 8) (lead : Fin 4096) (pclass : Fin 8) (id : Fin 256),
        s.slotFree (.hint die lead pclass id) = true ∧ (s.die die).events.length < 64) ∧
    (∃ (s : State) (die : Fin 8) (lead : Fin 4096) (pclass : Fin 8) (id : Fin 256),
        s.slotFree (.hint die lead pclass id) = true ∧ 64 ≤ (s.die die).events.length ∧
        s.bit .CDC_STR_CNT_CTRL_FREEZE die = false) ∧
    (∃ (s : State) (die : Fin 8) (lead : Fin 4096) (pclass : Fin 8) (id : Fin 256),
        s.slotFree (.hint die lead pclass id) = true ∧ 64 ≤ (s.die die).events.length ∧
        s.bit .CDC_STR_CNT_CTRL_FREEZE die = true) ∧
    (∃ (s : State) (die : Fin 8), s.slotFree (.slotNop die) = true) :=
  ⟨⟨streaming, 0, 3, 0, 0, 0, 0, 0, by decide +kernel⟩,
    ⟨streaming, 0, 3, 0, 0, 0, 0, 0, by decide +kernel⟩,
    ⟨{ streaming with regs := [(⟨.RST_IN_RESET_STATE, 0, 0⟩, 0xFFFFFE78)] }, 0, 3, 0, 0, 0, 0, 0, by decide +kernel⟩,
    ⟨{ streaming with regs := [(⟨.RST_IN_RESET_STATE, 0, 0⟩, 0xFFFFFE78)] }, 0, 3, 0, 0, 0, 0, 0, by decide +kernel⟩,
    ⟨{ streaming with regs := [(⟨.RST_IN_RESET_STATE, 0, 0⟩, 0xFFFFFE78)], dies := streaming.dies.set 0 { berth := some 0, image := some {}, tallies := Vector.replicate 16 65535 } },
        0, 3, 0, 0, 0, 0, 0, by decide +kernel⟩,
    ⟨grouped, 0, 2, 0, 0, 0, by decide +kernel⟩,
    ⟨lanes, 0, 2, 0, 0, by decide +kernel⟩,
    ⟨streaming, 0, 2, 0, 0, 0, by decide +kernel⟩,
    ⟨{ grouped with regs := [(⟨.NET_QP_CTRL_STATE, 0, 0⟩, 4), (⟨.NET_P_LINK_UP, 0, 0⟩, 1)] ++ grouped.regs }, 0, 2, 0, 0, 0,
        by decide +kernel⟩,
    ⟨{ grouped with regs := [(⟨.NET_QP_CTRL_STATE, 0, 0⟩, 3), (⟨.NET_P_LINK_UP, 0, 0⟩, 0)] ++ grouped.regs }, 0, 2, 0, 0, 0,
        by decide +kernel⟩,
    ⟨streaming, 0, 5, 1, 9, by decide +kernel⟩,
    ⟨{ streaming with dies := streaming.dies.set 0 { events := List.replicate 64 (.syncpt 0 0) } }, 0, 5, 1, 9,
        by decide +kernel⟩,
    ⟨{ streaming with regs := (⟨.CDC_STR_CNT_CTRL_FREEZE, 0, 0⟩, 1) :: streaming.regs, dies := streaming.dies.set 0 { events := List.replicate 64 (.syncpt 0 0) } },
        0, 5, 1, 9, by decide +kernel⟩,
    ⟨streaming, 0, by decide +kernel⟩⟩

/-- WaitsStepsAndFlow: what its hypotheses ask, clause by clause. -/
theorem witness_waitsStepsAndFlow :
    (∃ (s : State) (die : Fin 8), s.slotFree (.syncpt die false 0) = true) ∧
    (∃ (s : State) (die : Fin 8) (r : Fin 64), s.slotFree (.syncpt die true r) = true) ∧
    (∃ (s : State) (die : Fin 8) (tally : Fin 16) (n : Fin 4096) (pd : Fin 16), s.slotFree (.syncTwait die tally n pd) = true) ∧
    (∃ (s : State) (die : Fin 8) (handle : Fin 16) (pd : Fin 16) (h : Handle), s.slotFree (.syncCwait die handle pd) = true ∧
        (s.die die).handles.find? (fun h => h.id == handle.val) = some h) ∧
    (∃ (s : State) (die : Fin 8), s.slotFree (.syncFence die) = true) ∧
    (∃ (s : State) (die : Fin 8) (tally : Fin 16) (v : Fin 4096), s.slotFree (.syncTset die tally v) = true) ∧
    (∃ (s : State) (die : Fin 8) (tgt : Fin 1048576), s.slotFree (.flowBr die tgt) = true) ∧
    (∃ (s : State) (die : Fin 8) (j : Fin 4) (tgt : Fin 1048576), s.slotFree (.flowLoop die j tgt) = true ∧
        (s.die die).loops[j] ≠ 0#32 ∧ (s.die die).loops[j] ≠ 1#32) ∧
    (∃ (s : State) (die : Fin 8) (j : Fin 4) (tgt : Fin 1048576), s.slotFree (.flowLoop die j tgt) = true ∧
        (s.die die).loops[j] = 1#32) ∧
    (∃ (s : State) (die : Fin 8) (j : Fin 4) (tgt : Fin 1048576), s.slotFree (.flowLoop die j tgt) = true ∧
        (s.die die).loops[j] = 0#32) ∧
    (∃ (s : State) (die : Fin 8), s.slotFree (.flowHalt die) = true) ∧
    (∃ (s : State) (die : Fin 8), (s.die die).ended = true ∧
        (s.die die).taken.all (fun x => decide (x.until_ ≤ (s.die die).cycle)) = true) ∧
    (∃ (s : State) (die : Fin 8), ((s.die die).ended =
        false ∨ (s.die die).taken.any (fun x => decide ((s.die die).cycle < x.until_)) = true)) :=
  ⟨⟨lanes, 0, by decide +kernel⟩,
    ⟨lanes, 0, 5, by decide +kernel⟩,
    ⟨waiting, 0, 1, 2, 4, by decide +kernel⟩,
    ⟨waiting, 0, 3, 4, ⟨3, [], 0, some 0⟩, by decide +kernel⟩,
    ⟨lanes, 0, by decide +kernel⟩,
    ⟨waiting, 0, 1, 7, by decide +kernel⟩,
    ⟨lanes, 0, 100, by decide +kernel⟩,
    ⟨waiting, 0, 2, 100, by decide +kernel⟩,
    ⟨waiting, 0, 3, 100, by decide +kernel⟩,
    ⟨waiting, 0, 1, 100, by decide +kernel⟩,
    ⟨lanes, 0, by decide +kernel⟩,
    ⟨{ ws [(.CDC_STREAM_STATE_STATE, 0, 0, 1)] with dies := State.reset.dies.set 0 { ended := true } }, 0, by decide +kernel⟩,
    ⟨lanes, 0, by decide +kernel⟩⟩

/-- StreamControlAndIssue: what its hypotheses ask, clause by clause. -/
theorem witness_streamControlAndIssue :
    (∃ (s : State) (src : Source) (die : Fin 8), s.right src = .owner ∧ s.inReset (8 + die.val) = false ∧
        s.commitMask (·.dieMask) die = false ∧ (s.die die).image.isSome = true ∧ s.dieHeld die = false ∧
        (s.streamState die = 0 ∨ s.streamState die = 3)) ∧
    (∃ (s : State) (src : Source) (die : Fin 8), s.right src = .owner ∧ s.inReset (8 + die.val) = false ∧
        s.commitMask (·.dieMask) die = false ∧
        ((s.die die).image = none ∨ s.dieHeld die = true ∨ s.streamState die = 1 ∨ s.streamState die = 2)) ∧
    (∃ (s : State) (src : Source) (die : Fin 8), s.right src = .owner ∧ s.inReset (8 + die.val) = false ∧
        s.running die = true ∧ (s.die die).inIssue = false) ∧
    (∃ (s : State) (src : Source) (die : Fin 8), s.right src = .owner ∧ s.inReset (8 + die.val) = false ∧
        s.running die = true ∧ (s.die die).inIssue = true) ∧
    (∃ (s : State) (src : Source) (die : Fin 8), s.right src = .owner ∧ s.inReset (8 + die.val) = false ∧
        s.running die = false) ∧
    (∃ (s : State) (src : Source) (die : Fin 8), s.right src = .owner ∧ s.inReset (8 + die.val) = false ∧
        s.streamState die = 2 ∧ s.dieHeld die = false) ∧
    (∃ (s : State) (src : Source) (die : Fin 8), s.right src = .owner ∧ s.inReset (8 + die.val) = false ∧
        s.dieHeld die = true) ∧
    (∃ (s : State) (src : Source) (die : Fin 8), s.right src = .owner ∧ s.inReset (8 + die.val) = false ∧
        s.streamState die ≠ 2 ∧ s.dieHeld die = false) ∧
    (∃ (s : State) (die : Fin 8) (n : Nat), s.inReset (8 + die.val) = false ∧ s.running die = true ∧
        (s.die die).ended = false ∧ (s.die die).restoring = false ∧ s.dieFrames die = false ∧ s.get .CDC_PC_INDEX die = n ∧
        n ≤ (s.die die).lastBundle ∧ (s.die die).fetchStall = 0 ∧ (s.die die).inIssue = false ∧ (s.die die).rep = 0 ∧
        (s.die die).slotFrom = 0 ∧ (s.die die).parkAfter = false ∧ (s.die die).rateAfter = false ∧ (s.die die).flights = [] ∧
        (s.die die).ext = [] ∧ (s.die die).ldts = [] ∧ s.bytes (bundleAddr die (s.die die).overflowMib n) 4 = [0, 0, 0, 0]) ∧
    (∃ (s : State) (die : Fin 8), s.inReset (8 + die.val) = true) ∧
    (∃ (s : State) (die : Fin 8), s.inReset (8 + die.val) = false ∧ s.running die = false ∧ (s.die die).flights = [] ∧
        (s.die die).ext = [] ∧ (s.die die).ldts = []) :=
  ⟨⟨{ berthed with regs := [(⟨.RST_IN_RESET_STATE, 0, 0⟩, 0), (⟨.CDC_STREAM_ENTRY_INDEX, 0, 0⟩, 12)] }, .session 1, 0,
        by decide +kernel⟩,
    ⟨owned [(.RST_IN_RESET_STATE, 0, 0, 0)], .session 1, 0, by decide +kernel⟩,
    ⟨owned [(.RST_IN_RESET_STATE, 0, 0, 0), (.CDC_STREAM_STATE_STATE, 0, 0, 1)], .session 1, 0, by decide +kernel⟩,
    ⟨{ owned [(.RST_IN_RESET_STATE, 0, 0, 0), (.CDC_STREAM_STATE_STATE, 0, 0, 1)] with dies := State.reset.dies.set 0 { inIssue := true } },
        .session 1, 0, by decide +kernel⟩,
    ⟨owned [(.RST_IN_RESET_STATE, 0, 0, 0)], .session 1, 0, by decide +kernel⟩,
    ⟨owned [(.RST_IN_RESET_STATE, 0, 0, 0), (.CDC_STREAM_STATE_STATE, 0, 0, 2)], .session 1, 0, by decide +kernel⟩,
    ⟨{ berthed with regs := [(⟨.RST_IN_RESET_STATE, 0, 0⟩, 0)], berths := berthed.berths.set 0 { desc := some aDesc, hold := true } },
        .session 1, 0, by decide +kernel⟩,
    ⟨owned [(.RST_IN_RESET_STATE, 0, 0, 0)], .session 1, 0, by decide +kernel⟩,
    ⟨ws [(.RST_IN_RESET_STATE, 0, 0, 0), (.CDC_STREAM_STATE_STATE, 0, 0, 1), (.CDC_PC_INDEX, 0, 0, 5)], 0, 5,
        by decide +kernel⟩,
    ⟨ws [], 0, by decide +kernel⟩,
    ⟨lanes, 0, by decide +kernel⟩⟩

/-- FramesDutyAndRateChanges: what its hypotheses ask, clause by clause. -/
theorem witness_framesDutyAndRateChanges :
    (∃ (s : State) (b : Fin 8), s.framesOn b = true ∧
        (s.berthDies b).all (fun d => !(s.die d).restoring && (!s.running d || (s.die d).frameDone)) = true) ∧
    (∃ (s : State) (b : Fin 8), s.framesOn b = true ∧ (s.berthDies b).all (fun d => !(s.die d).restoring) = true ∧
        (s.berthDies b).any (fun d => s.running d && !(s.die d).frameDone) = true) ∧
    (∃ (s : State) (b : Fin 8), (s.framesOn b = false ∨ (s.berthDies b).any (fun d => (s.die d).restoring) = true)) ∧
    (∃ (s : State) (b : Fin 8), (s.berth b).loopWait = true) ∧
    (∃ (s : State) (b : Fin 8) (d : Fin 8) (n : Snapshot), (s.berth b).loopWait = true ∧ d ∈ s.berthDies b ∧
        (s.die d).restoring = true ∧ (s.die d).snapshot = some n ∧ (s.berthDies b).all (fun e => !(s.die e).unitsBusy) = true) ∧
    (∃ (s : State) (b : Fin 8), (s.berth b).loopWait = false) ∧
    (∃ (s : State) (d : Fin 8), s.inReset (8 + d.val) = false) ∧
    (∃ (s : State) (d : Fin 8), s.inReset (8 + d.val) = true) ∧
    (∃ (s : State) (d : Fin 8) (p : RatePending), (s.die d).ratePend = some p) ∧
    (∃ (s : State) (d : Fin 8), (s.die d).ratePend = none) ∧
    (∃ (s : State) (d : Fin 8) (p : RatePending), (s.die d).ratePend = some p) ∧
    (∃ (s : State) (d : Fin 8), (s.die d).ratePend = none) ∧
    (∃ (s : State) (d : Fin 8) (p : RatePending), (s.die d).ratePend = some p ∧ s.running d = false ∧
        s.inReset (8 + d.val) = false ∧ p.origin + 200 * us ≤ s.now ∧ s.engineUp = true) ∧
    (∃ (s : State) (d : Fin 8), (s.running d = true ∨ s.inReset (8 + d.val) = true ∨ s.rateAged d = false ∨ s.engineUp =
        false)) :=
  ⟨⟨framed, 0, by decide +kernel⟩,
    ⟨{ framed with regs := (⟨.CDC_STREAM_STATE_STATE, 0, 0⟩, 1) :: framed.regs }, 0, by decide +kernel⟩,
    ⟨berthed, 0, by decide +kernel⟩,
    ⟨{ framed with berths := framed.berths.set 0 { desc := some aDesc, loopWait := true } }, 0, by decide +kernel⟩,
    ⟨restored, 0, 0, aSnap, by decide +kernel⟩,
    ⟨berthed, 0, by decide +kernel⟩,
    ⟨{ ws [(.RST_IN_RESET_STATE, 0, 0, 0)] with dies := State.reset.dies.set 0 { duReserve := 3, duThermal := 5 } }, 0,
        by decide +kernel⟩,
    ⟨ws [], 0, by decide +kernel⟩,
    ⟨changing, 0, ⟨0x20, 4, 0, false⟩, by decide +kernel⟩,
    ⟨lanes, 0, by decide +kernel⟩,
    ⟨changing, 0, ⟨0x20, 4, 0, false⟩, by decide +kernel⟩,
    ⟨lanes, 0, by decide +kernel⟩,
    ⟨{ changing with pilots := #v[{ role := .active }, {}], hma := { grant := some 0 }, now := 200 * us }, 0,
        ⟨0x20, 4, 0, false⟩, by decide +kernel⟩,
    ⟨changing, 0, by decide +kernel⟩⟩

/-- TugsAndGathersComplete: what its hypotheses ask, clause by clause. -/
theorem witness_tugsAndGathersComplete :
    (∃ (s : State) (q : Fin 8) (g : Fin 32) (i : Nat) (c : TugIssue) (b : Fin 8), s.inReset (16 + q.val) = false ∧
        s.tugNext q g = some (i, c) ∧ s.tugOwner q g = some b) ∧
    (∃ (s : State) (q : Fin 8) (g : Fin 32), (s.inReset (16 + q.val) = true ∨ s.tugNext q g = none ∨ s.tugOwner q g = none)) ∧
    (∃ (s : State) (q : Fin 8) (g : Fin 32) (r : TugRun) (rs : List TugRun) (b : Fin 8) (k : Nat) (o : Nat),
        (s.quay q).tugs[g].runs = r :: rs ∧ ((∀ x ∈ rs, x.num ≠ r.num)) ∧ s.tugOwner q g = some b ∧ r.codes = [] ∧
        tOp r.issue.entry = 1 ∧ tRows r.issue.entry = 1 ∧
        s.translate b (tDst r.issue.entry r.issue.rep 0) (tLines r.issue.entry * 64) = some (.scratch k o) ∧ k = q.val ∧
        s.inReset (16 + q.val) = false ∧ ((∀ p ∈ s.fwy.packets, p.req = .tug q g r.num → p.code = 0 ∧ p.hops = [])) ∧
        (s.die r.die).tallies[Fin.ofNat 16 r.issue.tally] < 65535) ∧
    (∃ (s : State) (q : Fin 8) (g : Fin 32) (r : TugRun) (rs : List TugRun) (b : Fin 8), (s.quay q).tugs[g].runs = r :: rs ∧
        ((∀ x ∈ rs, x.num ≠ r.num)) ∧ s.tugOwner q g = some b ∧ 0x10 ≤ statusOf r.codes ∧ statusOf r.codes ≤ 0x12 ∧
        r.allIssued = true ∧ ((∀ p ∈ s.fwy.packets, ¬ (p.req = .tug q g r.num))) ∧
        (s.die r.die).tallies[Fin.ofNat 16 r.issue.tally] < 65535) ∧
    (∃ (s : State) (q : Fin 8) (g : Fin 32), ((s.quay q).tugs[g].runs = [] ∨ s.tugOwner q g = none)) ∧
    (∃ (s : State) (d : Fin 8) (n : Nat) (x : Gather) (b : Fin 8), (s.die d).gathers.find? (fun g => g.id == n) = some x ∧
        (s.die d).berth = some b ∧ (s.die d).tallies[Fin.ofNat 16 x.tally] < 65535) ∧
    (∃ (s : State) (d : Fin 8) (n : Nat) (x : Gather) (b : Fin 8) (r : GRow) (k : Nat) (o : Nat),
        (s.die d).gathers.find? (fun g => g.id == n) = some x ∧ (s.die d).berth = some b ∧ x.scatter = false ∧ x.rows = [r] ∧
        r.st = .outstanding ∧ r.addr % 64 = 0 ∧ s.translate b r.addr 64 = some (.scratch k o) ∧
        s.serveStatus d (.scratch k o) = 0 ∧ (s.quay (Fin.ofNat 8 k)).opened = [] ∧
        ((∀ p ∈ s.fwy.packets, p.req ≠ .row d x.id 0)) ∧ (s.die d).tallies[Fin.ofNat 16 x.tally] < 65535) ∧
    (∃ (s : State) (d : Fin 8) (n : Nat) (x : Gather) (b : Fin 8) (r : GRow) (k : Nat) (o : Nat) (bs : List Nat),
        (s.die d).gathers.find? (fun g => g.id == n) = some x ∧ (s.die d).berth = some b ∧ x.scatter = true ∧ x.rows = [r] ∧
        r.st = .outstanding ∧ r.addr % 64 = 0 ∧ s.translate b r.addr 64 = some (.scratch k o) ∧
        s.serveStatus d (.scratch k o) = 0 ∧ r.data = some bs ∧ ((∀ p ∈ s.fwy.packets, p.req ≠ .row d x.id 0)) ∧
        (s.die d).tallies[Fin.ofNat 16 x.tally] < 65535 ∧ bs.length = 64) ∧
    (∃ (s : State) (d : Fin 8) (n : Nat), ((∀ x ∈ (s.die d).gathers, x.id ≠ n) ∨ (s.die d).berth = none)) ∧
    (∃ (s : State) (q : Fin 8) (g : Fin 32) (r : TugRun) (rs : List TugRun) (e : TugReq) (es : List TugReq),
        (s.quay q).tugs[g].runs = r :: rs ∧ ((∀ x ∈ rs, x.num ≠ r.num)) ∧ r.out = e :: es) ∧
    (∃ (s : State) (q : Fin 8) (g : Fin 32), (s.quay q).tugs[g].runs.all (fun r => r.out.isEmpty) = true) ∧
    (∃ (s : State) (d : Fin 8) (n : Nat) (x : Gather) (i : Nat), (s.die d).gathers.find? (fun g => g.id == n) = some x ∧
        ((∀ y ∈ (s.die d).gathers, y.id = n → y = x)) ∧
        x.rows.findIdx? (fun r => r.st == .asked || r.st == .outstanding) = some i) ∧
    (∃ (s : State) (d : Fin 8) (n : Nat),
        ((∀ x ∈ (s.die d).gathers, x.id = n → x.rows.all (fun r => r.st != .asked && r.st != .outstanding) = true))) ∧
    (∃ (s : State), s.netHeld = true) ∧
    (∃ (s : State) (qp : Fin 65536), s.netHeld = false ∧ s.net.colls = [] ∧ s.fwy.segs = [] ∧ s.qpReceives qp = true ∧
        s.fwy.timeoutAt = some s.now) :=
  ⟨⟨tugged, 0, 0, 0, aFill, 0, by decide +kernel⟩,
    ⟨ws [], 0, 0, by decide +kernel⟩,
    ⟨tugRunning, 0, 0, { die := 0, issue := aFill }, [], 0, 0, 0, by decide +kernel⟩,
    ⟨{ tugged with quays := State.reset.quays.set 0 { tugs := (Vector.replicate 32 {}).set 0 { runs := [{ die := 0, issue := aFill, codes := [0x11], row := 1 }], nextRun := 1 } } },
        0, 0, { die := 0, issue := aFill, codes := [0x11], row := 1 }, [], 0, by decide +kernel⟩,
    ⟨ws [], 0, 0, by decide +kernel⟩,
    ⟨gathering, 0, 3, { id := 3, scatter := false, tally := 2, rows := [{ idx := 1, tile := 0, sram := 0, addr := 0x8000000000 }], frame := 0 },
        0, by decide +kernel⟩,
    ⟨{ gathering with fwy := { trained := List.range 18 }, dies := gathering.dies.set 0 { berth := some 0, image := some {}, gathers := [{ id := 3, scatter := false, tally := 2, rows := [{ idx := 1, tile := 0, sram := 0, addr := 0x8000000000, st := .outstanding }], frame := 0 }] } },
        0, 3, { id := 3, scatter := false, tally := 2, rows := [{ idx := 1, tile := 0, sram := 0, addr := 0x8000000000, st := .outstanding }], frame := 0 },
        0, { idx := 1, tile := 0, sram := 0, addr := 0x8000000000, st := .outstanding }, 0, 0, by decide +kernel⟩,
    ⟨{ gathering with fwy := { trained := List.range 18 }, dies := gathering.dies.set 0 { berth := some 0, image := some {}, gathers := [{ id := 3, scatter := true, tally := 2, rows := [{ idx := 1, tile := 0, sram := 0, addr := 0x8000000000, data := some (List.replicate 64 7), st := .outstanding }], frame := 0 }] } },
        0, 3, { id := 3, scatter := true, tally := 2, rows := [{ idx := 1, tile := 0, sram := 0, addr := 0x8000000000, data := some (List.replicate 64 7), st := .outstanding }], frame := 0 },
        0, { idx := 1, tile := 0, sram := 0, addr := 0x8000000000, data := some (List.replicate 64 7), st := .outstanding },
        0, 0, List.replicate 64 7, by decide +kernel⟩,
    ⟨ws [], 0, 3, by decide +kernel⟩,
    ⟨{ tugged with quays := State.reset.quays.set 0 { tugs := (Vector.replicate 32 {}).set 0 { runs := [{ die := 0, issue := aFill, issued := 1, row := 1, out := [⟨0, 0, 0, 64⟩] }], nextRun := 1 } } },
        0, 0, { die := 0, issue := aFill, issued := 1, row := 1, out := [⟨0, 0, 0, 64⟩] }, [], ⟨0, 0, 0, 64⟩, [],
        by decide +kernel⟩,
    ⟨tugRunning, 0, 0, by decide +kernel⟩,
    ⟨{ gathering with fwy := { trained := List.range 18 }, dies := gathering.dies.set 0 { berth := some 0, image := some {}, gathers := [{ id := 3, scatter := false, tally := 2, rows := [{ idx := 1, tile := 0, sram := 0, addr := 0x8000000000, st := .outstanding }], frame := 0 }] } },
        0, 3, { id := 3, scatter := false, tally := 2, rows := [{ idx := 1, tile := 0, sram := 0, addr := 0x8000000000, st := .outstanding }], frame := 0 },
        0, by decide +kernel⟩,
    ⟨gathering, 0, 3, by decide +kernel⟩,
    ⟨ws [], by decide +kernel⟩,
    ⟨netted, 2, by decide +kernel⟩⟩

/-- HbmStacksTrainFailAndScrub: what its hypotheses ask, clause by clause. -/
theorem witness_hbmStacksTrainFailAndScrub :
    (∃ (s : State) (k : Fin 16) (rate : Fin 3), s.inReset (16 + k.val / 2 % 8) = false ∧ s.trained k = false ∧
        (s.quay (Fin.ofNat 8 (k.val / 2))).failed[(Fin.ofNat 2 k.val)] = false ∧
        rate.val = (s.quay (Fin.ofNat 8 (k.val / 2))).tryRate[(Fin.ofNat 2 k.val)] ∧
        s.ready (rQD (Fin.ofNat 8 (k.val / 2))) = true ∧ s.boundMissed (rHBM k) = false) ∧
    (∃ (s : State) (k : Fin 16) (rate : Fin 3), s.inReset (16 + k.val / 2 % 8) = false ∧ s.trained k = false ∧
        (s.quay (Fin.ofNat 8 (k.val / 2))).failed[(Fin.ofNat 2 k.val)] = false ∧
        rate.val = (s.quay (Fin.ofNat 8 (k.val / 2))).tryRate[(Fin.ofNat 2 k.val)] ∧
        (s.ready (rQD (Fin.ofNat 8 (k.val / 2))) = false ∨ s.boundMissed (rHBM k) = true)) ∧
    (∃ (s : State) (k : Fin 16) (rate : Fin 3), s.inReset (16 + k.val / 2 % 8) = false ∧ s.trained k = false ∧
        (s.quay (Fin.ofNat 8 (k.val / 2))).failed[(Fin.ofNat 2 k.val)] = false ∧
        rate.val = (s.quay (Fin.ofNat 8 (k.val / 2))).tryRate[(Fin.ofNat 2 k.val)] ∧ rate.val < 2) ∧
    (∃ (s : State) (k : Fin 16) (rate : Fin 3), s.inReset (16 + k.val / 2 % 8) = false ∧ s.trained k = false ∧
        (s.quay (Fin.ofNat 8 (k.val / 2))).failed[(Fin.ofNat 2 k.val)] = false ∧
        rate.val = (s.quay (Fin.ofNat 8 (k.val / 2))).tryRate[(Fin.ofNat 2 k.val)] ∧ rate.val = 2) ∧
    (∃ (s : State) (k : Fin 16) (rate : Fin 3),
        (s.inReset (16 + k.val / 2 % 8) = true ∨ s.trained k =
        true ∨ (s.quay (Fin.ofNat 8 (k.val / 2))).failed[(Fin.ofNat 2 k.val)] =
        true ∨ rate.val ≠ (s.quay (Fin.ofNat 8 (k.val / 2))).tryRate[(Fin.ofNat 2 k.val)])) ∧
    (∃ (s : State) (k : Fin 16), s.trained k = true) ∧
    (∃ (s : State) (k : Fin 16), s.trained k = false) ∧
    (∃ (s : State) (k : Fin 16), s.inReset (16 + k.val / 2 % 8) = false ∧ s.trained k = true) ∧
    (∃ (s : State) (k : Fin 16), (s.inReset (16 + k.val / 2 % 8) = true ∨ s.trained k = false)) ∧
    (∃ (s : State) (q : Fin 8), s.inReset (16 + q.val) = false ∧ s.bit .QDC_SCRUB_CFG_ENABLE q = true) ∧
    (∃ (s : State) (q : Fin 8), (s.inReset (16 + q.val) = true ∨ s.bit .QDC_SCRUB_CFG_ENABLE q = false)) ∧
    (∃ (s : State) (q : Fin 8) (off : Nat), s.inReset (16 + q.val) = false ∧ off < 2 ^ 48) ∧
    (∃ (s : State) (q : Fin 8), s.inReset (16 + q.val) = true) :=
  ⟨⟨{ ws [(.RST_IN_RESET_STATE, 0, 0, 0), (.MOD_READY_QD, 0, 0, 2), (.QDC_HBM_STATUS_SELF_REFRESH, 1, 1, 1)] with pins := {}, quays := State.reset.quays.set 1 { tryRate := #v[0, 1] } },
        3, 1, by decide +kernel⟩,
    ⟨{ ws [(.RST_IN_RESET_STATE, 0, 0, 0)] with quays := State.reset.quays.set 1 { tryRate := #v[0, 2] } }, 3, 2,
        by decide +kernel⟩,
    ⟨{ ws [(.RST_IN_RESET_STATE, 0, 0, 0)] with quays := State.reset.quays.set 1 { tryRate := #v[0, 1] } }, 3, 1,
        by decide +kernel⟩,
    ⟨{ ws [(.RST_IN_RESET_STATE, 0, 0, 0)] with quays := State.reset.quays.set 1 { tryRate := #v[0, 2] } }, 3, 2,
        by decide +kernel⟩,
    ⟨ws [(.RST_IN_RESET_STATE, 0, 0, 0)], 3, 1, by decide +kernel⟩,
    ⟨ws [(.QDC_HBM_STATUS_TRAINED, 1, 1, 1), (.MOD_READY_HI_HBM, 0, 0, 8)], 3, by decide +kernel⟩,
    ⟨ws [], 3, by decide +kernel⟩,
    ⟨ws [(.RST_IN_RESET_STATE, 0, 0, 0), (.QDC_HBM_STATUS_TRAINED, 1, 1, 1)], 3, by decide +kernel⟩,
    ⟨ws [], 3, by decide +kernel⟩,
    ⟨ws [(.RST_IN_RESET_STATE, 0, 0, 0), (.QDC_SCRUB_CFG_ENABLE, 1, 0, 1)], 1, by decide +kernel⟩,
    ⟨ws [], 1, by decide +kernel⟩,
    ⟨ws [(.RST_IN_RESET_STATE, 0, 0, 0)], 1, 64, by decide +kernel⟩,
    ⟨ws [], 1, by decide +kernel⟩⟩

/-- FairwayLinkEventsAct: what its hypotheses ask, clause by clause. -/
theorem witness_fairwayLinkEventsAct :
    (∃ (s : State) (k : Fin 38) (sub : Fin 8), s.linkUp k = true ∧ sub.val < linkSubs k ∧
        bitAt (s.linkRetired k) sub = false ∧ s.bit .FWY_CNT_CTRL_FREEZE = false ∧ s.fwy.replays = [] ∧ s.fwy.retryRec = []) ∧
    (∃ (s : State) (k : Fin 38) (dir : Fin 2) (sub : Fin 8), s.linkUp k = true ∧ sub.val < linkSubs k ∧
        bitAt (s.linkRetired k) sub = false ∧ s.fwy.replays = [(k.val, sub.val, dir.val, s.now)] ∧
        s.fwy.consec = [(k.val, sub.val, dir.val, 8)]) ∧
    (∃ (s : State) (k : Fin 38) (dir : Fin 2) (sub : Fin 8), s.linkUp k = true ∧ sub.val < linkSubs k ∧
        bitAt (s.linkRetired k) sub = false ∧ s.fwy.replays = [(k.val, sub.val, dir.val, s.now)] ∧
        s.fwy.consec = [(k.val, sub.val, dir.val, 7)]) ∧
    (∃ (s : State) (k : Fin 38) (sub : Fin 8),
        (s.linkUp k = false ∨ linkSubs k ≤ sub.val ∨ bitAt (s.linkRetired k) sub = true)) ∧
    (∃ (s : State) (k : Fin 38) (sub : Fin 8), sub.val < linkSubs k ∧ bitAt (s.linkRetired k) sub = false ∧
        (s.set .FWY_LINK_STATUS_RETIRED (putBit (s.linkRetired k) sub true) 0 k).linkActive k ≠ 0) ∧
    (∃ (s : State) (k : Fin 38) (sub : Fin 8), sub.val < linkSubs k ∧ bitAt (s.linkRetired k) sub = false ∧
        (s.set .FWY_LINK_STATUS_RETIRED (putBit (s.linkRetired k) sub true) 0 k).linkActive k = 0) ∧
    (∃ (s : State) (k : Fin 38) (sub : Fin 8), (linkSubs k ≤ sub.val ∨ bitAt (s.linkRetired k) sub = true)) ∧
    (∃ (s : State) (k : Fin 38), s.fwy.down.contains k.val = false) ∧
    (∃ (s : State) (k : Fin 38), s.fwy.down.contains k.val = true) ∧
    (∃ (s : State) (src : Source), s.right src = .owner) :=
  ⟨⟨linked, 3, 2, by decide +kernel⟩,
    ⟨{ linked with fwy := { linked.fwy with replays := [(3, 2, 1, 0)], consec := [(3, 2, 1, 8)] } }, 3, 1, 2,
        by decide +kernel⟩,
    ⟨{ linked with fwy := { linked.fwy with replays := [(3, 2, 1, 0)], consec := [(3, 2, 1, 7)] } }, 3, 1, 2,
        by decide +kernel⟩,
    ⟨linked, 20, 5, by decide +kernel⟩,
    ⟨linked, 3, 2, by decide +kernel⟩,
    ⟨{ linked with regs := [(⟨.FWY_LINK_STATUS_RETIRED, 0, 20⟩, 7)] }, 20, 3, by decide +kernel⟩,
    ⟨linked, 20, 4, by decide +kernel⟩,
    ⟨{ linked with fwy := { linked.fwy with packets := [{ req := .segment 0, k := 0, resp := false, wr := false, berth := 0, stamp := 0, flits := 1, hops := [(3, 0)], ready := 0 }] } },
        3, by decide +kernel⟩,
    ⟨{ ws [] with fwy := { down := [3] } }, 3, by decide +kernel⟩,
    ⟨owned [(.FWY_CYCLES_COUNT, 0, 0, 9), (.FWY_LINK_BERTH_COUNT, 0, 5, 9)], .session 1, by decide +kernel⟩⟩

/-- PortsFramesAndPriorityFlowControl: what its hypotheses ask, clause by clause. -/
theorem witness_portsFramesAndPriorityFlowControl :
    (∃ (s : State) (p : Fin 2) (sub : Fin 8) (x : LinkPartner), s.netHeld = false ∧ sub.val < s.subPorts p ∧
        s.linkMay p x = true) ∧
    (∃ (s : State) (p : Fin 2) (sub : Fin 8) (x : LinkPartner),
        (s.netHeld = true ∨ s.subPorts p ≤ sub.val ∨ s.linkMay p x = false)) ∧
    (∃ (s : State) (p : Fin 2) (sub : Fin 8), s.netHeld = false ∧ bitAt (s.get .NET_P_LINK_UP p) sub = true ∧
        s.net.colls = []) ∧
    (∃ (s : State) (p : Fin 2) (sub : Fin 8) (c : Coll) (q : Nat), s.netHeld = false ∧
        bitAt (s.get .NET_P_LINK_UP p) sub = true ∧ s.net.colls = [c] ∧ c.own = none ∧ q ∈ s.collNeeds c.entry ∧
        s.qpPort q = p ∧ s.get .NET_QP_PORT_SUB 0 q = sub.val) ∧
    (∃ (s : State) (p : Fin 2) (sub : Fin 8), (s.netHeld = true ∨ bitAt (s.get .NET_P_LINK_UP p) sub = false)) ∧
    (∃ (s : State) (p : Fin 2) (f : EthFrame) (k : Nat), s.netHeld = false ∧ s.delivers p f = true ∧ ctrlKind f.kind = some k) ∧
    (∃ (s : State) (p : Fin 2) (f : EthFrame), s.netHeld = false ∧ s.delivers p f = true ∧ ctrlKind f.kind = none) ∧
    (∃ (s : State) (p : Fin 2) (f : EthFrame), s.netHeld = false ∧ s.delivers p f = false) ∧
    (∃ (s : State), s.netHeld = true) ∧
    (∃ (s : State) (p : Fin 2) (sub : Fin 8) (prio : Fin 8) (n : Nat), s.netHeld = false ∧
        bitAt (s.get .NET_P_PFC_ENABLE p) prio = true ∧ s.net.xoffSent.contains (p.val, sub.val, prio.val) = false ∧
        s.get .NET_P_PFC_XOFF_KIB p < n) ∧
    (∃ (s : State) (p : Fin 2) (sub : Fin 8) (prio : Fin 8) (n : Nat), s.netHeld = false ∧
        bitAt (s.get .NET_P_PFC_ENABLE p) prio = true ∧ s.net.xoffSent.contains (p.val, sub.val, prio.val) = true ∧
        2 * n ≤ s.get .NET_P_PFC_XOFF_KIB p) ∧
    (∃ (s : State) (p : Fin 2) (sub : Fin 8) (prio : Fin 8) (n : Nat),
        (s.netHeld = true ∨ bitAt (s.get .NET_P_PFC_ENABLE p) prio =
        false ∨ (s.net.xoffSent.contains (p.val, sub.val, prio.val) = false ∧
        n ≤ s.get .NET_P_PFC_XOFF_KIB p) ∨ (s.net.xoffSent.contains (p.val, sub.val, prio.val) = true ∧
        s.get .NET_P_PFC_XOFF_KIB p < 2 * n))) ∧
    (∃ (s : State) (p : Fin 2) (prio : Fin 8), s.netHeld = false ∧ bitAt (s.get .NET_P_PFC_ENABLE p) prio = true) ∧
    (∃ (s : State) (p : Fin 2) (prio : Fin 8), s.netHeld = false ∧ bitAt (s.get .NET_P_PFC_ENABLE p) prio = false) ∧
    (∃ (s : State), s.netHeld = false) ∧
    (∃ (s : State), s.netHeld = true) :=
  ⟨⟨ws [(.RST_IN_RESET_STATE, 0, 0, 0)], 1, 0, ⟨false, [], false⟩, by decide +kernel⟩,
    ⟨{ ws [(.RST_IN_RESET_STATE, 0, 0, 0)] with net := { State.reset.net with anNow := #v[true, true] } }, 1, 0,
        ⟨false, [], false⟩, by decide +kernel⟩,
    ⟨{ netted with net := { netted.net with xoffSent := [(0, 0, 3)] } }, 0, 0, by decide +kernel⟩,
    ⟨collecting, 0, 0, { die := 0, handle := 3, berth := 0, group := 0, entry := [1, 4, 0, 0x80, 0x1000, 0x80, 0, 0], rep := 0, posted := 0 },
        0, by decide +kernel⟩,
    ⟨ws [], 0, 0, by decide +kernel⟩,
    ⟨netted, 0, ⟨⟨0x020000000009, false, 0x0A000009⟩, ⟨0x020000000001, false, 0x0A000001⟩, none, false, .arp, 64⟩, 0,
        ⟨by decide +kernel, delivered_arp⟩⟩,
    ⟨netted, 0, ⟨⟨0x020000000009, false, 0x0A000009⟩, ⟨0x020000000001, false, 0x0A000001⟩, none, false, .other, 64⟩,
        ⟨by decide +kernel, delivered_other⟩⟩,
    ⟨netted, 0, ⟨⟨0x020000000009, false, 0x0A000009⟩, ⟨0x020000000001, false, 0x0A000001⟩, none, true, .arp, 64⟩,
        by decide +kernel⟩,
    ⟨ws [], by decide +kernel⟩,
    ⟨ws [(.RST_IN_RESET_STATE, 0, 0, 0), (.NET_P_PFC_ENABLE, 1, 0, 8), (.NET_P_PFC_XOFF_KIB, 1, 0, 100)], 1, 0, 3, 101,
        by decide +kernel⟩,
    ⟨{ ws [(.RST_IN_RESET_STATE, 0, 0, 0), (.NET_P_PFC_ENABLE, 1, 0, 8), (.NET_P_PFC_XOFF_KIB, 1, 0, 100)] with net := { State.reset.net with xoffSent := [(1, 0, 3)] } },
        1, 0, 3, 50, by decide +kernel⟩,
    ⟨ws [(.RST_IN_RESET_STATE, 0, 0, 0), (.NET_P_PFC_ENABLE, 1, 0, 8), (.NET_P_PFC_XOFF_KIB, 1, 0, 100)], 1, 0, 3, 100,
        by decide +kernel⟩,
    ⟨ws [(.RST_IN_RESET_STATE, 0, 0, 0), (.NET_P_PFC_ENABLE, 1, 0, 8), (.NET_P_PFC_XOFF_KIB, 1, 0, 100)], 1, 3,
        by decide +kernel⟩,
    ⟨ws [(.RST_IN_RESET_STATE, 0, 0, 0), (.NET_P_PFC_ENABLE, 1, 0, 8), (.NET_P_PFC_XOFF_KIB, 1, 0, 100)], 1, 2,
        by decide +kernel⟩,
    ⟨{ ws [(.RST_IN_RESET_STATE, 0, 0, 0)] with net := { State.reset.net with paused := [(1, 0, 3)] } }, by decide +kernel⟩,
    ⟨ws [], by decide +kernel⟩⟩

/-- QueuePairCongestionAndRetransmission: what its hypotheses ask, clause by clause. -/
theorem witness_queuePairCongestionAndRetransmission :
    (∃ (s : State) (qp : Fin 65536), s.qpReceives qp = true ∧
        (s.qpSt qp).cnpSent.all (fun a => decide (a + 50 * us ≤ s.now)) = true) ∧
    (∃ (s : State) (qp : Fin 65536) (a : Nat), s.qpReceives qp = true ∧ (s.qpSt qp).cnpSent = some a ∧ s.now < a + 50 * us) ∧
    (∃ (s : State) (qp : Fin 65536), s.qpReceives qp = false) ∧
    (∃ (s : State) (qp : Fin 65536), s.qpReceives qp = true) ∧
    (∃ (s : State) (qp : Fin 65536), s.qpReceives qp = false) ∧
    (∃ (s : State) (qp : Fin 65536), s.qpReceives qp = true) ∧
    (∃ (s : State) (qp : Fin 65536), s.qpReceives qp = false) ∧
    (∃ (s : State) (qp : Fin 65536) (psn : Nat), s.netHeld = false ∧ s.qpState qp = 3 ∧
        (s.qpSt qp).unacked.any (·.1 == psn) = true ∧
        ((s.qpSt qp).retries < 7 ∨ (s.qpSt qp).unacked.dropWhile (·.1 != psn) ≠ (s.qpSt qp).unacked)) ∧
    (∃ (s : State) (qp : Fin 65536) (psn : Nat), s.netHeld = false ∧ s.qpState qp = 3 ∧
        (s.qpSt qp).unacked.any (·.1 == psn) = false ∧ (s.qpSt qp).unacked ≠ [] ∧ (s.qpSt qp).retries < 7) ∧
    (∃ (s : State) (qp : Fin 65536) (psn : Nat), s.netHeld = false ∧ s.qpState qp = 3 ∧
        ((s.qpSt qp).unacked = [] ∨ (7 ≤ (s.qpSt qp).retries ∧ (s.qpSt qp).unacked.any (·.1 == psn) = false)) ∧
        ((∀ c ∈ s.net.colls, qp.val ∉ s.collNeeds c.entry))) ∧
    (∃ (s : State) (qp : Fin 65536), (s.netHeld = true ∨ s.qpState qp ≠ 3)) ∧
    (∃ (s : State) (qp : Fin 65536), s.netHeld = false ∧ s.qpState qp = 3 ∧ (s.qpSt qp).retries < 7 ∧
        (s.qpSt qp).unacked ≠ []) ∧
    (∃ (s : State) (qp : Fin 65536), s.netHeld = false ∧ s.qpState qp = 3 ∧ 7 ≤ (s.qpSt qp).retries ∧
        (s.qpSt qp).unacked ≠ [] ∧ ((∀ c ∈ s.net.colls, qp.val ∉ s.collNeeds c.entry))) ∧
    (∃ (s : State) (qp : Fin 65536), (s.netHeld = true ∨ s.qpState qp ≠ 3 ∨ (s.qpSt qp).unacked = [])) :=
  ⟨⟨netted, 2, by decide +kernel⟩,
    ⟨{ netted with net := { netted.net with qps := [{ qp := 2, rateMbps := 1600000, cnpSent := some 0 }] } }, 2, 0,
        by decide +kernel⟩,
    ⟨ws [], 2, by decide +kernel⟩,
    ⟨{ netted with net := { netted.net with qps := [{ qp := 2, rateMbps := 1600000 }] }, now := 5 }, 2, by decide +kernel⟩,
    ⟨ws [], 2, by decide +kernel⟩,
    ⟨{ netted with net := { netted.net with qps := [{ qp := 2, rateMbps := 1000 }] }, now := 5 }, 2, by decide +kernel⟩,
    ⟨ws [], 2, by decide +kernel⟩,
    ⟨sending, 2, 5, by decide +kernel⟩,
    ⟨sending, 2, 9, by decide +kernel⟩,
    ⟨netted, 2, 9, by decide +kernel⟩,
    ⟨ws [], 2, by decide +kernel⟩,
    ⟨sending, 2, by decide +kernel⟩,
    ⟨{ sending with net := { sending.net with qps := [{ qp := 2, rateMbps := 1600000, unacked := [(4, []), (5, [])], retries := 7 }] } },
        2, by decide +kernel⟩,
    ⟨netted, 2, by decide +kernel⟩⟩

/-- QueuePairInboundOperations: what its hypotheses ask, clause by clause. -/
theorem witness_queuePairInboundOperations :
    (∃ (s : State) (qp : Fin 65536) (rkey : BitVec 32) (va : BitVec 48) (data : List (BitVec 8)) (b : Fin 8) (k : Nat)
        (o : Nat), s.qpReceives qp = true ∧ s.qpBerth qp = some b ∧
        s.rdmaRefused b qp rkey.toNat va.toNat data.length = false ∧ 0 < data.length ∧ data.length ≤ s.pmtu qp ∧
        s.translate b va.toNat data.length = some (.scratch k o) ∧ s.serveStatus (s.qpNd qp) (.scratch k o) = 0) ∧
    (∃ (s : State) (qp : Fin 65536) (rkey : BitVec 32) (va : BitVec 48) (data : List (BitVec 8)) (b : Fin 8),
        s.qpReceives qp = true ∧ s.qpBerth qp = some b ∧ s.rdmaRefused b qp rkey.toNat va.toNat data.length = true) ∧
    (∃ (s : State) (qp : Fin 65536) (rkey : BitVec 32) (va : BitVec 48) (data : List (BitVec 8)) (b : Fin 8),
        s.qpReceives qp = true ∧ s.qpBerth qp = some b ∧ s.rdmaRefused b qp rkey.toNat va.toNat data.length = false ∧
        s.segsReach b (s.qpNd qp) (s.pmtu qp) va.toNat data.length ≠ 0) ∧
    (∃ (s : State) (qp : Fin 65536), s.qpReceives qp = false) ∧
    (∃ (s : State) (qp : Fin 65536) (rkey : BitVec 32) (va : BitVec 48) (n : Nat) (b : Fin 8) (k : Nat) (o : Nat),
        s.qpReceives qp = true ∧ s.qpBerth qp = some b ∧ s.rdmaRefused b qp rkey.toNat va.toNat n = false ∧
        s.readsOut qp < 16 ∧ 0 < n ∧ n ≤ s.pmtu qp ∧ s.translate b va.toNat n = some (.scratch k o) ∧
        s.serveStatus (s.qpNd qp) (.scratch k o) = 0) ∧
    (∃ (s : State) (qp : Fin 65536) (rkey : BitVec 32) (va : BitVec 48) (n : Nat) (b : Fin 8), s.qpReceives qp = true ∧
        s.qpBerth qp = some b ∧ s.rdmaRefused b qp rkey.toNat va.toNat n = true) ∧
    (∃ (s : State) (qp : Fin 65536) (rkey : BitVec 32) (va : BitVec 48) (n : Nat) (b : Fin 8), s.qpReceives qp = true ∧
        s.qpBerth qp = some b ∧ s.rdmaRefused b qp rkey.toNat va.toNat n = false ∧ 16 ≤ s.readsOut qp) ∧
    (∃ (s : State) (qp : Fin 65536) (rkey : BitVec 32) (va : BitVec 48) (n : Nat) (b : Fin 8), s.qpReceives qp = true ∧
        s.qpBerth qp = some b ∧ s.rdmaRefused b qp rkey.toNat va.toNat n = false ∧ s.readsOut qp < 16 ∧
        s.segsReach b (s.qpNd qp) (s.pmtu qp) va.toNat n ≠ 0) ∧
    (∃ (s : State) (qp : Fin 65536), s.qpReceives qp = false) ∧
    (∃ (s : State) (qp : Fin 65536) (data : List (BitVec 8)) (b : Fin 8) (k : Nat) (o : Nat) (k2 : Nat) (o2 : Nat),
        s.qpReceives qp = true ∧ s.qpInGroup qp = false ∧ s.qpBerth qp = some b ∧
        s.translate b (s.rqBase qp + 32 * (s.get .NET_QP_RQ_CFG_CONS 0 qp % s.rqSize qp)) 32 = some (.scratch k o) ∧
        s.serveStatus (s.qpNd qp) (.scratch k o) = 0 ∧ nth (s.scratchRead k b o 32) 0x0C = 1 ∧ 0 < data.length ∧
        data.length ≤ s.pmtu qp ∧ data.length ≤ leAt (s.scratchRead k b o 32) 8 4 ∧
        s.translate b (leAt (s.scratchRead k b o 32) 0 6) (leAt (s.scratchRead k b o 32) 8 4) = some (.scratch k2 o2) ∧
        s.serveStatus (s.qpNd qp) (.scratch k2 o2) = 0 ∧ s.get .NET_QP_RQ_CFG_RQ_LOG 0 qp ≤ 12 ∧
        (k2 ≠ k ∨ o2 + data.length ≤ o ∨ o + 32 ≤ o2)) ∧
    (∃ (s : State) (qp : Fin 65536) (b : Fin 8) (k : Nat) (o : Nat), s.qpReceives qp = true ∧ s.qpInGroup qp = false ∧
        s.qpBerth qp = some b ∧ s.translate b (s.rqBase qp + 32 * (s.get .NET_QP_RQ_CFG_CONS 0 qp % s.rqSize qp)) 32 =
        some (.scratch k o) ∧ s.serveStatus (s.qpNd qp) (.scratch k o) = 0 ∧ nth (s.scratchRead k b o 32) 0x0C ≠ 1) ∧
    (∃ (s : State) (qp : Fin 65536) (data : List (BitVec 8)) (b : Fin 8) (k : Nat) (o : Nat), s.qpReceives qp = true ∧
        s.qpInGroup qp = false ∧ s.qpBerth qp = some b ∧
        s.translate b (s.rqBase qp + 32 * (s.get .NET_QP_RQ_CFG_CONS 0 qp % s.rqSize qp)) 32 = some (.scratch k o) ∧
        s.serveStatus (s.qpNd qp) (.scratch k o) = 0 ∧ nth (s.scratchRead k b o 32) 0x0C = 1 ∧
        leAt (s.scratchRead k b o 32) 8 4 < data.length ∧ s.get .NET_QP_RQ_CFG_RQ_LOG 0 qp ≤ 12 ∧
        ((∀ c ∈ s.net.colls, qp.val ∉ s.collNeeds c.entry))) ∧
    (∃ (s : State) (qp : Fin 65536) (data : List (BitVec 8)) (b : Fin 8) (k : Nat) (o : Nat), s.qpReceives qp = true ∧
        s.qpInGroup qp = false ∧ s.qpBerth qp = some b ∧
        s.translate b (s.rqBase qp + 32 * (s.get .NET_QP_RQ_CFG_CONS 0 qp % s.rqSize qp)) 32 = some (.scratch k o) ∧
        s.serveStatus (s.qpNd qp) (.scratch k o) = 0 ∧ nth (s.scratchRead k b o 32) 0x0C = 1 ∧
        data.length ≤ leAt (s.scratchRead k b o 32) 8 4 ∧
        s.translate b (leAt (s.scratchRead k b o 32) 0 6) (leAt (s.scratchRead k b o 32) 8 4) = none ∧
        s.get .NET_QP_RQ_CFG_RQ_LOG 0 qp ≤ 12 ∧ ((∀ c ∈ s.net.colls, qp.val ∉ s.collNeeds c.entry))) ∧
    (∃ (s : State) (qp : Fin 65536) (b : Fin 8), s.qpReceives qp = true ∧ s.qpInGroup qp = false ∧ s.qpBerth qp = some b ∧
        (s.translate b (s.rqBase qp + 32 * (s.get .NET_QP_RQ_CFG_CONS 0 qp % s.rqSize qp)) 32).all (fun l =>
        s.serveStatus (s.qpNd qp) l != 0) = true) ∧
    (∃ (s : State) (qp : Fin 65536) (a : BitVec 48) (data : List (BitVec 8)) (b : Fin 8) (k : Nat) (o : Nat),
        s.qpReceives qp = true ∧ s.qpInGroup qp = true ∧ s.qpBerth qp = some b ∧ 0 < data.length ∧ data.length ≤ s.pmtu qp ∧
        s.translate b a.toNat data.length = some (.scratch k o) ∧ s.serveStatus (s.qpNd qp) (.scratch k o) = 0) ∧
    (∃ (s : State) (qp : Fin 65536) (b : Fin 8), s.qpReceives qp = true ∧ s.qpInGroup qp = true ∧ s.qpBerth qp = some b) ∧
    (∃ (s : State) (qp : Fin 65536), s.qpReceives qp = false) :=
  ⟨⟨netted, 2, 0xABCD, 0x8000002000, [1, 2, 3], 0, 0, 0x2000, by decide +kernel⟩,
    ⟨netted, 2, 0xABCE, 0x8000002000, [1, 2, 3], 0, by decide +kernel⟩,
    ⟨{ netted with fwy := {} }, 2, 0xABCD, 0x8000002000, [1, 2, 3], 0, by decide +kernel⟩,
    ⟨ws [], 2, by decide +kernel⟩,
    ⟨netted, 2, 0xABCD, 0x8000000000, 13, 0, 0, 0, by decide +kernel⟩,
    ⟨{ netted with regs := (⟨.NET_GRP_ENTRY_VALID, 0, 5⟩, 1) :: (⟨.NET_GRP_ENTRY_QP, 0, 5⟩, 2) :: netted.regs }, 2, 0xABCD,
        0x8000000000, 13, 0, by decide +kernel⟩,
    ⟨{ netted with fwy := { netted.fwy with segs := (List.range 16).map (fun i => ⟨i, 16, 2, 0, 0x8000000000, 64, false, i⟩) } },
        2, 0xABCD, 0x8000000000, 13, 0, by decide +kernel⟩,
    ⟨{ netted with fwy := {} }, 2, 0xABCD, 0x8000000000, 13, 0, by decide +kernel⟩,
    ⟨ws [], 2, by decide +kernel⟩,
    ⟨netted, 2, [7, 8, 9], 0, 0, 0, 0, 0x1000, by decide +kernel⟩,
    ⟨netted.setByte (scratchBase 0 0 + 0x0C) 0, 2, 0, 0, 0, by decide +kernel⟩,
    ⟨netted, 2, List.replicate 65 1, 0, 0, 0, by decide +kernel⟩,
    ⟨netted.setByte (scratchBase 0 0 + 4) 0xFF, 2, [1], 0, 0, 0, by decide +kernel⟩,
    ⟨{ netted with fwy := {} }, 2, 0, by decide +kernel⟩,
    ⟨{ netted with regs := (⟨.NET_GRP_ENTRY_VALID, 0, 5⟩, 1) :: (⟨.NET_GRP_ENTRY_QP, 0, 5⟩, 2) :: netted.regs }, 2,
        0x8000002000, [1, 2, 3], 0, 0, 0x2000, by decide +kernel⟩,
    ⟨{ netted with regs := (⟨.NET_GRP_ENTRY_VALID, 0, 5⟩, 1) :: (⟨.NET_GRP_ENTRY_QP, 0, 5⟩, 2) :: netted.regs }, 2, 0,
        by decide +kernel⟩,
    ⟨ws [], 2, by decide +kernel⟩⟩

/-- QueuePairStatesFollowTheirTable: what its hypotheses ask, clause by clause. -/
theorem witness_queuePairStatesFollowTheirTable :
    (∃ (s : State) (src : Source) (qp : Fin 65536), s.right src = .owner ∧ s.qpState qp = 0) ∧
    (∃ (s : State) (src : Source) (qp : Fin 65536), s.right src = .owner ∧ s.qpState qp ≠ 0) ∧
    (∃ (s : State) (src : Source) (qp : Fin 65536), s.right src = .owner ∧ s.qpState qp = 1 ∧ s.qpComplete qp = true) ∧
    (∃ (s : State) (src : Source) (qp : Fin 65536), s.right src = .owner ∧ s.qpState qp = 1 ∧ s.qpComplete qp = false) ∧
    (∃ (s : State) (src : Source) (qp : Fin 65536), s.right src = .owner ∧ s.qpState qp ≠ 1) ∧
    (∃ (s : State) (src : Source) (qp : Fin 65536), s.right src = .owner ∧ s.qpState qp = 2) ∧
    (∃ (s : State) (src : Source) (qp : Fin 65536), s.right src = .owner ∧ s.qpState qp ≠ 2) ∧
    (∃ (s : State) (src : Source) (qp : Fin 65536), s.right src = .owner ∧
        (s.qpState qp = 1 ∨ s.qpState qp = 2 ∨ s.qpState qp = 3) ∧ ((∀ c ∈ s.net.colls, qp.val ∉ s.collNeeds c.entry))) ∧
    (∃ (s : State) (src : Source) (qp : Fin 65536) (c : Coll), s.right src = .owner ∧
        (s.qpState qp = 1 ∨ s.qpState qp = 2 ∨ s.qpState qp = 3) ∧ s.net.colls = [c] ∧ c.own = none ∧
        qp.val ∈ s.collNeeds c.entry) ∧
    (∃ (s : State) (src : Source) (qp : Fin 65536), s.right src = .owner ∧ (s.qpState qp = 0 ∨ 4 ≤ s.qpState qp)) ∧
    (∃ (s : State) (src : Source), s.right src = .owner) ∧
    (∃ (s : State) (qp : Fin 65536), s.netHeld = false ∧ s.qpLink qp = false ∧
        (s.qpState qp = 1 ∨ s.qpState qp = 2 ∨ s.qpState qp = 3) ∧ ((∀ c ∈ s.net.colls, qp.val ∉ s.collNeeds c.entry))) ∧
    (∃ (s : State) (qp : Fin 65536), (s.netHeld = true ∨ s.qpLink qp = true ∨ s.qpState qp = 0 ∨ 4 ≤ s.qpState qp)) :=
  ⟨⟨{ owned [] with berths := netted.berths }, .session 1, 2, by decide +kernel⟩,
    ⟨owned [(.NET_QP_CTRL_STATE, 0, 2, 3)], .session 1, 2, by decide +kernel⟩,
    ⟨{ netted with regs := (⟨.NET_QP_CTRL_STATE, 0, 2⟩, 1) :: (⟨.NET_QP_DMAC_LO_MAC, 0, 2⟩, 7) :: (⟨.NET_QP_DEST_IP_ADDR, 0, 8⟩, 7) :: netted.regs, net := (owned []).net },
        .session 1, 2, by decide +kernel⟩,
    ⟨owned [(.NET_QP_CTRL_STATE, 0, 2, 1)], .session 1, 2, by decide +kernel⟩,
    ⟨owned [(.NET_QP_CTRL_STATE, 0, 2, 3)], .session 1, 2, by decide +kernel⟩,
    ⟨owned [(.NET_QP_CTRL_STATE, 0, 2, 2)], .session 1, 2, by decide +kernel⟩,
    ⟨owned [(.NET_QP_CTRL_STATE, 0, 2, 1)], .session 1, 2, by decide +kernel⟩,
    ⟨owned [(.NET_QP_CTRL_STATE, 0, 2, 3)], .session 1, 2, by decide +kernel⟩,
    ⟨{ collecting with net := { (owned []).net with colls := collecting.net.colls } }, .session 1, 0,
        { die := 0, handle := 3, berth := 0, group := 0, entry := [1, 4, 0, 0x80, 0x1000, 0x80, 0, 0], rep := 0, posted := 0 },
        by decide +kernel⟩,
    ⟨owned [], .session 1, 2, by decide +kernel⟩,
    ⟨owned [(.NET_QP_CTRL_STATE, 0, 2, 3), (.NET_QP_RKEY_RKEY, 0, 2, 9)], .session 1, by decide +kernel⟩,
    ⟨{ sending with regs := (⟨.NET_P_LINK_UP, 0, 0⟩, 0) :: sending.regs }, 2, by decide +kernel⟩,
    ⟨netted, 2, by decide +kernel⟩⟩

/-- CollectivesComplete: what its hypotheses ask, clause by clause. -/
theorem witness_collectivesComplete :
    (∃ (s : State) (d : Fin 8) (h : Fin 16) (c : Coll) (m : Nat) (code : Nat) (own : List Nat),
        s.net.colls.find? (fun c => c.die == d && c.handle == h.val) = some c ∧ c.own = some (code, own) ∧
        (2 ≤ code ∨ collMoves (max m (max code (s.collReach (Fin.ofNat 8 c.berth) (16 +
        cPort c.entry) (s.pmtu (s.collQp c.entry)) (cDst c.entry)
        (collDstLen c.entry (s.grpSize c.group) ((s.grpPos c.group).getD 0))))) = false) ∧
        collOpen (max m (max code (s.collReach (Fin.ofNat 8 c.berth) (16 +
        cPort c.entry) (s.pmtu (s.collQp c.entry)) (cDst c.entry)
        (collDstLen c.entry (s.grpSize c.group) ((s.grpPos c.group).getD 0))))) = false) ∧
    (∃ (s : State) (d : Fin 8) (h : Fin 16) (c : Coll) (m : Nat) (code : Nat) (k : Nat) (o : Nat) (n : Nat) (own : List Nat),
        s.net.colls.find? (fun c => c.die == d && c.handle == h.val) = some c ∧ c.own = some (code, own) ∧
        collOpen (max m (max code (s.collReach (Fin.ofNat 8 c.berth) (16 +
        cPort c.entry) (s.pmtu (s.collQp c.entry)) (cDst c.entry)
        (collDstLen c.entry (s.grpSize c.group) ((s.grpPos c.group).getD 0))))) = true ∧
        n = collDstLen c.entry (s.grpSize c.group) ((s.grpPos c.group).getD 0) ∧ 0 < n ∧ n ≤ s.pmtu (s.collQp c.entry) ∧
        s.translate (Fin.ofNat 8 c.berth) (cDst c.entry) n = some (.scratch k o)) ∧
    (∃ (s : State) (d : Fin 8) (h : Fin 16) (c : Coll) (m : Nat),
        s.net.colls.find? (fun c => c.die == d && c.handle == h.val) = some c ∧ c.own = none ∧
        2 ≤ s.collReach (Fin.ofNat 8 c.berth) (16 +
        cPort c.entry) (s.pmtu (s.collQp c.entry)) (cSrc c.entry)
        (collSrcLen c.entry (s.grpSize c.group) ((s.grpPos c.group).getD 0)) ∧
        collOpen (max m (max (s.collReach (Fin.ofNat 8 c.berth) (16 +
        cPort c.entry) (s.pmtu (s.collQp c.entry)) (cSrc c.entry)
        (collSrcLen c.entry (s.grpSize c.group) ((s.grpPos c.group).getD 0))) (s.collReach (Fin.ofNat 8 c.berth) (16 +
        cPort c.entry) (s.pmtu (s.collQp c.entry)) (cDst c.entry)
        (collDstLen c.entry (s.grpSize c.group) ((s.grpPos c.group).getD 0))))) = false ∧
        ((∀ x ∈ s.net.colls, x.die = d → x.handle = h.val → x = c))) ∧
    (∃ (s : State) (d : Fin 8) (h : Fin 16), s.net.colls.find? (fun c => c.die == d && c.handle == h.val) = none) ∧
    (∃ (s : State) (d : Fin 8) (h : Fin 16) (c : Coll) (ps : List (List Nat)) (k : Nat) (o : Nat) (pos : Nat) (n : Nat)
        (m : Nat) (x : List Nat), s.net.colls.find? (fun c => c.die == d && c.handle == h.val) = some c ∧
        c.own = some (0, []) ∧ cOp c.entry = 3 ∧ s.grpPos c.group = some pos ∧ cRoot c.entry ≠ pos ∧
        cRoot c.entry < s.grpSize c.group ∧ pos < s.grpSize c.group ∧ ps[cRoot c.entry]? = some x ∧
        n = cCount c.entry * fmtBytes (cFmt c.entry) ∧ 0 < n ∧ n ≤ s.pmtu (s.collQp c.entry) ∧
        s.translate (Fin.ofNat 8 c.berth) (cDst c.entry) n = some (.scratch k o) ∧
        s.serveStatus (16 + cPort c.entry) (.scratch k o) = 0 ∧ collMoves m = true ∧ m ≠ 0x19 ∧
        cRoot c.entry = (pos + 1) % s.grpSize c.group) ∧
    (∃ (s : State) (d : Fin 8) (h : Fin 16) (c : Coll) (k : Nat) (o : Nat) (pos : Nat) (q : Nat), s.net.colls = [c] ∧
        c.die = d ∧ c.handle = h.val ∧ c.own = none ∧ cOp c.entry = 4 ∧ s.grpPos c.group = some pos ∧ cRoot c.entry ≠ pos ∧
        pos < s.grpSize c.group ∧ s.collNext c.entry = some q ∧ 0 < cCount c.entry ∧ cCount c.entry ≤ s.pmtu q ∧
        cCount c.entry ≤ s.pmtu (s.collQp c.entry) ∧
        s.translate (Fin.ofNat 8 c.berth) (cSrc c.entry) (cCount c.entry) = some (.scratch k o) ∧
        s.serveStatus (16 + cPort c.entry) (.scratch k o) = 0) ∧
    (∃ (s : State) (d : Fin 8) (h : Fin 16) (c : Coll),
        s.net.colls.find? (fun c => c.die == d && c.handle == h.val) = some c ∧ c.own = none ∧
        s.get .NET_GRP_CFG_TIMEOUT_MS 0 c.group ≠ 0) ∧
    (∃ (s : State) (d : Fin 8) (h : Fin 16) (c : Coll) (k : Nat) (o : Nat) (n : Nat),
        s.net.colls.find? (fun c => c.die == d && c.handle == h.val) = some c ∧ c.own.isSome = true ∧
        s.get .NET_GRP_CFG_TIMEOUT_MS 0 c.group ≠ 0 ∧
        n = collDstLen c.entry (s.grpSize c.group) ((s.grpPos c.group).getD 0) ∧ 0 < n ∧ n ≤ s.pmtu (s.collQp c.entry) ∧
        s.translate (Fin.ofNat 8 c.berth) (cDst c.entry) n = some (.scratch k o)) ∧
    (∃ (s : State) (d : Fin 8) (h : Fin 16),
        s.net.colls.all (fun c => !(c.die == d && c.handle == h.val) || s.get .NET_GRP_CFG_TIMEOUT_MS 0 c.group == 0) = true) :=
  ⟨⟨{ casting with net := { casting.net with colls := [{ die := 0, handle := 3, berth := 0, group := 0, entry := [1, 4, 0, 0x80, 0x1000, 0x80, 0, 0], rep := 0, posted := 0, own := some (0x10, []) }] } },
        0, 3, { die := 0, handle := 3, berth := 0, group := 0, entry := [1, 4, 0, 0x80, 0x1000, 0x80, 0, 0], rep := 0, posted := 0, own := some (0x10, []) },
        0, 0x10, [], by decide +kernel⟩,
    ⟨{ casting with net := { casting.net with colls := [{ die := 0, handle := 3, berth := 0, group := 0, entry := [3, 4, 0, 0, 0x1000, 0x80, 1, 0], rep := 0, posted := 0, own := some (0, []) }] } },
        0, 3, { die := 0, handle := 3, berth := 0, group := 0, entry := [3, 4, 0, 0, 0x1000, 0x80, 1, 0], rep := 0, posted := 0, own := some (0, []) },
        0x16, 0, 0, 0x1000, 16, [], by decide +kernel⟩,
    ⟨{ casting with net := { casting.net with colls := [{ die := 0, handle := 3, berth := 0, group := 0, entry := [1, 4, 0, 0xFF, 0x1000, 0x80, 0, 0], rep := 0, posted := 0 }] } },
        0, 3, { die := 0, handle := 3, berth := 0, group := 0, entry := [1, 4, 0, 0xFF, 0x1000, 0x80, 0, 0], rep := 0, posted := 0 },
        0, by decide +kernel⟩,
    ⟨collecting, 0, 4, by decide +kernel⟩,
    ⟨{ casting with net := { casting.net with colls := [{ die := 0, handle := 3, berth := 0, group := 0, entry := [3, 4, 0, 0, 0x1000, 0x80, 1, 0], rep := 0, posted := 0, own := some (0, []) }] } },
        0, 3, { die := 0, handle := 3, berth := 0, group := 0, entry := [3, 4, 0, 0, 0x1000, 0x80, 1, 0], rep := 0, posted := 0, own := some (0, []) },
        [[], (List.range 16).map (· + 65)], 0, 0x1000, 0, 16, 0x14, (List.range 16).map (· + 65), by decide +kernel⟩,
    ⟨{ casting with net := { casting.net with colls := [{ die := 0, handle := 3, berth := 0, group := 0, entry := [4, 64, 0, 0x80, 0x1000, 0x80, 1, 0], rep := 0, posted := 0 }] } },
        0, 3, { die := 0, handle := 3, berth := 0, group := 0, entry := [4, 64, 0, 0x80, 0x1000, 0x80, 1, 0], rep := 0, posted := 0 },
        0, 0, 0, 0, by decide +kernel⟩,
    ⟨{ collecting with regs := (⟨.NET_GRP_CFG_TIMEOUT_MS, 0, 0⟩, 5) :: collecting.regs }, 0, 3,
        { die := 0, handle := 3, berth := 0, group := 0, entry := [1, 4, 0, 0x80, 0x1000, 0x80, 0, 0], rep := 0, posted := 0 },
        by decide +kernel⟩,
    ⟨{ { casting with net := { casting.net with colls := [{ die := 0, handle := 3, berth := 0, group := 0, entry := [3, 4, 0, 0, 0x1000, 0x80, 1, 0], rep := 0, posted := 0, own := some (0, []) }] } } with regs := (⟨.NET_GRP_CFG_TIMEOUT_MS, 0, 0⟩, 5) :: casting.regs },
        0, 3, { die := 0, handle := 3, berth := 0, group := 0, entry := [3, 4, 0, 0, 0x1000, 0x80, 1, 0], rep := 0, posted := 0, own := some (0, []) },
        0, 0x1000, 16, by decide +kernel⟩,
    ⟨{ collecting with regs := (⟨.NET_GRP_CFG_TIMEOUT_MS, 0, 0⟩, 0) :: collecting.regs }, 0, 3, by decide +kernel⟩⟩

/-- PtpMessagesAndSources: what its hypotheses ask, clause by clause. -/
theorem witness_ptpMessagesAndSources :
    (∃ (s : State) (p : Fin 2) (m : PtpMsg) (rx : Int) (t1 : Int) (t2 : Int) (t3 : Int), s.netHeld = false ∧
        s.ptpDelivered m = true ∧ s.ready rPTP = true ∧ s.ptpPort = some p ∧ m.domain = s.get .NET_PTP_CFG_DOMAIN ∧
        s.net.ptp.parent = some m.sender ∧ m.kind = .delayResp rx ∧ s.net.ptp.sync = some (t1, t2) ∧
        s.net.ptp.req = some (m.seq, t3) ∧ s.get .NET_PTP_STATUS_SRC ≠ 2) ∧
    (∃ (s : State) (p : Fin 2) (m : PtpMsg) (rx : Int) (t1 : Int) (t2 : Int) (t3 : Int), s.netHeld = false ∧
        s.ptpDelivered m = true ∧ s.ready rPTP = true ∧ s.ptpPort = some p ∧ m.domain = s.get .NET_PTP_CFG_DOMAIN ∧
        s.net.ptp.parent = some m.sender ∧ m.kind = .delayResp rx ∧ s.net.ptp.sync = some (t1, t2) ∧
        s.net.ptp.req = some (m.seq, t3) ∧ s.get .NET_PTP_STATUS_SRC = 2) ∧
    (∃ (s : State) (p : Fin 2) (m : PtpMsg) (o : Int), s.netHeld = false ∧ s.ptpDelivered m = true ∧ s.ready rPTP = true ∧
        s.ptpPort = some p ∧ m.domain = s.get .NET_PTP_CFG_DOMAIN ∧ s.net.ptp.parent = some m.sender ∧ m.kind = .sync o false) ∧
    (∃ (s : State) (p : Fin 2) (m : PtpMsg) (o : Int), s.netHeld = false ∧ s.ptpDelivered m = true ∧ s.ready rPTP = true ∧
        s.ptpPort = some p ∧ m.domain = s.get .NET_PTP_CFG_DOMAIN ∧ s.net.ptp.parent = some m.sender ∧ m.kind = .sync o true) ∧
    (∃ (s : State) (p : Fin 2) (m : PtpMsg) (o : Int) (t0 : Int), s.netHeld = false ∧ s.ptpDelivered m = true ∧
        s.ready rPTP = true ∧ s.ptpPort = some p ∧ m.domain = s.get .NET_PTP_CFG_DOMAIN ∧ s.net.ptp.parent = some m.sender ∧
        m.kind = .followUp o ∧ s.net.ptp.waits = some (m.seq, t0)) ∧
    (∃ (s : State) (p : Fin 2) (m : PtpMsg) (best : Bool), s.netHeld = false ∧ s.ptpDelivered m = true ∧
        s.ready rPTP = true ∧ s.ptpPort = some p ∧ m.domain = s.get .NET_PTP_CFG_DOMAIN ∧ m.kind = .announce best ∧
        (best = true ∨ s.net.ptp.parent = none) ∧ s.net.ptp.parent ≠ some m.sender) ∧
    (∃ (s : State) (p : Fin 2) (m : PtpMsg), s.netHeld = false ∧ s.ptpDelivered m = true ∧
        (s.ready rPTP = false ∨ s.ptpPort ≠ some p ∨ m.domain ≠ s.get .NET_PTP_CFG_DOMAIN ∨ ptpIdle s.net.ptp m = true)) ∧
    (∃ (s : State) (m : PtpMsg), s.netHeld = false ∧ s.ptpDelivered m = false) ∧
    (∃ (s : State), s.netHeld = true) ∧
    (∃ (s : State) (p : Fin 2) (q : Fin 2), s.netHeld = false ∧ s.get .NET_PTP_STATUS_SRC = p.val ∧ q ≠ p ∧
        s.bit .NET_PTP_CFG_AUTO = true ∧ s.get .NET_P_LINK_UP q ≠ 0) ∧
    (∃ (s : State) (p : Fin 2) (q : Fin 2), s.netHeld = false ∧ s.ptpPort = some p ∧ q ≠ p ∧
        (2 ≤ s.get .NET_PTP_STATUS_SRC ∨ s.bit .NET_PTP_CFG_AUTO = false ∨ s.get .NET_P_LINK_UP q = 0)) ∧
    (∃ (s : State) (p : Fin 2), (s.netHeld = true ∨ s.ptpPort ≠ some p)) :=
  ⟨⟨{ ws [(.RST_IN_RESET_STATE, 0, 0, 0), (.MOD_READY_PTP, 0, 0, 1), (.NET_P_LINK_UP, 0, 0, 1)] with net := { State.reset.net with ptp := { parent := some 77, sync := some (100, 350), req := some (4, 500) } } },
        0, ⟨0, 77, 4, .ethernet, none, .delayResp 600⟩, 600, 100, 350, 500, by decide +kernel⟩,
    ⟨{ ws [(.RST_IN_RESET_STATE, 0, 0, 0), (.MOD_READY_PTP, 0, 0, 1), (.NET_P_LINK_UP, 0, 0, 1), (.NET_PTP_STATUS_SRC, 0, 0, 2)] with net := { State.reset.net with ptp := { parent := some 77, sync := some (100, 3000000350), req := some (4, 500) } } },
        0, ⟨0, 77, 4, .ethernet, none, .delayResp 600⟩, 600, 100, 3000000350, 500, by decide +kernel⟩,
    ⟨{ ws [(.RST_IN_RESET_STATE, 0, 0, 0), (.MOD_READY_PTP, 0, 0, 1), (.NET_P_LINK_UP, 0, 0, 1)] with net := { State.reset.net with ptp := { parent := some 77 } } },
        0, ⟨0, 77, 4, .ethernet, none, .sync 9 false⟩, 9, by decide +kernel⟩,
    ⟨{ ws [(.RST_IN_RESET_STATE, 0, 0, 0), (.MOD_READY_PTP, 0, 0, 1), (.NET_P_LINK_UP, 0, 0, 1)] with net := { State.reset.net with ptp := { parent := some 77 } } },
        0, ⟨0, 77, 4, .ethernet, none, .sync 9 true⟩, 9, by decide +kernel⟩,
    ⟨{ ws [(.RST_IN_RESET_STATE, 0, 0, 0), (.MOD_READY_PTP, 0, 0, 1), (.NET_P_LINK_UP, 0, 0, 1)] with net := { State.reset.net with ptp := { parent := some 77, waits := some (4, 50) } } },
        0, ⟨0, 77, 4, .ethernet, none, .followUp 9⟩, 9, 50, by decide +kernel⟩,
    ⟨{ ws [(.RST_IN_RESET_STATE, 0, 0, 0), (.MOD_READY_PTP, 0, 0, 1), (.NET_P_LINK_UP, 0, 0, 1)] with net := { State.reset.net with ptp := { parent := some 7 } } },
        0, ⟨0, 77, 4, .ethernet, none, .announce true⟩, true, by decide +kernel⟩,
    ⟨ws [(.RST_IN_RESET_STATE, 0, 0, 0)], 0, ⟨0, 77, 4, .ethernet, none, .peerDelay⟩,
        ⟨by decide +kernel, by decide +kernel, Or.inl (by decide +kernel)⟩⟩,
    ⟨ws [(.RST_IN_RESET_STATE, 0, 0, 0)], ⟨0, 77, 4, .ethernet, some 5, .peerDelay⟩, by decide +kernel⟩,
    ⟨ws [], by decide +kernel⟩,
    ⟨{ ws [(.RST_IN_RESET_STATE, 0, 0, 0), (.NET_PTP_CFG_AUTO, 0, 0, 1), (.NET_P_LINK_UP, 1, 0, 1)] with net := { State.reset.net with ptpValid := true } },
        0, 1, by decide +kernel⟩,
    ⟨ws [(.RST_IN_RESET_STATE, 0, 0, 0)], 0, 1, by decide +kernel⟩,
    ⟨ws [(.RST_IN_RESET_STATE, 0, 0, 0)], 1, by decide +kernel⟩⟩

/-- BamporSessionsOpenAndEnd: what its hypotheses ask, clause by clause. -/
theorem witness_bamporSessionsOpenAndEnd :
    (∃ (s : State) (c : Instr), isBampor c = true ∧ s.netHeld = true) ∧
    (∃ (s : State) (c : Instr), isBampor c = true ∧ s.netHeld = false ∧ s.bpUp = false) ∧
    (∃ (s : State) (via : BpVia), s.bpUp = true ∧ bpKnown via = false) ∧
    (∃ (s : State) (via : BpVia) (role : BitVec 8), s.bpUp = true ∧ bpKnown via = true ∧ s.bpFull role.toNat = true) ∧
    (∃ (s : State) (via : BpVia) (role : BitVec 8) (ident : Nat), s.bpUp = true ∧ bpKnown via = true ∧
        s.bpFull role.toNat = false ∧ s.bpRoleOk role.toNat ident = false) ∧
    (∃ (s : State) (via : BpVia) (role : BitVec 8) (ident : Nat), s.bpUp = true ∧ bpKnown via = true ∧
        s.bpFull role.toNat = false ∧ s.bpRoleOk role.toNat ident = true) ∧
    (∃ (s : State) (via : BpVia) (n : Nat), s.bpUp = true ∧
        (bpKnown via = false ∨ s.net.sessions.any (fun x => x.id == n && !x.isOpen) = false)) ∧
    (∃ (s : State) (via : BpVia) (n : Nat) (x : Session), s.bpUp = true ∧ bpKnown via = true ∧
        s.net.sessions.find? (fun x => x.id == n && !x.isOpen) = some x) ∧
    (∃ (s : State) (n : Nat), s.net.sessions.any (fun x => x.id == n && !x.isOpen) = true) ∧
    (∃ (s : State) (n : Nat), s.net.sessions.any (fun x => x.id == n && !x.isOpen) = false) ∧
    (∃ (s : State) (n : Nat), s.net.sessions.any (fun x => x.id == n && x.isOpen) = true) ∧
    (∃ (s : State) (n : Nat), s.net.sessions.any (fun x => x.id == n && x.isOpen) = false) ∧
    (∃ (s : State) (h : BpHdr) (x : Session), s.accepts h x 0x7F ([]) = true) :=
  ⟨⟨ws [], .bpClose (ask 0x7F []), by decide +kernel⟩,
    ⟨ws [(.RST_IN_RESET_STATE, 0, 0, 0)], .bpClose (ask 0x7F []), by decide +kernel⟩,
    ⟨asking, { aVia with version := 2 }, by decide +kernel⟩,
    ⟨{ asking with net := { asking.net with sessions := List.replicate 16 anOwner } }, aVia, 0xFF, by decide +kernel⟩,
    ⟨asking, aVia, 2, 0xFF, by decide +kernel⟩,
    ⟨asking, aVia, 0xFF, 0xFF, by decide +kernel⟩,
    ⟨asking, aVia, 1, by decide +kernel⟩,
    ⟨{ asking with net := { asking.net with sessions := [{ anOwner with isOpen := false }] } }, aVia, 1,
        { anOwner with isOpen := false }, by decide +kernel⟩,
    ⟨{ asking with net := { asking.net with sessions := [{ anOwner with isOpen := false }] } }, 1, by decide +kernel⟩,
    ⟨asking, 1, by decide +kernel⟩,
    ⟨asking, 1, by decide +kernel⟩,
    ⟨{ asking with net := { asking.net with sessions := [{ anOwner with isOpen := false }] } }, 1, by decide +kernel⟩,
    ⟨asking, ask 0x7F [], anOwner, asked _ _ _ _ (by decide +kernel) (by decide +kernel) rfl rfl rfl⟩⟩

/-- BamporRequestsAreExecutedOnce: what its hypotheses ask, clause by clause. -/
theorem witness_bamporRequestsAreExecutedOnce :
    (∃ (s : State) (c : Instr) (h : BpHdr) (type : Nat) (payload : List Nat), bpAsk c = some (h, type, payload) ∧
        s.bpUp = true ∧ s.openSession h.session = none) ∧
    (∃ (s : State) (c : Instr) (h : BpHdr) (type : Nat) (payload : List Nat) (x : Session),
        bpAsk c = some (h, type, payload) ∧ s.bpUp = true ∧ s.openSession h.session = some x ∧
        bpTagOk x h type payload = false) ∧
    (∃ (s : State) (c : Instr) (h : BpHdr) (type : Nat) (payload : List Nat) (x : Session) (q : Nat),
        bpAsk c = some (h, type, payload) ∧ s.bpUp = true ∧ s.openSession h.session = some x ∧
        bpTagOk x h type payload = true ∧ x.highSeq = some q ∧ h.seq ≤ q ∧ (h.seq < q ∨ x.lastReq ≠ bpBytes h type payload)) ∧
    (∃ (s : State) (c : Instr) (h : BpHdr) (type : Nat) (payload : List Nat) (x : Session) (ty : Nat) (st : Nat)
        (body : List Nat), bpAsk c = some (h, type, payload) ∧ s.bpUp = true ∧ s.openSession h.session = some x ∧
        bpTagOk x h type payload = true ∧ x.highSeq = some h.seq ∧ x.lastReq = bpBytes h type payload ∧
        x.reply = some (ty, st, body)) ∧
    (∃ (s : State) (c : Instr) (h : BpHdr) (type : Nat) (payload : List Nat) (x : Session),
        bpAsk c = some (h, type, payload) ∧ s.bpUp = true ∧ s.openSession h.session = some x ∧
        bpTagOk x h type payload = true ∧ x.highSeq.all (fun q => decide (q < h.seq)) = true ∧
        bpWellFormed h type payload = false) ∧
    (∃ (s : State) (h : BpHdr) (x : Session) (addr : BitVec 32) (p : Spot),
        s.accepts h x 0x10 (toBe addr.toNat 4 ++ [1, 0, 0, 0]) = true ∧ addr.toNat % 4 = 0 ∧ spotOf addr.toNat = some p ∧
        p.blk = .mod ∧ s.mayRead (.session x.id) p = true) ∧
    (∃ (s : State) (h : BpHdr) (x : Session) (addr : BitVec 32) (p : Spot),
        s.accepts h x 0x10 (toBe addr.toNat 4 ++ [1, 0, 0, 0]) = true ∧ addr.toNat % 4 = 0 ∧ spotOf addr.toNat = some p ∧
        s.mayRead (.session x.id) p = false) ∧
    (∃ (s : State) (h : BpHdr) (x : Session) (addr : BitVec 32) (count : BitVec 8),
        s.accepts h x 0x10 (toBe addr.toNat 4 ++ [count.toNat, 0, 0, 0]) = true ∧ (count.toNat = 0 ∨ 64 < count.toNat)) ∧
    (∃ (s : State) (h : BpHdr) (x : Session) (w : BitVec 32),
        s.accepts h x 0x11 (toBe 0x1B000C 4 ++ [1, 0, 0, 0] ++ toBe w.toNat 4) = true ∧ s.right (.session x.id) = .owner ∧
        w.toNat < 8192) ∧
    (∃ (s : State) (h : BpHdr) (x : Session) (addr : BitVec 32) (ws : List (BitVec 32)),
        s.accepts h x 0x11 (toBe addr.toNat 4 ++ [ws.length % 256, 0, 0, 0] ++ (ws.map (·.toNat)).flatMap (fun w =>
        toBe w 4)) = true ∧ (ws.length = 0 ∨ 64 < ws.length)) ∧
    (∃ (s : State) (h : BpHdr) (x : Session) (frame : List Nat), s.accepts h x 0x20 (frame) = true ∧ s.mayFrame x = false) ∧
    (∃ (s : State) (h : BpHdr) (x : Session) (frame : List Nat), s.accepts h x 0x20 (frame) = true ∧ s.mayFrame x = true) ∧
    (∃ (s : State) (h : BpHdr) (x : Session) (c : BitVec 32) (count : BitVec 8),
        s.accepts h x 0x30 (toBe c.toNat 4 ++ [count.toNat, 0, 0, 0]) = true ∧ x.provisioning = false ∧ 0 < count.toNat ∧
        count.toNat ≤ 32) ∧
    (∃ (s : State) (h : BpHdr) (x : Session) (c : BitVec 32) (count : BitVec 8),
        s.accepts h x 0x30 (toBe c.toNat 4 ++ [count.toNat, 0, 0, 0]) = true ∧
        (x.provisioning = true ∨ count.toNat = 0 ∨ 32 < count.toNat)) ∧
    (∃ (s : State) (h : BpHdr) (x : Session) (nonce : List Nat), s.accepts h x 0x40 (nonce) = true) :=
  ⟨⟨{ asking with net := State.reset.net }, .bpRegRead (ask 0x10 (toBe 0x10 4 ++ [1, 0, 0, 0])) 0x10 1,
        ask 0x10 (toBe 0x10 4 ++ [1, 0, 0, 0]), 0x10, (toBe 0x10 4 ++ [1, 0, 0, 0]), rfl, by decide +kernel,
        by decide +kernel⟩,
    ⟨asking, .bpRegRead ({ ask 0x10 (toBe 0x10 4 ++ [1, 0, 0, 0]) with via := { aVia with version := 2 } }) 0x10 1,
        { ask 0x10 (toBe 0x10 4 ++ [1, 0, 0, 0]) with via := { aVia with version := 2 } }, 0x10,
        (toBe 0x10 4 ++ [1, 0, 0, 0]), anOwner, rfl, by decide +kernel, by decide +kernel, by decide +kernel⟩,
    ⟨{ asking with net := { asking.net with sessions := [{ anOwner with highSeq := some 7 }] } },
        .bpRegRead (ask 0x10 (toBe 0x10 4 ++ [1, 0, 0, 0])) 0x10 1, ask 0x10 (toBe 0x10 4 ++ [1, 0, 0, 0]), 0x10,
        (toBe 0x10 4 ++ [1, 0, 0, 0]), { anOwner with highSeq := some 7 }, 7, rfl, by decide +kernel, by decide +kernel,
        tagged _ _ _ rfl, rfl, by decide, Or.inl (by decide)⟩,
    ⟨repeating, .bpRegWrite (ask 0x11 (toBe 0x1B000C 4 ++ [1, 0, 0, 0] ++ toBe 9 4)) 0x1B000C [9],
        ask 0x11 (toBe 0x1B000C 4 ++ [1, 0, 0, 0] ++ toBe 9 4), 0x11, toBe 0x1B000C 4 ++ [1, 0, 0, 0] ++ toBe 9 4,
        { anOwner with highSeq := some 5, lastReq := bpBytes (ask 0x11 (toBe 0x1B000C 4 ++ [1, 0, 0, 0] ++ toBe 9 4)) 0x11 (toBe 0x1B000C 4 ++ [1, 0, 0, 0] ++ toBe 9 4), reply := some (0x11, 0, [1, 0, 0, 0]) },
        0x11, 0, [1, 0, 0, 0], rfl, by decide +kernel, rfl, tagged _ _ _ rfl, rfl, rfl, rfl⟩,
    ⟨asking, .bpRegRead (askBad) 0x10 1, askBad, 0x10, (toBe 0x10 4 ++ [1, 0, 0, 0]), anOwner, rfl, by decide +kernel,
        by decide +kernel, badTagged _ rfl _, by decide, by decide⟩,
    ⟨asking, ask 0x10 (toBe 0x10 4 ++ [1, 0, 0, 0]), anOwner, 0x10, ⟨.mod, 0, 0x10⟩,
        asked _ _ _ _ (by decide +kernel) (by decide +kernel) rfl rfl rfl, by decide +kernel⟩,
    ⟨{ asking with net := { asking.net with sessions := [{ anOwner with role := 2 }] } },
        ask 0x10 (toBe 0x10 4 ++ [1, 0, 0, 0]), { anOwner with role := 2 }, 0x10, ⟨.mod, 0, 0x10⟩,
        asked _ _ _ _ (by decide +kernel) (by decide +kernel) rfl rfl rfl, by decide +kernel⟩,
    ⟨asking, ask 0x10 (toBe 0x10 4 ++ [65, 0, 0, 0]), anOwner, 0x10, 65,
        asked _ _ _ _ (by decide +kernel) (by decide +kernel) rfl rfl rfl, by decide +kernel⟩,
    ⟨asking, ask 0x11 (toBe 0x1B000C 4 ++ [1, 0, 0, 0] ++ toBe 4500 4), anOwner, 4500,
        asked _ _ _ _ (by decide +kernel) (by decide +kernel) rfl rfl rfl, by decide +kernel⟩,
    ⟨asking, ask 0x11 (toBe (0x1B000C : BitVec 32).toNat 4 ++ [([] : List (BitVec 32)).length % 256, 0, 0,
        0] ++ (([] : List (BitVec 32)).map (·.toNat)).flatMap (fun w => toBe w 4)), anOwner, 0x1B000C, [],
        asked _ _ _ _ (by decide +kernel) (by decide +kernel) rfl rfl (by decide +kernel), by decide +kernel⟩,
    ⟨{ asking with net := { asking.net with sessions := [{ anOwner with role := 2 }] } }, ask 0x20 frame0,
        { anOwner with role := 2 }, frame0, asked_frame _ _ (by decide +kernel) (by decide +kernel) rfl rfl,
        by decide +kernel⟩,
    ⟨asking, ask 0x20 frame0, anOwner, frame0, asked_frame _ _ (by decide +kernel) (by decide +kernel) rfl rfl,
        by decide +kernel⟩,
    ⟨{ asking with log := logging.log }, ask 0x30 (toBe 5 4 ++ [2, 0, 0, 0]), anOwner, 5, 2,
        asked _ _ _ _ (by decide +kernel) (by decide +kernel) rfl rfl rfl, by decide +kernel⟩,
    ⟨asking, ask 0x30 (toBe 5 4 ++ [33, 0, 0, 0]), anOwner, 5, 33,
        asked _ _ _ _ (by decide +kernel) (by decide +kernel) rfl rfl rfl, by decide +kernel⟩,
    ⟨asking, ask 0x40 (List.replicate 32 7), anOwner, List.replicate 32 7,
        asked _ _ _ _ (by decide +kernel) (by decide +kernel) rfl rfl rfl⟩⟩

/-- TidemarkFramesAreTaken: what its hypotheses ask, clause by clause. -/
theorem witness_tidemarkFramesAreTaken :
    (∃ (s : State) (c : Instr), (tmGot c).isSome = true ∧ s.netHeld = true) ∧
    (∃ (s : State) (c : Instr) (b : Fin 8) (h : TmHdr) (type : Nat) (payload : List Nat) (codes : List Nat),
        tmGot c = some (b, h, type, payload, codes) ∧ s.netHeld = false ∧ s.tmListens b = false) ∧
    (∃ (s : State) (c : Instr) (b : Fin 8) (h : TmHdr) (type : Nat) (payload : List Nat) (codes : List Nat),
        tmGot c = some (b, h, type, payload, codes) ∧ s.tmListens b = true ∧ s.tmGood c = false) ∧
    (∃ (s : State) (b : Fin 8) (h : TmHdr) (rate : BitVec 8) (pend : BitVec 8) (eff : BitVec 32) (tn : Nat) (man : BitVec 64)
        (per : BitVec 32) (mem : BitVec 16), s.tmTakes b (.tmBeaconRx b h rate pend eff tn man per mem) = true ∧
        (s.rhdOf b).stale h.sender h.alive tn = true) ∧
    (∃ (s : State) (b : Fin 8) (h : TmHdr) (rate : BitVec 8) (pend : BitVec 8) (eff : BitVec 32) (tn : Nat) (man : BitVec 64)
        (per : BitVec 32) (mem : BitVec 16), s.tmTakes b (.tmBeaconRx b h rate pend eff tn man per mem) = true ∧
        (s.rhdOf b).stale h.sender h.alive tn = false ∧ s.rhdState b = 1) ∧
    (∃ (s : State) (b : Fin 8) (h : TmHdr) (rate : BitVec 8) (pend : BitVec 8) (eff : BitVec 32) (tn : Nat) (man : BitVec 64)
        (per : BitVec 32) (mem : BitVec 16), s.tmTakes b (.tmBeaconRx b h rate pend eff tn man per mem) = true ∧
        (s.rhdOf b).stale h.sender h.alive tn = false ∧ s.rhdState b = 2 ∧
        (s.rhdOf b).fromEpoch.all (fun e => decide (h.epoch < e)) = true) ∧
    (∃ (s : State) (b : Fin 8) (h : TmHdr) (rate : BitVec 8) (pend : BitVec 8) (eff : BitVec 32) (tn : Nat) (man : BitVec 64)
        (per : BitVec 32) (mem : BitVec 16) (e : Nat), s.tmTakes b (.tmBeaconRx b h rate pend eff tn man per mem) = true ∧
        (s.rhdOf b).stale h.sender h.alive tn = false ∧ s.rhdState b = 2 ∧ (s.rhdOf b).fromEpoch = some e ∧ e ≤ h.epoch ∧
        h.epoch < 2 ^ 32 ∧ (s.berth b).tag = man.toNat ∧ s.bit .RHD_STATE_TAG_MISMATCH b = false) ∧
    (∃ (s : State) (b : Fin 8) (h : TmHdr) (rate : BitVec 8) (pend : BitVec 8) (eff : BitVec 32) (tn : Nat) (man : BitVec 64)
        (per : BitVec 32) (mem : BitVec 16), s.tmTakes b (.tmBeaconRx b h rate pend eff tn man per mem) = true ∧
        (s.rhdOf b).stale h.sender h.alive tn = false ∧
        ((s.rhdState b == 3 && outranks (bitAt h.flags 1, h.sender) (s.ownRank b) &&
        decide (s.get .RHD_EPOCH_EPOCH b ≤ h.epoch)) ||
        (s.rhdState b == 4 && !(s.bit .RHD_MASTER_VALID b && s.get .RHD_MASTER_INDEX b == h.sender) &&
        outranks (bitAt h.flags 1, h.sender) (s.rhdOf b).lastRank && decide (s.get .RHD_EPOCH_EPOCH b ≤ h.epoch)) ||
        (s.rhdState b == 5 && outranks (bitAt h.flags 1, h.sender) (s.ownRank b) && man.toNat == (s.rhdOf b).domainTag)) =
        true ∧ (s.berth b).tag = man.toNat ∧ s.bit .RHD_STATE_TAG_MISMATCH b = false) ∧
    (∃ (s : State) (b : Fin 8) (h : TmHdr) (rate : BitVec 8) (pend : BitVec 8) (eff : BitVec 32) (tn : Nat) (man : BitVec 64)
        (per : BitVec 32) (mem : BitVec 16), s.tmTakes b (.tmBeaconRx b h rate pend eff tn man per mem) = true ∧
        (s.rhdOf b).stale h.sender h.alive tn = false ∧ s.rhdState b = 3 ∧
        outranks (bitAt h.flags 1, h.sender) (s.ownRank b) = true ∧ h.epoch < s.get .RHD_EPOCH_EPOCH b) ∧
    (∃ (s : State) (b : Fin 8) (h : TmHdr) (rate : BitVec 8) (pend : BitVec 8) (eff : BitVec 32) (tn : Nat) (man : BitVec 64)
        (per : BitVec 32) (mem : BitVec 16), s.tmTakes b (.tmBeaconRx b h rate pend eff tn man per mem) = true ∧
        (s.rhdOf b).stale h.sender h.alive tn = false ∧ s.rhdState b = 4 ∧
        (s.bit .RHD_MASTER_VALID b && s.get .RHD_MASTER_INDEX b == h.sender) = true ∧ (s.berth b).tag = man.toNat ∧
        s.bit .RHD_STATE_TAG_MISMATCH b = false) ∧
    (∃ (s : State) (b : Fin 8) (h : TmHdr) (rate : BitVec 8) (pend : BitVec 8) (eff : BitVec 32) (tn : Nat) (man : BitVec 64)
        (per : BitVec 32) (mem : BitVec 16), s.tmTakes b (.tmBeaconRx b h rate pend eff tn man per mem) = true ∧
        (s.rhdOf b).stale h.sender h.alive tn = false ∧ s.rhdState b = 4 ∧
        (s.bit .RHD_MASTER_VALID b && s.get .RHD_MASTER_INDEX b == h.sender) = true ∧ (s.berth b).tag ≠ man.toNat ∧
        s.bit .RHD_STATE_TAG_MISMATCH b = false) ∧
    (∃ (s : State) (b : Fin 8) (h : TmHdr) (rate : BitVec 8) (pend : BitVec 8) (eff : BitVec 32) (tn : Nat) (man : BitVec 64)
        (per : BitVec 32) (mem : BitVec 16), s.tmTakes b (.tmBeaconRx b h rate pend eff tn man per mem) = true ∧
        (s.rhdOf b).stale h.sender h.alive tn = false ∧ s.rhdState b = 4 ∧
        (s.bit .RHD_MASTER_VALID b && s.get .RHD_MASTER_INDEX b == h.sender) = true ∧
        s.bit .RHD_STATE_TAG_MISMATCH b = true ∧ s.get .RHD_EPOCH_EPOCH b < h.epoch) ∧
    (∃ (s : State) (b : Fin 8) (h : TmHdr) (rate : BitVec 8) (pend : BitVec 8) (eff : BitVec 32) (tn : Nat) (man : BitVec 64)
        (per : BitVec 32) (mem : BitVec 16), s.tmTakes b (.tmBeaconRx b h rate pend eff tn man per mem) = true ∧
        (s.rhdOf b).stale h.sender h.alive tn = false ∧
        ((s.rhdState b == 3 && !outranks (bitAt h.flags 1, h.sender) (s.ownRank b)) ||
        (s.rhdState b == 4 && !(s.bit .RHD_MASTER_VALID b && s.get .RHD_MASTER_INDEX b == h.sender) &&
        !(outranks (bitAt h.flags 1, h.sender) (s.rhdOf b).lastRank && decide (s.get .RHD_EPOCH_EPOCH b ≤ h.epoch))) ||
        (s.rhdState b == 5 && !(outranks (bitAt h.flags 1, h.sender) (s.ownRank b) && man.toNat == (s.rhdOf b).domainTag)) ||
        decide (6 ≤ s.rhdState b)) = true) ∧
    (∃ (s : State) (b : Fin 8) (h : TmHdr) (code : BitVec 8) (reason : BitVec 8) (step : BitVec 32) (skew : BitVec 32),
        s.tmTakes b (.tmRateReqRx b h code reason step skew) = true) ∧
    (∃ (s : State) (b : Fin 8) (h : TmHdr) (rate : BitVec 8) (duty : BitVec 8) (step : BitVec 32) (skew : BitVec 32)
        (mr : BitVec 16) (man : BitVec 64), s.tmTakes b (.tmStatusRx b h rate duty step skew mr man) = true ∧
        s.rhdState b = 5 ∧ ((s.rhdOf b).members.any (fun m => m.index == h.sender) = true ∨ (s.rhdOf b).periods < 3)) ∧
    (∃ (s : State) (b : Fin 8) (h : TmHdr) (rate : BitVec 8) (duty : BitVec 8) (step : BitVec 32) (skew : BitVec 32)
        (mr : BitVec 16) (man : BitVec 64), s.tmTakes b (.tmStatusRx b h rate duty step skew mr man) = true ∧
        s.rhdState b = 5 ∧ (s.rhdOf b).members.any (fun m => m.index == h.sender) = false ∧ 3 ≤ (s.rhdOf b).periods) ∧
    (∃ (s : State) (b : Fin 8) (h : TmHdr) (rate : BitVec 8) (duty : BitVec 8) (step : BitVec 32) (skew : BitVec 32)
        (mr : BitVec 16) (man : BitVec 64), s.tmTakes b (.tmStatusRx b h rate duty step skew mr man) = true ∧
        s.rhdState b ≠ 5) ∧
    (∃ (s : State) (b : Fin 8) (h : TmHdr) (man : BitVec 64) (req : BitVec 16), s.tmTakes b (.tmJoinRx b h man req) = true ∧
        s.rhdState b ≠ 5) ∧
    (∃ (s : State) (b : Fin 8) (h : TmHdr) (man : BitVec 64) (req : BitVec 16) (i : Nat),
        s.tmTakes b (.tmJoinRx b h man req) = true ∧ s.rhdState b = 5 ∧ s.joinResult b man.toNat req.toNat = 0 ∧
        i = (if req.toNat = 0xFFFF then (s.rhdOf b).freeIndex (s.get .RHD_STATE_INDEX b) else req.toNat)) ∧
    (∃ (s : State) (b : Fin 8) (h : TmHdr) (man : BitVec 64) (req : BitVec 16), s.tmTakes b (.tmJoinRx b h man req) = true ∧
        s.rhdState b = 5 ∧ s.joinResult b man.toNat req.toNat ≠ 0) ∧
    (∃ (s : State) (b : Fin 8) (h : TmHdr) (result : BitVec 8) (index : BitVec 16) (e : BitVec 32),
        s.tmTakes b (.tmJoinReplyRx b h result index e) = true ∧ s.rhdState b = 2 ∧ result = 0#8) ∧
    (∃ (s : State) (b : Fin 8) (h : TmHdr) (result : BitVec 8) (index : BitVec 16) (e : BitVec 32),
        s.tmTakes b (.tmJoinReplyRx b h result index e) = true ∧ s.rhdState b = 2 ∧ result = 4#8) ∧
    (∃ (s : State) (b : Fin 8) (h : TmHdr) (result : BitVec 8) (index : BitVec 16) (e : BitVec 32),
        s.tmTakes b (.tmJoinReplyRx b h result index e) = true ∧
        ((s.rhdState b == 2 && decide (1 ≤ result.toNat ∧ result.toNat ≤ 3)) ||
        (s.rhdState b == 4 && result == 3#8 && index.toNat == s.get .RHD_STATE_INDEX b)) = true) ∧
    (∃ (s : State) (b : Fin 8) (h : TmHdr) (result : BitVec 8) (index : BitVec 16) (e : BitVec 32),
        s.tmTakes b (.tmJoinReplyRx b h result index e) = true ∧
        ((s.rhdState b == 2 && decide (5 ≤ result.toNat)) ||
        (s.rhdState b == 4 && !(result == 3#8 && index.toNat == s.get .RHD_STATE_INDEX b)) ||
        (s.rhdState b != 2 && s.rhdState b != 4)) = true) ∧
    (∃ (s : State) (b : Fin 8) (h : TmHdr) (reason : BitVec 8), s.tmTakes b (.tmLeaveRx b h reason) = true) ∧
    (∃ (s : State) (b : Fin 8) (h : TmHdr) (man : BitVec 64), s.tmTakes b (.tmClaimRx b h man) = true ∧
        (s.rhdState b = 3 ∨ s.rhdState b = 4) ∧ outranks (bitAt h.flags 1, h.sender) (s.ownRank b) = true) ∧
    (∃ (s : State) (b : Fin 8) (h : TmHdr) (man : BitVec 64), s.tmTakes b (.tmClaimRx b h man) = true ∧ s.rhdState b = 3 ∧
        outranks (s.ownRank b) (bitAt h.flags 1, h.sender) = true ∧ (s.rhdOf b).claimAt = none ∧
        (s.rhdOf b).outranked = false ∧ s.healthy b = true) ∧
    (∃ (s : State) (b : Fin 8) (h : TmHdr) (man : BitVec 64), s.tmTakes b (.tmClaimRx b h man) = true ∧ s.rhdState b = 5 ∧
        outranks (bitAt h.flags 1, h.sender) (s.ownRank b) = true ∧ man.toNat = (s.rhdOf b).domainTag) ∧
    (∃ (s : State) (b : Fin 8) (h : TmHdr) (man : BitVec 64), s.tmTakes b (.tmClaimRx b h man) = true ∧
        ((s.rhdState b == 3 && !outranks (bitAt h.flags 1, h.sender) (s.ownRank b) &&
        !(outranks (s.ownRank b) (bitAt h.flags 1, h.sender) && (s.rhdOf b).claimAt.isNone && !(s.rhdOf b).outranked &&
        s.healthy b)) || (s.rhdState b == 4 && !outranks (bitAt h.flags 1, h.sender) (s.ownRank b)) ||
        (s.rhdState b == 5 && !(outranks (bitAt h.flags 1, h.sender) (s.ownRank b) && man.toNat == (s.rhdOf b).domainTag)) ||
        (s.rhdState b != 3 && s.rhdState b != 4 && s.rhdState b != 5)) = true) :=
  ⟨⟨ws [], .tmLeaveRx 0 (tmh 3 9 2 6 [1, 0, 0, 0]) 1, by decide +kernel⟩,
    ⟨ws [(.RST_IN_RESET_STATE, 0, 0, 0)], .tmLeaveRx 0 (tmh 3 9 2 6 [1, 0, 0, 0]) 1, 0, tmh 3 9 2 6 [1, 0, 0, 0], 6,
        [1, 0, 0, 0], [], rfl, by decide +kernel, by decide +kernel⟩,
    ⟨tuned 4 [] {  }, .tmLeaveRx 0 (tmh 3 9 2 6 [1, 0, 0, 0]) 2, 0, tmh 3 9 2 6 [1, 0, 0, 0], 6, [2, 0, 0, 0], [], rfl,
        by decide +kernel, by decide +kernel⟩,
    ⟨tuned 4 [(.RHD_MASTER_VALID, 1), (.RHD_MASTER_INDEX, 3), (.RHD_EPOCH_EPOCH, 2)] { heardFrom := [(3, 8, 5)] }, 0,
        tmh 3 9 2 1 (beaconBytes 0x20 0x18 70 5 0 1000 4), 0x20, 0x18, 70, 5, 0, 1000, 4, by decide +kernel⟩,
    ⟨tuned 1 [] {  }, 0, tmh 3 9 2 1 (beaconBytes 0x20 0x18 70 5 0 1000 4), 0x20, 0x18, 70, 5, 0, 1000, 4, by decide +kernel⟩,
    ⟨tuned 2 [] { fromEpoch := some 3 }, 0, tmh 3 9 2 1 (beaconBytes 0x20 0x18 70 5 0 1000 4), 0x20, 0x18, 70, 5, 0, 1000, 4,
        by decide +kernel⟩,
    ⟨tuned 2 [] { fromEpoch := some 2 }, 0, tmh 3 9 2 1 (beaconBytes 0x20 0x18 70 5 0 1000 4), 0x20, 0x18, 70, 5, 0, 1000, 4,
        2, by decide +kernel⟩,
    ⟨tuned 3 [(.RHD_STATE_INDEX, 5)] { claimAt := some 1 }, 0, tmh 3 9 2 1 (beaconBytes 0x20 0x18 70 5 0 1000 4), 0x20, 0x18,
        70, 5, 0, 1000, 4, by decide +kernel⟩,
    ⟨tuned 3 [(.RHD_STATE_INDEX, 5), (.RHD_EPOCH_EPOCH, 3)] {  }, 0, tmh 3 9 2 1 (beaconBytes 0x20 0x18 70 5 0 1000 4), 0x20,
        0x18, 70, 5, 0, 1000, 4, by decide +kernel⟩,
    ⟨tuned 4 [(.RHD_MASTER_VALID, 1), (.RHD_MASTER_INDEX, 3), (.RHD_EPOCH_EPOCH, 2)] { missed := 1 }, 0,
        tmh 3 9 2 1 (beaconBytes 0x20 0x18 70 5 0 1000 4), 0x20, 0x18, 70, 5, 0, 1000, 4, by decide +kernel⟩,
    ⟨tuned 4 [(.RHD_MASTER_VALID, 1), (.RHD_MASTER_INDEX, 3), (.RHD_EPOCH_EPOCH, 2)] {  }, 0,
        tmh 3 9 2 1 (beaconBytes 0x20 0x18 70 5 9 1000 4), 0x20, 0x18, 70, 5, 9, 1000, 4, by decide +kernel⟩,
    ⟨tuned 4 [(.RHD_MASTER_VALID, 1), (.RHD_MASTER_INDEX, 3), (.RHD_EPOCH_EPOCH, 1), (.RHD_STATE_TAG_MISMATCH, 1)] {  }, 0,
        tmh 3 9 2 1 (beaconBytes 0x20 0x18 70 5 0 1000 4), 0x20, 0x18, 70, 5, 0, 1000, 4, by decide +kernel⟩,
    ⟨tuned 3 [] {  }, 0, tmh 3 9 2 1 (beaconBytes 0x20 0x18 70 5 0 1000 4), 0x20, 0x18, 70, 5, 0, 1000, 4, by decide +kernel⟩,
    ⟨tuned 5 [] { members := [{ index := 3 }], domRate := 0x20 }, 0, tmh 3 9 2 2 ([0x10, 1, 0, 0] ++ toBe 7 4 ++ toBe 0 4),
        0x10, 1, 7, 0, by decide +kernel⟩,
    ⟨tuned 5 [] { members := [{ index := 3 }] }, 0, tmh 3 9 2 3 (statusBytes 0x20 0 70 1 5 0), 0x20, 0, 70, 1, 5, 0,
        by decide +kernel, by decide +kernel, Or.inl (by decide +kernel)⟩,
    ⟨tuned 5 [] { periods := 3 }, 0, tmh 3 9 2 3 (statusBytes 0x20 0 70 1 5 0), 0x20, 0, 70, 1, 5, 0, by decide +kernel⟩,
    ⟨tuned 4 [] {  }, 0, tmh 3 9 2 3 (statusBytes 0x20 0 70 1 5 0), 0x20, 0, 70, 1, 5, 0, by decide +kernel⟩,
    ⟨tuned 4 [] {  }, 0, tmh 3 9 2 4 (toBe 0 8 ++ toBe 3 2 ++ [0, 0]), 0, 3, by decide +kernel⟩,
    ⟨tuned 5 [] {  }, 0, tmh 3 9 2 4 (toBe 0 8 ++ toBe 3 2 ++ [0, 0]), 0, 3, 3, by decide +kernel⟩,
    ⟨tuned 5 [] {  }, 0, tmh 3 9 2 4 (toBe 1 8 ++ toBe 3 2 ++ [0, 0]), 1, 3, by decide +kernel⟩,
    ⟨tuned 2 [] {  }, 0, tmh 3 9 2 5 ([0, 0] ++ toBe 7 2 ++ toBe 3 4), 0, 7, 3, by decide +kernel⟩,
    ⟨tuned 2 [] {  }, 0, tmh 3 9 2 5 ([4, 0] ++ toBe 7 2 ++ toBe 3 4), 4, 7, 3, by decide +kernel⟩,
    ⟨tuned 2 [] {  }, 0, tmh 3 9 2 5 ([2, 0] ++ toBe 7 2 ++ toBe 3 4), 2, 7, 3, by decide +kernel⟩,
    ⟨tuned 4 [] {  }, 0, tmh 3 9 2 5 ([2, 0] ++ toBe 7 2 ++ toBe 3 4), 2, 7, 3, by decide +kernel⟩,
    ⟨tuned 5 [] { members := [{ index := 3 }] }, 0, tmh 3 9 2 6 [1, 0, 0, 0], 1, by decide +kernel⟩,
    ⟨tuned 3 [(.RHD_STATE_INDEX, 5)] {  }, 0, tmh 3 9 2 7 (toBe 0 8 ++ toBe 0 4), 0, by decide +kernel,
        Or.inl (by decide +kernel), by decide +kernel⟩,
    ⟨tuned 3 [(.RHD_STATE_INDEX, 1)] {  }, 0, tmh 3 9 2 7 (toBe 0 8 ++ toBe 0 4), 0, by decide +kernel⟩,
    ⟨tuned 5 [(.RHD_STATE_INDEX, 5)] {  }, 0, tmh 3 9 2 7 (toBe 0 8 ++ toBe 0 4), 0, by decide +kernel⟩,
    ⟨tuned 1 [] {  }, 0, tmh 3 9 2 7 (toBe 0 8 ++ toBe 0 4), 0, by decide +kernel⟩⟩

/-- RateHoldMembershipRuns: what its hypotheses ask, clause by clause. -/
theorem witness_rateHoldMembershipRuns :
    (∃ (s : State) (b : Fin 8), s.netHeld = false ∧ s.rhdState b = 5 ∧ (s.rhdOf b).mute = false ∧
        (s.rhdOf b).sentTime ≠ some (if (s.rhdOf b).periodUs = 0 then s.timeNs else
        s.timeNs / ((s.rhdOf b).periodUs * 1000) * ((s.rhdOf b).periodUs * 1000))) ∧
    (∃ (s : State) (b : Fin 8), (s.netHeld = true ∨ s.rhdState b ≠ 5 ∨ (s.rhdOf b).mute = true ∨ (s.rhdOf b).sentTime =
        some (if (s.rhdOf b).periodUs = 0 then s.timeNs else
        s.timeNs / ((s.rhdOf b).periodUs * 1000) * ((s.rhdOf b).periodUs * 1000)))) ∧
    (∃ (s : State) (b : Fin 8), s.rhdState b = 4 ∧ (s.rhdOf b).missed < 2) ∧
    (∃ (s : State) (b : Fin 8), s.rhdState b = 4 ∧ 2 ≤ (s.rhdOf b).missed) ∧
    (∃ (s : State) (b : Fin 8), s.rhdState b ≠ 4) ∧
    (∃ (s : State) (b : Fin 8), s.netHeld = false ∧ s.rhdState b = 4 ∧ s.bit .RHD_MASTER_VALID b = true) ∧
    (∃ (s : State) (b : Fin 8), (s.netHeld = true ∨ s.rhdState b ≠ 4 ∨ s.bit .RHD_MASTER_VALID b = false)) ∧
    (∃ (s : State) (b : Fin 8) (a : Nat × Nat), s.netHeld = false ∧ s.rhdState b = 4 ∧
        s.bit .RHD_STATE_REQUESTING b = false ∧ lowestAsk (s.asks b) = some a) ∧
    (∃ (s : State) (b : Fin 8), (s.netHeld = true ∨ s.rhdState b ≠ 4 ∨ s.bit .RHD_STATE_REQUESTING b = true ∨ s.asks b = [])) ∧
    (∃ (s : State) (b : Fin 8) (i : Nat), s.rhdState b = 5 ∧
        (i == s.get .RHD_STATE_INDEX b && (s.rhdOf b).ownReq.isSome) = true) ∧
    (∃ (s : State) (b : Fin 8) (i : Nat), s.rhdState b = 5 ∧
        (i == s.get .RHD_STATE_INDEX b && (s.rhdOf b).ownReq.isSome) = false ∧
        (s.rhdOf b).members.any (fun m => m.index == i && m.req.isSome) = true) ∧
    (∃ (s : State) (b : Fin 8) (i : Nat),
        (s.rhdState b != 5 || (!(i == s.get .RHD_STATE_INDEX b && (s.rhdOf b).ownReq.isSome) &&
        !(s.rhdOf b).members.any (fun m => m.index == i && m.req.isSome))) = true) ∧
    (∃ (s : State) (b : Fin 8), s.rhdState b = 1) ∧
    (∃ (s : State) (b : Fin 8), s.rhdState b ≠ 1) ∧
    (∃ (s : State) (b : Fin 8), s.rhdState b = 2 ∧ (s.rhdOf b).fromEpoch = none) ∧
    (∃ (s : State) (b : Fin 8), (s.rhdState b ≠ 2 ∨ (s.rhdOf b).fromEpoch ≠ none)) ∧
    (∃ (s : State) (b : Fin 8), s.netHeld = false ∧ s.rhdState b = 3 ∧ (s.rhdOf b).outranked = false ∧
        (s.rhdOf b).claimAt = none ∧ s.healthy b = true) ∧
    (∃ (s : State) (b : Fin 8), (s.netHeld = true ∨ s.rhdState b ≠ 3 ∨ (s.rhdOf b).outranked =
        true ∨ (s.rhdOf b).claimAt ≠ none ∨ s.healthy b = false)) ∧
    (∃ (s : State) (b : Fin 8), ((s.rhdOf b).claimAt.isSome && !(s.rhdOf b).outranked &&
        (s.rhdState b == 3 || (s.rhdState b == 4 && s.bit .RHD_CFG_PIN b))) = true) ∧
    (∃ (s : State) (b : Fin 8), ((s.rhdOf b).claimAt.isSome && !(s.rhdOf b).outranked &&
        (s.rhdState b == 3 || (s.rhdState b == 4 && s.bit .RHD_CFG_PIN b))) = false) ∧
    (∃ (s : State) (b : Fin 8) (i : Nat), s.rhdState b = 5 ∧
        (s.rhdOf b).members.any (fun m => m.index == i && decide (3 ≤ m.missed)) = true) ∧
    (∃ (s : State) (b : Fin 8) (i : Nat),
        (s.rhdState b != 5 || !(s.rhdOf b).members.any (fun m => m.index == i && decide (3 ≤ m.missed))) = true) ∧
    (∃ (s : State) (b : Fin 8), s.rhdState b = 5 ∧ 4 ≤ (s.rhdOf b).periods ∧
        2 * (1 + ((s.rhdOf b).members.filter (fun m => decide (m.quiet < 3))).length) ≤ ((s.rhdOf b).windows.getLast?).getD 1) ∧
    (∃ (s : State) (b : Fin 8), (s.rhdState b ≠ 5 ∨ (s.rhdOf b).periods < 4 ∨ ((s.rhdOf b).windows.getLast?).getD 1 <
        2 * (1 + ((s.rhdOf b).members.filter (fun m => decide (m.quiet < 3))).length))) :=
  ⟨⟨tuned 5 [] { newEpoch := true, members := [{ index := 3, pending := true }], joins := [(0, 3, tmSrc)] }, 0,
        by decide +kernel⟩,
    ⟨tuned 4 [] {  }, 0, Or.inr (Or.inl (by decide +kernel))⟩,
    ⟨tuned 4 [] {  }, 0, by decide +kernel⟩,
    ⟨tuned 4 [(.RHD_MASTER_VALID, 1)] { missed := 2 }, 0, by decide +kernel⟩,
    ⟨tuned 5 [] {  }, 0, by decide +kernel⟩,
    ⟨tuned 4 [(.RHD_MASTER_VALID, 1)] {  }, 0, by decide +kernel⟩,
    ⟨tuned 5 [] {  }, 0, Or.inr (Or.inl (by decide +kernel))⟩,
    ⟨tuned 4 [(.RHD_TARGET_CODE, 5)] { domRate := 0x20 }, 0, (1, 0), by decide +kernel⟩,
    ⟨tuned 5 [] {  }, 0, Or.inr (Or.inl (by decide +kernel))⟩,
    ⟨tuned 5 [(.RHD_STATE_INDEX, 3)] { ownReq := some (5, 9) }, 0, 3, by decide +kernel⟩,
    ⟨tuned 5 [] { members := [{ index := 3, req := some (5, 9) }] }, 0, 3, by decide +kernel⟩,
    ⟨tuned 5 [] {  }, 0, 3, by decide +kernel⟩,
    ⟨tuned 1 [(.RHD_ID_REQ_INDEX, 6)] {  }, 0, by decide +kernel⟩,
    ⟨tuned 2 [] {  }, 0, by decide +kernel⟩,
    ⟨tuned 2 [] {  }, 0, by decide +kernel⟩,
    ⟨tuned 3 [] {  }, 0, Or.inl (by decide +kernel)⟩,
    ⟨tuned 3 [] {  }, 0, by decide +kernel⟩,
    ⟨tuned 4 [] {  }, 0, Or.inr (Or.inl (by decide +kernel))⟩,
    ⟨tuned 3 [(.RHD_STATE_INDEX, 5)] { claimAt := some 1 }, 0, by decide +kernel⟩,
    ⟨tuned 3 [] { claimAt := some 1, outranked := true }, 0, by decide +kernel⟩,
    ⟨tuned 5 [] { members := [{ index := 3, missed := 3 }] }, 0, 3, by decide +kernel⟩,
    ⟨tuned 5 [] { members := [{ index := 3 }] }, 0, 3, by decide +kernel⟩,
    ⟨tuned 5 [] { members := [{ index := 3, missed := 3 }], periods := 4, windows := [2, 2, 2] }, 0, by decide +kernel⟩,
    ⟨tuned 5 [] { periods := 3 }, 0, Or.inr (Or.inl (by decide +kernel))⟩⟩

/-- RateHoldIsEnabledPinnedAndLifted: what its hypotheses ask, clause by clause. -/
theorem witness_rateHoldIsEnabledPinnedAndLifted :
    (∃ (s : State) (src : Source) (b : Fin 8), s.right src = .owner ∧ s.rhdState b = 0 ∧ (s.berth b).desc.isSome = true) ∧
    (∃ (s : State) (src : Source) (b : Fin 8), s.right src = .owner ∧ (s.rhdState b ≠ 0 ∨ (s.berth b).desc.isNone = true)) ∧
    (∃ (s : State) (src : Source) (b : Fin 8), s.right src = .owner ∧ s.rhdState b ≠ 0 ∧
        (s.rhdState b = 5 ∨ (s.rhdOf b).masterAddr = none)) ∧
    (∃ (s : State) (src : Source) (b : Fin 8), s.right src = .owner ∧ s.rhdState b ≠ 0 ∧ s.rhdState b ≠ 5 ∧
        (s.rhdOf b).masterAddr ≠ none) ∧
    (∃ (s : State) (src : Source) (b : Fin 8), s.right src = .owner ∧ s.rhdState b = 0) ∧
    (∃ (s : State) (src : Source) (b : Fin 8), s.right src = .owner ∧ s.netHeld = false ∧ s.rhdState b ≠ 0 ∧
        s.healthy b = true) ∧
    (∃ (s : State) (src : Source) (b : Fin 8), s.right src = .owner ∧
        (s.netHeld = true ∨ s.rhdState b = 0 ∨ s.healthy b = false)) ∧
    (∃ (s : State) (src : Source), s.right src = .owner) ∧
    (∃ (s : State) (b : Fin 8) (r : Fin 5), s.noDomain b = true ∧ (s.rhdOf b).lifted.any (fun e => e.1 == r.val) = true) ∧
    (∃ (s : State) (b : Fin 8) (r : Fin 5), (s.noDomain b = false ∨ (s.rhdOf b).lifted.any (fun e => e.1 == r.val) = false)) :=
  ⟨⟨{ owned [] with berths := berthed.berths }, .session 1, 0, by decide +kernel⟩,
    ⟨tuned 3 [] {  }, .session 1, 0, by decide +kernel, Or.inl (by decide +kernel)⟩,
    ⟨tuned 3 [(.RHD_CFG_ENABLE, 1)] {  }, .session 1, 0, by decide +kernel, by decide +kernel, Or.inr (by decide +kernel)⟩,
    ⟨tuned 2 [(.RHD_CFG_ENABLE, 1)] { masterAddr := some tmSrc }, .session 1, 0, by decide +kernel⟩,
    ⟨owned [], .session 1, 0, by decide +kernel⟩,
    ⟨tuned 4 [] {  }, .session 1, 0, by decide +kernel⟩,
    ⟨owned [], .session 1, 0, by decide +kernel⟩,
    ⟨owned [(.RHD_ELECTIONS_COUNT, 3, 0, 9)], .session 1, by decide +kernel⟩,
    ⟨tuned 0 [] { ceilings := [(2, 5)], lifted := [(2, 0)] }, 0, 2, by decide +kernel⟩,
    ⟨tuned 4 [] { ceilings := [(2, 5)], lifted := [(2, 0)] }, 0, 2, Or.inl (by decide +kernel)⟩⟩

/-- HelmCommandsTakeEffectAtABoundary: what its hypotheses ask, clause by clause. -/
theorem witness_helmCommandsTakeEffectAtABoundary :
    (∃ (s : State) (helm : Fin 4) (link : Fin 2) (bytes : Vector (BitVec 8) 8) (bs : List Nat) (r : Fin 50),
        s.inReset 3 = false ∧ (s.pilot link).linkEn = true ∧ (s.pilot link).linkOut = true ∧
        bs = bytes.toList.map BitVec.toNat ∧ crc16 (bs.take 6) = leAt bs 6 2 ∧ nth bs 0 = r.val ∧ railHelm r.val = helm.val ∧
        (s.rail r).alive[link] ≠ some (nth bs 4 % 16)) ∧
    (∃ (s : State) (helm : Fin 4) (link : Fin 2) (bytes : Vector (BitVec 8) 8) (bs : List Nat), s.inReset 3 = false ∧
        (s.pilot link).linkEn = true ∧ (s.pilot link).linkOut = true ∧ bs = bytes.toList.map BitVec.toNat ∧
        (crc16 (bs.take 6) ≠ leAt bs 6 2 ∨ 50 ≤ nth bs 0 ∨ railHelm (nth bs 0) ≠ helm.val)) ∧
    (∃ (s : State) (helm : Fin 4) (link : Fin 2) (bytes : Vector (BitVec 8) 8) (bs : List Nat) (r : Fin 50),
        s.inReset 3 = false ∧ (s.pilot link).linkEn = true ∧ (s.pilot link).linkOut = true ∧
        bs = bytes.toList.map BitVec.toNat ∧ crc16 (bs.take 6) = leAt bs 6 2 ∧ nth bs 0 = r.val ∧ railHelm r.val = helm.val ∧
        (s.rail r).alive[link] = some (nth bs 4 % 16)) ∧
    (∃ (s : State) (link : Fin 2), (s.inReset 3 || !(s.pilot link).linkEn || !(s.pilot link).linkOut) = true) ∧
    (∃ (s : State) (helm : Fin 4), s.pwr.lastCmd[helm] + 30 * us ≤ s.now) ∧
    (∃ (s : State) (helm : Fin 4), s.now < s.pwr.lastCmd[helm] + 30 * us) ∧
    (∃ (s : State), s.inReset 3 = false) ∧
    (∃ (s : State), s.inReset 3 = true) ∧
    (∃ (s : State) (r : Fin 50), s.bit .PWR_RAIL_STATUS_ON r = false ∧ (s.rail r).latched = false) ∧
    (∃ (s : State) (r : Fin 50), s.bit .PWR_RAIL_STATUS_ON r = false ∧ (s.rail r).latched = true) ∧
    (∃ (s : State) (r : Fin 50) (mv : BitVec 16), s.bit .PWR_RAIL_STATUS_ON r = true ∧
        s.bit .PWR_RAIL_STATUS_SOFT_START r = false ∧ (s.rail r).latched = false ∧
        (if isBoot r then (s.rail r).en else (((s.rail r).waiting.map (·.en)).getD (s.rail r).en)) = true ∧
        ((s.rail r).decaying && decide ((((s.rail r).waiting.map (fun c =>
        if r = 49 then max (-4000) (min 4000 (dec 16 c.set)) else (c.set : Int))).getD (s.rail r).target) <
        (mv.toNat : Int))) = false ∧ r ≠ 49) ∧
    (∃ (s : State) (r : Fin 50) (mv : BitVec 16), s.bit .PWR_RAIL_STATUS_ON r = true ∧
        s.bit .PWR_RAIL_STATUS_SOFT_START r = true ∧ (s.rail r).latched = false ∧
        (if isBoot r then (s.rail r).en else (((s.rail r).waiting.map (·.en)).getD (s.rail r).en)) = true ∧
        ((s.rail r).decaying && decide ((((s.rail r).waiting.map (fun c =>
        if r = 49 then max (-4000) (min 4000 (dec 16 c.set)) else (c.set : Int))).getD (s.rail r).target) <
        (mv.toNat : Int))) = false ∧ r ≠ 49) ∧
    (∃ (s : State) (mv : BitVec 16) (r : Fin 50), r = 49 ∧ s.bit .PWR_RAIL_STATUS_ON r = true ∧ (s.rail r).latched = false ∧
        (if isBoot r then (s.rail r).en else (((s.rail r).waiting.map (·.en)).getD (s.rail r).en)) = true ∧
        ((s.rail r).decaying && decide ((((s.rail r).waiting.map (fun c =>
        if r = 49 then max (-4000) (min 4000 (dec 16 c.set)) else (c.set : Int))).getD (s.rail r).target) <
        (mv.toNat : Int))) = false) ∧
    (∃ (s : State) (r : Fin 50) (mv : BitVec 16), s.bit .PWR_RAIL_STATUS_ON r = true ∧ (s.rail r).latched = false ∧
        (if isBoot r then (s.rail r).en else (((s.rail r).waiting.map (·.en)).getD (s.rail r).en)) = true ∧
        ((s.rail r).decaying && decide ((((s.rail r).waiting.map (fun c =>
        if r = 49 then max (-4000) (min 4000 (dec 16 c.set)) else (c.set : Int))).getD (s.rail r).target) <
        (mv.toNat : Int))) = true) ∧
    (∃ (s : State) (r : Fin 50), s.bit .PWR_RAIL_STATUS_ON r = true ∧ (s.rail r).latched = false ∧
        (if isBoot r then (s.rail r).en else (((s.rail r).waiting.map (·.en)).getD (s.rail r).en)) = false) :=
  ⟨⟨powered [] {  }, Fin.ofNat 4 (railHelm 5), 0, aCommand, aCommand.toList.map BitVec.toNat, 5, by decide +kernel⟩,
    ⟨powered [] {  }, 0, 0, aCommand.set 0 6, (aCommand.set 0 6).toList.map BitVec.toNat, by decide +kernel⟩,
    ⟨powered [] { alive := #v[some 3, none] }, Fin.ofNat 4 (railHelm 5), 0, aCommand, aCommand.toList.map BitVec.toNat, 5,
        by decide +kernel⟩,
    ⟨ws [], 0, by decide +kernel⟩,
    ⟨{ ws [] with now := 30 * us }, 2, by decide +kernel⟩,
    ⟨ws [], 2, by decide +kernel⟩,
    ⟨powered [] {  }, by decide +kernel⟩,
    ⟨ws [], by decide +kernel⟩,
    ⟨powered [] { waiting := some ⟨true, false, 800⟩ }, 5, by decide +kernel⟩,
    ⟨powered [] { waiting := some ⟨true, false, 800⟩, latch := some 2 }, 5, by decide +kernel⟩,
    ⟨powered [(.PWR_RAIL_STATUS_ON, 5, 0, 1), (.PWR_RAIL_CFG1_SLEW, 5, 0, 10)] { en := true, target := 800, vset := 700 }, 5,
        700, by decide +kernel⟩,
    ⟨powered [(.PWR_RAIL_STATUS_ON, 5, 0, 1),
        (.PWR_RAIL_STATUS_SOFT_START, 5, 0, 1)] { en := true, target := 800, ssRef := 700, ssRate := 1, first := some 100 },
        5, 700, by decide +kernel⟩,
    ⟨{ packed 2 [(.PWR_RAIL_STATUS_ON, 49, 0, 1)] with pwr := { State.reset.pwr with rails := State.reset.pwr.rails.set 49 { en := true, target := 900 } } },
        0, 49, by decide +kernel⟩,
    ⟨powered [(.PWR_RAIL_STATUS_ON, 5, 0, 1)] { en := true, target := 800, decaying := true }, 5, 801, by decide +kernel⟩,
    ⟨powered [(.PWR_RAIL_STATUS_ON, 5, 0, 1)] { target := 800, vset := 700 }, 5, by decide +kernel⟩⟩

/-- InputStageRunsItsSequence: what its hypotheses ask, clause by clause. -/
theorem witness_inputStageRunsItsSequence :
    (∃ (s : State), s.bit .PWR_IN_STATUS_PRE_DONE = true) ∧
    (∃ (s : State), s.bit .PWR_IN_STATUS_PRE_DONE = false) ∧
    (∃ (s : State), s.pins.limiter = true) ∧
    (∃ (s : State), s.pins.limiter = false) ∧
    (∃ (s : State), s.bit .PWR_IN_STATUS_PRE_DONE = false) ∧
    (∃ (s : State), s.bit .PWR_IN_STATUS_PRE_DONE = true) ∧
    (∃ (s : State), (!s.pins.limiter && !s.pins.presentN && !s.hpl.limiterOff && !s.bit .PWR_IN_PROT_STATUS_OV &&
        !s.bit .PWR_IN_STATUS_PRE_DONE) = true) ∧
    (∃ (s : State), (!s.pins.limiter && !s.pins.presentN && !s.hpl.limiterOff && !s.bit .PWR_IN_PROT_STATUS_OV &&
        !s.bit .PWR_IN_STATUS_PRE_DONE) = false) ∧
    (∃ (s : State) (en : Bool), ({ s with pins := { s.pins with pwrEn := en } } : State).hotSwapMay = true) ∧
    (∃ (s : State) (en : Bool), ({ s with pins := { s.pins with pwrEn := en } } : State).hotSwapMay = false) ∧
    (∃ (s : State), s.bit .PWR_IN_STATUS_HS_ON = true) ∧
    (∃ (s : State), s.bit .PWR_IN_STATUS_HS_ON = false) :=
  ⟨⟨ws [(.PWR_IN_STATUS_PRE_DONE, 0, 0, 1), (.PWR_RAIL_STATUS_IN_REG, 46, 0, 1)], by decide +kernel⟩,
    ⟨ws [], by decide +kernel⟩,
    ⟨ws [], by decide +kernel⟩,
    ⟨{ ws [] with pins := { limiter := false } }, by decide +kernel⟩,
    ⟨ws [], by decide +kernel⟩,
    ⟨ws [(.PWR_IN_STATUS_PRE_DONE, 0, 0, 1)], by decide +kernel⟩,
    ⟨{ ws [] with pins := { limiter := false } }, by decide +kernel⟩,
    ⟨ws [], by decide +kernel⟩,
    ⟨powered [(.PWR_IN_STATUS_PRE_DONE, 0, 0, 1), (.MOD_READY_FWV, 0, 0, 1)] {}, true, by decide +kernel⟩,
    ⟨{ ws [] with pins := { pwrEn := true } }, false, by decide +kernel⟩,
    ⟨ws [(.PWR_IN_STATUS_HS_ON, 0, 0, 1)], by decide +kernel⟩,
    ⟨ws [], by decide +kernel⟩⟩

/-- RailsStartRegulateAndBalance: what its hypotheses ask, clause by clause. -/
theorem witness_railsStartRegulateAndBalance :
    (∃ (s : State) (r : Fin 50) (mv : BitVec 16), s.railMayStart r = true ∧ r ≠ 49 ∧ (mv.toNat : Int) < (s.rail r).target) ∧
    (∃ (s : State) (r : Fin 50) (mv : BitVec 16), s.railMayStart r = true ∧ r ≠ 49 ∧ (s.rail r).target ≤ mv.toNat) ∧
    (∃ (s : State) (r : Fin 50), r = 49 ∧ s.railMayStart r = true) ∧
    (∃ (s : State) (r : Fin 50), s.railMayStart r = false) ∧
    (∃ (s : State) (r : Fin 50), s.bit .PWR_RAIL_STATUS_SOFT_START r = true) ∧
    (∃ (s : State) (r : Fin 50), s.bit .PWR_RAIL_STATUS_SOFT_START r = false) ∧
    (∃ (s : State) (r : Fin 50), s.bit .PWR_RAIL_STATUS_ON r = true ∧ s.bit .PWR_RAIL_STATUS_IN_REG r = false) ∧
    (∃ (s : State) (r : Fin 50), (s.bit .PWR_RAIL_STATUS_ON r = false ∨ s.bit .PWR_RAIL_STATUS_IN_REG r = true)) ∧
    (∃ (s : State) (r : Fin 50) (k : Nat), s.bit .PWR_RAIL_STATUS_IN_REG r = true ∧ railReady r = some k) ∧
    (∃ (s : State) (r : Fin 50), s.bit .PWR_RAIL_STATUS_IN_REG r = true ∧ railReady r = none) ∧
    (∃ (s : State) (r : Fin 50), s.bit .PWR_RAIL_STATUS_IN_REG r = false) ∧
    (∃ (s : State) (r : Fin 50), s.runPhases r ≠ [] ∧ s.railStopped r = false) ∧
    (∃ (s : State) (r : Fin 50), (s.runPhases r = [] ∨ s.railStopped r = true)) ∧
    (∃ (s : State) (r : Fin 50), (s.bit .PWR_RAIL_CTRL_SHED_EN r && decide (railFig r 1 < (s.runPhases r).length) &&
        decide (s.railAmps r / ((s.runPhases r).length : Rat) <
        (s.get .PWR_RAIL_CFG2_SHED_LO r : Rat) / 100 * railRated r) && !(s.rail r).hold && (s.rail r).rampOff.isNone &&
        (s.rail r).braking.isEmpty && !s.railRamp r && !s.bit .PWR_RAIL_STATUS_SOFT_START r && !s.railProtects r) = true) ∧
    (∃ (s : State) (r : Fin 50), (s.bit .PWR_RAIL_CTRL_SHED_EN r && decide (railFig r 1 < (s.runPhases r).length) &&
        decide (s.railAmps r / ((s.runPhases r).length : Rat) <
        (s.get .PWR_RAIL_CFG2_SHED_LO r : Rat) / 100 * railRated r) && !(s.rail r).hold && (s.rail r).rampOff.isNone &&
        (s.rail r).braking.isEmpty && !s.railRamp r && !s.bit .PWR_RAIL_STATUS_SOFT_START r && !s.railProtects r) = false) ∧
    (∃ (s : State) (r : Fin 50), (!(s.runPhases r).isEmpty && !s.railStopped r &&
        decide ((s.get .PWR_RAIL_CFG2_ADD_HI r : Rat) / 100 * railRated r < s.railAmps r / ((s.runPhases r).length : Rat))) =
        true) ∧
    (∃ (s : State) (r : Fin 50), (!(s.runPhases r).isEmpty && !s.railStopped r &&
        decide ((s.get .PWR_RAIL_CFG2_ADD_HI r : Rat) / 100 * railRated r < s.railAmps r / ((s.runPhases r).length : Rat))) =
        false) ∧
    (∃ (s : State) (r : Fin 50) (mv : BitVec 16),
        (s.bit .PWR_RAIL_STATUS_ON r && decide ((mv.toNat : Rat) <
        (1 - (s.get .PWR_RAIL_CFG2_STEP r : Rat) / 200) * (s.rail r).vset) && !s.railStopped r) = true) ∧
    (∃ (s : State) (r : Fin 50) (mv : BitVec 16),
        (s.bit .PWR_RAIL_STATUS_ON r && decide ((mv.toNat : Rat) <
        (1 - (s.get .PWR_RAIL_CFG2_STEP r : Rat) / 200) * (s.rail r).vset) && !s.railStopped r) = false) ∧
    (∃ (s : State) (r : Fin 50) (mv : BitVec 16),
        (r != 49 && s.bit .PWR_RAIL_CTRL_BRAKE_EN r && s.bit .PWR_RAIL_STATUS_ON r &&
        decide ((1 + (s.get .PWR_RAIL_CFG2_BRAKE r : Rat) / 200) * (s.rail r).vset < (mv.toNat : Rat)) &&
        !s.bit .PWR_RAIL_STATUS_SOFT_START r && (s.rail r).braking.isEmpty && !s.railProtects r) = true) ∧
    (∃ (s : State) (r : Fin 50) (mv : BitVec 16),
        (r != 49 && s.bit .PWR_RAIL_CTRL_BRAKE_EN r && s.bit .PWR_RAIL_STATUS_ON r &&
        decide ((1 + (s.get .PWR_RAIL_CFG2_BRAKE r : Rat) / 200) * (s.rail r).vset < (mv.toNat : Rat)) &&
        !s.bit .PWR_RAIL_STATUS_SOFT_START r && (s.rail r).braking.isEmpty && !s.railProtects r) = false) :=
  ⟨⟨powered [(.PWR_RAIL_PROT_CFG_HS_CHECK, 5, 0, 0)] { en := true, target := 800 }, 5, 100, by decide +kernel⟩,
    ⟨powered [(.PWR_RAIL_PROT_CFG_HS_CHECK, 5, 0, 0)] { en := true, target := 800 }, 5, 900, by decide +kernel⟩,
    ⟨{ packed 2 [(.PWR_RAIL_PROT_CFG_HS_CHECK, 49, 0, 0)] with pwr := { State.reset.pwr with rails := State.reset.pwr.rails.set 49 { en := true, target := 900 } } },
        49, by decide +kernel⟩,
    ⟨powered [] {}, 5, by decide +kernel⟩,
    ⟨powered [(.PWR_RAIL_STATUS_SOFT_START, 5, 0, 1)] { target := 800, vset := 790 }, 5, by decide +kernel⟩,
    ⟨powered [] {}, 5, by decide +kernel⟩,
    ⟨powered [(.PWR_RAIL_STATUS_ON, 5, 0, 1)] {}, 5, by decide +kernel⟩,
    ⟨powered [] {}, 5, by decide +kernel⟩,
    ⟨powered [(.PWR_RAIL_STATUS_IN_REG, 5, 0, 1), (.MOD_READY_RG_CORE, 0, 0, 1)] {}, 5, 6, by decide +kernel⟩,
    ⟨powered [(.PWR_RAIL_STATUS_IN_REG, 49, 0, 1)] {}, 49, by decide +kernel⟩,
    ⟨powered [] {}, 5, by decide +kernel⟩,
    ⟨powered [(.PWR_RAIL_STATUS_ON, 5, 0, 1)] {}, 5, by decide +kernel⟩,
    ⟨powered [] {}, 5, by decide +kernel⟩,
    ⟨powered [(.PWR_RAIL_STATUS_ON, 5, 0, 1), (.PWR_RAIL_CTRL_SHED_EN, 5, 0, 1), (.PWR_RAIL_CFG2_SHED_LO, 5, 0, 40),
        (.PWR_RAIL_PH_INFO_TEMP, 5, 2, 70)] {}, 5, by decide +kernel⟩,
    ⟨powered [] {}, 5, by decide +kernel⟩,
    ⟨powered [(.PWR_RAIL_STATUS_ON, 5, 0, 1), (.PWR_RAIL_IOUT_A_X10, 5, 0, 30000),
        (.PWR_RAIL_CFG2_ADD_HI, 5, 0, 60)] { shed := [2, 1] }, 5, by decide +kernel⟩,
    ⟨powered [] {}, 5, by decide +kernel⟩,
    ⟨powered [(.PWR_RAIL_STATUS_ON, 5, 0, 1), (.PWR_RAIL_CFG2_STEP, 5, 0, 4)] { vset := 800, shed := [1] }, 5, 700,
        by decide +kernel⟩,
    ⟨powered [] {}, 5, 100, by decide +kernel⟩,
    ⟨powered [(.PWR_RAIL_STATUS_ON, 5, 0, 1), (.PWR_RAIL_CTRL_BRAKE_EN, 5, 0, 1)] { vset := 800 }, 5, 1000,
        by decide +kernel⟩,
    ⟨powered [] {}, 5, 1000, by decide +kernel⟩⟩

/-- SwitchingFollowsSyncIn: what its hypotheses ask, clause by clause. -/
theorem witness_switchingFollowsSyncIn :
    (∃ (s : State) (k : BitVec 16), (s.bit .PWR_SYNC_CFG_ENABLE && s.get .PWR_SYNC_STATUS_STATE == 0 &&
        decide (3200 ≤ k.toNat) && decide (k.toNat ≤ 6400)) = true) ∧
    (∃ (s : State) (k : BitVec 16), (s.bit .PWR_SYNC_CFG_ENABLE && s.get .PWR_SYNC_STATUS_STATE == 0 &&
        decide (3200 ≤ k.toNat) && decide (k.toNat ≤ 6400)) = false) ∧
    (∃ (s : State), s.get .PWR_SYNC_STATUS_STATE = 1) ∧
    (∃ (s : State), s.get .PWR_SYNC_STATUS_STATE ≠ 1) ∧
    (∃ (s : State), (s.get .PWR_SYNC_STATUS_STATE = 1 ∨ s.get .PWR_SYNC_STATUS_STATE = 2)) ∧
    (∃ (s : State), (s.get .PWR_SYNC_STATUS_STATE = 0 ∨ s.get .PWR_SYNC_STATUS_STATE = 3)) :=
  ⟨⟨ws [(.PWR_SYNC_CFG_ENABLE, 0, 0, 1)], 4800, by decide +kernel⟩,
    ⟨ws [(.PWR_SYNC_CFG_ENABLE, 0, 0, 0)], 4800, by decide +kernel⟩,
    ⟨ws [(.PWR_SYNC_STATUS_STATE, 0, 0, 1)], by decide +kernel⟩,
    ⟨ws [], by decide +kernel⟩,
    ⟨ws [(.PWR_SYNC_STATUS_STATE, 0, 0, 2), (.PWR_SYNC_STATUS_PRESENT, 0, 0, 1)], by decide +kernel⟩,
    ⟨ws [(.PWR_SYNC_STATUS_PRESENT, 0, 0, 1)], by decide +kernel⟩⟩

/-- RailProtectionTripsAndLatches: what its hypotheses ask, clause by clause. -/
theorem witness_railProtectionTripsAndLatches :
    (∃ (s : State) (r : Fin 50), (railFig r 5 == 1 && s.bit .PWR_RAIL_STATUS_ON r &&
        decide (s.get .PWR_RAIL_PROT_CFG_N_LIMIT r ≤ (s.rail r).limited)) = true ∧
        s.get .PWR_RAIL_PROT_STATUS_RETRIES r < s.get .PWR_RAIL_PROT_CFG_RETRY_MAX r) ∧
    (∃ (s : State) (r : Fin 50), (railFig r 5 == 1 && s.bit .PWR_RAIL_STATUS_ON r &&
        decide (s.get .PWR_RAIL_PROT_CFG_N_LIMIT r ≤ (s.rail r).limited)) = true ∧
        s.get .PWR_RAIL_PROT_CFG_RETRY_MAX r ≤ s.get .PWR_RAIL_PROT_STATUS_RETRIES r ∧ (s.rail r).latch = none) ∧
    (∃ (s : State) (r : Fin 50), (railFig r 5 == 1 && s.bit .PWR_RAIL_STATUS_ON r &&
        decide (s.get .PWR_RAIL_PROT_CFG_N_LIMIT r ≤ (s.rail r).limited)) = false) ∧
    (∃ (s : State) (r : Fin 50), s.bit .PWR_RAIL_PROT_STATUS_HICCUP_OFF r = true) ∧
    (∃ (s : State) (r : Fin 50), s.bit .PWR_RAIL_PROT_STATUS_HICCUP_OFF r = false) ∧
    (∃ (s : State) (r : Fin 50), s.bit .PWR_RAIL_STATUS_IN_REG r = true) ∧
    (∃ (s : State) (r : Fin 50), s.bit .PWR_RAIL_STATUS_IN_REG r = false) ∧
    (∃ (s : State) (r : Fin 50) (mv : BitVec 16),
        (railFig r 5 == 0 && s.bit .PWR_RAIL_STATUS_ON r && !(s.rail r).half &&
        decide (2 * (mv.toNat : Int) < (s.rail r).target)) = true ∧ (s.rail r).latch = none) ∧
    (∃ (s : State) (r : Fin 50) (mv : BitVec 16),
        (railFig r 5 == 0 && s.bit .PWR_RAIL_STATUS_ON r && !(s.rail r).half &&
        decide (2 * (mv.toNat : Int) < (s.rail r).target)) = false) ∧
    (∃ (s : State) (r : Fin 50) (mv : BitVec 16),
        (r != 49 && s.bit .PWR_RAIL_STATUS_ON r && !(s.rail r).decaying &&
        decide (s.ovRef r * 115 / 100 < (mv.toNat : Rat))) = true ∧ (s.rail r).latch = none) ∧
    (∃ (s : State) (r : Fin 50) (mv : BitVec 16),
        (r != 49 && s.bit .PWR_RAIL_STATUS_ON r && !(s.rail r).decaying &&
        decide (s.ovRef r * 115 / 100 < (mv.toNat : Rat))) = false) ∧
    (∃ (s : State) (r : Fin 50), (s.bit .PWR_RAIL_PROT_CFG_HS_CHECK r && !isBoot r && (s.rail r).en &&
        !s.bit .PWR_RAIL_STATUS_ON r && !s.railStopped r) = true) ∧
    (∃ (s : State) (r : Fin 50), (s.bit .PWR_RAIL_PROT_CFG_HS_CHECK r && !isBoot r && (s.rail r).en &&
        !s.bit .PWR_RAIL_STATUS_ON r && !s.railStopped r) = true) ∧
    (∃ (s : State) (r : Fin 50), (s.bit .PWR_RAIL_PROT_CFG_HS_CHECK r && !isBoot r && (s.rail r).en &&
        !s.bit .PWR_RAIL_STATUS_ON r && !s.railStopped r) = false) ∧
    (∃ (s : State) (r : Fin 50) (k : Fin 16) (temp : Nat),
        (decide (150 ≤ temp) && decide (k.val < railFig r 0) && !(s.rail r).thermal.contains k.val) = true ∧
        (s.rail r).latched = false ∧ (railFig r 0 - ((s.rail r).thermal.length + 1) < railFig r 1 →
        s.bit .PWR_RAIL_STATUS_ON r = false)) ∧
    (∃ (s : State) (r : Fin 50) (k : Fin 16) (temp : Nat),
        (decide (150 ≤ temp) && decide (k.val < railFig r 0) && !(s.rail r).thermal.contains k.val) = true ∧
        (s.rail r).latched = true) ∧
    (∃ (s : State) (r : Fin 50) (k : Fin 16) (temp : Nat),
        (decide (150 ≤ temp) && decide (k.val < railFig r 0) && !(s.rail r).thermal.contains k.val) = true ∧
        (s.rail r).latched = false ∧ railFig r 0 - ((s.rail r).thermal.length + 1) < railFig r 1 ∧
        s.bit .PWR_RAIL_STATUS_ON r = true) ∧
    (∃ (s : State) (r : Fin 50) (k : Fin 16) (temp : Nat),
        (decide (150 ≤ temp) && decide (k.val < railFig r 0) && !(s.rail r).thermal.contains k.val) = false) ∧
    (∃ (s : State) (r : Fin 50) (k : Fin 16) (temp : Nat), temp ≤ 125 ∧ (s.rail r).thermal.contains k.val = true ∧
        ((s.rail r).thermalOff = false ∨ railFig r 0 - ((s.rail r).thermal.filter (· != k.val)).length < railFig r 1)) ∧
    (∃ (s : State) (r : Fin 50) (k : Fin 16) (temp : Nat), temp ≤ 125 ∧ (s.rail r).thermal.contains k.val = true ∧
        (s.rail r).thermalOff = true ∧ railFig r 1 ≤ railFig r 0 - ((s.rail r).thermal.filter (· != k.val)).length) ∧
    (∃ (s : State) (r : Fin 50) (k : Fin 16) (temp : Nat), (125 < temp ∨ (s.rail r).thermal.contains k.val = false)) ∧
    (∃ (s : State) (r : Fin 50), s.bit .PWR_RAIL_PROT_STATUS_INPUT_LOW r = false) ∧
    (∃ (s : State) (r : Fin 50), s.bit .PWR_RAIL_PROT_STATUS_INPUT_LOW r = true) ∧
    (∃ (s : State) (src : Source) (r : Fin 50) (c : Nat), s.right src = .owner ∧ s.bit .PWR_RAIL_CTRL_EN r = false ∧
        isBoot r = false ∧ (s.rail r).latch = some c) ∧
    (∃ (s : State) (src : Source) (r : Fin 50), s.right src = .owner ∧ s.bit .PWR_RAIL_CTRL_EN r = false ∧ isBoot r = false ∧
        (s.rail r).latch = none) ∧
    (∃ (s : State) (src : Source) (r : Fin 50) (key : BitVec 16), s.right src = .owner ∧
        (key ≠ 0x1A7C#16 ∨ s.bit .PWR_RAIL_CTRL_EN r = true ∨ isBoot r = true)) :=
  ⟨⟨{ ws [(.PWR_RAIL_STATUS_ON, 12, 0, 1), (.PWR_RAIL_PROT_CFG_N_LIMIT, 12, 0, 16), (.PWR_RAIL_PROT_CFG_RETRY_MAX, 12, 0, 3)] with pwr := { State.reset.pwr with rails := State.reset.pwr.rails.set 12 { limited := 16 } } },
        12, by decide +kernel⟩,
    ⟨{ ws [(.PWR_RAIL_STATUS_ON, 12, 0, 1), (.PWR_RAIL_PROT_CFG_N_LIMIT, 12, 0, 16), (.PWR_RAIL_PROT_CFG_RETRY_MAX, 12, 0, 3), (.PWR_RAIL_PROT_STATUS_RETRIES, 12, 0, 3)] with pwr := { State.reset.pwr with rails := State.reset.pwr.rails.set 12 { limited := 16 } } },
        12, by decide +kernel⟩,
    ⟨{ ws [(.PWR_RAIL_STATUS_ON, 12, 0, 1), (.PWR_RAIL_PROT_CFG_N_LIMIT, 12, 0, 16)] with pwr := { State.reset.pwr with rails := State.reset.pwr.rails.set 12 { limited := 15 } } },
        12, by decide +kernel⟩,
    ⟨powered [(.PWR_RAIL_PROT_STATUS_HICCUP_OFF, 5, 0, 1)] { en := true }, 5, by decide +kernel⟩,
    ⟨powered [] {  }, 5, by decide +kernel⟩,
    ⟨powered [(.PWR_RAIL_STATUS_IN_REG, 5, 0, 1), (.PWR_RAIL_PROT_STATUS_RETRIES, 5, 0, 2)] {  }, 5, by decide +kernel⟩,
    ⟨powered [] {  }, 5, by decide +kernel⟩,
    ⟨{ ws [(.PWR_RAIL_STATUS_ON, 5, 0, 1)] with pwr := { State.reset.pwr with rails := State.reset.pwr.rails.set 5 { target := 800, half := false } } },
        5, 300, by decide +kernel⟩,
    ⟨{ ws [(.PWR_RAIL_STATUS_ON, 5, 0, 1)] with pwr := { State.reset.pwr with rails := State.reset.pwr.rails.set 5 { target := 800, half := false } } },
        5, 400, by decide +kernel⟩,
    ⟨powered [(.PWR_RAIL_STATUS_ON, 5, 0, 1)] { vset := 800 }, 5, 921, by decide +kernel⟩,
    ⟨powered [(.PWR_RAIL_STATUS_ON, 5, 0, 1)] { vset := 800 }, 5, 920, by decide +kernel⟩,
    ⟨powered [(.PWR_RAIL_PROT_CFG_HS_CHECK, 5, 0, 1)] { en := true }, 5, by decide +kernel⟩,
    ⟨powered [(.PWR_RAIL_PROT_CFG_HS_CHECK, 5, 0, 1)] { en := true }, 5, by decide +kernel⟩,
    ⟨powered [] {  }, 5, by decide +kernel⟩,
    ⟨powered [(.PWR_RAIL_STATUS_ON, 5, 0, 1)] {  }, 5, 1, 150, by decide +kernel⟩,
    ⟨powered [] { latch := some 2 }, 5, 1, 150, by decide +kernel⟩,
    ⟨powered [(.PWR_RAIL_STATUS_ON, 5, 0, 1),
        (.PWR_RAIL_PROT_CFG_RETRY_MAX, 5, 0, 3)] { thermal := [0, 2, 3, 4, 5, 6, 7, 8, 9, 10, 11, 12, 13, 14, 15] }, 5, 1,
        150, by decide +kernel⟩,
    ⟨powered [(.PWR_RAIL_STATUS_ON, 5, 0, 1)] {  }, 5, 1, 149, by decide +kernel⟩,
    ⟨powered [(.PWR_RAIL_STATUS_ON, 5, 0, 1)] { thermal := [1] }, 5, 1, 125, by decide +kernel, by decide +kernel,
        Or.inl (by decide +kernel)⟩,
    ⟨powered [] { thermal := [1], thermalOff := true }, 5, 1, 125, by decide +kernel⟩,
    ⟨powered [(.PWR_RAIL_STATUS_ON, 5, 0, 1)] { thermal := [1] }, 5, 1, 126, by decide +kernel⟩,
    ⟨powered [(.PWR_RAIL_STATUS_ON, 5, 0, 1)] {  }, 5, by decide +kernel⟩,
    ⟨powered [(.PWR_RAIL_PROT_STATUS_INPUT_LOW, 5, 0, 1)] {  }, 5, by decide +kernel⟩,
    ⟨{ powered [(.PWR_RAIL_PROT_STATUS_RETRIES, 5, 0, 2)] { latch := some 2 } with net := (owned []).net }, .session 1, 5, 2,
        by decide +kernel⟩,
    ⟨{ powered [] {  } with net := (owned []).net }, .session 1, 5, by decide +kernel⟩,
    ⟨{ powered [] { latch := some 2 } with net := (owned []).net }, .session 1, 5, 1, by decide +kernel⟩⟩

/-- InputProtectionAndFaultRecords: what its hypotheses ask, clause by clause. -/
theorem witness_inputProtectionAndFaultRecords :
    (∃ (s : State), s.bit .PWR_IN_PROT_STATUS_UV = false ∧ s.hplState < 5) ∧
    (∃ (s : State), (s.bit .PWR_IN_PROT_STATUS_UV = true ∨ 5 ≤ s.hplState)) ∧
    (∃ (s : State), s.bit .PWR_IN_PROT_STATUS_UV = true) ∧
    (∃ (s : State), s.bit .PWR_IN_PROT_STATUS_UV = false) ∧
    (∃ (s : State), s.bit .PWR_IN_PROT_STATUS_OV = false ∧ s.hplState < 5) ∧
    (∃ (s : State), (s.bit .PWR_IN_PROT_STATUS_OV = true ∨ 5 ≤ s.hplState)) ∧
    (∃ (s : State), s.bit .PWR_IN_PROT_STATUS_OV = true) ∧
    (∃ (s : State), s.bit .PWR_IN_PROT_STATUS_OV = false) ∧
    (∃ (s : State), (s.bit .PWR_IN_PROT_STATUS_RIDING &&
        (s.pwr.uvSince.any (fun a => decide (a + s.get .PWR_IN_PROT_RIDE_MS * ms ≤ s.now)) ||
        decide (s.packEnergy ≤ s.reserve)) && !s.bit .PWR_IN_PROT_STATUS_INPUT_LOST) = true) ∧
    (∃ (s : State), (s.bit .PWR_IN_PROT_STATUS_RIDING &&
        (s.pwr.uvSince.any (fun a => decide (a + s.get .PWR_IN_PROT_RIDE_MS * ms ≤ s.now)) ||
        decide (s.packEnergy ≤ s.reserve)) && !s.bit .PWR_IN_PROT_STATUS_INPUT_LOST) = false) ∧
    (∃ (s : State) (rec : Fin 51) (b : List Nat), s.pwr.recs[rec].writing = some b) ∧
    (∃ (s : State) (rec : Fin 51) (b : List Nat), s.pwr.recs[rec].writing = some b ∧ rec.val < 50) ∧
    (∃ (s : State) (rec : Fin 51) (b : List Nat), s.pwr.recs[rec].writing = some b ∧ rec = 50) ∧
    (∃ (s : State) (rec : Fin 51), s.pwr.recs[rec].writing = none) ∧
    (∃ (s : State) (src : Source), s.right src = .owner) ∧
    (∃ (s : State) (src : Source), s.right src = .owner) ∧
    (∃ (s : State) (src : Source) (key : BitVec 16), s.right src = .owner ∧ key ≠ 0x5EC0#16) :=
  ⟨⟨ws [(.PWR_IN_STATUS_HS_ON, 0, 0, 1), (.MOD_READY_BWR, 0, 0, 1)], by decide +kernel⟩,
    ⟨ws [(.HPL_STATE_STATE, 0, 0, 5)], by decide +kernel⟩,
    ⟨ws [(.PWR_IN_PROT_STATUS_UV, 0, 0, 1), (.PWR_IN_PROT_STATUS_RIDING, 0, 0, 1)], by decide +kernel⟩,
    ⟨ws [], by decide +kernel⟩,
    ⟨ws [(.PWR_IN_STATUS_HS_ON, 0, 0, 1), (.MOD_READY_BWR, 0, 0, 1)], by decide +kernel⟩,
    ⟨ws [(.HPL_STATE_STATE, 0, 0, 5)], by decide +kernel⟩,
    ⟨{ ws [(.PWR_IN_PROT_STATUS_OV, 0, 0, 1), (.PWR_IN_PROT_STATUS_RIDING, 0, 0, 1)] with pins := { limiter := false } },
        by decide +kernel⟩,
    ⟨ws [], by decide +kernel⟩,
    ⟨{ ws [(.PWR_IN_PROT_STATUS_RIDING, 0, 0, 1)] with pwr := { State.reset.pwr with uvSince := some 0 } },
        by decide +kernel⟩,
    ⟨ws [], by decide +kernel⟩,
    ⟨recording, 5, List.replicate 64 7, by decide +kernel⟩,
    ⟨recording, 5, List.replicate 64 7, by decide +kernel⟩,
    ⟨{ owned [] with pwr := { State.reset.pwr with recs := State.reset.pwr.recs.set 50 { writing := some (List.replicate 64 7) } } },
        50, List.replicate 64 7, by decide +kernel⟩,
    ⟨ws [], 5, by decide +kernel⟩,
    ⟨recorded, .session 1, by decide +kernel⟩,
    ⟨recorded, .session 1, by decide +kernel⟩,
    ⟨recorded, .session 1, 3, by decide +kernel⟩⟩

/-- BreakwaterIsolatesAnchorsAndBallasts: what its hypotheses ask, clause by clause. -/
theorem witness_breakwaterIsolatesAnchorsAndBallasts :
    (∃ (s : State), (s.iso == 0 && s.isoBase && s.isoFree) = true ∧ s.isoMay = true ∧ s.bwr.retryAt ≤ s.now ∧
        (s.rail 49).latched = false) ∧
    (∃ (s : State), (s.iso == 0 && s.isoBase && s.isoFree) = true ∧ s.isoMay = false ∧ s.bwr.refusedPack = false) ∧
    (∃ (s : State), (!(s.iso == 0 && s.isoBase && s.isoFree) || (!s.isoMay && s.bwr.refusedPack) ||
        (s.isoMay && (decide (s.now < s.bwr.retryAt) || (s.rail 49).latched))) = true) ∧
    (∃ (s : State) (mv : BitVec 16), (s.iso == 1 && decide (((mv.toNat : Int) - s.get .CEL_STACK_MV).natAbs ≤ 500) &&
        s.isoMay && s.isoFree) = true) ∧
    (∃ (s : State) (mv : BitVec 16), (s.iso == 1 && decide (((mv.toNat : Int) - s.get .CEL_STACK_MV).natAbs ≤ 500) &&
        s.isoMay && s.isoFree) = false) ∧
    (∃ (s : State), s.iso = 1) ∧
    (∃ (s : State), s.iso ≠ 1) ∧
    (∃ (s : State) (n : BitVec 16) (p : BitVec 16),
        (s.bit .PWR_RAIL_STATUS_ON 49 && (decide (58000 < n.toNat) ||
        (decide (s.cells ≠ 0) && decide (s.cells * 3900 < p.toNat)))) = true ∧ (s.rail 49).latch = none) ∧
    (∃ (s : State) (n : BitVec 16) (p : BitVec 16),
        (s.bit .PWR_RAIL_STATUS_ON 49 && (decide (58000 < n.toNat) ||
        (decide (s.cells ≠ 0) && decide (s.cells * 3900 < p.toNat)))) = false) ∧
    (∃ (s : State), (s.bit .BWR_STATUS_REGULATING || s.ready rBWR) = true) ∧
    (∃ (s : State), (s.bit .BWR_STATUS_REGULATING || s.ready rBWR) = false) ∧
    (∃ (s : State) (d : Fin 8) (n : BitVec 32) (a : Nat),
        (s.get .BWR_TIDE_CFG_SRC_DIE == d.val && n.toNat % s.get .BWR_TIDE_CFG_STEP_DIV == 0 && s.bit .BWR_TIDE_CFG_ENABLE) =
        true ∧ s.bwr.lastAnchor = some a) ∧
    (∃ (s : State) (d : Fin 8) (n : BitVec 32),
        (s.get .BWR_TIDE_CFG_SRC_DIE == d.val && n.toNat % s.get .BWR_TIDE_CFG_STEP_DIV == 0 && s.bit .BWR_TIDE_CFG_ENABLE) =
        true ∧ s.bwr.lastAnchor = none) ∧
    (∃ (s : State) (d : Fin 8) (n : BitVec 32),
        (s.get .BWR_TIDE_CFG_SRC_DIE == d.val && n.toNat % s.get .BWR_TIDE_CFG_STEP_DIV == 0 && s.bit .BWR_TIDE_CFG_ENABLE) =
        false) ∧
    (∃ (s : State), s.tideLocked = true) ∧
    (∃ (s : State), s.tideLocked = false) ∧
    (∃ (s : State) (d : Fin 8) (g : Fin 128),
        (decide (256 ≤ (s.die d).waitStall) && s.gangBallast d g && s.ballastMay && !(s.die d).ballast.contains g.val) = true) ∧
    (∃ (s : State) (d : Fin 8) (g : Fin 128),
        (decide (256 ≤ (s.die d).waitStall) && s.gangBallast d g && s.ballastMay && !(s.die d).ballast.contains g.val) =
        false) :=
  ⟨⟨packed 0 [], by decide +kernel⟩,
    ⟨packed 0 [] |>.set .BWR_PACK_CELL_F 1, by decide +kernel⟩,
    ⟨packed 2 [], by decide +kernel⟩,
    ⟨packed 1 [], 36400, by decide +kernel⟩,
    ⟨packed 1 [], 36501, by decide +kernel⟩,
    ⟨packed 1 [], by decide +kernel⟩,
    ⟨packed 2 [], by decide +kernel⟩,
    ⟨packed 2 [(.PWR_RAIL_STATUS_ON, 49, 0, 1)], 58001, 40000, by decide +kernel⟩,
    ⟨packed 2 [(.PWR_RAIL_STATUS_ON, 49, 0, 1)], 58000, 46800, by decide +kernel⟩,
    ⟨packed 2 [(.MOD_READY_BWR, 0, 0, 1), (.BWR_BWC_CMD_W, 0, 0, 9), (.BWR_PIN_SET_W, 0, 0, 9)], by decide +kernel⟩,
    ⟨packed 2 [], by decide +kernel⟩,
    ⟨{ ws [(.BWR_TIDE_CFG_STEP_DIV, 0, 0, 4), (.BWR_TIDE_CFG_ENABLE, 0, 0, 1)] with now := 50 * ms, bwr := { State.reset.bwr with lastAnchor := some (30 * ms), anchors := List.replicate 7 (20 * ms) } },
        0, 8, 30 * ms, by decide +kernel⟩,
    ⟨ws [(.BWR_TIDE_CFG_STEP_DIV, 0, 0, 4), (.BWR_TIDE_CFG_ENABLE, 0, 0, 1)], 0, 8, by decide +kernel⟩,
    ⟨ws [], 3, 8, by decide +kernel⟩,
    ⟨ws [(.BWR_TIDE_STATUS_LOCKED, 0, 0, 1)], by decide +kernel⟩,
    ⟨ws [], by decide +kernel⟩,
    ⟨idling, 0, 0, by decide +kernel⟩,
    ⟨ws [], 0, 0, by decide +kernel⟩⟩

/-- BreakwaterLoopsRunTheirLaws: what its hypotheses ask, clause by clause. -/
theorem witness_breakwaterLoopsRunTheirLaws :
    (∃ (s : State) (m : LoopSample) (n : Snap), s.samples 0 m n = true ∧ (s.loop 0).first = false ∧
        s.bit .CTE_LOOP_STATE_RAMP 0 0 = false) ∧
    (∃ (s : State) (m : LoopSample) (n : Snap), s.samples 0 m n = true) ∧
    (∃ (s : State) (m : LoopSample) (n : Snap), s.staysHeld 0 m n = true) ∧
    (∃ (s : State) (m : LoopSample) (n : Snap), s.samples 1 m n = true) ∧
    (∃ (s : State) (m : LoopSample) (n : Snap), s.staysHeld 1 m n = true) ∧
    (∃ (s : State) (m : LoopSample) (n : Snap), s.samples 4 m n = true ∧
        ((s.viewOf n).riding || decide (5 ≤ (s.viewOf n).get .HPL_STATE_STATE)) = true) ∧
    (∃ (s : State) (m : LoopSample) (n : Snap), s.samples 4 m n = true ∧
        ((s.viewOf n).riding || decide (5 ≤ (s.viewOf n).get .HPL_STATE_STATE)) = false ∧
        ((s.viewOf n).iso != 2 || !(s.viewOf n).bit .BWR_STATUS_REGULATING) = true) ∧
    (∃ (s : State) (m : LoopSample) (n : Snap), s.samples 4 m n = true ∧
        ((s.viewOf n).riding || decide (5 ≤ (s.viewOf n).get .HPL_STATE_STATE)) = false ∧
        ((s.viewOf n).iso != 2 || !(s.viewOf n).bit .BWR_STATUS_REGULATING) = false ∧ (s.loop 4).first = false ∧
        (s.viewOf n).outs.rebase = false ∧ (s.viewOf n).outs.capEff < s.outs.pset) ∧
    (∃ (s : State) (m : LoopSample) (n : Snap), s.samples 4 m n = true ∧
        ((s.viewOf n).riding || decide (5 ≤ (s.viewOf n).get .HPL_STATE_STATE)) = false ∧
        ((s.viewOf n).iso != 2 || !(s.viewOf n).bit .BWR_STATUS_REGULATING) = false ∧ (s.loop 4).first = false ∧
        (s.viewOf n).outs.rebase = false ∧ s.outs.pset ≤ (s.viewOf n).outs.capEff ∧ (s.viewOf n).tideLocked = false) ∧
    (∃ (s : State) (m : LoopSample) (n : Snap), s.staysHeld 4 m n = true) ∧
    (∃ (s : State) (m : LoopSample) (n : Snap), s.samples 7 m n = true ∧
        (s.viewOf n).outs.capEff + (s.viewOf n).outs.pDis < (s.viewOf n).demand) ∧
    (∃ (s : State) (m : LoopSample) (n : Snap), s.samples 7 m n = true ∧
        (s.viewOf n).demand < (s.viewOf n).outs.capEff + (s.viewOf n).outs.pDis - (s.viewOf n).outs.capEff / 20 ∧
        s.bwr.dutyAt + 10 * ms ≤ s.now ∧ s.bwr.duty < 8) ∧
    (∃ (s : State) (m : LoopSample) (n : Snap), s.samples 7 m n = true ∧
        ((s.viewOf n).demand ≤ (s.viewOf n).outs.capEff + (s.viewOf n).outs.pDis ∧
        (8 = s.bwr.duty ∨ (s.viewOf n).outs.capEff + (s.viewOf n).outs.pDis - (s.viewOf n).outs.capEff / 20 ≤
        (s.viewOf n).demand ∨ s.now < s.bwr.dutyAt + 10 * ms))) ∧
    (∃ (s : State) (m : LoopSample) (n : Snap), s.staysHeld 7 m n = true) :=
  ⟨⟨sampling 0 1 (loopRun 0 (packed 2 [])), ⟨400, 0x3F800000#32, 0x40000000#32, false⟩,
        ((sampling 0 1 (loopRun 0 (packed 2 []))).cte.snaps.headD ⟨0, [], State.reset.outs, {}, 0⟩), by decide +kernel⟩,
    ⟨sampling 0 1 (packed 2 []), ⟨400, 0x3F800000#32, 0x40000000#32, false⟩,
        ((sampling 0 1 (packed 2 [])).cte.snaps.headD ⟨0, [], State.reset.outs, {}, 0⟩), by decide +kernel⟩,
    ⟨sampling 0 2 (packed 2 []), ⟨400, 0x3F800000#32, 0x40000000#32, false⟩,
        ((sampling 0 2 (packed 2 [])).cte.snaps.headD ⟨0, [], State.reset.outs, {}, 0⟩), by decide +kernel⟩,
    ⟨sampling 1 1 (packed 2 []), ⟨400, 0x3F800000#32, 0x40000000#32, false⟩,
        ((sampling 1 1 (packed 2 [])).cte.snaps.headD ⟨0, [], State.reset.outs, {}, 0⟩), by decide +kernel⟩,
    ⟨sampling 1 2 (packed 2 []), ⟨400, 0x3F800000#32, 0x40000000#32, false⟩,
        ((sampling 1 2 (packed 2 [])).cte.snaps.headD ⟨0, [], State.reset.outs, {}, 0⟩), by decide +kernel⟩,
    ⟨sampling 4 1 ({ packed 2 [(.HPL_STATE_STATE, 0, 0, 5)] with hpl := { State.reset.hpl with noHoldup := true } }),
        ⟨400, 0x3F800000#32, 0x40000000#32, false⟩,
        ((sampling 4 1 ({ packed 2 [(.HPL_STATE_STATE, 0, 0, 5)] with hpl := { State.reset.hpl with noHoldup := true } })).cte.snaps.headD
        ⟨0, [], State.reset.outs, {}, 0⟩), by decide +kernel⟩,
    ⟨sampling 4 1 (packed 0 []), ⟨400, 0x3F800000#32, 0x40000000#32, false⟩,
        ((sampling 4 1 (packed 0 [])).cte.snaps.headD ⟨0, [], State.reset.outs, {}, 0⟩), by decide +kernel⟩,
    ⟨sampling 4 1 ({ paced with outs := { paced.outs with pset := 2000 } }), ⟨400, 0x3F800000#32, 0x40000000#32, false⟩,
        ((sampling 4 1 ({ paced with outs := { paced.outs with pset := 2000 } })).cte.snaps.headD ⟨0, [], State.reset.outs,
        {}, 0⟩), by decide +kernel⟩,
    ⟨sampling 4 1 (paced), ⟨400, 0x3F800000#32, 0x40000000#32, false⟩,
        ((sampling 4 1 (paced)).cte.snaps.headD ⟨0, [], State.reset.outs, {}, 0⟩), by decide +kernel⟩,
    ⟨sampling 4 2 (packed 2 []), ⟨400, 0x3F800000#32, 0x40000000#32, false⟩,
        ((sampling 4 2 (packed 2 [])).cte.snaps.headD ⟨0, [], State.reset.outs, {}, 0⟩), by decide +kernel⟩,
    ⟨sampling 7 1 ({ short with berths := State.reset.berths.set 0 { desc := some aDesc } }),
        ⟨400, 0x3F800000#32, 0x40000000#32, false⟩,
        ((sampling 7 1 ({ short with berths := State.reset.berths.set 0 { desc := some aDesc } })).cte.snaps.headD ⟨0, [],
        State.reset.outs, {}, 0⟩), by decide +kernel⟩,
    ⟨sampling 7 1 ({ packed 2 [] with now := 20 * ms, bwr := { State.reset.bwr with duty := 5 }, outs := { State.reset.outs with capEff := 1000 } }),
        ⟨400, 0x3F800000#32, 0x40000000#32, false⟩,
        ((sampling 7 1 ({ packed 2 [] with now := 20 * ms, bwr := { State.reset.bwr with duty := 5 }, outs := { State.reset.outs with capEff := 1000 } })).cte.snaps.headD
        ⟨0, [], State.reset.outs, {}, 0⟩), by decide +kernel⟩,
    ⟨sampling 7 1 (packed 2 []), ⟨400, 0x3F800000#32, 0x40000000#32, false⟩,
        ((sampling 7 1 (packed 2 [])).cte.snaps.headD ⟨0, [], State.reset.outs, {}, 0⟩), by decide +kernel⟩,
    ⟨sampling 7 2 (packed 2 []), ⟨400, 0x3F800000#32, 0x40000000#32, false⟩,
        ((sampling 7 2 (packed 2 [])).cte.snaps.headD ⟨0, [], State.reset.outs, {}, 0⟩), by decide +kernel⟩⟩

/-- TideBallastAndLimitLoopsRunTheirLaws: what its hypotheses ask, clause by clause. -/
theorem witness_tideBallastAndLimitLoopsRunTheirLaws :
    (∃ (s : State) (m : LoopSample) (n : Snap), s.samples 5 m n = true ∧
        ((s.viewOf n).tideLocked && (s.viewOf n).bit .BWR_TIDE_CFG_ENABLE) = false) ∧
    (∃ (s : State) (m : LoopSample) (n : Snap), s.samples 5 m n = true ∧
        ((s.viewOf n).tideLocked && (s.viewOf n).bit .BWR_TIDE_CFG_ENABLE) = true) ∧
    (∃ (s : State) (m : LoopSample) (n : Snap), s.staysHeld 5 m n = true) ∧
    (∃ (s : State) (m : LoopSample) (n : Snap), s.samples 6 m n = true ∧ (s.viewOf n).ballastMay = false) ∧
    (∃ (s : State) (m : LoopSample) (n : Snap), s.samples 6 m n = true ∧
        ((s.viewOf n).ballastMay = false ∧ (∀ d : Fin 8, (s.die d).ballast = []) ∧ (s.viewOf n).get .BWR_FLOOR_W = 0)) ∧
    (∃ (s : State) (m : LoopSample) (n : Snap), s.samples 6 m n = true ∧ (s.viewOf n).ballastMay = true ∧
        (s.viewOf n).demand + (s.viewOf n).outs.pChg < (((s.viewOf n).get .BWR_FLOOR_W : Nat) : Rat) ∧ s.bwr.rotate < 8) ∧
    (∃ (s : State) (m : LoopSample) (n : Snap), s.samples 6 m n = true ∧ (s.viewOf n).ballastMay = true ∧
        (((s.viewOf n).get .BWR_FLOOR_W : Nat) : Rat) < (s.viewOf n).demand + (s.viewOf n).outs.pChg ∧ s.bwr.rotate < 8) ∧
    (∃ (s : State) (m : LoopSample) (n : Snap), s.staysHeld 6 m n = true) ∧
    (∃ (s : State) (m : LoopSample) (n : Snap), s.samples 12 m n = true) ∧
    (∃ (s : State) (m : LoopSample) (n : Snap), s.samples 12 m n = true ∧ (s.viewOf n).iso ≠ 2) ∧
    (∃ (s : State) (m : LoopSample) (n : Snap), s.samples 12 m n = true ∧ (s.viewOf n).bit .BWR_STATUS_RECOVERY = true) ∧
    (∃ (s : State) (m : LoopSample) (n : Snap), s.staysHeld 12 m n = true) ∧
    (∃ (s : State) (m : LoopSample) (n : Snap), s.samples 16 m n = true) ∧
    (∃ (s : State) (m : LoopSample) (n : Snap), s.staysHeld 16 m n = true) :=
  ⟨⟨sampling 5 1 (packed 2 []), ⟨400, 0x3F800000#32, 0x40000000#32, false⟩,
        ((sampling 5 1 (packed 2 [])).cte.snaps.headD ⟨0, [], State.reset.outs, {}, 0⟩), by decide +kernel⟩,
    ⟨sampling 5 1 (tideOn (packed 2 [(.BWR_TIDE_STATUS_LOCKED, 0, 0, 1), (.BWR_TIDE_CFG_ENABLE, 0, 0, 1),
        (.PWR_IN_V_NODE_MV, 0, 0, 50000), (.PWR_IN_I_A_X100, 0, 0, 10000)])), ⟨400, 0x3F800000#32, 0x40000000#32, false⟩,
        ((sampling 5 1 (tideOn (packed 2 [(.BWR_TIDE_STATUS_LOCKED, 0, 0, 1), (.BWR_TIDE_CFG_ENABLE, 0, 0, 1),
        (.PWR_IN_V_NODE_MV, 0, 0, 50000), (.PWR_IN_I_A_X100, 0, 0, 10000)]))).cte.snaps.headD ⟨0, [], State.reset.outs, {},
        0⟩), by decide +kernel⟩,
    ⟨sampling 5 2 (tideOn (packed 2 [(.BWR_TIDE_STATUS_LOCKED, 0, 0, 1), (.BWR_TIDE_CFG_ENABLE, 0, 0, 1),
        (.PWR_IN_V_NODE_MV, 0, 0, 50000), (.PWR_IN_I_A_X100, 0, 0, 10000)])), ⟨400, 0x3F800000#32, 0x40000000#32, false⟩,
        ((sampling 5 2 (tideOn (packed 2 [(.BWR_TIDE_STATUS_LOCKED, 0, 0, 1), (.BWR_TIDE_CFG_ENABLE, 0, 0, 1),
        (.PWR_IN_V_NODE_MV, 0, 0, 50000), (.PWR_IN_I_A_X100, 0, 0, 10000)]))).cte.snaps.headD ⟨0, [], State.reset.outs, {},
        0⟩), by decide +kernel⟩,
    ⟨sampling 6 1 ({ packed 2 [] with dies := State.reset.dies.set 2 { ballast := [3] } }),
        ⟨400, 0x3F800000#32, 0x40000000#32, false⟩,
        ((sampling 6 1 ({ packed 2 [] with dies := State.reset.dies.set 2 { ballast := [3] } })).cte.snaps.headD ⟨0, [],
        State.reset.outs, {}, 0⟩), by decide +kernel⟩,
    ⟨sampling 6 1 (packed 2 []), ⟨400, 0x3F800000#32, 0x40000000#32, false⟩,
        ((sampling 6 1 (packed 2 [])).cte.snaps.headD ⟨0, [], State.reset.outs, {}, 0⟩), by decide +kernel⟩,
    ⟨sampling 6 1 (idling), ⟨400, 0x3F800000#32, 0x40000000#32, false⟩,
        ((sampling 6 1 (idling)).cte.snaps.headD ⟨0, [], State.reset.outs, {}, 0⟩), by decide +kernel⟩,
    ⟨sampling 6 1 ({ idling with outs := { idling.outs with pChg := 4000 }, dies := idling.dies.set 0 { (idling.die 0) with ballast := [0] } }),
        ⟨400, 0x3F800000#32, 0x40000000#32, false⟩,
        ((sampling 6 1 ({ idling with outs := { idling.outs with pChg := 4000 }, dies := idling.dies.set 0 { (idling.die 0) with ballast := [0] } })).cte.snaps.headD
        ⟨0, [], State.reset.outs, {}, 0⟩), by decide +kernel⟩,
    ⟨sampling 6 2 ({ packed 2 [(.BWR_STATUS_BALLAST, 0, 0, 1)] with dies := State.reset.dies.set 2 { ballast := [3] } }),
        ⟨400, 0x3F800000#32, 0x40000000#32, false⟩,
        ((sampling 6 2 ({ packed 2 [(.BWR_STATUS_BALLAST, 0, 0, 1)] with dies := State.reset.dies.set 2 { ballast := [3] } })).cte.snaps.headD
        ⟨0, [], State.reset.outs, {}, 0⟩), by decide +kernel⟩,
    ⟨sampling 12 1 (packed 2 []), ⟨400, 0x3F800000#32, 0x40000000#32, false⟩,
        ((sampling 12 1 (packed 2 [])).cte.snaps.headD ⟨0, [], State.reset.outs, {}, 0⟩), by decide +kernel⟩,
    ⟨sampling 12 1 (packed 0 []), ⟨400, 0x3F800000#32, 0x40000000#32, false⟩,
        ((sampling 12 1 (packed 0 [])).cte.snaps.headD ⟨0, [], State.reset.outs, {}, 0⟩), by decide +kernel⟩,
    ⟨sampling 12 1 (packed 2 [(.BWR_STATUS_RECOVERY, 0, 0, 1)]), ⟨400, 0x3F800000#32, 0x40000000#32, false⟩,
        ((sampling 12 1 (packed 2 [(.BWR_STATUS_RECOVERY, 0, 0, 1)])).cte.snaps.headD ⟨0, [], State.reset.outs, {}, 0⟩),
        by decide +kernel⟩,
    ⟨sampling 12 2 (packed 2 []), ⟨400, 0x3F800000#32, 0x40000000#32, false⟩,
        ((sampling 12 2 (packed 2 [])).cte.snaps.headD ⟨0, [], State.reset.outs, {}, 0⟩), by decide +kernel⟩,
    ⟨sampling 16 1 (packed 2 []), ⟨400, 0x3F800000#32, 0x40000000#32, false⟩,
        ((sampling 16 1 (packed 2 [])).cte.snaps.headD ⟨0, [], State.reset.outs, {}, 0⟩), by decide +kernel⟩,
    ⟨sampling 16 2 (packed 2 []), ⟨400, 0x3F800000#32, 0x40000000#32, false⟩,
        ((sampling 16 2 (packed 2 [])).cte.snaps.headD ⟨0, [], State.reset.outs, {}, 0⟩), by decide +kernel⟩⟩

/-- CappingLoopsRunTheirLaws: what its hypotheses ask, clause by clause. -/
theorem witness_cappingLoopsRunTheirLaws :
    (∃ (s : State) (m : LoopSample) (n : Snap), s.samples 3 m n = true) ∧
    (∃ (s : State) (m : LoopSample) (n : Snap), s.samples 13 m n = true) ∧
    (∃ (s : State) (m : LoopSample) (n : Snap), s.samples 14 m n = true) ∧
    (∃ (s : State) (m : LoopSample) (n : Snap), s.samples 14 m n = true ∧
        ((∀ d : Fin 8, (s.viewOf n).dieHot d 760 = false) ∧ (∀ b : Fin 8, (s.berth b).desc = none))) ∧
    (∃ (s : State) (m : LoopSample) (n : Snap), s.samples 15 m n = true) ∧
    (∃ (s : State) (m : LoopSample) (n : Snap) (b : Fin 8) (e : Fin 8 × Rat), s.samples 15 m n = true ∧
        (s.berth b).desc ≠ none ∧ (State.shares (s.viewOf n) (State.takeMeans (s.viewOf n) s)).find? (fun e => e.1 == b) =
        some e) ∧
    (∃ (s : State) (m : LoopSample) (n : Snap), s.samples 17 m n = true ∧ (s.viewOf n).pins.tinFailed = false) ∧
    (∃ (s : State) (m : LoopSample) (n : Snap), s.samples 17 m n = true ∧ (s.viewOf n).pins.tinFailed = true) ∧
    (∃ (s : State) (m : LoopSample) (n : Snap), s.samples 17 m n = true ∧ s.cap.coolDerate = true ∧ s.cap.inletHot = true) ∧
    (∃ (s : State) (m : LoopSample) (n : Snap), s.samples 20 m n = true ∧ s.cap.measured = 0 ∧ s.cap.measuring = 0) ∧
    (∃ (s : State) (m : LoopSample) (n : Snap), s.samples 20 m n = true ∧ s.cap.measured = 0 ∧ s.cap.measuring = 255) ∧
    (∃ (s : State) (m : LoopSample) (n : Snap), s.samples 20 m n = true ∧ s.cap.measured ≠ 0) :=
  ⟨⟨sampling 3 1 (packed 2 []), ⟨400, 0x3F800000#32, 0x40000000#32, false⟩,
        ((sampling 3 1 (packed 2 [])).cte.snaps.headD ⟨0, [], State.reset.outs, {}, 0⟩), by decide +kernel⟩,
    ⟨sampling 13 1 (packed 2 []), ⟨400, 0x3F800000#32, 0x40000000#32, false⟩,
        ((sampling 13 1 (packed 2 [])).cte.snaps.headD ⟨0, [], State.reset.outs, {}, 0⟩), by decide +kernel⟩,
    ⟨sampling 14 1 ({ packed 2 [(.CDC_TEMP_TEMP, 0, 3, 800)] with berths := berthed.berths, dies := berthed.dies }),
        ⟨400, 0x3F800000#32, 0x40000000#32, false⟩,
        ((sampling 14 1 ({ packed 2 [(.CDC_TEMP_TEMP, 0, 3, 800)] with berths := berthed.berths, dies := berthed.dies })).cte.snaps.headD
        ⟨0, [], State.reset.outs, {}, 0⟩), by decide +kernel⟩,
    ⟨sampling 14 1 (packed 2 []), ⟨400, 0x3F800000#32, 0x40000000#32, false⟩,
        ((sampling 14 1 (packed 2 [])).cte.snaps.headD ⟨0, [], State.reset.outs, {}, 0⟩), by decide +kernel⟩,
    ⟨sampling 15 1 (packed 2 []), ⟨400, 0x3F800000#32, 0x40000000#32, false⟩,
        ((sampling 15 1 (packed 2 [])).cte.snaps.headD ⟨0, [], State.reset.outs, {}, 0⟩), by decide +kernel⟩,
    ⟨sampling 15 1 (sharing), ⟨400, 0x3F800000#32, 0x40000000#32, false⟩,
        ((sampling 15 1 (sharing)).cte.snaps.headD ⟨0, [], State.reset.outs, {}, 0⟩), 0, (0, 0), by decide +kernel⟩,
    ⟨sampling 17 1 (packed 2 []), ⟨400, 0x3F800000#32, 0x40000000#32, false⟩,
        ((sampling 17 1 (packed 2 [])).cte.snaps.headD ⟨0, [], State.reset.outs, {}, 0⟩), by decide +kernel⟩,
    ⟨sampling 17 1 ({ packed 2 [] with pins := { tinFailed := true } }), ⟨400, 0x3F800000#32, 0x40000000#32, false⟩,
        ((sampling 17 1 ({ packed 2 [] with pins := { tinFailed := true } })).cte.snaps.headD ⟨0, [], State.reset.outs, {},
        0⟩), by decide +kernel⟩,
    ⟨sampling 17 1 ({ packed 2 [] with cap := { State.reset.cap with coolDerate := true, inletHot := true } }),
        ⟨400, 0x3F800000#32, 0x40000000#32, false⟩,
        ((sampling 17 1 ({ packed 2 [] with cap := { State.reset.cap with coolDerate := true, inletHot := true } })).cte.snaps.headD
        ⟨0, [], State.reset.outs, {}, 0⟩), by decide +kernel⟩,
    ⟨sampling 20 1 (packed 2 [(.RST_IN_RESET_STATE, 0, 0, 0x300)]), ⟨400, 0x3F800000#32, 0x40000000#32, false⟩,
        ((sampling 20 1 (packed 2 [(.RST_IN_RESET_STATE, 0, 0, 0x300)])).cte.snaps.headD ⟨0, [], State.reset.outs, {}, 0⟩),
        by decide +kernel⟩,
    ⟨sampling 20 1 ({ packed 2 [] with now := 90000 * second, cap := { State.reset.cap with measuring := 255, overdue := 1 } }),
        ⟨400, 0x3F800000#32, 0x40000000#32, false⟩,
        ((sampling 20 1 ({ packed 2 [] with now := 90000 * second, cap := { State.reset.cap with measuring := 255, overdue := 1 } })).cte.snaps.headD
        ⟨0, [], State.reset.outs, {}, 0⟩), by decide +kernel⟩,
    ⟨sampling 20 1 ({ packed 2 [] with cap := { State.reset.cap with measured := 5 } }),
        ⟨400, 0x3F800000#32, 0x40000000#32, false⟩,
        ((sampling 20 1 ({ packed 2 [] with cap := { State.reset.cap with measured := 5 } })).cte.snaps.headD ⟨0, [],
        State.reset.outs, {}, 0⟩), by decide +kernel⟩⟩

/-- LoopsAreScheduledHeldAndResumed: what its hypotheses ask, clause by clause. -/
theorem witness_loopsAreScheduledHeldAndResumed :
    (∃ (s : State), s.engineUp = true ∧ (∀ d : Fin 8, (s.die d).events = []) ∧ s.cte.commit = none ∧ s.cte.ready = [] ∧
        s.cte.snaps = []) ∧
    (∃ (s : State), s.engineUp = true) ∧
    (∃ (s : State), s.engineUp = false) ∧
    (∃ (s : State) (c : Instr) (i : Fin 32) (m : LoopSample), loopOf c = some (i.val, m) ∧
        s.cte.snaps.any (fun x => x.loop == i.val) = false) ∧
    (∃ (s : State) (c : Instr) (i : Fin 32) (m : LoopSample) (n : Snap), loopOf c = some (i.val, m) ∧
        s.cte.snaps.find? (fun x => x.loop == i.val) = some n ∧ s.deadline i < m.delay ∧ s.get .CTE_LOOP_STATE_CONSEC 0 i < 2) ∧
    (∃ (s : State) (i : Fin 32), s.cte.ready.contains i.val = true ∧ s.get .CTE_LOOP_STATE_CONSEC 0 i < 2) ∧
    (∃ (s : State) (i : Fin 32), s.cte.ready.contains i.val = true ∧ s.get .CTE_LOOP_STATE_CONSEC 0 i = 2 ∧
        s.loopModeOf i = 1) ∧
    (∃ (s : State) (i : Fin 32), s.cte.ready.contains i.val = true ∧ s.get .CTE_LOOP_STATE_CONSEC 0 i = 3) ∧
    (∃ (s : State) (i : Fin 32), s.cte.ready.contains i.val = false) ∧
    (∃ (s : State) (c : Instr) (i : Fin 32) (m : LoopSample) (n : Snap), loopOf c = some (i.val, m) ∧ s.inTime i m n = true ∧
        s.loopModeOf i = 1 ∧ m.stale = true) ∧
    (∃ (s : State) (c : Instr) (i : Fin 32) (m : LoopSample) (n : Snap), loopOf c = some (i.val, m) ∧ s.inTime i m n = true ∧
        s.loopModeOf i = 1 ∧ m.stale = false ∧ i.val ≠ 31 ∧ ((s.dropReady i).residual (s.viewOf n) i m).2 = true ∧
        (s.viewOf n).plausN i ≤ (s.loop i).above + 1) ∧
    (∃ (s : State) (c : Instr) (i : Fin 32) (m : LoopSample) (n : Snap), loopOf c = some (i.val, m) ∧ s.inTime i m n = true ∧
        s.loopModeOf i = 2 ∧ m.stale = false ∧ f32Bad m.u = false ∧ i.val ≠ 31 ∧
        (if s.get .CTE_LOOP_STATE_CAUSE 0 i = 2 then decide (15 ≤ (s.loop i).fresh) else (s.loop i).autoAsked) = true) ∧
    (∃ (s : State) (c : Instr) (i : Fin 32) (m : LoopSample) (n : Snap), loopOf c = some (i.val, m) ∧ s.inTime i m n = true ∧
        s.loopModeOf i = 0 ∧ m.stale = false ∧ f32Bad m.u = false ∧ i.val ≠ 31 ∧ (s.viewOf n).plausN i ≠ 0) ∧
    (∃ (s : State) (src : Source) (i : Fin 32), s.right src = .owner ∧ s.sel src .CTE_LOOP_SEL_LOOP = i.val ∧
        s.bit .CTE_LOOP_CFG_PRESENT 0 i = true ∧ s.loopModeOf i < 2) ∧
    (∃ (s : State) (src : Source) (i : Fin 32), s.right src = .owner ∧ s.sel src .CTE_LOOP_SEL_LOOP = i.val ∧
        (s.bit .CTE_LOOP_CFG_PRESENT 0 i = false ∨ 2 ≤ s.loopModeOf i)) ∧
    (∃ (s : State) (src : Source) (i : Fin 32), s.right src = .owner ∧ s.sel src .CTE_LOOP_SEL_LOOP = i.val ∧
        (s.loopModeOf i = 2 ∨ s.loopModeOf i = 3)) ∧
    (∃ (s : State) (src : Source) (i : Fin 32), s.right src = .owner ∧ s.sel src .CTE_LOOP_SEL_LOOP = i.val ∧
        s.loopModeOf i < 2) ∧
    (∃ (s : State) (src : Source), s.right src = .owner) :=
  ⟨⟨{ activePA with regs := [(⟨.RST_IN_RESET_STATE, 0, 0⟩, 0)] }, by decide +kernel⟩,
    ⟨{ activePA with regs := [(⟨.RST_IN_RESET_STATE, 0, 0⟩, 0)], dies := State.reset.dies.set 0 { events := [.syncpt 1 0] } },
        by decide +kernel⟩,
    ⟨ws [], by decide +kernel⟩,
    ⟨sampling 5 1 (packed 2 []), .cl07Sample ⟨400, 0x3F800000#32, 0x40000000#32, false⟩, 7,
        ⟨400, 0x3F800000#32, 0x40000000#32, false⟩, by decide +kernel⟩,
    ⟨(sampling 5 1 (packed 2 [])), .cl05Sample ⟨90000000, 0x3F800000#32, 0x40000000#32, false⟩, 5,
        ⟨90000000, 0x3F800000#32, 0x40000000#32, false⟩,
        ((sampling 5 1 (packed 2 [])).cte.snaps.headD ⟨0, [], State.reset.outs, {}, 0⟩), by decide +kernel⟩,
    ⟨sampling 5 1 (packed 2 []), 5, by decide +kernel⟩,
    ⟨(sampling 5 1 (packed 2 [(.CTE_LOOP_STATE_CONSEC, 0, 5, 2)])), 5, by decide +kernel⟩,
    ⟨(sampling 5 2 (packed 2 [(.CTE_LOOP_STATE_CONSEC, 0, 5, 3)])), 5, by decide +kernel⟩,
    ⟨ws [], 5, by decide +kernel⟩,
    ⟨(sampling 7 1 (packed 2 [])), .cl07Sample ⟨400, 0x3F800000#32, 0x40000000#32, true⟩, 7,
        ⟨400, 0x3F800000#32, 0x40000000#32, true⟩,
        ((sampling 7 1 (packed 2 [])).cte.snaps.headD ⟨0, [], State.reset.outs, {}, 0⟩), by decide +kernel⟩,
    ⟨(sampling 7 1 (packed 2 [])), .cl07Sample ⟨400, 0x3F800000#32, 0x7F800000#32, false⟩, 7,
        ⟨400, 0x3F800000#32, 0x7F800000#32, false⟩,
        ((sampling 7 1 (packed 2 [])).cte.snaps.headD ⟨0, [], State.reset.outs, {}, 0⟩), by decide +kernel⟩,
    ⟨((sampling 7 2 (packed 2 [])).modLoop 7 (fun x => { x with autoAsked := true })),
        .cl07Sample ⟨400, 0x3F800000#32, 0x40000000#32, false⟩, 7, ⟨400, 0x3F800000#32, 0x40000000#32, false⟩,
        (((sampling 7 2 (packed 2 [])).modLoop 7 (fun x => { x with autoAsked := true })).cte.snaps.headD ⟨0, [],
        State.reset.outs, {}, 0⟩), by decide +kernel⟩,
    ⟨(sampling 7 0 (packed 2 [])), .cl07Sample ⟨400, 0x3F800000#32, 0x40000000#32, false⟩, 7,
        ⟨400, 0x3F800000#32, 0x40000000#32, false⟩,
        ((sampling 7 0 (packed 2 [])).cte.snaps.headD ⟨0, [], State.reset.outs, {}, 0⟩), by decide +kernel⟩,
    ⟨owned [(.CTE_LOOP_SEL_LOOP, 0, srcItem (.session 1), 5), (.CTE_LOOP_STATE_MODE, 0, 5, 1),
        (.CTE_LOOP_CFG_PRESENT, 0, 5, 1), (.CTE_LOOP_STATE_RAMP, 0, 5, 1)], .session 1, 5, by decide +kernel⟩,
    ⟨owned [(.CTE_LOOP_SEL_LOOP, 0, srcItem (.session 1), 5), (.CTE_LOOP_STATE_MODE, 0, 5, 3)], .session 1, 5,
        by decide +kernel⟩,
    ⟨owned [(.CTE_LOOP_SEL_LOOP, 0, srcItem (.session 1), 5), (.CTE_LOOP_STATE_MODE, 0, 5, 2)], .session 1, 5,
        by decide +kernel⟩,
    ⟨owned [(.CTE_LOOP_SEL_LOOP, 0, srcItem (.session 1), 5), (.CTE_LOOP_STATE_MODE, 0, 5, 1)], .session 1, 5,
        by decide +kernel⟩,
    ⟨owned [(.CTE_LOOP_OVR_COUNT, 0, 5, 9)], .session 1, by decide +kernel⟩⟩

/-- ParameterSetsAreStagedCommittedAndStored: what its hypotheses ask, clause by clause. -/
theorem witness_parameterSetsAreStagedCommittedAndStored :
    (∃ (s : State) (src : Source), s.right src = .owner ∧ s.bit .CTE_PARAM_STATUS_STORING = false) ∧
    (∃ (s : State) (src : Source), s.right src = .owner ∧ s.bit .CTE_PARAM_STATUS_STORING = true) ∧
    (∃ (s : State) (l : List (RKey × Nat)), s.engineUp = true ∧ s.cte.commit = some l ∧
        (∀ d : Fin 8, (s.die d).events = []) ∧ l.all (fun e => e.1.f == .CTE_PARAM_STAGED_VALUE) = true) ∧
    (∃ (s : State) (src : Source), s.right src = .owner) ∧
    (∃ (s : State), s.bit .CTE_PARAM_STATUS_STORING = true) ∧
    (∃ (s : State), s.bit .CTE_PARAM_STATUS_STORING = true) ∧
    (∃ (s : State), s.bit .CTE_PARAM_STATUS_STORING = false) :=
  ⟨⟨owned [], .session 1, by decide +kernel⟩,
    ⟨owned [(.CTE_PARAM_STATUS_STORING, 0, 0, 1)], .session 1, by decide +kernel⟩,
    ⟨{ activePA with regs := [(⟨.RST_IN_RESET_STATE, 0, 0⟩, 0), (⟨.CTE_PARAM_STAGED_VALUE, 0, 7⟩, 9)], cte := { State.reset.cte with commit := some [(⟨.CTE_PARAM_STAGED_VALUE, 0, 7⟩, 8)] } },
        [(⟨.CTE_PARAM_STAGED_VALUE, 0, 7⟩, 8)], by decide +kernel⟩,
    ⟨owned [(.CTE_PARAM_STAGED_VALUE, 0, 7, 9)], .session 1, by decide +kernel⟩,
    ⟨ws [(.CTE_PARAM_STATUS_STORING, 0, 0, 1), (.CTE_PARAM_ACTIVE_VALUE, 0, 7, 9)], by decide +kernel⟩,
    ⟨ws [(.CTE_PARAM_STATUS_STORING, 0, 0, 1)], by decide +kernel⟩,
    ⟨ws [], by decide +kernel⟩⟩

/-- CustomerPackagesAreLoadedAndRun: what its hypotheses ask, clause by clause. -/
theorem witness_customerPackagesAreLoadedAndRun :
    (∃ (s : State) (m : LoopSample) (n : Snap) (k : Fin 8) (v : BitVec 32), s.samples 31 m n = true ∧ f32Bad v = false ∧
        bitAt (s.custField 0x28 4) k = true) ∧
    (∃ (s : State) (m : LoopSample) (n : Snap), s.samples 31 m n = true ∧ bitAt (s.custField 0x28 4) 8 = true) ∧
    (∃ (s : State) (m : LoopSample) (n : Snap), s.samples 31 m n = true ∧ bitAt (s.custField 0x28 4) 9 = true) ∧
    (∃ (s : State) (m : LoopSample) (n : Snap), s.samples 31 m n = true ∧ bitAt (s.custField 0x28 4) 10 = true) ∧
    (∃ (s : State) (m : LoopSample) (n : Snap), s.samples 31 m n = true) ∧
    (∃ (s : State) (m : LoopSample) (n : Snap) (k : Nat) (v : BitVec 32), s.samples 31 m n = true ∧
        (8 ≤ k ∨ f32Bad v = false) ∧ (11 ≤ k ∨ bitAt (s.custField 0x28 4) k = false)) ∧
    (∃ (s : State) (src : Source), s.right src = .owner ∧ s.get .CTE_CUST_STATUS_STATE ≠ 1 ∧ s.get .CTE_CUST_STATUS_STATE ≠ 3) ∧
    (∃ (s : State) (src : Source), s.right src = .owner ∧ s.get .CTE_CUST_STATUS_STATE = 1) ∧
    (∃ (s : State) (src : Source), s.right src = .owner ∧ s.get .CTE_CUST_STATUS_STATE = 3) ∧
    (∃ (s : State) (src : Source), s.right src = .owner ∧ s.get .CTE_CUST_ADDR_OFFSET + 4 ≤ 73728) ∧
    (∃ (s : State) (src : Source), s.right src = .owner ∧ 73728 < s.get .CTE_CUST_ADDR_OFFSET + 4) ∧
    (∃ (s : State) (src : Source) (b : List Nat), s.right src = .owner ∧ s.get .CTE_CUST_STATUS_STATE = 1 ∧
        leAt (stagedBytes s.cte.staging 12) 8 4 ≤ 73728 ∧
        stagedBytes s.cte.staging (leAt (stagedBytes s.cte.staging 12) 8 4) = b) ∧
    (∃ (s : State) (src : Source), s.right src = .owner ∧ s.get .CTE_CUST_STATUS_STATE = 1 ∧
        73728 < leAt (stagedBytes s.cte.staging 12) 8 4) ∧
    (∃ (s : State) (src : Source), s.right src = .owner ∧ s.get .CTE_CUST_STATUS_STATE = 3) ∧
    (∃ (s : State) (src : Source), s.right src = .owner ∧ s.get .CTE_CUST_STATUS_STATE ≠ 1 ∧ s.get .CTE_CUST_STATUS_STATE ≠ 3) ∧
    (∃ (s : State) (src : Source), s.right src = .owner ∧ s.get .CTE_CUST_STATUS_STATE = 2) ∧
    (∃ (s : State) (src : Source), s.right src = .owner ∧ s.get .CTE_CUST_STATUS_STATE = 3) ∧
    (∃ (s : State) (src : Source), s.right src = .owner ∧ s.get .CTE_CUST_STATUS_STATE ≠ 2 ∧ s.get .CTE_CUST_STATUS_STATE ≠ 3) ∧
    (∃ (s : State) (b : List Nat), s.get .CTE_CUST_STATUS_STATE = 3 ∧ s.cte.custVerified = some b) ∧
    (∃ (s : State) (ok : Bool), s.get .CTE_CUST_STATUS_STATE = 3 ∧ (ok = false ∨ s.cte.custVerified = none)) ∧
    (∃ (s : State), s.get .CTE_CUST_STATUS_STATE ≠ 3) ∧
    (∃ (s : State) (src : Source), s.right src = .owner ∧ s.get .CTE_CUST_STATUS_STATE = 4) ∧
    (∃ (s : State) (src : Source), s.right src = .owner ∧ s.get .CTE_CUST_STATUS_STATE = 3) ∧
    (∃ (s : State) (src : Source), s.right src = .owner ∧ s.get .CTE_CUST_STATUS_STATE ≠ 3 ∧ s.get .CTE_CUST_STATUS_STATE ≠ 4) :=
  ⟨⟨sampling 31 1 (custRuns), ⟨400, 0x3F800000#32, 0x40000000#32, false⟩,
        ((sampling 31 1 (custRuns)).cte.snaps.headD ⟨0, [], State.reset.outs, {}, 0⟩), 2, 0x3F800000#32, by decide +kernel⟩,
    ⟨sampling 31 1 (custRuns), ⟨400, 0x3F800000#32, 0x40000000#32, false⟩,
        ((sampling 31 1 (custRuns)).cte.snaps.headD ⟨0, [], State.reset.outs, {}, 0⟩), by decide +kernel⟩,
    ⟨sampling 31 1 (custRuns), ⟨400, 0x3F800000#32, 0x40000000#32, false⟩,
        ((sampling 31 1 (custRuns)).cte.snaps.headD ⟨0, [], State.reset.outs, {}, 0⟩), by decide +kernel⟩,
    ⟨sampling 31 1 (custRuns), ⟨400, 0x3F800000#32, 0x40000000#32, false⟩,
        ((sampling 31 1 (custRuns)).cte.snaps.headD ⟨0, [], State.reset.outs, {}, 0⟩), by decide +kernel⟩,
    ⟨sampling 31 1 (custRuns), ⟨400, 0x3F800000#32, 0x40000000#32, false⟩,
        ((sampling 31 1 (custRuns)).cte.snaps.headD ⟨0, [], State.reset.outs, {}, 0⟩), by decide +kernel⟩,
    ⟨sampling 31 1 (custRuns), ⟨400, 0x3F800000#32, 0x40000000#32, false⟩,
        ((sampling 31 1 (custRuns)).cte.snaps.headD ⟨0, [], State.reset.outs, {}, 0⟩), 7, 0x3F800000#32, by decide +kernel⟩,
    ⟨{ owned [(.CTE_CUST_STATUS_STATE, 0, 0, 2)] with cte := { State.reset.cte with staging := [(0, 5)], custVerified := some [3] } },
        .session 1, by decide +kernel⟩,
    ⟨owned [(.CTE_CUST_STATUS_STATE, 0, 0, 1)], .session 1, by decide +kernel⟩,
    ⟨owned [(.CTE_CUST_STATUS_STATE, 0, 0, 3)], .session 1, by decide +kernel⟩,
    ⟨owned [(.CTE_CUST_STATUS_STATE, 0, 0, 1), (.CTE_CUST_ADDR_OFFSET, 0, 0, 8)], .session 1, by decide +kernel⟩,
    ⟨owned [(.CTE_CUST_STATUS_STATE, 0, 0, 1), (.CTE_CUST_ADDR_OFFSET, 0, 0, 73728)], .session 1, by decide +kernel⟩,
    ⟨{ owned [(.CTE_CUST_STATUS_STATE, 0, 0, 1)] with cte := { State.reset.cte with staging := [(0, 5), (8, 12)] } },
        .session 1, [5, 0, 0, 0, 0, 0, 0, 0, 12, 0, 0, 0], by decide +kernel⟩,
    ⟨{ owned [(.CTE_CUST_STATUS_STATE, 0, 0, 1)] with cte := { State.reset.cte with staging := [(8, 73729)] } }, .session 1,
        by decide +kernel⟩,
    ⟨owned [(.CTE_CUST_STATUS_STATE, 0, 0, 3)], .session 1, by decide +kernel⟩,
    ⟨owned [(.CTE_CUST_STATUS_STATE, 0, 0, 2)], .session 1, by decide +kernel⟩,
    ⟨owned [(.CTE_CUST_STATUS_STATE, 0, 0, 2)], .session 1, by decide +kernel⟩,
    ⟨owned [(.CTE_CUST_STATUS_STATE, 0, 0, 3)], .session 1, by decide +kernel⟩,
    ⟨owned [(.CTE_CUST_STATUS_STATE, 0, 0, 1)], .session 1, by decide +kernel⟩,
    ⟨{ owned [(.CTE_CUST_STATUS_STATE, 0, 0, 3)] with cte := { State.reset.cte with custVerified := some [0, 0, 0, 0, 1, 0, 2, 0] } },
        [0, 0, 0, 0, 1, 0, 2, 0], by decide +kernel⟩,
    ⟨owned [(.CTE_CUST_STATUS_STATE, 0, 0, 3)], false, by decide +kernel⟩,
    ⟨owned [(.CTE_CUST_STATUS_STATE, 0, 0, 2)], by decide +kernel⟩,
    ⟨{ owned [(.CTE_CUST_STATUS_STATE, 0, 0, 4), (.CTE_LOOP_CFG_PRESENT, 0, 31, 1)] with cte := { State.reset.cte with custActive := some [1] } },
        .session 1, by decide +kernel⟩,
    ⟨owned [(.CTE_CUST_STATUS_STATE, 0, 0, 3)], .session 1, by decide +kernel⟩,
    ⟨owned [(.CTE_CUST_STATUS_STATE, 0, 0, 1)], .session 1, by decide +kernel⟩⟩

/-- CellMonitorScansTestsAndTrips: what its hypotheses ask, clause by clause. -/
theorem witness_cellMonitorScansTestsAndTrips :
    (∃ (s : State) (a : BitVec 16) (b : BitVec 16), s.bit .CEL_STATUS_SCANNING = true ∧ refBad a = false ∧ refBad b = false ∧
        s.get .CEL_OW_TAPS = 0) ∧
    (∃ (s : State) (a : BitVec 16) (b : BitVec 16), s.bit .CEL_STATUS_SCANNING = true ∧ refBad a = false ∧ refBad b = false) ∧
    (∃ (s : State) (a : BitVec 16) (b : BitVec 16), s.bit .CEL_STATUS_SCANNING = true ∧ (refBad a || refBad b) = true ∧
        s.cel.badScans ≠ 2) ∧
    (∃ (s : State) (a : BitVec 16) (b : BitVec 16), s.bit .CEL_STATUS_SCANNING = true ∧ (refBad a || refBad b) = true ∧
        s.cel.badScans = 2) ∧
    (∃ (s : State) (cells : Vector (BitVec 16) 16) (mv : BitVec 16) (a : BitVec 16) (b : BitVec 16),
        s.bit .CEL_STATUS_SCANNING = true ∧ refBad a = false ∧ refBad b = false ∧ s.cel.mismatch = 2 ∧
        s.get .CEL_OW_TAPS = 0 ∧ s.get .CEL_STACK_TOL_MV * 10 <
        (((mv.toNat * 10 : Nat) : Int) - ((((cells.toList.map (·.toNat)).take s.cells).sum : Nat) : Int)).natAbs) ∧
    (∃ (s : State) (cells : Vector (BitVec 16) 16) (a : BitVec 16) (b : BitVec 16) (k : Fin 16),
        s.bit .CEL_STATUS_SCANNING = true ∧ refBad a = false ∧ refBad b = false ∧ s.iso = 2 ∧ k.val < s.cells ∧
        s.get .CEL_OW_TAPS = 0 ∧ 38500 < (cells[k]).toNat ∧ bitAt s.bwr.beyond k = true) ∧
    (∃ (s : State) (cells : Vector (BitVec 16) 16) (a : BitVec 16) (b : BitVec 16), s.bit .CEL_STATUS_SCANNING = true ∧
        refBad a = false ∧ refBad b = false ∧ s.iso = 2 ∧ s.bit .BWR_STATUS_RECOVERY = true ∧ s.get .CEL_OW_TAPS = 0 ∧
        ((cells.toList.map (·.toNat)).take s.cells).all (fun v => decide (22000 ≤ v)) = true) ∧
    (∃ (s : State), s.bit .CEL_STATUS_SCANNING = false) ∧
    (∃ (s : State) (mv : BitVec 16), s.bit .CEL_STATUS_SCANNING = true ∧ s.cells ≠ 0 ∧
        ((mv.toNat * 10 : Nat) - (s.cel.raw.toList.sum : Nat) : Int).natAbs ≤ s.get .CEL_STACK_TOL_MV * 10) ∧
    (∃ (s : State) (mv : BitVec 16), s.bit .CEL_STATUS_SCANNING = true ∧
        s.get .CEL_STACK_TOL_MV * 10 < ((mv.toNat * 10 : Nat) - (s.cel.raw.toList.sum : Nat) : Int).natAbs) ∧
    (∃ (s : State), s.bit .CEL_STATUS_SCANNING = false) ∧
    (∃ (s : State), s.cells = 16) ∧
    (∃ (s : State), s.cells = 16) ∧
    (∃ (s : State), s.cells ≠ 16) ∧
    (∃ (s : State) (v : Vector (BitVec 16) 12) (k : Fin 12), s.cells = 12 ∧ s.bit .PWR_RAIL_STATUS_IN_REG 46 = false ∧
        ((v[k]).toNat < s.get .CEL_SLEEP_CFG_LO_MV ∨ s.get .CEL_SLEEP_CFG_HI_MV < (v[k]).toNat) ∧
        (∀ j : Fin 12, j < k → s.get .CEL_SLEEP_CFG_LO_MV ≤ (v[j]).toNat ∧ (v[j]).toNat ≤ s.get .CEL_SLEEP_CFG_HI_MV)) ∧
    (∃ (s : State), (s.cells ≠ 12 ∨ s.bit .PWR_RAIL_STATUS_IN_REG 46 = true)) ∧
    (∃ (s : State) (v : Vector (BitVec 16) 12),
        (∀ j : Fin 12, s.get .CEL_SLEEP_CFG_LO_MV ≤ (v[j]).toNat ∧ (v[j]).toNat ≤ s.get .CEL_SLEEP_CFG_HI_MV)) ∧
    (∃ (s : State) (v : Vector (BitVec 16) 4) (i : Fin 4), s.iso = 2 ∧
        (ntcTemp (v[i]).toNat).any (fun x => decide (75 < (((tenths x : Int) : Rat) / 10) ∧ x ≤ 120)) = true ∧
        bitAt s.cel.hot i = true) ∧
    (∃ (s : State) (ohms : Nat), s.iso = 0 ∧ packDecode ohms ≠ s.get .CEL_PACK_ID_DECODE) ∧
    (∃ (s : State) (ohms : Nat), s.iso = 0 ∧ packDecode ohms = s.get .CEL_PACK_ID_DECODE ∧
        s.cells = (if packDecode ohms = 1 then 12 else if packDecode ohms = 2 then 16 else 0)) ∧
    (∃ (s : State) (ohms : Nat), s.iso = 2 ∧ packDecode ohms ≠ (if s.cells = 12 then 1 else 2)) ∧
    (∃ (s : State), s.iso ≠ 0) ∧
    (∃ (s : State), s.bit .CEL_STATUS_SELFTEST_FAIL = false) ∧
    (∃ (s : State), s.bit .CEL_STATUS_SELFTEST_FAIL = true) :=
  ⟨⟨packed 2 [(.CEL_STATUS_SCANNING, 0, 0, 1)], 25000, 25030, by decide +kernel⟩,
    ⟨{ packed 2 [(.CEL_STATUS_SCANNING, 0, 0, 1)] with cel := { badScans := 1 } }, 25000, 25030, by decide +kernel⟩,
    ⟨packed 2 [(.CEL_STATUS_SCANNING, 0, 0, 1)], 24969, 25000, by decide +kernel⟩,
    ⟨{ packed 2 [(.CEL_STATUS_SCANNING, 0, 0, 1)] with cel := { badScans := 2 } }, 24969, 25000, by decide +kernel⟩,
    ⟨{ packed 2 [(.CEL_STATUS_SCANNING, 0, 0, 1)] with cel := { mismatch := 2 } }, Vector.replicate 16 30000, 37000, 25000,
        25000, by decide +kernel⟩,
    ⟨{ packed 2 [(.CEL_STATUS_SCANNING, 0, 0, 1)] with bwr := { State.reset.bwr with beyond := 4 } },
        Vector.replicate 16 30000 |>.set 2 38501, 25000, 25000, 2, by decide +kernel⟩,
    ⟨packed 2 [(.CEL_STATUS_SCANNING, 0, 0, 1), (.BWR_STATUS_RECOVERY, 0, 0, 1)], Vector.replicate 16 30000, 25000, 25000,
        by decide +kernel⟩,
    ⟨packed 2 [], by decide +kernel⟩,
    ⟨{ packed 2 [(.CEL_STATUS_SCANNING, 0, 0, 1)] with cel := { raw := Vector.ofFn (fun k => if k.val < 12 then 30000 else 0), candidates := 16 } },
        36000, by decide +kernel⟩,
    ⟨{ packed 2 [(.CEL_STATUS_SCANNING, 0, 0, 1)] with cel := { candidates := 4 } }, 36000, by decide +kernel⟩,
    ⟨packed 2 [], by decide +kernel⟩,
    ⟨packed 2 [] |>.set .BWR_PACK_CELLS 16, by decide +kernel⟩,
    ⟨packed 2 [] |>.set .BWR_PACK_CELLS 16, by decide +kernel⟩,
    ⟨packed 2 [], by decide +kernel⟩,
    ⟨packed 0 [], (Vector.replicate 12 3000).set 5 2099, 5, by decide +kernel⟩,
    ⟨packed 0 [(.PWR_RAIL_STATUS_IN_REG, 46, 0, 1)], by decide +kernel⟩,
    ⟨packed 0 [], Vector.replicate 12 2100, by decide +kernel⟩,
    ⟨{ packed 2 [] with cel := { hot := 2 } }, #v[1650, 300, 1650, 1650], 1, by decide +kernel⟩,
    ⟨packed 0 [(.CEL_OW_TAPS, 0, 0, 4)], 20000, by decide +kernel⟩,
    ⟨packed 0 [], 10000, by decide +kernel⟩,
    ⟨packed 2 [], 20000, by decide +kernel⟩,
    ⟨packed 2 [], by decide +kernel⟩,
    ⟨packed 0 [], by decide +kernel⟩,
    ⟨packed 0 [(.CEL_STATUS_SELFTEST_FAIL, 0, 0, 1)], by decide +kernel⟩⟩

/-- ThermalProtectionAndAgeing: what its hypotheses ask, clause by clause. -/
theorem witness_thermalProtectionAndAgeing :
    (∃ (s : State) (d : Fin 8), s.inReset (8 + d.val) = true) ∧
    (∃ (s : State) (d : Fin 8) (raw : BitVec 16), s.inReset (8 + d.val) = false ∧
        s.bit .PWR_RAIL_STATUS_IN_REG (2 + d.val) = true ∧ -320 ≤ raw.toInt ∧ raw.toInt ≤ 1200) ∧
    (∃ (s : State) (d : Fin 8) (k : Fin 24) (raw : BitVec 16), s.inReset (8 + d.val) = false ∧
        s.bit .PWR_RAIL_STATUS_IN_REG (2 + d.val) = true ∧ raw ≠ 0x8000#16 ∧ (raw.toInt < -320 ∨ 1200 < raw.toInt) ∧
        s.bit .CDC_TEMP_FAILED d k = false) ∧
    (∃ (s : State) (d : Fin 8), s.inReset (8 + d.val) = false ∧ s.bit .PWR_RAIL_STATUS_IN_REG (2 + d.val) = false) ∧
    (∃ (s : State) (d : Fin 8), bitAt s.cap.measuring d = true ∧ s.mayMeasure d = true) ∧
    (∃ (s : State) (d : Fin 8), (bitAt s.cap.measuring d = false ∨ s.mayMeasure d = false)) ∧
    (∃ (s : State) (d : Fin 8) (b : Fin 8) (x : Int), (s.die d).berth = some b ∧ s.hottest d = some x ∧ 840 ≤ x) ∧
    (∃ (s : State) (d : Fin 8), ((s.die d).berth = none ∨ (s.hottest d).all (fun x => decide (x < 840)) = true)) ∧
    (∃ (s : State) (b : Fin 8), s.cooler b 816 = true ∧ s.noDomain b = true) ∧
    (∃ (s : State) (b : Fin 8), s.cooler b 816 = true ∧ s.noDomain b = false) ∧
    (∃ (s : State) (b : Fin 8), s.cooler b 816 = false) ∧
    (∃ (x : BitVec 8), x ≠ 0#8) ∧
    (∃ (s : State) (src : Source), s.right src = .owner ∧ (∀ d : Fin 8, s.cap.sitesHot[d] = 0)) ∧
    (∃ (s : State) (src : Source) (key : BitVec 16), s.right src = .owner ∧
        (key ≠ 0xB0A7#16 ∨ (s.cap.sitesHot.toList.any (fun m => m != 0)) = true)) ∧
    (∃ (s : State), s.bit .CAP_STATUS_COOL_TRIP = false ∧ s.flow < 200) ∧
    (∃ (s : State), (s.bit .CAP_STATUS_COOL_TRIP = true ∨ 200 ≤ s.flow)) ∧
    (∃ (s : State), s.bit .CAP_STATUS_COOL_TRIP = true ∧ 400 ≤ s.flow) ∧
    (∃ (s : State), (s.bit .CAP_STATUS_COOL_TRIP = false ∨ s.flow < 400)) ∧
    (∃ (s : State), s.cap.ageDirty = true ∧ s.flashHalted s.act = false) ∧
    (∃ (s : State), (s.cap.ageDirty = false ∨ s.flashHalted s.act = true)) :=
  ⟨⟨ws [], 0, by decide +kernel⟩,
    ⟨{ streaming with regs := [(⟨.RST_IN_RESET_STATE, 0, 0⟩, 0), (⟨.CDC_TEMP_TEMP, 0, 3⟩, 5), (⟨.PWR_RAIL_STATUS_IN_REG, 2, 0⟩, 1)] },
        0, 801, by decide +kernel⟩,
    ⟨{ streaming with regs := [(⟨.RST_IN_RESET_STATE, 0, 0⟩, 0), (⟨.CDC_TEMP_TEMP, 0, 3⟩, 5), (⟨.PWR_RAIL_STATUS_IN_REG, 2, 0⟩, 1)] },
        0, 3, 1201, by decide +kernel⟩,
    ⟨{ streaming with regs := [(⟨.RST_IN_RESET_STATE, 0, 0⟩, 0), (⟨.CDC_TEMP_TEMP, 0, 3⟩, 5)] }, 0, by decide +kernel⟩,
    ⟨{ ws [(.RST_IN_RESET_STATE, 0, 0, 0), (.RST_CLK_GOOD_GOOD, 0, 0, 0xFFFFFFFF), (.PWR_RAIL_STATUS_IN_REG, 2, 0, 1)] with cap := { State.reset.cap with measuring := 1 } },
        0, by decide +kernel⟩,
    ⟨ws [], 0, by decide +kernel⟩,
    ⟨{ streaming with regs := [(⟨.RST_IN_RESET_STATE, 0, 0⟩, 0), (⟨.CDC_TEMP_TEMP, 0, 3⟩, 880)] }, 0, 0, 880,
        by decide +kernel⟩,
    ⟨{ streaming with regs := [(⟨.RST_IN_RESET_STATE, 0, 0⟩, 0), (⟨.CDC_TEMP_TEMP, 0, 3⟩, 839)] }, 0, by decide +kernel⟩,
    ⟨{ streaming with regs := [(⟨.RST_IN_RESET_STATE, 0, 0⟩, 0), (⟨.CDC_TEMP_TEMP, 0, 3⟩, 815)], dies := streaming.dies.set 0 { berth := some 0, image := some {}, duThermal := 4 } },
        0, by decide +kernel⟩,
    ⟨{ (tuned 3 [] { State.reset.rhd[0] with ceilings := [(0, 0x83)], domRate := 0x82 }) with dies := streaming.dies.set 0 { berth := some 0, image := some {}, duThermal := 4 } },
        0, by decide +kernel⟩,
    ⟨{ streaming with regs := [(⟨.RST_IN_RESET_STATE, 0, 0⟩, 0), (⟨.CDC_TEMP_TEMP, 0, 3⟩, 816)] }, 0, by decide +kernel⟩,
    ⟨5, by decide +kernel⟩,
    ⟨(owned [(.CAP_STATUS_BOLLARD, 0, 0, 4)]).modRail (vcRail 2) (fun x => { x with bollard := true }), .session 1,
        by decide +kernel⟩,
    ⟨owned [(.CAP_STATUS_BOLLARD, 0, 0, 4)], .session 1, 9, by decide +kernel⟩,
    ⟨(ws [(.RST_IN_RESET_STATE, 0, 0, 0)]).setWanted (vcRail 3) { (State.reset.wanted (vcRail 3)) with en := true },
        by decide +kernel⟩,
    ⟨{ ws [] with pins := { flowPulses := List.replicate 40 0 }, now := 1000 } |>.set .CAP_FLOW_CFG_K_FACTOR 100,
        by decide +kernel⟩,
    ⟨{ ws [(.CAP_STATUS_COOL_TRIP, 0, 0, 1)] with pins := { flowPulses := List.replicate 40 0 }, now := 1000 } |>.set
        .CAP_FLOW_CFG_K_FACTOR 100, by decide +kernel⟩,
    ⟨ws [(.CAP_STATUS_COOL_TRIP, 0, 0, 1)], by decide +kernel⟩,
    ⟨{ ws [(.CAP_AGE_STEP, 0, 2, 3)] with cap := { State.reset.cap with ageDirty := true } }, by decide +kernel⟩,
    ⟨ws [], by decide +kernel⟩⟩

/-- PilotsAreGrantedJudgedAndTakenOver: what its hypotheses ask, clause by clause. -/
theorem witness_pilotsAreGrantedJudgedAndTakenOver :
    (∃ (s : State) (p : Fin 2), s.hma.grant = none ∧ s.grantee = some p ∧ s.hmaOk = true) ∧
    (∃ (s : State), (s.hma.grant ≠ none ∨ s.grantee = none ∨ s.hmaOk = false)) ∧
    (∃ (s : State) (p : Fin 2), (s.pilot p).role ≠ .out ∧ (s.pilot p).lockstepOk = true ∧ s.inReset (1 + p.val) = false ∧
        s.inReset (4 + p.val) = false) ∧
    (∃ (s : State) (p : Fin 2), ((s.pilot p).role = .out ∨ (s.pilot p).lockstepOk = false ∨ s.inReset (1 + p.val) =
        true ∨ s.inReset (4 + p.val) = true)) ∧
    (∃ (s : State) (p : Fin 2) (c : PilotFail), s.hma.grant = some p ∧ s.hmaOk = true ∧ s.failSign p c = true ∧
        (s.pilot (otherPilot p)).role = .standby ∧ (s.pilot (otherPilot p)).hbRunning = true) ∧
    (∃ (s : State) (p : Fin 2) (c : PilotFail),
        (s.hmaOk = false ∨ s.failSign p c =
        false ∨ (s.hma.grant ≠ some p ∧ (s.pilot p).role ≠ .standby ∧ (s.pilot p).role ≠ .active))) ∧
    (∃ (s : State) (p : Fin 2) (c : PilotFail), s.hma.grant = some p ∧ s.hmaOk = true ∧ s.failSign p c = true ∧
        ((s.pilot (otherPilot p)).role = .out ∨ (s.pilot (otherPilot p)).role =
        .selfTest ∨ (s.pilot (otherPilot p)).hbRunning = false)) ∧
    (∃ (s : State) (p : Fin 2) (c : PilotFail), s.hma.grant ≠ some p ∧ s.hmaOk = true ∧ s.failSign p c = true ∧
        (s.pilot p).role = .standby) ∧
    (∃ (s : State) (p : Fin 2) (w : Bool), s.hma.takeover = some w ∧ s.activePilot = some p ∧ s.inReset (4 + p.val) = false) ∧
    (∃ (s : State) (p : Fin 2) (c : CopyLoad), s.hma.takeover = some true ∧ s.activePilot = some p ∧
        s.inReset (4 + p.val) = false ∧ s.copyHeld = some c ∧
        (s.iso = 2 ∨ ({ s with regs := c.regs } : State).bit .BWR_STATUS_REGULATING = false)) ∧
    (∃ (s : State), (s.hma.takeover = none ∨ s.activePilot.all (fun p => s.inReset (4 + p.val)) = true)) ∧
    (∃ (s : State) (p : Fin 2), s.activePilot = some p ∧ s.engineUp = true ∧ (s.pilot p).linkOut = true ∧
        s.hma.handover = none) ∧
    (∃ (s : State) (p : Fin 2) (h : Handover), s.activePilot = some p ∧ s.engineUp = true ∧ (s.pilot p).linkOut = true ∧
        s.hma.handover = some h ∧ h.granted = none) ∧
    (∃ (s : State), (s.activePilot.all (fun p => !(s.pilot p).linkOut) = true ∨ s.engineUp = false)) ∧
    (∃ (s : State) (q : Fin 2), s.standby = some q) ∧
    (∃ (s : State) (q : Fin 2) (al : BitVec 8) (cy : BitVec 32), s.standby = some q ∧
        ((s.pilot q).lastAlive = some al.toNat ∨ (s.pilot q).lastCycle.any (fun c => decide (cy.toNat ≤ c)) = true)) ∧
    (∃ (s : State) (q : Fin 2) (mg : BitVec 16), s.standby = some q ∧ mg ≠ 0x9A1C#16) ∧
    (∃ (s : State), s.standby = none) ∧
    (∃ (s : State) (q : Fin 2) (al : BitVec 8) (cy : BitVec 32), s.standby = some q ∧ (s.pilot q).lastAlive ≠ some al.toNat ∧
        (s.pilot q).lastCycle.any (fun c => decide (cy.toNat ≤ c)) = false) ∧
    (∃ (s : State) (p : Fin 2), (s.pilot p).role = .selfTest ∧ (s.pilot p).held = false ∧ s.inReset (1 + p.val) = false ∧
        (s.pilot p).identityOk = true ∧ (s.pilot p).firmwareOk = true ∧ s.hma.grant = some (otherPilot p)) ∧
    (∃ (s : State) (p : Fin 2), ((s.pilot p).role ≠ .selfTest ∨ (s.pilot p).held = true ∨ s.inReset (1 + p.val) =
        true ∨ (s.pilot p).identityOk = false ∨ (s.pilot p).firmwareOk = false ∨ s.hma.grant ≠ some (otherPilot p))) ∧
    (∃ (s : State) (h : Handover), s.hma.handover = some h ∧ h.accepted = true ∧ h.granted = none ∧ s.hmaOk = true) ∧
    (∃ (s : State), (s.hmaOk = false ∨ s.hma.handover.all (fun h => !h.accepted || h.granted.isSome) = true)) ∧
    (∃ (s : State) (h : Handover), s.hma.handover = some h ∧ h.sent = true ∧ h.accepted = false) ∧
    (∃ (s : State), s.hma.handover.all (fun h => !h.sent || h.accepted) = true) ∧
    (∃ (s : State), (s.hmaOk = false ∨ s.hma.handover.all (fun h => h.granted.isNone) = true)) ∧
    (∃ (s : State) (h : Handover) (g : Nat), s.hma.handover = some h ∧ h.granted = some g ∧ s.hmaOk = true ∧
        s.get .SEC_PKG_STATUS_STATE ≠ 3) ∧
    (∃ (s : State), s.hma.grant = none ∧ s.hma.noGrant.any (fun x => decide (x + ms ≤ s.now)) = true ∧
        s.hma.bwcZero = false ∧ s.hmaOk = true) ∧
    (∃ (s : State), (s.hma.grant ≠ none ∨ s.hmaOk = false ∨ s.hma.bwcZero =
        true ∨ s.hma.noGrant.all (fun x => decide (s.now < x + ms)) = true)) ∧
    (∃ (s : State) (p : Fin 2), s.hmaOk = true ∧ (s.pilot p).role ≠ .out) ∧
    (∃ (s : State) (p : Fin 2), (s.hmaOk = false ∨ (s.pilot p).role = .out)) :=
  ⟨⟨{ ws [(.RST_IN_RESET_STATE, 0, 0, 0), (.PLT_STATUS_HMA_OK, 0, 0, 1), (.PWR_IN_V_NODE_MV, 0, 0, 50000), (.PWR_IN_I_A_X100, 0, 0, 900)] with pilots := #v[{ hbRunning := true, identityOk := true, firmwareOk := true }, { hbRunning := true, identityOk := true, firmwareOk := true }], hma := {  } },
        0, by decide +kernel⟩,
    ⟨activePA, by decide +kernel⟩,
    ⟨{ ws [(.RST_IN_RESET_STATE, 0, 0, 0)] with pilots := #v[{ role := .active, linkEn := true, hbRunning := true, hbLast := 3 }, { role := .standby, hbRunning := true, accepted := 32, sinceCopy := 1, lastAlive := some 7, lastCycle := some 20 }], hma := { grant := some 0 } },
        0, by decide +kernel⟩,
    ⟨{ ws [(.RST_IN_RESET_STATE, 0, 0, 0)] with pilots := #v[{ lockstepOk := false }, { role := .standby, hbRunning := true, accepted := 32, sinceCopy := 1, lastAlive := some 7, lastCycle := some 20 }], hma := {  } },
        0, by decide +kernel⟩,
    ⟨{ ws [(.RST_IN_RESET_STATE, 0, 0, 0), (.PLT_STATUS_HMA_OK, 0, 0, 1)] with pilots := #v[{ role := .active, linkEn := true, hbRunning := true, hbLast := 3 }, { role := .standby, hbRunning := true, accepted := 32, sinceCopy := 1, lastAlive := some 7, lastCycle := some 20 }], hma := { grant := some 0 } },
        0, .clockBad, by decide +kernel⟩,
    ⟨{ ws [(.RST_IN_RESET_STATE, 0, 0, 0), (.PLT_STATUS_HMA_OK, 0, 0, 1)] with pilots := #v[{ role := .active, linkEn := true, hbRunning := true, hbLast := 3 }, { role := .standby, hbRunning := true, accepted := 32, sinceCopy := 1, lastAlive := some 7, lastCycle := some 20 }], hma := { grant := some 0 } },
        0, .earlyEdge, by decide +kernel⟩,
    ⟨{ ws [(.RST_IN_RESET_STATE, 0, 0, 0), (.PLT_STATUS_HMA_OK, 0, 0, 1), (.MOD_READY_SUP, 0, 0, 1)] with pilots := #v[{ role := .active, linkEn := true, hbRunning := true, hbLast := 3 }, { role := .out }], hma := { grant := some 0 }, now := 12500003 },
        0, .noEdge, by decide +kernel⟩,
    ⟨{ ws [(.RST_IN_RESET_STATE, 0, 0, 0), (.PLT_STATUS_HMA_OK, 0, 0, 1)] with pilots := #v[{ role := .active, linkEn := true, hbRunning := true, hbLast := 3 }, { role := .standby, hbRunning := true, accepted := 32, sinceCopy := 1, lastAlive := some 7, lastCycle := some 20 }], hma := { grant := some 0 } },
        1, .railOut, by decide +kernel⟩,
    ⟨{ ws [(.RST_IN_RESET_STATE, 0, 0, 0), (.PWR_IN_V_NODE_MV, 0, 0, 50000)] with pilots := #v[{ role := .active, linkEn := true, hbRunning := true, hbLast := 3 }, { role := .standby, hbRunning := true, accepted := 32, sinceCopy := 1, lastAlive := some 7, lastCycle := some 20 }], hma := { grant := some 0, takeover := some false } },
        0, false, by decide +kernel⟩,
    ⟨{ { ws [(.RST_IN_RESET_STATE, 0, 0, 0)] with pilots := #v[{ role := .active, linkEn := true, hbRunning := true, hbLast := 3 }, { role := .standby, hbRunning := true, accepted := 32, sinceCopy := 1, lastAlive := some 7, lastCycle := some 20 }], hma := { grant := some 0, takeover := some true } } with copyHeld := some { activePA.copyLoad with outs := { activePA.outs with pset := 700 } } },
        0, { activePA.copyLoad with outs := { activePA.outs with pset := 700 } }, by decide +kernel⟩,
    ⟨activePA, by decide +kernel⟩,
    ⟨{ ws [(.RST_IN_RESET_STATE, 0, 0, 0)] with pilots := #v[{ role := .active, linkEn := true, hbRunning := true, hbLast := 3 }, { role := .standby, hbRunning := true, accepted := 32, sinceCopy := 1, lastAlive := some 7, lastCycle := some 20 }], hma := { grant := some 0 } },
        0, by decide +kernel⟩,
    ⟨{ ws [(.RST_IN_RESET_STATE, 0, 0, 0)] with pilots := #v[{ role := .active, linkEn := true, hbRunning := true, hbLast := 3 }, { role := .standby, hbRunning := true, accepted := 32, sinceCopy := 1, lastAlive := some 7, lastCycle := some 20 }], hma := { grant := some 0, handover := some { cause := 6, old := 0, sent := false, accepted := false, granted := none } } },
        0, { cause := 6, old := 0, sent := false, accepted := false, granted := none }, by decide +kernel⟩,
    ⟨{ ws [(.RST_IN_RESET_STATE, 0, 0, 0)] with pilots := #v[{ role := .active, linkOut := false }, { role := .standby, hbRunning := true, accepted := 32, sinceCopy := 1, lastAlive := some 7, lastCycle := some 20 }], hma := { grant := some 0 } },
        by decide +kernel⟩,
    ⟨{ ws [(.RST_IN_RESET_STATE, 0, 0, 0)] with pilots := #v[{ role := .active, linkEn := true, hbRunning := true, hbLast := 3 }, { role := .standby, hbRunning := true, accepted := 32, sinceCopy := 1, lastAlive := some 7, lastCycle := some 20 }], hma := { grant := some 0 } },
        1, by decide +kernel⟩,
    ⟨{ ws [(.RST_IN_RESET_STATE, 0, 0, 0)] with pilots := #v[{ role := .active, linkEn := true, hbRunning := true, hbLast := 3 }, { role := .standby, hbRunning := true, accepted := 32, sinceCopy := 1, lastAlive := some 7, lastCycle := some 20 }], hma := { grant := some 0 } },
        1, 8, 20, by decide +kernel⟩,
    ⟨{ ws [(.RST_IN_RESET_STATE, 0, 0, 0)] with pilots := #v[{ role := .active, linkEn := true, hbRunning := true, hbLast := 3 }, { role := .standby, hbRunning := true, accepted := 32, sinceCopy := 1, lastAlive := some 7, lastCycle := some 20 }], hma := { grant := some 0 } },
        1, 0x9A1D, by decide +kernel⟩,
    ⟨{ ws [(.RST_IN_RESET_STATE, 0, 0, 0)] with pilots := #v[{ role := .active, linkEn := true, hbRunning := true, hbLast := 3 }, {}], hma := { grant := some 0 } },
        by decide +kernel⟩,
    ⟨{ ws [(.RST_IN_RESET_STATE, 0, 0, 0)] with pilots := #v[{ role := .active, linkEn := true, hbRunning := true, hbLast := 3 }, { role := .standby, hbRunning := true, accepted := 32, sinceCopy := 1, lastAlive := some 7, lastCycle := some 20 }], hma := { grant := some 0 } },
        1, 8, 21, by decide +kernel⟩,
    ⟨{ ws [(.RST_IN_RESET_STATE, 0, 0, 0)] with pilots := #v[{ role := .active, linkEn := true, hbRunning := true, hbLast := 3 }, { hbRunning := true, identityOk := true, firmwareOk := true }], hma := { grant := some 0 } },
        1, by decide +kernel⟩,
    ⟨{ ws [(.RST_IN_RESET_STATE, 0, 0, 0)] with pilots := #v[{ role := .active, linkEn := true, hbRunning := true, hbLast := 3 }, { role := .standby, hbRunning := true, accepted := 32, sinceCopy := 1, lastAlive := some 7, lastCycle := some 20 }], hma := { grant := some 0 } },
        1, by decide +kernel⟩,
    ⟨{ ws [(.RST_IN_RESET_STATE, 0, 0, 0), (.PLT_STATUS_HMA_OK, 0, 0, 1)] with pilots := #v[{ role := .active, linkEn := true, hbRunning := true, hbLast := 3 }, { role := .standby, hbRunning := true, accepted := 32, sinceCopy := 1, lastAlive := some 7, lastCycle := some 20 }], hma := { grant := some 0, handover := some { cause := 6, old := 0, sent := true, accepted := true, granted := none } } },
        { cause := 6, old := 0, sent := true, accepted := true, granted := none }, by decide +kernel⟩,
    ⟨{ ws [(.RST_IN_RESET_STATE, 0, 0, 0)] with pilots := #v[{ role := .active, linkEn := true, hbRunning := true, hbLast := 3 }, { role := .standby, hbRunning := true, accepted := 32, sinceCopy := 1, lastAlive := some 7, lastCycle := some 20 }], hma := { grant := some 0, handover := some { cause := 6, old := 0, sent := true, accepted := false, granted := none } } },
        by decide +kernel⟩,
    ⟨{ ws [(.RST_IN_RESET_STATE, 0, 0, 0)] with pilots := #v[{ role := .active, linkEn := true, hbRunning := true, hbLast := 3 }, { role := .standby, hbRunning := true, accepted := 32, sinceCopy := 1, lastAlive := some 7, lastCycle := some 20 }], hma := { grant := some 0, handover := some { cause := 6, old := 0, sent := true, accepted := false, granted := none } } },
        { cause := 6, old := 0, sent := true, accepted := false, granted := none }, by decide +kernel⟩,
    ⟨{ ws [(.RST_IN_RESET_STATE, 0, 0, 0)] with pilots := #v[{ role := .active, linkEn := true, hbRunning := true, hbLast := 3 }, { role := .standby, hbRunning := true, accepted := 32, sinceCopy := 1, lastAlive := some 7, lastCycle := some 20 }], hma := { grant := some 0, handover := some { cause := 6, old := 0, sent := true, accepted := true, granted := none } } },
        by decide +kernel⟩,
    ⟨{ ws [(.RST_IN_RESET_STATE, 0, 0, 0)] with pilots := #v[{ role := .active, linkEn := true, hbRunning := true, hbLast := 3 }, { role := .standby, hbRunning := true, accepted := 32, sinceCopy := 1, lastAlive := some 7, lastCycle := some 20 }], hma := { grant := some 0, handover := some { cause := 6, old := 0, sent := true, accepted := true, granted := none } } },
        by decide +kernel⟩,
    ⟨{ ws [(.RST_IN_RESET_STATE, 0, 0, 0), (.PLT_STATUS_HMA_OK, 0, 0, 1)] with pilots := #v[{ role := .active, linkEn := true, hbRunning := true, hbLast := 3 }, { role := .active, linkEn := true, hbRunning := true, hbLast := 3 }], hma := { grant := some 1, handover := some { cause := 6, old := 0, sent := true, accepted := true, granted := some 9 } } },
        { cause := 6, old := 0, sent := true, accepted := true, granted := some 9 }, 9, by decide +kernel⟩,
    ⟨{ ws [(.RST_IN_RESET_STATE, 0, 0, 0), (.PLT_STATUS_HMA_OK, 0, 0, 1)] with pilots := #v[{}, {}], hma := { noGrant := some 3 }, now := 3 + ms },
        by decide +kernel⟩,
    ⟨{ ws [(.RST_IN_RESET_STATE, 0, 0, 0), (.PLT_STATUS_HMA_OK, 0, 0, 1)] with pilots := #v[{}, {}], hma := { noGrant := some 3 }, now := 2 + ms },
        by decide +kernel⟩,
    ⟨{ ws [(.RST_IN_RESET_STATE, 0, 0, 0), (.PLT_STATUS_HMA_OK, 0, 0, 1)] with pilots := #v[{ role := .active, linkEn := true, hbRunning := true, hbLast := 3 }, { role := .standby, hbRunning := true, accepted := 32, sinceCopy := 1, lastAlive := some 7, lastCycle := some 20 }], hma := { grant := some 0, handover := some { cause := 6, old := 0, sent := true, accepted := false, granted := none } } },
        1, by decide +kernel⟩,
    ⟨{ ws [(.RST_IN_RESET_STATE, 0, 0, 0), (.PLT_STATUS_HMA_OK, 0, 0, 0)] with pilots := #v[{ role := .active, linkEn := true, hbRunning := true, hbLast := 3 }, { role := .standby, hbRunning := true, accepted := 32, sinceCopy := 1, lastAlive := some 7, lastCycle := some 20 }], hma := {  } },
        1, by decide +kernel⟩⟩

/-- HostSwitchStartsAHandoverOrIsRefused: what its hypotheses ask, clause by clause. -/
theorem witness_hostSwitchStartsAHandoverOrIsRefused :
    (∃ (s : State) (src : Source) (p : Fin 2), s.right src = .owner ∧ s.hmaOk = true ∧ s.activePilot = some p ∧
        (allFin 2).any (fun p : Fin 2 => s.synced p) = true ∧ s.hma.handover = none) ∧
    (∃ (s : State) (src : Source), s.right src = .owner ∧
        (s.hma.handover ≠ none ∨ (allFin 2).any (fun p : Fin 2 => s.synced p) = false)) ∧
    (∃ (s : State) (src : Source) (key : BitVec 16), s.right src = .owner ∧ key ≠ 0x5A17#16) ∧
    (∃ (s : State), s.hmaOk = true ∧ s.hma.grant = some 1 ∧ s.activePilot = some 1 ∧ s.synced 0 = true ∧
        s.hma.handover = none ∧ s.bit .PLT_CFG_AUTO_RETURN = true ∧
        (s.pilot 0).syncedSince.any (fun x => decide (x + 500 * ms ≤ s.now)) = true) ∧
    (∃ (s : State), (s.hmaOk = false ∨ s.hma.grant ≠ some 1 ∨ s.synced 0 =
        false ∨ s.hma.handover ≠ none ∨ (s.pilot 0).syncedSince.all (fun x => decide (s.now < x + 500 * ms)) = true)) ∧
    (∃ (s : State), s.bit .PLT_CFG_AUTO_RETURN = false) :=
  ⟨⟨{ { ws [(.RST_IN_RESET_STATE, 0, 0, 0), (.PLT_STATUS_HMA_OK, 0, 0, 1)] with pilots := #v[{ role := .active, linkEn := true, hbRunning := true, hbLast := 3 }, { role := .standby, hbRunning := true, accepted := 32, sinceCopy := 1, lastAlive := some 7, lastCycle := some 20 }], hma := { grant := some 0 } } with net := (owned []).net },
        .session 1, 0, by decide +kernel⟩,
    ⟨{ { ws [(.RST_IN_RESET_STATE, 0, 0, 0), (.PLT_STATUS_HMA_OK, 0, 0, 1)] with pilots := #v[{ role := .active, linkEn := true, hbRunning := true, hbLast := 3 }, {}], hma := { grant := some 0 } } with net := (owned []).net },
        .session 1, by decide +kernel⟩,
    ⟨{ { ws [(.RST_IN_RESET_STATE, 0, 0, 0)] with pilots := #v[{ role := .active, linkEn := true, hbRunning := true, hbLast := 3 }, { role := .standby, hbRunning := true, accepted := 32, sinceCopy := 1, lastAlive := some 7, lastCycle := some 20 }], hma := { grant := some 0 } } with net := (owned []).net },
        .session 1, 7, by decide +kernel⟩,
    ⟨{ ws [(.RST_IN_RESET_STATE, 0, 0, 0), (.PLT_STATUS_HMA_OK, 0, 0, 1), (.PLT_CFG_AUTO_RETURN, 0, 0, 1)] with pilots := #v[{ role := .standby, hbRunning := true, accepted := 32, sinceCopy := 1, syncedSince := some 3, lastAlive := some 7, lastCycle := some 20 }, { role := .active, linkEn := true, hbRunning := true, hbLast := 3 }], hma := { grant := some 1 }, now := 3 + 500 * ms },
        by decide +kernel⟩,
    ⟨{ ws [(.RST_IN_RESET_STATE, 0, 0, 0), (.PLT_STATUS_HMA_OK, 0, 0, 1), (.PLT_CFG_AUTO_RETURN, 0, 0, 1)] with pilots := #v[{ role := .standby, hbRunning := true, accepted := 32, sinceCopy := 1, lastAlive := some 7, lastCycle := some 20 }, { role := .active, linkEn := true, hbRunning := true, hbLast := 3 }], hma := { grant := some 1 } },
        by decide +kernel⟩,
    ⟨{ ws [(.RST_IN_RESET_STATE, 0, 0, 0), (.PLT_CFG_AUTO_RETURN, 0, 0, 0)] with pilots := #v[{ role := .standby, hbRunning := true, accepted := 32, sinceCopy := 1, lastAlive := some 7, lastCycle := some 20 }, { role := .active, linkEn := true, hbRunning := true, hbLast := 3 }], hma := { grant := some 1 } },
        by decide +kernel⟩⟩

/-- SlipwayDrainsAndRemovals: what its hypotheses ask, clause by clause. -/
theorem witness_slipwayDrainsAndRemovals :
    (∃ (s : State) (src : Source), s.right src = .owner ∧ s.hplState = 0 ∧ s.ready rSUP = true) ∧
    (∃ (s : State) (src : Source), s.right src = .owner ∧ (s.hplState ≠ 0 ∨ s.ready rSUP = false)) ∧
    (∃ (s : State) (src : Source) (key : BitVec 16), s.right src = .owner ∧ key ≠ 0xD2A1#16 ∧ key ≠ 0xCA9C#16) ∧
    (∃ (s : State) (src : Source), s.right src = .owner ∧ (s.hplState = 1 ∨ s.hplState = 2)) ∧
    (∃ (s : State) (src : Source), s.right src = .owner ∧ s.hplState ≠ 1 ∧ s.hplState ≠ 2) ∧
    (∃ (s : State), s.hplState = 1 ∧ (s.berthsHere.all (fun b : Fin 8 => s.quiesced b && s.outOfDomain b)) = true) ∧
    (∃ (s : State), (s.hplState ≠ 1 ∨ (s.berthsHere.all (fun b : Fin 8 => s.quiesced b && s.outOfDomain b)) = false)) ∧
    (∃ (s : State) (b : Fin 8), s.hplState = 1 ∧ (s.rhdState b = 4 ∨ s.rhdState b = 5) ∧
        (s.berthDies b).all (fun d : Fin 8 => s.streamState d == 0 || s.streamState d == 2) = true) ∧
    (∃ (s : State) (b : Fin 8), (s.hplState ≠ 1 ∨ (s.rhdState b ≠ 4 ∧
        s.rhdState b ≠ 5) ∨ (s.berthDies b).all (fun d : Fin 8 => s.streamState d == 0 || s.streamState d == 2) = false)) ∧
    (∃ (s : State), s.hplState = 1 ∧ s.hplLong (s.get .HPL_CFG_QUIESCE_S) = true) ∧
    (∃ (s : State), (s.hplState ≠ 1 ∨ s.hplLong (s.get .HPL_CFG_QUIESCE_S) = false)) ∧
    (∃ (s : State), s.hplState = 2 ∧ (s.get .BWR_SOC_PCT_X100 ≤ 3050 ∨ s.ready rBWR = false)) ∧
    (∃ (s : State), (s.hplState ≠ 2 ∨ (3050 < s.get .BWR_SOC_PCT_X100 ∧ s.ready rBWR = true))) ∧
    (∃ (s : State), s.hplState = 2 ∧ s.hplLong (s.get .HPL_CFG_DISCH_S) = true) ∧
    (∃ (s : State), (s.hplState ≠ 2 ∨ s.hplLong (s.get .HPL_CFG_DISCH_S) = false)) ∧
    (∃ (s : State), s.hplState = 3) ∧
    (∃ (s : State), s.hplState ≠ 3) ∧
    (∃ (s : State), s.hplState = 5 ∧ (s.iso = 0 ∨ (s.bit .LOG_STATUS_FLUSHING = false ∧ s.hpl.recorded = true))) ∧
    (∃ (s : State), (s.hplState ≠ 5 ∨ (s.iso ≠ 0 ∧ (s.bit .LOG_STATUS_FLUSHING = true ∨ s.hpl.recorded = false)))) :=
  ⟨⟨{ berthed with regs := [(⟨.MOD_READY_SUP, 0, 0⟩, 1), (⟨.HPL_STATE_DRAIN_SRC, 0, 0⟩, 3)] }, .session 1, by decide +kernel⟩,
    ⟨owned [(.HPL_STATE_STATE, 0, 0, 2), (.MOD_READY_SUP, 0, 0, 1)], .session 1, by decide +kernel⟩,
    ⟨owned [(.HPL_STATE_STATE, 0, 0, 0), (.MOD_READY_SUP, 0, 0, 1)], .session 1, 5, by decide +kernel⟩,
    ⟨owned [(.HPL_STATE_STATE, 0, 0, 2), (.MOD_READY_SUP, 0, 0, 1), (.BWR_STATUS_DRAIN, 0, 0, 1)], .session 1,
        by decide +kernel⟩,
    ⟨owned [(.HPL_STATE_STATE, 0, 0, 4), (.MOD_READY_SUP, 0, 0, 1)], .session 1, by decide +kernel⟩,
    ⟨{ ws [(.HPL_STATE_STATE, 0, 0, 1), (.MOD_READY_SUP, 0, 0, 1)] with now := 7 }, by decide +kernel⟩,
    ⟨ws [(.HPL_STATE_STATE, 0, 0, 0), (.MOD_READY_SUP, 0, 0, 1)], by decide +kernel⟩,
    ⟨(tuned 4 [(.RHD_MEMBERS_COUNT, 3)] {}).set .HPL_STATE_STATE 1, 0, by decide +kernel⟩,
    ⟨tuned 4 [] {}, 0, by decide +kernel⟩,
    ⟨{ berthed with regs := [(⟨.HPL_STATE_STATE, 0, 0⟩, 1), (⟨.CDC_STREAM_STATE_STATE, 0, 0⟩, 1), (⟨.HPL_CFG_QUIESCE_S, 0, 0⟩, 5)], now := 5 * second },
        by decide +kernel⟩,
    ⟨{ ws [(.HPL_STATE_STATE, 0, 0, 1), (.HPL_CFG_QUIESCE_S, 0, 0, 5)] with now := 5 * second - 1 }, by decide +kernel⟩,
    ⟨{ ws [(.HPL_STATE_STATE, 0, 0, 2), (.MOD_READY_SUP, 0, 0, 1), (.MOD_READY_BWR, 0, 0, 1), (.BWR_SOC_PCT_X100, 0, 0, 3050)] with now := 7 },
        by decide +kernel⟩,
    ⟨ws [(.HPL_STATE_STATE, 0, 0, 2), (.MOD_READY_SUP, 0, 0, 1), (.MOD_READY_BWR, 0, 0, 1), (.BWR_SOC_PCT_X100, 0, 0, 3051)],
        by decide +kernel⟩,
    ⟨{ ws [(.HPL_STATE_STATE, 0, 0, 2), (.HPL_CFG_DISCH_S, 0, 0, 5)] with now := 5 * second }, by decide +kernel⟩,
    ⟨ws [(.HPL_STATE_STATE, 0, 0, 1), (.MOD_READY_SUP, 0, 0, 1)], by decide +kernel⟩,
    ⟨{ owned [(.HPL_STATE_STATE, 0, 0, 3), (.RST_IN_RESET_STATE, 0, 0, 0), (.BWR_STATUS_ISO, 0, 0, 2)] with hma := { grant := some 0 } },
        by decide +kernel⟩,
    ⟨ws [(.HPL_STATE_STATE, 0, 0, 2), (.MOD_READY_SUP, 0, 0, 1)], by decide +kernel⟩,
    ⟨{ ws [(.HPL_STATE_STATE, 0, 0, 5), (.BWR_STATUS_ISO, 0, 0, 2)] with hpl := { recorded := true } }, by decide +kernel⟩,
    ⟨ws [(.HPL_STATE_STATE, 0, 0, 2), (.MOD_READY_SUP, 0, 0, 1)], by decide +kernel⟩⟩

/-- RegisterAccessesFollowTheirCodes: what its hypotheses ask, clause by clause. -/
theorem witness_registerAccessesFollowTheirCodes :
    (∃ (s : State) (src : Source) (a : BitVec 32), s.right src = .owner ∧ a.toNat % 4 ≠ 0) ∧
    (∃ (s : State) (src : Source) (a : BitVec 32), s.right src = .owner ∧ a.toNat % 4 = 0 ∧ spotOf a.toNat = none) ∧
    (∃ (s : State) (src : Source), s.right src = .owner) ∧
    (∃ (s : State) (src : Source), s.right src = .owner) ∧
    (∃ (s : State) (src : Source), s.right src = .owner) ∧
    (∃ (s : State) (src : Source), s.right src = .owner) ∧
    (∃ (s : State) (src : Source), s.right src = .owner) ∧
    (∃ (s : State) (src : Source), s.right src = .owner ∧ s.iso ≠ 0) ∧
    (∃ (s : State) (src : Source) (v : BitVec 32), s.right src = .owner ∧ s.iso = 0 ∧ 1900 ≤ v.toNat % 2 ^ 12 ∧
        v.toNat % 2 ^ 12 ≤ 2150 ∧ 3900 ≤ v.toNat / 2 ^ 16 % 2 ^ 12 ∧ v.toNat / 2 ^ 16 % 2 ^ 12 ≤ 4100) ∧
    (∃ (s : State) (src : Source) (a : BitVec 32), s.right src = .owner ∧ a.toNat % 4 ≠ 0) ∧
    (∃ (s : State) (src : Source) (a : BitVec 32), s.right src = .owner ∧ a.toNat % 4 = 0 ∧ spotOf a.toNat = none) ∧
    (∃ (s : State) (src : Source), s.right src = .owner) :=
  ⟨⟨owned [], .session 1, 0x1B0029, by decide +kernel⟩,
    ⟨owned [], .session 1, 0xF0000000, by decide +kernel⟩,
    ⟨owned [], .session 1, by decide +kernel⟩,
    ⟨owned [], .session 1, by decide +kernel⟩,
    ⟨owned [], .session 1, by decide +kernel⟩,
    ⟨owned [(.PLT_STATUS_SW_REFUSED, 0, 0, 1)], .session 1, by decide +kernel⟩,
    ⟨owned [(.PLT_STATUS_SW_REFUSED, 0, 0, 1)], .session 1, by decide +kernel⟩,
    ⟨owned [(.BWR_STATUS_ISO, 0, 0, 2)], .session 1, by decide +kernel⟩,
    ⟨owned [], .session 1, 0x0F3C0866, by decide +kernel⟩,
    ⟨owned [], .session 1, 0x1B0081, by decide +kernel⟩,
    ⟨owned [], .session 1, 0xF0000000, by decide +kernel⟩,
    ⟨owned [(.CAP_DIE_J_J, 0, 3, 0x500000007)], .session 1, by decide +kernel⟩⟩

end Sys2Proof.Tests
end

section
/-! The host switch and the automatic return (R495, R497): what a write of `PLT_CTRL.SWITCH` does in each of its three
cases, and when AUTO_RETURN_START starts a handover. -/

namespace Sys2Proof.Machine

/-! ### Frames -/

theorem SameRegs.of_regs {s t : State} (fs : List Fld) (hr : t.regs = s.regs) (hf : t.flashLoaded = s.flashLoaded) :
    SameRegs fs s t := fun f _ i j => State.get_congr hr hf f i j

theorem SameMem.of_mem {s t : State} (h : t.mem = s.mem) : SameMem s t := fun a => congrArg (memGet a) h

theorem SameRegs.trans {fs : List Fld} {s t u : State} (h : SameRegs fs s t) (h' : SameRegs fs t u) : SameRegs fs s u :=
  fun f hf i j => (h' f hf i j).trans (h f hf i j)

theorem State.setBit_sameRegs (s : State) (f : Fld) (v : Bool) (i j : Nat) : SameRegs [f] s (s.setBit f v i j) :=
  fun _ hg i' j' => State.get_setBit_fld s v i j i' j' (List.ne_of_not_mem_cons hg)

/-! ### Starting a handover -/

theorem State.handoverStart_of_active {s : State} {p : Fin 2} (h : s.activePilot = some p) (cause : Nat) :
    s.handoverStart cause = { s with hma := { s.hma with handover := some { cause := cause, old := p } } } := by
  unfold State.handoverStart
  rw [h]

/-- Some pilot is a synchronised standby (R489). -/
def State.anySynced (s : State) : Bool := (allFin 2).any (fun p : Fin 2 => s.synced p)

@[simp] theorem State.anySynced_setBit (s : State) (f : Fld) (v : Bool) (i j : Nat) :
    (s.setBit f v i j).anySynced = s.anySynced := rfl

@[simp] theorem State.activePilot_setBit (s : State) (f : Fld) (v : Bool) (i j : Nat) :
    (s.setBit f v i j).activePilot = s.activePilot := rfl

theorem State.hmaOk_setBit_ne (s : State) {f : Fld} (v : Bool) (h : Fld.PLT_STATUS_HMA_OK ≠ f) :
    (s.setBit f v).hmaOk = s.hmaOk := State.bit_setBit_fld s v 0 0 0 0 h

/-! ### The three cases of a switch key -/

theorem State.pltSwitch_other {key : Nat} (s : State) (h : key ≠ 0x5A17) : s.pltSwitch key = s := by
  unfold State.pltSwitch
  rw [if_pos h]

theorem State.pltSwitch_refused {s : State} (h : s.hma.handover ≠ none ∨ s.anySynced = false) :
    s.pltSwitch 0x5A17 = s.setBit .PLT_STATUS_SW_REFUSED true := by
  have hbar : (s.hma.handover.isSome || !s.anySynced) = true := by
    rcases h with h | h
    · rw [Option.isSome_iff_ne_none.mpr h, Bool.true_or]
    · rw [h, Bool.not_false, Bool.or_true]
  unfold State.pltSwitch
  rw [if_neg (by decide)]
  exact if_pos hbar

theorem State.pltSwitch_starts {s : State} (hn : s.hma.handover = none) (hs : s.anySynced = true) (hok : s.hmaOk = true) :
    s.pltSwitch 0x5A17 = s.handoverStart 6 := by
  have hfree : ¬(s.hma.handover.isSome || !s.anySynced) = true := by simp [hn, hs]
  unfold State.pltSwitch
  rw [if_neg (by decide)]
  exact (if_neg hfree).trans (if_pos hok)

/-! ### The action of `PLT_CTRL.SWITCH` -/

/-- SW_REFUSED taken out of the way while the action runs: the action sets it where it refuses. -/
def State.switchArmed (s : State) : State := s.setBit .PLT_STATUS_SW_REFUSED false

@[simp] theorem State.switchArmed_bit (s : State) : s.switchArmed.bit .PLT_STATUS_SW_REFUSED = false :=
  State.bit_setBit_same s _ false 0 0

theorem State.fieldAct_switch (s : State) (src : Source) (p : Spot) (i v : Nat) :
    s.fieldAct src p .PLT_CTRL_SWITCH i v =
      if (s.switchArmed.pltSwitch v).bit .PLT_STATUS_SW_REFUSED then (s.switchArmed.pltSwitch v).freeRefusal
      else ({ s.switchArmed.pltSwitch v with regs := s.regs }, 0) := rfl

theorem State.fieldAct_switch_other {key : Nat} (s : State) (src : Source) (p : Spot) (i : Nat) (h : key ≠ 0x5A17) :
    s.fieldAct src p .PLT_CTRL_SWITCH i key = (s, 0) := by
  rw [State.fieldAct_switch, State.pltSwitch_other _ h, State.switchArmed_bit]
  rfl

theorem State.fieldAct_switch_refused {s : State} (src : Source) (p : Spot) (i : Nat)
    (h : s.hma.handover ≠ none ∨ s.anySynced = false) :
    s.fieldAct src p .PLT_CTRL_SWITCH i 0x5A17 = (s.switchArmed.setBit .PLT_STATUS_SW_REFUSED true).freeRefusal := by
  have hr : s.switchArmed.pltSwitch 0x5A17 = s.switchArmed.setBit .PLT_STATUS_SW_REFUSED true :=
    State.pltSwitch_refused (s := s.switchArmed) h
  rw [State.fieldAct_switch, hr, State.bit_setBit_same, if_pos rfl]

theorem State.fieldAct_switch_starts {s : State} {q : Fin 2} (src : Source) (p : Spot) (i : Nat) (hq : s.activePilot = some q)
    (hn : s.hma.handover = none) (hs : s.anySynced = true) (hok : s.hmaOk = true) :
    s.fieldAct src p .PLT_CTRL_SWITCH i 0x5A17 =
      ({ s with hma := { s.hma with handover := some { cause := 6, old := q } } }, 0) := by
  have hok' : s.switchArmed.hmaOk = true := (State.hmaOk_setBit_ne s false (by decide)).trans hok
  have hst : s.switchArmed.pltSwitch 0x5A17 =
      { s.switchArmed with hma := { s.hma with handover := some { cause := 6, old := q } } } :=
    (State.pltSwitch_starts (s := s.switchArmed) hn hs hok').trans
      (State.handoverStart_of_active (s := s.switchArmed) hq 6)
  have hbit : (s.switchArmed.pltSwitch 0x5A17).bit .PLT_STATUS_SW_REFUSED = false := by
    rw [hst]
    exact s.switchArmed_bit
  rw [State.fieldAct_switch, hbit, hst]
  rfl

/-! ### The write -/

/-- An owner's write of `PLT_CTRL.SWITCH`: its action is made, and the status goes out. -/
theorem runs_pltSwitch_owner {s : State} {src : Source} {key : BitVec 16} {n : Nat} {r : State × Nat} {P : State → Prop}
    (ho : s.right src = .owner) (hk : key.toNat = n) (hr : s.fieldAct src ⟨.plt, 0, 8⟩ .PLT_CTRL_SWITCH 0 n = r)
    (hP : P (r.1.out (.access src r.2 0))) : Runs (.pltSwitch src key) s P := by
  have he : exec (.pltSwitch src key) s = .next (r.1.out (.access src r.2 0)) := by
    rw [← hr, ← hk]
    exact congrArg Host.Outcome.next (State.actRow_owner ho ⟨.plt, 0, 8⟩ key.toNat .PLT_CTRL_SWITCH 0 key.toNat rfl)
  exact ⟨_, he, hP⟩

/-- The status of a free refusal is one of Table 2-8's refusals (log entry 29). -/
theorem State.freeRefusal_range (s : State) : 1 ≤ s.freeRefusal.2 ∧ s.freeRefusal.2 ≤ 6 := by
  have h : s.freeRefusal.2 = 1 + Config.free 54 s.fresh % 6 := rfl
  omega

theorem runs_pltSwitch_starts {s : State} {src : Source} {p : Fin 2} (ho : s.right src = .owner) (hok : s.hmaOk = true)
    (hp : s.activePilot = some p) (hs : s.anySynced = true) (hn : s.hma.handover = none) :
    Runs (.pltSwitch src 0x5A17#16) s (fun t => t.hma = { s.hma with handover := some { cause := 6, old := p } } ∧
      Answered src 0 s t ∧ SameRegs [] s t ∧ SameMem s t) :=
  runs_pltSwitch_owner ho (by decide) (State.fieldAct_switch_starts src _ 0 hp hn hs hok)
    ⟨rfl, rfl, .of_regs [] rfl rfl, .of_mem rfl⟩

theorem runs_pltSwitch_refused {s : State} {src : Source} (ho : s.right src = .owner)
    (h : s.hma.handover ≠ none ∨ s.anySynced = false) :
    Runs (.pltSwitch src 0x5A17#16) s (fun t => t.bit .PLT_STATUS_SW_REFUSED = true ∧ t.hma = s.hma ∧ t.pilots = s.pilots ∧
      Answered src s.freeRefusal.2 s t ∧ 1 ≤ s.freeRefusal.2 ∧ s.freeRefusal.2 ≤ 6 ∧
      SameRegs [.PLT_STATUS_SW_REFUSED] s t ∧ SameMem s t) := by
  have hbit : (s.switchArmed.setBit .PLT_STATUS_SW_REFUSED true).bit .PLT_STATUS_SW_REFUSED = true :=
    State.bit_setBit_same _ _ true 0 0
  have hregs : SameRegs [.PLT_STATUS_SW_REFUSED] s (s.switchArmed.setBit .PLT_STATUS_SW_REFUSED true) :=
    (s.setBit_sameRegs .PLT_STATUS_SW_REFUSED false 0 0).trans (State.setBit_sameRegs _ .PLT_STATUS_SW_REFUSED true 0 0)
  obtain ⟨hlo, hhi⟩ := s.freeRefusal_range
  exact runs_pltSwitch_owner ho (by decide) (State.fieldAct_switch_refused src _ 0 h)
    ⟨hbit, rfl, rfl, rfl, hlo, hhi, hregs, .of_mem rfl⟩

theorem runs_pltSwitch_other {s : State} {src : Source} {key : BitVec 16} (ho : s.right src = .owner) (h : key ≠ 0x5A17#16) :
    Runs (.pltSwitch src key) s (fun t => t = s.out (.access src 0 0)) :=
  runs_pltSwitch_owner ho rfl (State.fieldAct_switch_other s src _ 0 fun hk => h (BitVec.eq_of_toNat_eq hk)) rfl

/-! ### The automatic return -/

/-- A time was taken and lies `wait` or more back. The wait is an argument, so that no proof computes with 500 ms in ps. -/
def waited (since : Option Nat) (wait now : Nat) : Bool :=
  match since with
  | some x => decide (x + wait ≤ now)
  | none => false

theorem waited_eq_any (since : Option Nat) (wait now : Nat) :
    waited since wait now = since.any (fun x => decide (x + wait ≤ now)) := by
  cases since <;> rfl

theorem waited_eq_false_iff (since : Option Nat) (wait now : Nat) :
    waited since wait now = false ↔ since.all (fun x => decide (now < x + wait)) = true := by
  cases since <;> simp [waited]

/-- The condition under which HMA returns control to PA: PA synchronised for 500 ms, PB in control and no handover in
progress (R495, R496, R499). -/
def State.returnDue (s : State) : Bool :=
  s.bit .PLT_CFG_AUTO_RETURN && s.hmaOk && decide (s.hma.grant = some 1) && s.synced 0 &&
    waited (s.pilot 0).syncedSince (500 * ms) s.now && s.hma.handover.isNone

theorem execAutoReturnStart_eq (s : State) :
    execAutoReturnStart s = .next (if s.returnDue then s.handoverStart 7 else s) := rfl

theorem State.returnDue_iff (s : State) : s.returnDue = true ↔
    s.bit .PLT_CFG_AUTO_RETURN = true ∧ s.hmaOk = true ∧ s.hma.grant = some 1 ∧ s.synced 0 = true ∧
      waited (s.pilot 0).syncedSince (500 * ms) s.now = true ∧ s.hma.handover = none := by
  simp only [State.returnDue, Bool.and_eq_true, decide_eq_true_eq, Option.isNone_iff_eq_none, and_assoc]

theorem runs_autoReturnStart_due {s : State} {p : Fin 2} (h : s.returnDue = true) (hp : s.activePilot = some p) :
    Runs .autoReturnStart s (fun t => t.hma = { s.hma with handover := some { cause := 7, old := p } } ∧ SameRegs [] s t ∧
      SameMem s t) := by
  have he : exec .autoReturnStart s = .next { s with hma := { s.hma with handover := some { cause := 7, old := p } } } := by
    show execAutoReturnStart s = _
    rw [execAutoReturnStart_eq, if_pos h, State.handoverStart_of_active hp]
  exact ⟨_, he, rfl, .of_regs [] rfl rfl, .of_mem rfl⟩

theorem runs_autoReturnStart_idle {s : State} (h : ¬s.returnDue = true) : Runs .autoReturnStart s (fun t => t = s) :=
  ⟨s, (execAutoReturnStart_eq s).trans (congrArg Host.Outcome.next (if_neg h)), rfl⟩

/-- Settles O58: the three cases of a switch key, and the return's condition met or missed in one of its parts. -/
theorem hostSwitchStartsAHandoverOrIsRefused : Obligations.HostSwitchStartsAHandoverOrIsRefused := by
  unfold Obligations.HostSwitchStartsAHandoverOrIsRefused
  refine ⟨?starts, ?refused, ?other, ?returns, ?waits, ?off⟩
  case starts =>
    intro s src p ho hok hp hs hn
    exact runs_pltSwitch_starts ho hok hp hs hn
  case refused =>
    intro s src ho h
    exact runs_pltSwitch_refused ho h
  case other =>
    intro s src key ho h
    exact runs_pltSwitch_other ho h
  case returns =>
    intro s hok hg hp hs hn hb hw
    exact runs_autoReturnStart_due (s.returnDue_iff.mpr ⟨hb, hok, hg, hs, (waited_eq_any _ _ _).trans hw, hn⟩) hp
  case waits =>
    intro s h
    refine runs_autoReturnStart_idle fun hd => ?_
    obtain ⟨-, hok, hg, hs, hw, hn⟩ := s.returnDue_iff.mp hd
    rw [← waited_eq_false_iff] at h
    simp [hok, hg, hs, hw, hn] at h
  case off =>
    intro s h
    refine runs_autoReturnStart_idle fun hd => ?_
    obtain ⟨hb, -⟩ := s.returnDue_iff.mp hd
    simp [h] at hb

end Sys2Proof.Machine
end
